-- ==== Sys2Proof/Word.lean ====
section
/-! DEFINITION. The words of the machine (00_scope.md, "Numbers, units and bits": the data space is 32-bit and little-endian). -/
namespace Sys2Proof

/-- A 32-bit data-space word, register word or general register. -/
abbrev Word := BitVec 32

/-- A byte of a memory of the device. -/
abbrev Byte := BitVec 8

/-- A 72-bit accumulator: 64 value bits and 8 guard bits, two's complement (R94). -/
abbrev Acc := BitVec 72

/-- A 14-bit word of program memory (R84). -/
abbrev Syl := BitVec 14

/-- A 64-bit signed timeline position (R171). -/
abbrev Pos := BitVec 64

end Sys2Proof
end

