-- ==== Sys2Proof/Operand.lean ====
section
/-! DEFINITION. The operand types of the commands: numbers of units in range by type, and the records a frame or an answer carries. -/
namespace Sys2Proof

/-- A task context, 0 to 511 (R150). -/
abbrev CtxId := Fin 512
/-- A general register, g0 to g15. -/
abbrev GReg := Fin 16
/-- The guard field of a syllable (R126). -/
abbrev Guard := Fin 4
/-- A port register, q0 to q3. -/
abbrev QReg := Fin 4

/-- The slot of a packet a syllable stands in (R84). -/
inductive Slot where
  | A | B
deriving DecidableEq, Repr

/-- The link a ZLP request arrives on (R233). -/
inductive ZLink where
  | bb0 | bb1 | spi
deriving DecidableEq, Repr

/-- The backbone port of a link. -/
def ZLink.port : ZLink → Nat
  | .bb1 => 1
  | _ => 0

/-- An address of the internet protocol. -/
inductive IpAddr where
  | v4 (a : BitVec 32)
  | v6 (a : BitVec 128)
deriving DecidableEq, Repr

/-- Where a ZLP request comes from, and where its answer goes (R233, R373): the MAC address and the VID of its frame, its IP address and its
UDP port; the SPI host port uses none of them. -/
structure ZSrc where
  mac : BitVec 48
  vid : Option (BitVec 12)
  ip : IpAddr
  port : BitVec 16
deriving DecidableEq, Repr

/-- What the ledger reads of a ZLP frame before its body (R235, R236): the arrival link, the source, bytes 0 to 15 of the frame, the UDP
length (L of R388 on the SPI host port), and whether the GCM tag holds under the session's key for the nonce in bytes 4 to 15 and the
additional data in bytes 0 to 15 (log entry 7). -/
structure ZHdr where
  link : ZLink
  src : ZSrc
  head : BitVec 128
  udpLen : Nat
  tagOk : Bool
deriving DecidableEq, Repr

/-- Byte 0: the version. -/
def ZHdr.ver (h : ZHdr) : Byte := h.head.extractLsb' 120 8
/-- Byte 1: the message type. -/
def ZHdr.type (h : ZHdr) : Byte := h.head.extractLsb' 112 8
/-- Bytes 2 and 3: the body length L. -/
def ZHdr.len (h : ZHdr) : Nat := (h.head.extractLsb' 96 16).toNat
/-- Bytes 4 to 7: the session identifier. -/
def ZHdr.sid (h : ZHdr) : Word := h.head.extractLsb' 64 32
/-- Bytes 8 to 15: the counter. -/
def ZHdr.ctr (h : ZHdr) : BitVec 64 := h.head.extractLsb' 0 64
/-- Whether L equals the UDP length less 32 (R236). -/
def ZHdr.lenOk (h : ZHdr) : Bool := decide (h.len + 32 = h.udpLen)

/-- One entry of a SUBMIT body (R237). -/
structure SubEntry where
  track : BitVec 16
  seq : Word
  pay : List Byte
deriving DecidableEq, Repr

/-- One entry of a SUBMIT_ANSWER (R237): track, verdict, state, sequence, detail. -/
structure SubVerdict where
  track : Nat
  verdict : Nat
  state : Nat
  seq : Word
  detail : Word
deriving DecidableEq, Repr

/-- Measured means of a channel over the 10 ms before a run of the budget manager: the mean of I² in mA² and the mean current magnitude
in mA (R274). -/
structure ChanMeas where
  i2 : Nat
  i : Nat
deriving DecidableEq, Repr

/-- A CAN frame as it stands on the bus (R323, R329): a standard identifier in bits 28:18 of `id`. -/
structure CanFrame where
  esi : Bool
  rtr : Bool
  xtd : Bool
  id : BitVec 29
  dlc : BitVec 4
  fdf : Bool
  brs : Bool
  data : List Byte
deriving DecidableEq, Repr

/-- A word of frame memory: frame port, buffer, word (R288). -/
structure FrameWord where
  port : Fin 2
  buf : Fin 2
  word : Fin 16384
deriving DecidableEq, Repr

/-- Activity on a sleeping bus: the lengths of its first three phases in ns (R363). -/
structure BusActivity where
  d1 : Nat
  d2 : Nat
  d3 : Nat
deriving DecidableEq, Repr

/-- What a backbone frame carries, as far as R372 asks: an 802.1AS message; an ARP request and
an IPv6 neighbour solicitation, each with the address it asks for and its sender's; a UDP datagram
with its destination address, port, and whether it meets the form of row 7; anything else. -/
inductive EthKind where
  | ptp
  | arp (target sender : Word)
  | ns (target sender : BitVec 128)
  | udp4 (dst : Word) (port : Nat) (wellFormed : Bool)
  | udp6 (dst : BitVec 128) (port : Nat) (wellFormed : Bool)
  | other
deriving DecidableEq, Repr

/-- A frame received on a backbone port: FCS validity, its length in bytes with the FCS, its addresses, its VLAN tag's VID, its content, and
whether a word of it in the frame buffer is uncorrectable (R392). -/
structure EthFrame where
  fcsOk : Bool
  len : Nat
  dst : BitVec 48
  src : BitVec 48
  vid : Option (BitVec 12)
  kind : EthKind
  bad : Bool
deriving DecidableEq, Repr

/-- One of the meter's 1,024 updates a cycle (R420): the count divided by 64, the meter time in ms, and the channels whose samples lie beyond the
linear range, 0 to 3 for MV0 to MV3 and 4 to 7 for MI0 to MI3 (R414). -/
structure MeterTick where
  count : Fin 1024
  time : BitVec 64
  overs : BitVec 8
deriving DecidableEq, Repr

/-- The voltage of a line of the meter is lost or back (R421, R425): the meter time in ms, and the line, 0 for L1, on MV0, to 2 for L3. -/
structure MeterLine where
  time : BitVec 64
  line : Fin 3
deriving DecidableEq, Repr

/-- What a segment header says once the update engine has decrypted it (R511): kind, tenant, version, load address in words, code blocks, settings
schema, segments in the package, package identifier, and the context table as pairs of a context and an entry offset in words. -/
structure Seg where
  kind : Nat
  tenant : Nat
  version : Nat
  load : Nat
  blocks : Nat
  schema : Nat
  count : Nat
  pkg : Nat
  table : List (Nat × Nat)
deriving DecidableEq, Repr

/-- A failing bit of a memory that a test has found (R506): memory, instance, word address, bit, and its row and column in the array. -/
structure MemFail where
  mem : Nat
  inst : Nat
  addr : Nat
  bit : Nat
  row : Nat
  col : Nat
deriving DecidableEq, Repr

/-- How a LIN response ends (R382, R383): complete, bit error on own transmission, wrong checksum, framing error. -/
inductive LinEnd where
  | complete | bitError | checksum | framing
deriving DecidableEq, Repr

end Sys2Proof
end

