-- ==== Sys2Proof/Syntax.lean ====
section
/-! DEFINITION. The commands of the block: one constructor per row of the opcode table, with the row's operands. -/
namespace Sys2Proof

/-- The commands the device takes and the events that reach it, one constructor per row of the opcode table. -/
inductive Instr where
  /-- DIE_LINK_FRAME_RECEIVE (R16): A die-link frame arrives on one link; the receiver acts on the first copy with a valid CRC and the expected frame number and discards the other. -/
  | dieLinkFrameReceive (k : Fin 4) (up : Bool) (num : Nat) (crcOk : Bool) (ack : Option Nat)
  /-- FRAME_RESEND (R17): A frame that has had no acknowledgement on either link for 4 µs is sent again. -/
  | frameResend (d : Fin 2) (up : Bool) (num : Nat)
  /-- DIE_LINK_CRC_FAULT (R18): A link delivers its 16th consecutive frame with a failed CRC and raises its die-link source. -/
  | dieLinkCrcFault (k : Fin 4) (up : Bool)
  /-- RAIL_AGREEMENT (R18): The dual-rail error pair of a die link shows both rails at the same level and raises its source with fixed class 3. -/
  | railAgreement (k : Fin 4)
  /-- IDLE_FRAME_SEND (R20): An end with nothing to send puts an idle frame on each link in traffic so that no 10 µs gap passes without a frame. -/
  | idleFrameSend (d : Fin 2) (up : Bool)
  /-- CONTROL_DIE_SILENT (R20): A power die that has received no valid frame for 100 µs, or no Park beat for 350 ms, declares the control die silent, goes Held and starts its hold window. -/
  | controlDieSilent (d : Fin 2)
  /-- LINK_SIDING (R28): SYS_LINK_CMD SIDING puts a die link into siding after its current frame, unless it is the last link of its die in traffic. -/
  | linkSiding (w : CtxId) (k : Fin 4)
  /-- LINK_REJOIN (R28): SYS_LINK_CMD REJOIN starts retraining of a die link in siding with back-to-back training frames. -/
  | linkRejoin (w : CtxId) (k : Fin 4)
  /-- LINK_RETRAIN_PASS (R28): A retraining link has passed 64 consecutive good frames in each direction and returns to traffic. -/
  | linkRetrainPass (k : Fin 4)
  /-- LINK_RETRAIN_FAIL (R28): A retraining has not succeeded within 50 µs; the link stays in siding and the command ends with code 2. -/
  | linkRetrainFail (k : Fin 4)
  /-- PAIR_COMPARE_MISMATCH (R29): A checker core disagrees with its main core; the pair enters siding and its contexts migrate, or class 3 is raised if it was the last pair. -/
  | pairCompareMismatch (p : Fin 8)
  /-- DISPATCHER_MISMATCH (R30): The two copies of the dispatcher disagree and raise a dispatcher source of fixed class 3. -/
  | dispatcherMismatch
  /-- DOMAIN_ON (R54): A power die's domain comes on; its registers take reset values, every channel is OFF and the die is Expired with fresh set. -/
  | domainOn (d : Fin 2)
  /-- DOMAIN_OFF (R55): A power die's domain goes off; it holds every output switch open with a passive gate clamp. -/
  | domainOff (d : Fin 2)
  /-- IO_SUPPLY_FAULT (R56): An I/O supply leaves its range while CTL is on; its lands go to high impedance and the I/O supply source is raised. -/
  | ioSupplyFault (n : Fin 2)
  /-- OVERVOLTAGE_SHUTDOWN (R68): VBATx3 stays above the over-voltage threshold for 10 µs; the die switches every output off and opens every sink. -/
  | overvoltageShutdown (d : Fin 2)
  /-- OVERVOLTAGE_RELEASE (R68): VBATx3 stays below the release level for 1 ms; outputs return to their commanded or limp states in ascending order, one every 10 µs. -/
  | overvoltageRelease (d : Fin 2)
  /-- RESET_N_ASSERT (R82): A filtered low level on RESET_N resets the control die. -/
  | resetNAssert
  /-- PORT_READ_ARRIVAL (R106): The data of a port read, or a timeline or ledger status, arrives and is written to its qn with the ready flag set, unless a newer read superseded it. -/
  | portReadArrival (c : CtxId) (q : QReg)
  /-- UNDEFINED_SYLLABLE (R128): An undefined syllable stops its context with cause 0x01 whatever its guard. -/
  | undefinedSyllable (c : CtxId) (sl : Slot) (w : Syl)
  /-- WIDEN (R130): A WIDEN in slot A gives the slot-B syllable a guard from p0 to p7, optionally negated, and 8 immediate bits. -/
  | widen (c : CtxId) (neg : Bool) (ps : Fin 8) (imm : Byte)
  /-- MOV (R131): rd takes the value of g(rs); MOV g0, g0 is the no-operation. -/
  | mov (c : CtxId) (sl : Slot) (gd : Guard) (rd rs : GReg)
  /-- MOVI (R130): Under a WIDEN, rd takes a sign-extended 12-bit immediate. -/
  | movi (c : CtxId) (rd imm : GReg)
  /-- ADD (R131): rd takes rd + g(rs) modulo 2^32. -/
  | add (c : CtxId) (sl : Slot) (gd : Guard) (rd rs : GReg)
  /-- SUB (R131): rd takes rd − g(rs) modulo 2^32. -/
  | sub (c : CtxId) (sl : Slot) (gd : Guard) (rd rs : GReg)
  /-- AND (R132): rd takes rd AND g(rs). -/
  | and (c : CtxId) (sl : Slot) (gd : Guard) (rd rs : GReg)
  /-- OR (R132): rd takes rd OR g(rs). -/
  | or (c : CtxId) (rd rs : GReg)
  /-- XOR (R132): rd takes rd XOR g(rs). -/
  | xor (c : CtxId) (rd rs : GReg)
  /-- ANDN (R132): rd takes rd AND NOT g(rs). -/
  | andn (c : CtxId) (rd rs : GReg)
  /-- SHL (R132): rd is shifted left by bits 4:0 of g(rs), zeros in. -/
  | shl (c : CtxId) (rd rs : GReg)
  /-- SHR (R132): rd is shifted right by bits 4:0 of g(rs), zeros in. -/
  | shr (c : CtxId) (rd rs : GReg)
  /-- SAR (R132): rd is shifted right by bits 4:0 of g(rs), sign bits in. -/
  | sar (c : CtxId) (rd rs : GReg)
  /-- MIN (R132): rd takes the signed minimum of rd and g(rs). -/
  | min (c : CtxId) (rd rs : GReg)
  /-- MAX (R132): rd takes the signed maximum of rd and g(rs). -/
  | max (c : CtxId) (rd rs : GReg)
  /-- MINU (R132): rd takes the unsigned minimum of rd and g(rs). -/
  | minu (c : CtxId) (rd rs : GReg)
  /-- MAXU (R132): rd takes the unsigned maximum of rd and g(rs). -/
  | maxu (c : CtxId) (rd rs : GReg)
  /-- SHLI (R132): rd is shifted left by an immediate amount. -/
  | shli (c : CtxId) (rd imm : GReg)
  /-- SHRI (R132): rd is shifted right by an immediate amount, zeros in. -/
  | shri (c : CtxId) (rd imm : GReg)
  /-- SARI (R132): rd is shifted right by an immediate amount, sign bits in. -/
  | sari (c : CtxId) (rd imm : GReg)
  /-- MOVR (R132): rd takes g(rs) as a register move under a WIDEN guard. -/
  | movr (c : CtxId) (rd rs : GReg)
  /-- ADDI (R131): rd takes rd plus a sign-extended 4-bit or 12-bit immediate. -/
  | addi (c : CtxId) (sl : Slot) (gd : Guard) (rd imm : GReg)
  /-- INS (R131): rd is shifted left by 4 or 12 and the immediate is inserted. -/
  | ins (c : CtxId) (sl : Slot) (gd : Guard) (rd imm : GReg)
  /-- NOT (R133): r takes NOT r. -/
  | not (c : CtxId) (sl : Slot) (gd : Guard) (r : GReg)
  /-- NEG (R133): r takes 0 − r. -/
  | neg (c : CtxId) (sl : Slot) (gd : Guard) (r : GReg)
  /-- ABS (R133): r takes its absolute value. -/
  | abs (c : CtxId) (sl : Slot) (gd : Guard) (r : GReg)
  /-- CLZ (R133): r takes its number of leading zero bits. -/
  | clz (c : CtxId) (sl : Slot) (gd : Guard) (r : GReg)
  /-- SEXT8 (R133): r takes its bits 7:0 sign-extended. -/
  | sext8 (c : CtxId) (sl : Slot) (gd : Guard) (r : GReg)
  /-- SEXT16 (R133): r takes its bits 15:0 sign-extended. -/
  | sext16 (c : CtxId) (sl : Slot) (gd : Guard) (r : GReg)
  /-- ZEXT8 (R133): r takes its bits 7:0 zero-extended. -/
  | zext8 (c : CtxId) (sl : Slot) (gd : Guard) (r : GReg)
  /-- ZEXT16 (R133): r takes its bits 15:0 zero-extended. -/
  | zext16 (c : CtxId) (sl : Slot) (gd : Guard) (r : GReg)
  /-- RDCSW (R133): r takes CSW with indelay and inwait reading 0. -/
  | rdcsw (c : CtxId) (sl : Slot) (gd : Guard) (r : GReg)
  /-- WRCSW (R133): CSW.accsat is written and ov0 or ov1 are cleared by 1 bits, subject to R114. -/
  | wrcsw (c : CtxId) (sl : Slot) (gd : Guard) (r : GReg)
  /-- RDPRED (R133): r takes p7 to p1 in bits 7:1 with 1 in bit 0. -/
  | rdpred (c : CtxId) (sl : Slot) (gd : Guard) (r : GReg)
  /-- WRPRED (R133): p1 to p7 take bits 1 to 7 of r at distance 2. -/
  | wrpred (c : CtxId) (sl : Slot) (gd : Guard) (r : GReg)
  /-- RDQ (R133): r takes the value of qn visible at issue without changing its ready flag. -/
  | rdq (c : CtxId) (sl : Slot) (gd : Guard) (q : QReg) (r : GReg)
  /-- LD_W (R140): A word is loaded from data SRAM into rd at distance 3. -/
  | ldW (c : CtxId) (gd : Guard) (rd ra : GReg)
  /-- LD_HU (R140): A halfword is loaded zero-extended into rd. -/
  | ldHu (c : CtxId) (rd ra : GReg)
  /-- LD_HS (R140): A halfword is loaded sign-extended into rd. -/
  | ldHs (c : CtxId) (rd ra : GReg)
  /-- LD_BU (R140): A byte is loaded zero-extended into rd. -/
  | ldBu (c : CtxId) (rd ra : GReg)
  /-- LD_BS (R140): A byte is loaded sign-extended into rd. -/
  | ldBs (c : CtxId) (rd ra : GReg)
  /-- ST_W (R140): A word of rd is stored to data SRAM with new check bits. -/
  | stW (c : CtxId) (rd ra : GReg)
  /-- ST_H (R140): Bits 15:0 of rd are stored and merged with the stored word. -/
  | stH (c : CtxId) (rd ra : GReg)
  /-- ST_B (R140): Bits 7:0 of rd are stored and merged with the stored word. -/
  | stB (c : CtxId) (rd ra : GReg)
  /-- MAC (R142): The accumulator takes acc + g(ra) × g(rb), signed, with guard overflow under R111. -/
  | mac (c : CtxId) (gd : Guard) (ra rb : GReg)
  /-- MSU (R142): The accumulator takes acc − g(ra) × g(rb), signed. -/
  | msu (c : CtxId) (ra rb : GReg)
  /-- MACU (R142): The accumulator takes acc + g(ra) × g(rb), unsigned. -/
  | macu (c : CtxId) (ra rb : GReg)
  /-- MUL (R142): The accumulator takes g(ra) × g(rb), signed. -/
  | mul (c : CtxId) (ra rb : GReg)
  /-- MULL (R142): g(ra) takes bits 31:0 of g(ra) × g(rb). -/
  | mull (c : CtxId) (ra rb : GReg)
  /-- EXT (R113): g(ra) takes a 32-bit field of the accumulator at shift s, saturated or wrapped per accsat. -/
  | ext (c : CtxId) (ra rb : GReg)
  /-- LDA (R142): The accumulator takes sign-extended g(ra) × 2^s. -/
  | lda (c : CtxId) (ra rb : GReg)
  /-- ASR (R142): The accumulator is shifted right arithmetically by s. -/
  | asr (c : CtxId) (ra rb : GReg)
  /-- PRD (R106): A port read of a data-space word into qn is issued and clears its ready flag. -/
  | prd (c : CtxId) (gd : Guard) (q : QReg) (ra : GReg)
  /-- PWR (R145): A posted port write of g(rd) to a data-space word, carrying the bound ticket to a stage register. -/
  | pwr (c : CtxId) (rd ra : GReg)
  /-- TARM (R181): An item is handed to TLN for arming and answers with a handle or a refusal code. -/
  | tarm (c : CtxId) (q : QReg) (d : GReg)
  /-- TCANCEL (R185): The item named by a handle is cancelled, or staged for cancellation, with the result returned to qn. -/
  | tcancel (c : CtxId) (q : QReg) (d : GReg)
  /-- TREAD (R173): An axis is read, returning its quality and low position bits to qn. -/
  | tread (c : CtxId) (q : QReg) (axis : Fin 8)
  /-- LBIND (R148): The ticket named by g(d) is bound to the context's port writes, or the binding ends. -/
  | lbind (c : CtxId) (d : GReg)
  /-- LDONE (R222): The ticket named by g(d) is completed as Done with a result code, and a status returns to qn. -/
  | ldone (c : CtxId) (d a : GReg)
  /-- BR (R137): A conditional relative branch with one delay packet. -/
  | br (c : CtxId) (gd : Guard) (n : Bool) (off : BitVec 7)
  /-- JR (R138): A branch to the address in g(rs) with one delay packet. -/
  | jr (c : CtxId) (rs : GReg)
  /-- CALLR (R138): A branch to g(rs) that writes the link value to g15. -/
  | callr (c : CtxId) (rs : GReg)
  /-- WAIT (R139): Ends the activation after its delay packet, with the resume address at the WAIT + 4. -/
  | wait (c : CtxId)
  /-- TRAP (R138): Stops the context with cause 0x04 and its trap code. -/
  | trap (c : CtxId) (code : Fin 64)
  /-- CMP (R134): p1, p2 and p3 take equal, signed less and unsigned less of g(ra) and g(rb). -/
  | cmp (c : CtxId) (gd : Guard) (ra rb : GReg)
  /-- RDY (R135): A predicate takes the ready flag of a port register. -/
  | rdy (c : CtxId) (gd : Guard) (pd : Fin 3) (q : QReg)
  /-- PNOT (R135): A predicate p1 to p3 is inverted. -/
  | pnot (c : CtxId) (gd : Guard) (pd : Fin 3)
  /-- PLE (R135): p1 takes p1 OR p2. -/
  | ple (c : CtxId) (gd : Guard)
  /-- ACTIVATION_END (R152): After a WAIT's delay packet the event at the input head is retired and the context continues, goes Ready or goes Waiting, committing its frame. -/
  | activationEnd (c : CtxId)
  /-- EVENT_ARRIVAL (R162): An event reaches a context input, queues or coalesces, may evict a resident, or is dropped and counted. -/
  | eventArrival (src : Fin 1024) (pay : Fin 16384) (ctx : CtxId) (inp : Fin 4)
  /-- SWAP_COMPLETE (R157): A 12-cycle swap ends and the incoming context issues its first packet, starting an activation if one is pending. -/
  | swapComplete (c : CtxId) (cycles : Nat)
  /-- CTX_CREATE (R166): TSK_CMD CREATE makes an Empty context Waiting in its creation state. -/
  | ctxCreate (w : CtxId) (n : Fin 512)
  /-- CTX_STOP (R166): TSK_CMD STOP stops a context with cause 0x05. -/
  | ctxStop (w : CtxId) (n : Fin 512)
  /-- CTX_RESUME (R166): TSK_CMD RESUME makes a Stopped context Ready or Waiting. -/
  | ctxResume (w : CtxId) (n : Fin 512)
  /-- CTX_RESTART (R166): TSK_CMD RESTART restarts a Stopped or Siding context at its entry and removes its items. -/
  | ctxRestart (w : CtxId) (n : Fin 512)
  /-- CTX_SIDING (R166): TSK_CMD SIDING takes a context to Siding with cause 0x06. -/
  | ctxSiding (w : CtxId) (n : Fin 512)
  /-- CTX_RELEASE (R166): TSK_CMD RELEASE makes a Stopped or Siding context Empty unless routed or holding events. -/
  | ctxRelease (w : CtxId) (n : Fin 512)
  /-- CTX_DRAIN (R166): TSK_CMD DRAIN empties a context's inputs and hands discarded ticket handles to the ledger. -/
  | ctxDrain (w : CtxId) (n : Fin 512)
  /-- TENANT_SIDING (R166): TSK_CMD TENANT_SIDING takes every non-Empty context of a tenant to Siding. -/
  | tenantSiding (w : CtxId) (t : Fin 512)
  /-- TENANT_RESTART (R166): TSK_CMD TENANT_RESTART restarts every Siding context of a tenant. -/
  | tenantRestart (w : CtxId) (t : Fin 512)
  /-- PAIR_SIDING (R167): TSK_CMD PAIR_SIDING takes a core pair out of traffic and migrates its contexts. -/
  | pairSiding (w : CtxId) (p : Fin 512)
  /-- PAIR_REJOIN (R169): TSK_CMD PAIR_REJOIN returns a pair with a passing self-test to traffic. -/
  | pairRejoin (w : CtxId) (p : Fin 512)
  /-- PAIR_TEST (R169): TSK_CMD PAIR_TEST starts a pair self-test again. -/
  | pairTest (w : CtxId) (p : Fin 512)
  /-- PAIR_SELF_TEST_END (R169): A pair self-test in siding ends and its result is shown in TSK_PAIR_STATE. -/
  | pairSelfTestEnd (p : Fin 8) (pass : Bool)
  /-- TSK_CMD_COMPLETE (R544): A TSK command ends and TSK_CMD_RESULT busy, seq and code are updated. -/
  | tskCmdComplete
  /-- TSK_POST (R162): The stationmaster posts an event with source 1,023 to a context input. -/
  | tskPost (w : CtxId) (inp : Fin 4) (ctx : CtxId) (pay : Fin 16384)
  /-- VIOLATION_CLEAR (R14): A write of clr to TSK_CTX_VIOL clears a context's violation count, kind and address. -/
  | violationClear (w : CtxId) (n : CtxId)
  /-- REGISTER_WRITE (R6): A write to a register with no row of its own sets its fields under their type codes. -/
  | registerWrite (c : CtxId) (addr v : Word) (narrow : Bool)
  /-- AXIS_SOURCE_UPDATE (R175): A position source delivers a count or reading and the axis moves, counting step errors and reversals. -/
  | axisSourceUpdate (n : Fin 8)
  /-- AXIS_SOURCE_LOST (R176): An axis loses its source, becomes Unset with its position frozen and raises the axis-source source. -/
  | axisSourceLost (n : Fin 8)
  /-- AXIS_SOURCE_RETURN (R176): A lost source returns and the axis is Locked again, counting from the frozen position. -/
  | axisSourceReturn (n : Fin 8)
  /-- AXIS_LOAD (R177): TLN_AXn_SETH with go = 1 loads a position into an axis without firing items. -/
  | axisLoad (w : CtxId) (n : Fin 8) (hi : BitVec 30)
  /-- ITEM_FIRE (R187): An item whose position is reached in its direction fires and its action is sent to its target. -/
  | itemFire
  /-- ROSTER_PERIOD_START (R191): A roster period starts, staged member changes take effect and its instances become due. -/
  | rosterPeriodStart (r : Fin 64)
  /-- ROSTER_ENABLE (R191): Setting TLN_ROSr_CFG.en starts the roster at its first period not reached. -/
  | rosterEnable (w : CtxId) (r : Fin 64) (axis : Fin 8)
  /-- ROSTER_DISABLE (R195): Clearing TLN_ROSr_CFG.en stops new periods at once. -/
  | rosterDisable (w : CtxId) (r : Fin 64)
  /-- SYNC_RECEIVE (R198): An 802.1AS Sync is received, the A0 offset is measured, and A0 is set, slewed, or locked. -/
  | syncReceive (port : Fin 2) (slave : Bool) (sec : BitVec 48) (ns : BitVec 32) (rate : Int)
  /-- PDELAY_EXCHANGE (R197): A peer-delay measurement is made on a backbone port. -/
  | pdelayExchange (port : Fin 2) (ns : Nat)
  /-- ANNOUNCE_RECEIVE (R486): An 802.1AS Announce is received and EVR_UTCOFF takes its currentUtcOffset. -/
  | announceReceive (port : Fin 2) (utc : BitVec 16)
  /-- A0_HOLDOVER (R198): No Sync on any port for 3 intervals; A0 enters Holdover and the holdover timer starts. -/
  | a0Holdover
  /-- A0_FREE_RUN (R198): The holdover timer expires and A0 enters Free-run. -/
  | a0FreeRun
  /-- A0_STEP (R201): TLN_A0_CMD step requests a forward step of A0, or is refused. -/
  | a0Step (w : CtxId)
  /-- A0_STEP_CANCEL (R201): TLN_A0_CMD cancel withdraws a pending step. -/
  | a0StepCancel (w : CtxId)
  /-- A0_STEP_APPLY (R201): At the next pulse boundary A0 jumps forward, firing passed items late and skipping passed roster periods. -/
  | a0StepApply
  /-- TPULSE_RISE (R202): A0 reaches a multiple of the TPULSE period and TPULSE rises. -/
  | tpulseRise
  /-- TPULSE_FALL (R202): The TPULSE width expires and TPULSE falls. -/
  | tpulseFall
  /-- ITEM_WAKE_LEAD (R206): A wake item's position less the wake lead is reached in Park and a wake is requested. -/
  | itemWakeLead (k : Fin 4096)
  /-- ITEM_STORE_ERROR (R208): An uncorrectable item-store error removes the item without firing and raises its source. -/
  | itemStoreError (k : Fin 4096)
  /-- SUBMIT (R215): A ZLP SUBMIT is judged entry by entry and each entry is queued, answered as duplicate or released, or refused. -/
  | submit (h : ZHdr) (n zeros entries : List Byte)
  /-- POLL (R238): A ZLP POLL applies its acknowledgement and answers with the track state and held tickets. -/
  | poll (h : ZHdr) (track flags maxN ack first rest : List Byte)
  /-- QUERY (R239): A ZLP QUERY answers with identity counters, recorder records or signal-box records. -/
  | query (h : ZHdr) (cls cursor maxN rest : List Byte)
  /-- ZLP_UNKNOWN_TYPE (R236): An authenticated ZLP frame of unknown type is answered with ERROR 0x01. -/
  | zlpUnknownType (h : ZHdr)
  /-- JOURNAL_SLOT (R219): A journal write slot opens every 2 µs and a session, admission or completion record write starts. -/
  | journalSlot
  /-- ADMISSION_RECORD_WRITTEN (R218): An admission record completes; the ticket is Accepted and the Accepted answer is sent. -/
  | admissionRecordWritten
  /-- COMPLETION_RECORD_WRITTEN (R224): A completion record completes and POLL may report the ticket as Done or Abandoned. -/
  | completionRecordWritten
  /-- SESSION_RECORD_WRITTEN (R236): A session record with the send block and receive floor completes. -/
  | sessionRecordWritten
  /-- TICKET_PRESENT (R220): The ledger presents the next ticket of a track to its routed input and the ticket becomes Dispatched. -/
  | ticketPresent (n : Fin 512)
  /-- BIND (R229): LDG_CMD BIND binds a stage to a track with the watermark one before its oldest unfinished ticket. -/
  | bind (w : CtxId) (track : Fin 512) (stage : Fin 128)
  /-- UNBIND (R229): LDG_CMD UNBIND removes a stage's binding. -/
  | unbind (w : CtxId) (stage : Fin 128)
  /-- REPLAY (R246): LDG_CMD REPLAY starts presentation of recovered Accepted tickets. -/
  | replay (w : CtxId)
  /-- UNFENCE (R246): LDG_CMD UNFENCE continues recovery stopped by a bad journal record. -/
  | unfence (w : CtxId)
  /-- ABANDON (R225): LDG_CMD ABANDON makes every Accepted ticket of a track Abandoned with reason 0x03. -/
  | abandon (w : CtxId) (track : Fin 512)
  /-- LDG_CMD_COMPLETE (R545): A ledger command ends and LDG_CMD_RESULT is updated. -/
  | ldgCmdComplete
  /-- SCAN_HEAD_FOUND (R236): The journal scan has found each session's newest record and the write head, and start-up session records are written. -/
  | scanHeadFound
  /-- JOURNAL_SCAN_END (R246): The journal scan ends and the ledger rebuilds tracks and abandons or readies unfinished tickets. -/
  | journalScanEnd
  /-- CH_OFF (R252): Action OFF opens a channel's switch or both half-bridge switches. -/
  | chOff (w : CtxId) (c : Fin 104) (val : BitVec 16)
  /-- CH_ON (R252): Action ON closes a channel's switch or a half-bridge's high switch. -/
  | chOn (w : CtxId) (c : Fin 104) (val : BitVec 16)
  /-- CH_DUTY (R252): Action DUTY sets PWM with duty D from the next period start. -/
  | chDuty (w : CtxId) (c : Fin 104) (val : BitVec 16)
  /-- CH_DUTYC (R258): Action DUTYC sets PWM with supply-compensated duty. -/
  | chDutyc (w : CtxId) (c : Fin 104) (val : BitVec 16)
  /-- CH_LOW (R252): Action LOW closes a half-bridge's low switch. -/
  | chLow (w : CtxId) (c : Fin 104) (val : BitVec 16)
  /-- CH_REJOIN (R272): A REJOIN armed by context 0 rejoins a channel from siding if its conditions hold. -/
  | chRejoin (c : Fin 104) (val : BitVec 16) (tkt : Option (Fin 512 × Word))
  /-- PWM_PERIOD_START (R258): A channel's PWM period starts and new duty, compensation, period, phase and cap take effect. -/
  | pwmPeriodStart (c : Fin 104) (uv span : Nat)
  /-- SAMPLE_TRIGGER (R259): A SAMPLE action copies a channel's instantaneous current into PSW_CHc_SENSE.snap. -/
  | sampleTrigger (c : Fin 104) (code : BitVec 16)
  /-- CURRENT_LIMIT (R260): A closed switch enters current limit. -/
  | currentLimit (c : Fin 104) (load : Nat)
  /-- JUNCTION_TRIP (R261): A channel's junction reaches TSD with a switch closed; it opens and restarts later or latches off. -/
  | junctionTrip (c : Fin 104) (onTime : Bool)
  /-- THERMAL_RESTART (R261): The junction falls below TSD less hysteresis and the channel closes again or applies its recorded command. -/
  | thermalRestart (c : Fin 104)
  /-- RESTART_COUNT_RESET (R261): A channel commanded on for 1 s without break or trip has its restart count set to 0. -/
  | restartCountReset (c : Fin 104)
  /-- WIRE_MODEL_UPDATE (R262): The wire model updates X each 1 ms. -/
  | wireModelUpdate (c : Fin 104) (avg : BitVec 16) (tj volts : BitVec 10)
  /-- FEED_GROUP_LOST (R264): A feed group below 3.5 V for 10 µs is lost and its switches are held open. -/
  | feedGroupLost (d g : Fin 2)
  /-- FEED_GROUP_RETURN (R264): A feed group above 4.0 V for 1 ms returns and its channels resume in order. -/
  | feedGroupReturn (d g : Fin 2)
  /-- OPEN_LOAD_TEST_START (R265): A write of go, or the periodic timer, starts an open-load and short-to-battery test. -/
  | openLoadTestStart (c : Fin 104) (w : Option CtxId)
  /-- OPEN_LOAD_SETTLE (R265): A settle time ts expires and the output is compared with VOL. -/
  | openLoadSettle (c : Fin 104) (above : Bool)
  /-- RECLAIM (R267): PSW_DIEd_CMD RECLAIM returns a Held or Expired die to Served. -/
  | reclaim (w : CtxId) (d : Fin 2)
  /-- HOLD_EXPIRE (R267): The hold window expires and Hold-class channels take their limp state. -/
  | holdExpire (d : Fin 2)
  /-- CH_SIDING (R271): PSW_DIEd_CMD SIDING puts a channel into siding. -/
  | chSiding (w : CtxId) (d : Fin 2) (ch : BitVec 7)
  /-- BUDGET_RUN (R274): The thermal budget manager runs every 10 ms and reduces or raises channel caps. -/
  | budgetRun (fixed : Nat) (ms : List ChanMeas)
  /-- LED_PWM_PERIOD (R280): A sink group's PWM period starts and new current, duty and derating take effect. -/
  | ledPwmPeriod (g : Fin 4)
  /-- LED_DERATE_UPDATE (R281): Each power die reads its sink-field temperature every 1 ms and computes the derating factor. -/
  | ledDerateUpdate (d : Fin 2) (tj : BitVec 10)
  /-- SINK_STRING_CHECK (R282): A sink judges its string for open or short over a 1 ms interval. -/
  | sinkStringCheck (k : Fin 48) (low high : Bool)
  /-- SINK_TSD (R282): A sink reaches TSD and switches off, restarting when cooled. -/
  | sinkTsd (k : Fin 48)
  /-- MATRIX_ENABLE (R292): ENABLE starts scanning of a matrix port. -/
  | matrixEnable (w : CtxId) (m : Fin 2)
  /-- MATRIX_BLANK (R292): BLANK stops scanning and returns lines to OFF and sinks to their settings. -/
  | matrixBlank (w : CtxId) (m : Fin 2)
  /-- MATRIX_DIM (R284): DIM sets a matrix port's global dim. -/
  | matrixDim (w : CtxId) (m : Fin 2) (val : BitVec 16)
  /-- FRAME_SWAP (R290): SWAP asks a frame port to exchange its front and back buffers. -/
  | frameSwap (w : CtxId) (n : Fin 2)
  /-- STITCH_SHIFT (R295): SHIFT asks a stitch port to shift its chain from the front buffer. -/
  | stitchShift (w : CtxId) (k : Fin 4)
  /-- STITCH_LATCH (R296): LATCH pulses a stitch port's latch. -/
  | stitchLatch (w : CtxId) (k : Fin 4)
  /-- PORT_SIDING (R298): SIDING puts an LED port into siding and blanks its outputs. -/
  | portSiding (w : CtxId) (p : Fin 8)
  /-- PORT_REJOIN (R299): REJOIN asks an LED port to rejoin at its next frame boundary. -/
  | portRejoin (w : CtxId) (p : Fin 8)
  /-- PORT_REJOIN_EFFECT (R299): At the port's frame boundary the rejoin takes effect if its condition holds. -/
  | portRejoinEffect (p : Fin 8)
  /-- SWAP_EFFECT (R290): A waiting swap takes effect when retiring ends or an FSYNC edge arrives, and the old front starts retiring. -/
  | swapEffect (n : Fin 2)
  /-- FSYNC_EDGE (R291): A filtered rising edge on FSYNCn arrives. -/
  | fsyncEdge (n : Fin 2)
  /-- FSYNC_TIMEOUT (R291): A swap has waited fsto ms for an edge and takes effect without one. -/
  | fsyncTimeout (n : Fin 2)
  /-- APERTURE_WRITE (R289): A write through a frame-port aperture enters the back buffer or is ignored and sets s_lostw. -/
  | apertureWrite (w : CtxId) (n : Fin 2) (k : Fin 4096) (v : Word)
  /-- LINE_SLOT_START (R293): A matrix line slot starts and the line counter advances. -/
  | lineSlotStart (m : Fin 2)
  /-- TABLE_COPY_DONE (R294): The matrix table copy to the power die completes. -/
  | tableCopyDone (m : Fin 2)
  /-- SHIFT_START (R295): A pending stitch shift starts. -/
  | shiftStart (k : Fin 4)
  /-- SHIFT_END (R297): A stitch shift sends its last bit; readback and marker compare follow. -/
  | shiftEnd (k : Fin 4) (back : List Byte) (mark : Word)
  /-- LATCH_PULSE (R296): One bit period after the last bit STn_LAT is pulsed for latw bit periods. -/
  | latchPulse (k : Fin 4)
  /-- FRAME_MEMORY_ERROR (R298): An uncorrectable frame-memory word read by a consumer puts the frame port into siding. -/
  | frameMemoryError (w : FrameWord)
  /-- INPUT_SAMPLE (R309): A switch input's comparator is sampled. -/
  | inputSample (i : Fin 96) (v : Bool)
  /-- WETTING_PULSE (R309): A pulsed wetting current starts for an input. -/
  | wettingPulse (i : Fin 96)
  /-- LEVEL_CHANGE (R311): The debounce count is reached and the input level changes, raising events. -/
  | levelChange (i : Fin 96)
  /-- DEBOUNCE_RESTART (R311): A write to DIN_INi_WET or DIN_INi_DB restarts the debounce. -/
  | debounceRestart (w : CtxId) (i : Fin 96) (wet : Bool) (v : Word)
  /-- LINE_FAULT_DECLARE (R314): A line fault persisting 1 ms is declared. -/
  | lineFaultDeclare (i : Fin 96) (high : Bool)
  /-- LINE_FAULT_CLEAR (R314): A line back within both levels for 1 ms is cleared. -/
  | lineFaultClear (i : Fin 96)
  /-- ADC_GO (R319): A write to DIN_ADCGO triggers an analogue reading. -/
  | adcGo (w : CtxId) (i : BitVec 7)
  /-- ADC_PERIODIC_TRIGGER (R319): The aper period expires and triggers a reading. -/
  | adcPeriodicTrigger (i : Fin 96)
  /-- ADC_READING_DONE (R319): An analogue reading completes and updates DIN_INi_ADC. -/
  | adcReadingDone (d : Fin 2) (code : BitVec 12)
  /-- INPUT_WAKE_REQUEST (R320): n consecutive Park samples differ from the held level and a wake is requested. -/
  | inputWakeRequest (i : Fin 96)
  /-- CAN_START (R325): CAN_CMD START takes a controller from Init to Integrating if configuration is valid. -/
  | canStart (w : CtxId) (u : Fin 12)
  /-- CAN_STOP (R325): CAN_CMD STOP returns a controller to Init. -/
  | canStop (w : CtxId) (u : Fin 12)
  /-- CAN_SIDING (R325): CAN_CMD SIDING puts a controller into Siding. -/
  | canSiding (w : CtxId) (u : Fin 12)
  /-- CAN_REJOIN (R348): CAN_CMD REJOIN returns a controller from Siding to Integrating. -/
  | canRejoin (w : CtxId) (u : Fin 12)
  /-- CAN_TTSWITCH (R346): CAN_CMD TTSWITCH switches the timetable copy at the next release of cell (0, 0). -/
  | canTtswitch (w : CtxId) (u : Fin 12)
  /-- CAN_INTEGRATED (R325): 11 consecutive recessive bits make an Integrating controller Active. -/
  | canIntegrated (u : Fin 12)
  /-- CAN_FRAME_RECEIVE (R331): A frame becomes valid on the bus and is filtered into a platform or the object store. -/
  | canFrameReceive (u : Fin 12) (f : CanFrame) (sof : Word) (eof : Fin 8) (error : Bool)
  /-- CAN_ERROR (R325): A bus error updates the error counters, state, and identifier duplication. -/
  | canError (u : Fin 12) (lec : Fin 7) (dphase own dataField exempt flag : Bool)
  /-- CAN_RECOVERY_COMPLETE (R348): 128 occurrences of 11 recessive bits complete bus-off recovery. -/
  | canRecoveryComplete (u : Fin 12)
  /-- PLATFORM_ACK (R332): A write to CAN_PLx_ACK releases the n oldest owned entries. -/
  | platformAck (w : CtxId) (u : Fin 12) (x : Fin 2) (n : BitVec 9)
  /-- OBJECT_ACK (R333): A write to CAN_OBJ_ACK clears new and lost, and optionally frees an object. -/
  | objectAck (w : CtxId) (u : Fin 12) (i cnt : Byte) (free : Bool)
  /-- TX_REQUEST (R336): A write to CAN_TXREQ makes a transmit buffer pending after its tests. -/
  | txRequest (w : CtxId) (u : Fin 12) (b : BitVec 6)
  /-- TX_CANCEL (R339): A write to CAN_TXCANCEL cancels a pending request before its start-of-frame. -/
  | txCancel (w : CtxId) (u : Fin 12) (b : BitVec 6)
  /-- CAN_TX_START (R338): Before a start-of-frame the controller chooses its eligible buffer and starts an attempt. -/
  | canTxStart (u : Fin 12) (sof : Word)
  /-- CAN_TX_VALID (R337): An own frame becomes valid; result 1 and the watermark advance. -/
  | canTxValid (u : Fin 12) (eof : Fin 8) (error : Bool)
  /-- SLOT_RELEASE (R344): A SLOT release reaches the controller and opens a window or a single attempt. -/
  | slotRelease (u : Fin 12) (row : Fin 32) (col : Fin 64) (tkt : Option (Fin 512 × Word)) (late : Bool)
  /-- SLOT_WINDOW_EXPIRE (R344): A released frame has not started within txw bit times; the release is missed. -/
  | slotWindowExpire (u : Fin 12) (b : Fin 64)
  /-- TXD_DOMINANT_TIMEOUT (R324): The transceiver releases a TXD held dominant too long. -/
  | txdDominantTimeout (u : Fin 12)
  /-- BUS_MANAGE_ENABLE (R356): Setting NMG_BUSb_CFG.en puts a bus under management and to sleep. -/
  | busManageEnable (w : CtxId) (b : Fin 22)
  /-- BUS_MANAGE_DISABLE (R356): Clearing en takes a bus out of management, leaving its hardware as it stands. -/
  | busManageDisable (w : CtxId) (b : Fin 22)
  /-- BUS_VOTE (R355): A write to NMG_BUSb_NEED sets or clears the writer tenant's vote. -/
  | busVote (w : CtxId) (b : Fin 22) (on : Bool)
  /-- BUS_PIN_WRITE (R355): A write of NMG_BUSb_CFG.pin changes the bus need, and pin 3 sends the bus to sleep. -/
  | busPinWrite (w : CtxId) (b : Fin 22) (pin : Fin 4)
  /-- KEEPALIVE_SEND (R357): The keep-alive period expires on an Awake bus with need and a keep-alive is sent. -/
  | keepaliveSend (b : Fin 22)
  /-- BUS_SLEEP_TIMER (R356): A bus sleep timer expires and the bus sleeps or stays Awake. -/
  | busSleepTimer (b : Fin 22)
  /-- REMOTE_WAKE (R363): Activity on an Asleep bus passes its filter and wakes the bus or the device. -/
  | remoteWake (b : Fin 22) (d : BusActivity)
  /-- LIN_GOTOSLEEP_RECEIVE (R361): A responder receives the go-to-sleep command and sleeps. -/
  | linGotosleepReceive (u : Fin 8)
  /-- LIN_WAKEUP_SIGNAL (R361): A responder with need sends the LIN wake-up signal. -/
  | linWakeupSignal (u : Fin 8)
  /-- ETH_FRAME_RECEIVE (R372): A backbone frame is received and dropped, answered or handed on. -/
  | ethFrameReceive (n : Fin 2) (f : EthFrame)
  /-- ETH_LINK_UP (R374): 802.3bp link status reaches OK and the port serves frames. -/
  | ethLinkUp (n : Fin 2)
  /-- ETH_LINK_FAIL (R374): Link status FAIL puts the port into Siding and retrains. -/
  | ethLinkFail (n : Fin 2)
  /-- ETH_PORT_ENABLE (R374): Setting ETH_Pn_CTRL.en starts training. -/
  | ethPortEnable (w : CtxId) (n : Fin 2)
  /-- ETH_PORT_DISABLE (R374): Clearing en turns the PHY off and discards queued frames. -/
  | ethPortDisable (w : CtxId) (n : Fin 2)
  /-- T1S_FRAME_RECEIVE (R377): A 10BASE-T1S frame is received into the ring or consumed as a keep-alive. -/
  | t1sFrameReceive (n : Fin 2) (fcsOk : Bool) (data : List Byte) (sfd : Word)
  /-- RXACK (R377): T1S_Sn_CMD RXACK releases ring entries. -/
  | rxack (w : CtxId) (n : Fin 2) (k : Fin 32)
  /-- TXREQ (R378): T1S_Sn_CMD TXREQ makes a transmit buffer pending. -/
  | txreq (w : CtxId) (n : Fin 2) (b : Fin 32)
  /-- T1S_SIDING (R379): T1S_Sn_CMD SIDING puts a segment into siding. -/
  | t1sSiding (w : CtxId) (n : Fin 2)
  /-- T1S_REJOIN (R379): T1S_Sn_CMD REJOIN turns the PHY on and restarts PLCA. -/
  | t1sRejoin (w : CtxId) (n : Fin 2)
  /-- T1S_TX_END (R378): A 10BASE-T1S transmission ends and its result is written. -/
  | t1sTxEnd (n : Fin 2) (sent : Bool) (sfd : Word)
  /-- T1S_JABBER (R379): Own transmission active beyond 2 ms puts the segment into siding. -/
  | t1sJabber (n : Fin 2)
  /-- LIN_SLOT_START (R382): A commander slot starts and its header is sent. -/
  | linSlotStart (u : Fin 8)
  /-- LIN_HEADER (R382): A LIN header is received or sent and the channel publishes, subscribes or ignores it. -/
  | linHeader (u : Fin 8) (id : Fin 64) (parityOk : Bool)
  /-- LIN_RESPONSE_END (R382): A LIN response completes and subscribed data is written on a valid checksum. -/
  | linResponseEnd (u : Fin 8) (data : List Byte) (how : LinEnd)
  /-- LIN_NO_RESPONSE (R383): No response arrives within its time and error 3 is recorded. -/
  | linNoResponse (u : Fin 8)
  /-- LIN_BUS_FAULT (R383): A bus dominant for 20 ms puts the channel into siding. -/
  | linBusFault (u : Fin 8)
  /-- LIN_SIDING (R384): LIN_CMD SIDING holds the bus recessive in siding. -/
  | linSiding (w : CtxId) (u : Fin 8)
  /-- LIN_REJOIN (R384): LIN_CMD REJOIN requests a rejoin from siding. -/
  | linRejoin (w : CtxId) (u : Fin 8)
  /-- LIN_REJOIN_EFFECT (R384): The bus has been recessive for 10 bit times and the channel rejoins. -/
  | linRejoinEffect (u : Fin 8)
  /-- SPI_WRITE (R388): An SPI write transaction delivers a ZLP frame to the ledger or is discarded. -/
  | spiWrite (start len frame crc : List Byte)
  /-- SPI_READ (R389): An SPI read transaction returns the oldest answer and removes it when completed. -/
  | spiRead (n : Nat)
  /-- I2C_TRANSFER (R390): go = 1 starts an I²C transfer. -/
  | i2cTransfer (w : CtxId) (n : Fin 2) (addr : BitVec 7) (wlen rlen : BitVec 6)
  /-- I2C_TRANSFER_END (R390): An I²C transfer ends with its result. -/
  | i2cTransferEnd (n : Fin 2) (result : Fin 4) (nbyte : Fin 64) (data : List Byte)
  /-- I2C_STRETCH_TIMEOUT (R390): Clock stretching exceeds tmo ms and the transfer ends with result 4. -/
  | i2cStretchTimeout (n : Fin 2)
  /-- ACC_POLL (R405): ACC_CMD POLL queues a request through each antenna in its mask. -/
  | accPoll (w : CtxId) (mask : BitVec 4)
  /-- ACC_END (R403): ACC_CMD END ends the named sessions. -/
  | accEnd (w : CtxId) (entry drive : Bool)
  /-- ACC_RESUME (R407): ACC_CMD RESUME clears pstop and restarts the parked timer. -/
  | accResume (w : CtxId)
  /-- CLRLOCK (R401): ACC_CMD CLRLOCK ends a lock-out and zeroes failcnt and m. -/
  | clrlock (w : CtxId)
  /-- KEY_REVOKE (R394): Clearing ACC_KEYk_CTL.en revokes a key at once. -/
  | keyRevoke (w : CtxId) (k : Fin 8)
  /-- LF_WAKE_BURST (R405): A request begins with an LF wake burst through an antenna. -/
  | lfWakeBurst
  /-- RANGING_REQUEST (R397): After the burst gap, a challenge is shifted to the radio and t0 is captured. -/
  | rangingRequest
  /-- RANGING_REPLY (R397): RNG_RX rises at the first path and t1 is captured. -/
  | rangingReply (flight : Nat)
  /-- NO_REPLY (R397): No reply rises within the window and the verdict is no reply. -/
  | noReply
  /-- KEY_MESSAGE (R398): A reply or announced key message is judged by rolling code, MAC and distance. -/
  | keyMessage (id : Word) (cmd : Byte) (delay : BitVec 24) (n mac : Word)
  /-- ANNOUNCE (R397): The radio holds RNG_RX high and the unit clocks in a button message. -/
  | announce
  /-- PROBE (R406): The probe period expires and a probe is sent on each masked antenna. -/
  | probe
  /-- PRESENCE (R406): A presence pulse follows a probe and raises event 7 or a wake. -/
  | presence (a : Fin 4)
  /-- LOCKOUT_END (R401): A lock-out expires and m rises. -/
  | lockoutEnd
  /-- CANDIDATE_EXPIRE (R398): A resynchronisation candidate held for 30 s is discarded. -/
  | candidateExpire (k : Fin 8)
  /-- SESSION_TIMEOUT (R403): An access session timeout expires and the session ends. -/
  | sessionTimeout (drive : Bool)
  /-- PARKED_TIMER_TICK (R407): The parked timer counts a minute, stores itself every 10 min, and stops probing at stopdays. -/
  | parkedTimerTick
  /-- IGN_RISE (R407): IGN rises, restarting the parked timer and waking the device if armed. -/
  | ignRise
  /-- MTR_ENERGY (R424): MTR_REQ ENERGY requests signed import and export registers. -/
  | mtrEnergy (w : CtxId)
  /-- MTR_INSTANT (R424): MTR_REQ INSTANT requests signed instantaneous readings. -/
  | mtrInstant (w : CtxId)
  /-- MTR_LOG (R424): MTR_REQ LOG requests up to 8 signed log records. -/
  | mtrLog (w : CtxId) (first : BitVec 16)
  /-- MTR_SEAL (R424): MTR_REQ SEAL requests the signed seal state. -/
  | mtrSeal (w : CtxId)
  /-- MTR_KEY (R424): MTR_REQ KEY requests the meter's public key. -/
  | mtrKey (w : CtxId)
  /-- MTR_RESPONSE (R422): The meter's signed response block arrives and MTR_RESULT is updated. -/
  | mtrResponse (time imp exp : BitVec 64) (inst : List Word)
  /-- GRID_PHASE_UPDATE (R420): A meter phase frame advances a grid-phase axis by 64 counts. -/
  | gridPhaseUpdate (c : MeterTick)
  /-- GRID_LOST (R421): MV0 below 40 V rms for 3 cycles stops phase updates. -/
  | gridLost (time : MeterLine)
  /-- GRID_RETURN (R421): MV0 back above 60 V rms for 3 cycles advances the count to the meter's phase. -/
  | gridReturn (time : MeterLine) (c : Fin 1024)
  /-- METER_SILENT (R419): No valid meter-link frame for 1 ms declares the meter silent. -/
  | meterSilent
  /-- METER_LINK_RESTORE (R419): The first valid frame after silence sets link again. -/
  | meterLinkRestore (time : BitVec 64)
  /-- METER_SUPPLY_LOSS (R417): VMTR falls through 2.9 V and the meter stores its energy registers. -/
  | meterSupplyLoss (imp exp : BitVec 64)
  /-- CORE_SRC_SELECT (R432): A write of CLK_CORE.src moves the core to PLL0 or to FIRC. -/
  | coreSrcSelect (w : CtxId) (src : Bool)
  /-- OP_CHANGE (R435): A write to CLK_CORE.op starts the operating-point sequencer. -/
  | opChange (w : CtxId) (op : Fin 4)
  /-- OP_CHANGE_DONE (R435): A sequencer change ends and a queued target starts. -/
  | opChangeDone
  /-- XTAL_STABLE (R432): The amplitude detector counts 1,024 cycles and declares XTAL stable. -/
  | xtalStable
  /-- PLL_LOCK (R432): A PLL locks and the blocks it clocks run. -/
  | pllLock (one : Bool)
  /-- XTAL_START_FAIL (R433): XTAL not stable within 20 ms; PLLs lock on FIRC / 4. -/
  | xtalStartFail
  /-- XTAL_FAIL (R437): A crystal failure switches both PLL references to FIRC / 4. -/
  | xtalFail
  /-- PLL0_FAIL (R437): PLL0 loses lock and the core moves to FIRC. -/
  | pll0Fail
  /-- PLL1_FAIL (R437): PLL1 loses lock and its blocks stop until it relocks. -/
  | pll1Fail
  /-- LPO_FAIL (R437): An LPO failure is declared and Park entry is refused. -/
  | lpoFail
  /-- FIRC_FAIL (R437): A FIRC failure is declared while XTAL is stable. -/
  | fircFail
  /-- XTALSEL (R437): CLK_CMD XTALSEL returns the PLL references to a stable XTAL. -/
  | xtalsel (w : CtxId) (aged : Bool)
  /-- CLOCK_LOSS (R439): With FIRC failed and XTAL not stable, asynchronous logic parks the control die. -/
  | clockLoss
  /-- CLOCK_LOSS_RELEASE (R439): FIRC has run for 1 ms and the control die is released into a clock-loss reset. -/
  | clockLossRelease
  /-- GATE_WRITE (R440): A write to CLK_GATE is judged gate by gate against the tree. -/
  | gateWrite (w : CtxId) (v : Word)
  /-- DOZE (R446): PWR_CMD DOZE takes the core to OP3. -/
  | doze (w : CtxId)
  /-- RUN (R446): PWR_CMD RUN returns from Doze to the OP in CLK_CORE.op. -/
  | run (w : CtxId)
  /-- PARK (R447): PWR_CMD PARK starts the entry handshake to Park. -/
  | park (w : CtxId)
  /-- OFF (R447): PWR_CMD OFF starts the entry handshake to Off. -/
  | off (w : CtxId)
  /-- ABORT (R448): PWR_CMD ABORT ends a handshake before commit. -/
  | abort (w : CtxId)
  /-- SOFTWARE_RESET (R458): PWR_CMD RESET with key 0x5A resets the control die. -/
  | softwareReset (w : CtxId) (key : Byte)
  /-- HANDSHAKE_COMMIT (R448): Every block answers Ack and the controller commits to Park or Off. -/
  | handshakeCommit
  /-- HANDSHAKE_TIMEOUT (R448): A block still at Delay 50 ms after the request ends the handshake. -/
  | handshakeTimeout
  /-- PARK_ENTRY (R450): Park frames, lane stop, LPO calibration and retention complete Park entry. -/
  | parkEntry
  /-- PARK_BEAT (R451): The LPO timer sends a beat frame to each power die every 100 ms. -/
  | parkBeat
  /-- WAKE_REQUEST (R453): A wake request is latched and recorded in PWR_WAKESRC. -/
  | wakeRequest (code : Fin 16) (detail : BitVec 7) (same : Bool)
  /-- WAKE (R454): The device leaves Park and resumes lanes on FIRC. -/
  | wake
  /-- OFF_ENTRY (R455): After commit to Off, the recorder flushes, the test runs, switches open and VSUP_C discharges. -/
  | offEntry
  /-- OFF_WAKE (R456): IGN or an input rising in Off starts a cold start. -/
  | offWake (input : Option (Fin 96))
  /-- POWER_FAIL_WARNING (R457): VSUP_C falls through 4.0 V; the ledger and recorder act. -/
  | powerFailWarning
  /-- POWER_FAIL_CLEAR (R457): VSUP_C above 4.2 V for 1 ms clears the warning. -/
  | powerFailClear
  /-- COLD_RESET (R458): VSUP_C rising from below 1.0 V resets the control die. -/
  | coldReset
  /-- SUPPLY_RESET (R458): VSUP_C rising above 3.3 V after a fall below 3.2 V resets the control die. -/
  | supplyReset
  /-- ACTIVATION_RESET (R458): A whole-device activation resets the control die. -/
  | activationReset
  /-- START_UP (R460): After reset release the boot ROM repairs, tests, loads code and creates context 0. -/
  | startUp (good0 good1 : Bool)
  /-- SOURCE_RAISE (R463): A signal-box source raises, and a record is opened or merged with its class reaction. -/
  | sourceRaise (src : Fin 256) (wire hold : Bool) (detail : Word)
  /-- RECORD_AUTOCLOSE (R469): A record of class 0 or 1 without a merge for autoclose ms closes. -/
  | recordAutoclose
  /-- CLOSE (R469): FLT_CMD CLOSE closes the open record. -/
  | close (w : CtxId)
  /-- CLEARSAFE (R473): FLT_CMD CLEARSAFE ends Safe if its conditions hold. -/
  | clearsafe (w : CtxId)
  /-- ALIVE_TOGGLE (R474): ALIVE toggles at FLT_ALIVE.freq. -/
  | aliveToggle
  /-- WATCHDOG_EXPIRE (R474): No valid FLT_KICK for win ms raises source 3 and restarts the window. -/
  | watchdogExpire
  /-- ALIVE_KICK (R474): FLT_KICK with key 0xA5 restarts the watchdog window. -/
  | aliveKick (w : CtxId)
  /-- SWRAISE (R481): FLT_SWRAISE raises firmware source 192 + index once. -/
  | swraise (w : CtxId) (i : Fin 64)
  /-- SAFE_N_LOW (R475): A filtered low on SAFE_N raises source 1. -/
  | safeNLow
  /-- TEMP_SAMPLE (R477): A temperature sensor is sampled every 100 µs and raises or returns its source. -/
  | tempSample (t : Fin 14) (temp : BitVec 10)
  /-- RAIL_FAULT (R478): A rail outside its band for 10 µs raises its source. -/
  | railFault (r : Fin 7) (v : BitVec 12) (below above : Bool)
  /-- PM_MEASURE (R479): A process monitor measures its ring oscillator and raises after 8 slow readings. -/
  | pmMeasure (m : Fin 4) (f : BitVec 16) (below : Bool)
  /-- POST (R498): EVR_POST enters a firmware record read through the context's windows. -/
  | post (w : CtxId) (code len : Byte)
  /-- FLUSH (R489): EVR_CMD FLUSH starts a charged flush. -/
  | flush (w : CtxId)
  /-- FLUSH_DONE (R489): A flush has copied every unflushed byte to MRAM. -/
  | flushDone
  /-- CALENDAR_SET (R487): EVR_CAL_HI with go sets the calendar and starts a page. -/
  | calendarSet (w : CtxId) (hi : BitVec 16)
  /-- RECORDER_SCAN_END (R495): The start-up scan of anchors ends and the newest sequence is known. -/
  | recorderScanEnd
  /-- OPSEC_SAVE (R486): Operating seconds are saved to the System region every 360 s. -/
  | opsecSave
  /-- SELF_TEST_END (R504): A full or short self-test ends and its verdict is written. -/
  | selfTestEnd (lfail : BitVec 13) (fails : List MemFail)
  /-- SELF_TEST_ABORT (R503): A shutdown test stops on a wake or a power-fail warning with result aborted. -/
  | selfTestAbort
  /-- BEGIN (R513): ZLP BEGIN makes the non-active bank Staging. -/
  | begin (h : ZHdr) (kind zero blocks : List Byte)
  /-- DATA (R514): ZLP DATA enters block bytes into the staging bank. -/
  | data (h : ZHdr) (block off len d : List Byte)
  /-- CHECK (R516): ZLP CHECK starts checking the staging bank. -/
  | check (h : ZHdr) (body : List Byte)
  /-- STATUS (R515): ZLP STATUS answers with the bank state and first missing block. -/
  | status (h : ZHdr) (body : List Byte)
  /-- ACTIVATE (R520): ZLP ACTIVATE makes a Valid bank Trial and starts activation. -/
  | activate (h : ZHdr) (body : List Byte)
  /-- KEYSET (R524): ZLP KEYSET installs a wrapped key in a key-store slot. -/
  | keyset (h : ZHdr) (slot ctr rest key : List Byte) (wrapOk sigOk : Bool)
  /-- REVERT (R525): ZLP REVERT, served by the recovery ROM, restarts a Confirmed bank. -/
  | revert (h : ZHdr) (body : List Byte)
  /-- UPD_BEGIN (R513): UPD_CMD BEGIN makes the non-active bank Staging. -/
  | updBegin (w : CtxId) (kind : Fin 4) (blocks : BitVec 10)
  /-- UPD_WRITE (R513): UPD_CMD WRITE copies a 4 KiB block from data SRAM into the staging bank. -/
  | updWrite (w : CtxId) (block : BitVec 10)
  /-- UPD_CHECK (R516): UPD_CMD CHECK starts checking the staging bank. -/
  | updCheck (w : CtxId)
  /-- UPD_ACTIVATE (R520): UPD_CMD ACTIVATE makes a Valid bank Trial and starts activation. -/
  | updActivate (w : CtxId)
  /-- CONFIRM (R520): UPD_CMD CONFIRM makes the Trial bank Confirmed and raises rollback versions. -/
  | confirm (w : CtxId)
  /-- SAVEREC (R525): UPD_CMD SAVEREC saves the recovery record. -/
  | saverec (w : CtxId)
  /-- CHECK_DONE (R516): A check or tenant build ends; the bank becomes Valid or stays Staging. -/
  | checkDone (hdr sig : Bool) (bad : Option (Fin 1024)) (dig copied : Bool) (segs : List Seg)
  /-- TENANT_SEGMENT_LOADED (R521): The new segment of a single-tenant activation is loaded and the tenant is sided and restarted. -/
  | tenantSegmentLoaded
  /-- TRIAL_EXPIRE (R521): The trial timer expires without CONFIRM and the activation fails. -/
  | trialExpire
  /-- SETTINGS_WRITE (R522): UPD_SETCMD copies bytes into the tenant's live settings half. -/
  | settingsWrite (w : CtxId) (off : BitVec 14) (len : BitVec 9)
  /-- SETTINGS_WRITE_DONE (R522): A settings copy completes and UPD_SETRES is updated. -/
  | settingsWriteDone
  /-- CHANGE (R531): SYS_OUT_CMD CHANGE stages a target outfit or is refused. -/
  | change (w : CtxId) (t : Fin 32) (now : Bool)
  /-- CANCEL (R531): SYS_OUT_CMD CANCEL discards a staged change. -/
  | cancel (w : CtxId)
  /-- STAGING_ACK (R531): Both dies acknowledge the staging frames and the change is Armed. -/
  | stagingAck
  /-- SINK_THERMAL_RESTART (R282): A sink that shut down at TSD has cooled by the hysteresis and conducts again. -/
  | sinkThermalRestart (k : Fin 48)
  /-- POWER_DIE_TAKEN_AS_OFF (R251): The control die has had no valid frame from a power die on either link for 100 µs and answers for that die in its place. -/
  | powerDieTakenAsOff (d : Fin 2)
  /-- ARBITRATION_LOST (R338): An own CAN attempt loses arbitration; the buffer stays pending, or a slot-released frame is missed with result 3. -/
  | arbitrationLost (u : Fin 12)
  /-- DELAY_REFUSE_EXPIRE (R302): A block still at Delay when its own limit runs out (LED 40 ms, CAN 20 ms, ledger end of delay) turns its answer into Refuse with its reason. -/
  | delayRefuseExpire (b : Fin 16)
  /-- LIN_WAKEUP_RECEIVE (R361): A commander waiting out tsleep receives a responder's wake-up signal and restarts its timer. -/
  | linWakeupReceive (u : Fin 8)
  /-- PLCA_STATUS_CHANGE (R376): The PLCA status of a 10BASE-T1S segment changes between OK and FAIL, and the MAC switches between PLCA and CSMA/CD. -/
  | plcaStatusChange (n : Fin 2) (ok : Bool)
  /-- METER_SELF_CHECK_FAIL (R425): The meter's self-check fails, setting MTR_STATUS.fault and raising the meter-fault source. -/
  | meterSelfCheckFail (time : BitVec 64) (check : Byte)
  /-- REFERENCE_SWITCH_DONE (R437): A PLL reference switch completes within 100 µs and CLK stops answering Delay. -/
  | referenceSwitchDone
  /-- SUPPLY_RESET_ASSERT (R457): VSUP_C falls below 3.2 V and the control die is held in a supply reset, so its die-link frames stop. -/
  | supplyResetAssert
  /-- SOURCE_RETURN_TO_IDLE (R463): A signal-box source's rail pair returns to idle, so raised and wire clear and the source may raise again after 20 ns. -/
  | sourceReturnToIdle (src : Fin 256)
  /-- SAFE_N_HIGH (R475): SAFE_N returns high, so source 1 stops being raised and FLT_STATUS.safen clears. -/
  | safeNHigh
  /-- IGN_FALL (R452): IGN falls, which starts the parked timer counting and requests a wake from Park when ignfall is armed. -/
  | ignFall
  /-- BLOCK_WRITE_DONE (R513): A 4 KiB block write into the staging bank completes, the block is entered in the bitmap and UPD stops answering Delay. -/
  | blockWriteDone
  /-- IO_SUPPLY_RETURN (R56): An I/O supply comes back within its range and its lands take their driven states again. -/
  | ioSupplyReturn (n : Fin 2)
deriving DecidableEq, Repr

end Sys2Proof
end

