-- ==== Sys2Proof/Config.lean ====
section
/-! DEFINITION. What one unit fixes (its variant, its serial number) and the free values: constants with no body, applied to plain
data of the state, so that no proof can rest on a number the spec does not give. -/
namespace Sys2Proof

/-- Whether the sealed meter die is fitted: ZN9640-A1 (true) or ZN9640-A0 (false) (R1, R2). Fixed per unit, not chosen here. -/
opaque Config.meterFitted : Bool

/-- The 40-bit unit serial number (R27). Fixed per unit, not chosen here. -/
opaque Config.serial : BitVec 40

/-- SYS_ID as R1 gives it for the variant. -/
def Config.sysId : Word := if Config.meterFitted then 0x5A9640A1#32 else 0x5A9640A0#32

/-- Bits 31:0 of the serial number (R27). -/
def Config.serialLo : Word := Config.serial.setWidth 32

/-- Bits 39:32 of the serial number (R27). -/
def Config.serialHi : Word := (Config.serial >>> 32).setWidth 32

/-- MTR_STATUS at the start: on the ZN9640-A1 present, sealed (R426), the link live and the grid voltage there, as the meter's own state has it; on the ZN9640-A0 it reads 0 (R429). -/
def Config.mtrStatus : Word := if Config.meterFitted then 0xF0000000#32 else 0x00000000#32

/-- The serial number of the meter (R423). Fixed per unit, not chosen here. -/
opaque Config.meterSerial : BitVec 64
/-- The ROM version of the meter and the CRC-32C of its sealed parameters (R424). Fixed per unit, not chosen here. -/
opaque Config.meterRom : Byte
opaque Config.meterParamCrc : Word
/-- The meter's public key, x then y, byte by byte (R424). Fixed per unit, not chosen here. -/
opaque Config.meterKey : Nat → Byte
/-- The meter's signature over the bytes 0 to 35 + D of a response block, which its response counter makes unlike every other, byte by byte
(R423): made with a key that is never disclosed. -/
opaque Config.meterSign : List Byte → Nat → Byte

/-- The unlimited current limit ILIM0 of a channel in mA: each unit's own value inside the row of R260. Fixed per unit, not chosen here. -/
opaque Config.ilim0 : Nat → Nat

/-- What a CAN receive error counter above 127 returns to at a valid frame, above 119: ISO 11898-1 sets it to a value from 119 to 127
(log entry 37); by the counter. -/
opaque Config.canRecBack : Nat → Fin 9

/-- A word whose value the spec does not state, fresh for every value of the counter it is applied to (log entry 3). -/
opaque Config.freeWord : Nat → Word


/-- Whether a word of the MRAM window, by its offset, lies in the key store (R24, R523): the System region's layout is not stated. Fixed per
design, not chosen here. -/
opaque Config.inKeyStore : Nat → Bool

/-- Whether a word of the MRAM window, by its number, holds part of the stored verdict of the self-test (R504): the System region's layout is not
stated. Fixed per design, not chosen here. -/
opaque Config.inVerdict : Nat → Bool

/-- The minimum of process monitor `m` for a core supply in mV, in 0.1 MHz units (R479): fused at test. Fixed per unit, not chosen here. -/
opaque Config.pmMin : Nat → Nat → Nat

/-- Whether VSUP_C is below 2.5 V while it keeps the control die in reset (R461), by the counter of free values (log entry 3): no command says
so. -/
opaque Config.vsupLow : Nat → Bool

/-- Whether SDA of an I²C bus is low as go is written (R390), which its devices decide: a free value (log entry 80). -/
opaque Config.sdaLow : Nat → Bool

/-- The transport key in key-store slot 0 as shipped, byte by byte (R523). Fixed per unit, not chosen here. -/
opaque Config.transportKey : Nat → Byte

/-- AES-128 as R396 uses it: the encryption of a block under a key (log entry 7: the model computes no cipher). -/
opaque Config.aes128 : List Byte → BitVec 128 → BitVec 128

/-- AES-128-GCM as R235 uses it: key, nonce and additional data, and the body; the answer is the encrypted body and the tag after it (log
entry 7: the model computes no cipher). -/
opaque Config.gcmSeal : List Byte → BitVec 96 → List Byte → List Byte → List Byte

/-- AES-256 as R510 uses it: the encryption of a counter block under the image key (log entry 7: the model computes no cipher). -/
opaque Config.aes256 : List Byte → BitVec 128 → BitVec 128

end Sys2Proof
end

