-- ==== Sys2Proof/Machine/Field.lean ====
section
/-! DEFINITION. Register and field descriptors, the reading and writing of a bit field, and the reset values that a register heading
gives per index. -/
namespace Sys2Proof.Machine
open Sys2Proof

/-- A register: its data-space address and its reset value (R11). Registers that every context has of its own carry the
context number above bit 32 of the key. -/
structure Rg where
  addr : Nat
  reset : Word
deriving DecidableEq, Repr

/-- A field `[hi:lo]` of a register. -/
structure Fd where
  r : Rg
  hi : Nat
  lo : Nat
deriving DecidableEq, Repr

/-- The mask of the bits `hi` down to `lo`. -/
def maskBits (hi lo : Nat) : Word := (BitVec.allOnes 32 >>> (31 - (hi - lo))) <<< lo

/-- The value of bits `hi` down to `lo`, as a number. -/
def getBits (w : Word) (hi lo : Nat) : Nat := ((w >>> lo) &&& (BitVec.allOnes 32 >>> (31 - (hi - lo)))).toNat

/-- `w` with bits `hi` down to `lo` replaced by the low bits of `n`. -/
def setBits (w : Word) (hi lo n : Nat) : Word := (w &&& ~~~ maskBits hi lo) ||| ((BitVec.ofNat 32 n <<< lo) &&& maskBits hi lo)

/-- Bit `i` of a word. -/
def bitOf (w : Word) (i : Nat) : Bool := w.getLsbD i

/-- A Boolean as the value of a one-bit field. -/
def b2n (b : Bool) : Nat := if b then 1 else 0

/-- Saturating increment of a counter of `bits` bits. -/
def satInc (bits n : Nat) : Nat := if n + 1 < 2 ^ bits then n + 1 else 2 ^ bits - 1

/-- The signed value of the low `w` bits of `n`. -/
def sgn (w n : Nat) : Int := (BitVec.ofNat w n).toInt

/-- PSW_CHc_WIRE at reset: tau 40; itrip 100 for HS-H (channels 0 to 7), 96 for the other classes (09, register map). -/
def resetWire (c : Nat) : Word := if c < 8 then 0x2864 else 0x2860

/-- NMG_BUSb_CFG at reset, by kind of bus (13, register map; kinds of R354). -/
def resetNmgCfg (b : Nat) : Word := if b < 12 then 0x00040000 else if b < 20 then 0x000F0000 else 0x00140000

/-- NMG_BUSb_TIME at reset, by kind of bus (13, register map). -/
def resetNmgTime (b : Nat) : Word := if 12 ≤ b ∧ b < 20 then 0x019001F4 else 0x00C801F4

/-- CAN_RAMx at reset: Platform A, Platform B, object store, transmit buffers (12, register map). -/
def resetCanRam (x : Nat) : Word :=
  match x with
  | 0 => 0x70400000
  | 1 => 0x704004C0
  | 2 => 0x01000980
  | _ => 0x70400E80

/-- MON_TEMPt at reset: the threshold in bits 25:16 (19, register map). -/
def resetMonTemp (t : Nat) : Word :=
  BitVec.ofNat 32 ((if t < 8 then 260 else if t < 12 then 300 else 250) * 65536)

/-- Whether a signal-box source is reserved (R464). -/
def srcReserved (s : Nat) : Bool := s == 0 || (150 ≤ s && s < 192) || 256 ≤ s

/-- Whether the class of a source is fixed (R464). -/
def srcFixed (s : Nat) : Bool := s == 1 || s == 2 || (16 ≤ s && s < 24) || s == 62

/-- The default class of a source (R464). -/
def srcClass (s : Nat) : Nat :=
  if srcReserved s then 0
  else if s == 1 || s == 2 || s == 3 || s == 13 then 3
  else if s == 5 || s == 7 || s == 9 then 0
  else if (16 ≤ s && s < 28) || s == 60 || s == 62 || s == 81 || s == 132 then 2
  else if 84 ≤ s && s < 132 && (s - 84) % 4 == 3 then 2
  else 1

/-- FLT_SRCs at reset: the fixed bit and the default class; a reserved source reads 0 (R464). -/
def resetFltSrc (s : Nat) : Word :=
  if srcReserved s then 0
  else BitVec.ofNat 32 ((if srcFixed s then 2 ^ 29 else 0) + srcClass s * 2 ^ 24)

end Sys2Proof.Machine
end

