-- ==== Sys2Proof/Machine/RegId.lean ====
section
/-! DEFINITION. The register identifiers: one name per register table of the spec's register maps. -/
namespace Sys2Proof.Machine

/-- One constructor per register heading of the spec's chapters (an indexed family is one constructor). -/
inductive RegId where
  | SYS_ID | SYS_REV | SYS_SERIAL_LO | SYS_SERIAL_HI | SYS_LINK_CMD | SYS_LINK_STATUS | TSK_STATUS | TSK_PAIR_STATE 
  | TSK_CMD | TSK_CMD_RESULT | TSK_POST | TSK_UNROUTED | TSK_DISP_MAX | TSK_SELF_ID | TSK_SELF_IN | TSK_ROUTE 
  | TSK_CAPSET | TSK_CTX_CFG | TSK_CTX_STATE | TSK_CTX_INMODE | TSK_CTX_INOVF | TSK_CTX_VIOL | TSK_CTX_VADDR 
  | TSK_CTX_CODEWIN | TSK_CTX_ENTRY | TSK_CTX_WIN_BASE | TSK_CTX_WIN_LIMIT | TLN_STATUS | TLN_FULLCNT 
  | TLN_RESERVE | TLN_LAG_MAX | TLN_WAKE_LEAD | TLN_PEEK_SEL | TLN_PEEK_META | TLN_PEEK_W | TLN_TQUOTA 
  | TLN_AX_CFG | TLN_AX_POSL | TLN_AX_POSH | TLN_AX_SETL | TLN_AX_SETH | TLN_AX_STATUS | TLN_AX_SCALE 
  | TLN_AX_LATE | TLN_A0_CFG | TLN_A0_STATUS | TLN_A0_OFFSET | TLN_A0_OFFSET_US | TLN_A0_RATE | TLN_A0_CMD 
  | TLN_A0_STEP | TLN_TPULSE_CFG | TLN_TPULSE_COUNT | TLN_ROS_CFG | TLN_ROS_PERIOD | TLN_ROS_OVL | TLN_ROS_BASEL 
  | TLN_ROS_BASEH | TLN_ROS_STATUS | TLN_ROS_MEMBERS | LDG_STATUS | LDG_CTRL | LDG_CMD | LDG_CMD_RESULT 
  | LDG_COUNT_ADMIT | LDG_COUNT_REFUSE | LDG_COUNT_DROP | LDG_JOURNAL | LDG_WM_SEL | LDG_WM_SEQ | LDG_SESS_ID 
  | LDG_SESS_CFG | LDG_SELF_TKT | LDG_SELF_SEQ | LDG_SELF_PAY | LDG_TRK_CFG | LDG_TRK_OWNERS | LDG_TRK_NEXT 
  | LDG_TRK_FLOOR | LDG_TKT | PSW_CH_CMD | PSW_CH_STATE | PSW_CH_ACK | PSW_CH_ACKSEQ | PSW_CH_CTRL | PSW_CH_PWM 
  | PSW_CH_PROT | PSW_CH_WIRE | PSW_CH_SAFE | PSW_CH_DIAG | PSW_CH_SENSE | PSW_CH_TEMP | PSW_CH_STATUS 
  | PSW_DIE_STATE | PSW_DIE_CFG | PSW_DIE_CMD | PSW_DIE_VBAT | PSW_DIE_PAR | PSW_BUD_CFG | PSW_BUD_STATUS 
  | PSW_BUD | LED_K_SET | LED_K_CFG | LED_K_STATUS | LED_DIE_FREQ | LED_DIE_DERATE | LED_P_CMD | LED_P_ACK 
  | LED_P_ACKSEQ | LED_P_STATUS | LED_P_EVEN | LED_M_CFG | LED_F_CFG | LED_F_PAGE | LED_S_CFG | LED_S_LEN 
  | LED_S_RB | DIN_LEVEL | DIN_FAULT | DIN_STATUS | DIN_ADCGO | DIN_IN_CFG | DIN_IN_WET | DIN_IN_DB | DIN_IN_PARK 
  | DIN_IN_ADC | DIN_IN_STATUS | CAN_CTRL | CAN_CMD | CAN_CMD_RESULT | CAN_STATUS | CAN_ERRCNT | CAN_NBT 
  | CAN_DBT | CAN_RAM | CAN_RAM_TT | CAN_PL_STATUS | CAN_PL_ACK | CAN_OBJ_STATUS | CAN_OBJ_ACK | CAN_TXREQ 
  | CAN_TXCANCEL | CAN_TXACK | CAN_TXACKSEQ | CAN_TXPEND | CAN_TXDONE | CAN_DUP_CFG | CAN_DUP_ID | CAN_DUP_CNT 
  | CAN_TT_CFG | CAN_TT_STATUS | CAN_EVEN | CAN_FLT_ID | CAN_FLT_MASK | NMG_AWAKE | NMG_BUS_CFG | NMG_BUS_TIME 
  | NMG_BUS_KAID | NMG_BUS_KAMASK | NMG_BUS_KATX | NMG_BUS_NEED | NMG_BUS_STATE | ETH_CFG | ETH_IP4 | ETH_IP6 
  | ETH_P_CTRL | ETH_P_STATUS | ETH_P_COUNT | T1S_S_CTRL | T1S_S_STATUS | T1S_S_CMD | LIN_CTRL | LIN_CMD 
  | LIN_STATUS | LIN_FR | LIN_FR_D | LIN_SCH | LCL_SPI | LCL_I2C_CFG | LCL_I2C_CMD | LCL_I2C_STATUS | LCL_I2C_DATA 
  | ACC_CFG | ACC_STATUS | ACC_CMD | ACC_POLL | ACC_LF | ACC_RNG_CFG | ACC_RNG_BOUND | ACC_LAST | ACC_LAST_RNG 
  | ACC_SESS | ACC_SESS_TMO | ACC_PARKED | ACC_EVEN | ACC_KEY_ID | ACC_KEY_CTL | ACC_KEY_CNT | MTR_STATUS 
  | MTR_REQ | MTR_NONCE_LO | MTR_NONCE_HI | MTR_RESULT | MTR_EVEN | MTR_RESP | CLK_STATUS | CLK_CORE 
  | CLK_CMD | CLK_MON | CLK_GATE | CLK_GATE_RESULT | CLK_CKOUT | PWR_STATUS | PWR_CMD | PWR_CMD_RESULT 
  | PWR_HS | PWR_CFG | PWR_RSTCAUSE | PWR_WAKESRC | PWR_WAKETS_LO | PWR_WAKETS_HI | PWR_WAKEMASK | PWR_CYCLES 
  | FLT_STATUS | FLT_CFG | FLT_CMD | FLT_CMD_RESULT | FLT_NEWEST | FLT_ALIVE | FLT_KICK | FLT_SWRAISE 
  | FLT_SRC | FLT_REC_W | MON_TEMP | MON_RAIL | MON_PM | EVR_STATUS | EVR_CMD | EVR_NEWEST | EVR_FLUSHED 
  | EVR_PAGE | EVR_LOST | EVR_CAL_LO | EVR_CAL_HI | EVR_OPSEC | EVR_UTCOFF | EVR_PADDR | EVR_POST | EVR_PRES 
  | EVR_PSEQ | BIST_VERDICT | BIST_VCYCLES | BIST_PREV | BIST_CFG | BIST_REPAIR | BIST_FAIL_ADDR | BIST_FAIL_INFO 
  | UPD_STATUS | UPD_CMD | UPD_CMD_RESULT | UPD_ARG | UPD_CFG | UPD_STAGE | UPD_ROLL | UPD_SETADDR | UPD_SETCMD 
  | UPD_SETRES | SYS_WRD_BASE | SYS_OUT_CFG | SYS_OUT_CMD | SYS_OUT_CMD_RESULT | SYS_OUT_STATUS 
deriving DecidableEq, Repr

end Sys2Proof.Machine
end

