-- ==== Sys2Proof/Machine/RegMapCore.lean ====
section
/-! DEFINITION. Register and field names of blocks SYS, CLK, PWR, FLT, MON, TSK, TLN, LDG: each register is its data-space address (R22 base + heading offset)
and its heading's reset value; each field is its bits in its register's table. -/
namespace Sys2Proof.Machine.Reg
open Sys2Proof

/-- SYS_ID, offset 0x0000 of SYS. -/
def SYS_ID : Rg := ⟨0x40000000, Config.sysId⟩
def SYS_ID_id : Fd := ⟨SYS_ID, 31, 0⟩
/-- SYS_REV, offset 0x0004 of SYS. -/
def SYS_REV : Rg := ⟨0x40000004, 0x1112⟩
def SYS_REV_pdb_rev : Fd := ⟨SYS_REV, 15, 12⟩
def SYS_REV_pda_rev : Fd := ⟨SYS_REV, 11, 8⟩
def SYS_REV_cd_rev : Fd := ⟨SYS_REV, 7, 4⟩
def SYS_REV_stepping : Fd := ⟨SYS_REV, 3, 0⟩
/-- SYS_SERIAL_LO, offset 0x0008 of SYS. -/
def SYS_SERIAL_LO : Rg := ⟨0x40000008, Config.serialLo⟩
def SYS_SERIAL_LO_serial_lo : Fd := ⟨SYS_SERIAL_LO, 31, 0⟩
/-- SYS_SERIAL_HI, offset 0x000c of SYS. -/
def SYS_SERIAL_HI : Rg := ⟨0x4000000c, Config.serialHi⟩
def SYS_SERIAL_HI_serial_hi : Fd := ⟨SYS_SERIAL_HI, 7, 0⟩
/-- SYS_LINK_CMD, offset 0x0020 of SYS. -/
def SYS_LINK_CMD : Rg := ⟨0x40000020, 0x0⟩
def SYS_LINK_CMD_op : Fd := ⟨SYS_LINK_CMD, 31, 28⟩
def SYS_LINK_CMD_link : Fd := ⟨SYS_LINK_CMD, 1, 0⟩
/-- SYS_LINK_STATUS, offset 0x0024 of SYS. -/
def SYS_LINK_STATUS : Rg := ⟨0x40000024, 0xaa⟩
def SYS_LINK_STATUS_busy : Fd := ⟨SYS_LINK_STATUS, 31, 31⟩
def SYS_LINK_STATUS_code : Fd := ⟨SYS_LINK_STATUS, 30, 28⟩
def SYS_LINK_STATUS_state : Fd := ⟨SYS_LINK_STATUS, 7, 0⟩
/-- SYS_WRD_BASE, offset 0x0100 of SYS. -/
def SYS_WRD_BASE : Rg := ⟨0x40000100, 0x0⟩
def SYS_WRD_BASE_base : Fd := ⟨SYS_WRD_BASE, 31, 14⟩
/-- SYS_OUT_CFG, offset 0x0104 of SYS. -/
def SYS_OUT_CFG : Rg := ⟨0x40000104, 0x0⟩
def SYS_OUT_CFG_roster : Fd := ⟨SYS_OUT_CFG, 5, 0⟩
/-- SYS_OUT_CMD, offset 0x0108 of SYS. -/
def SYS_OUT_CMD : Rg := ⟨0x40000108, 0x0⟩
def SYS_OUT_CMD_op : Fd := ⟨SYS_OUT_CMD, 31, 28⟩
def SYS_OUT_CMD_now : Fd := ⟨SYS_OUT_CMD, 27, 27⟩
def SYS_OUT_CMD_target : Fd := ⟨SYS_OUT_CMD, 4, 0⟩
/-- SYS_OUT_CMD_RESULT, offset 0x010c of SYS. -/
def SYS_OUT_CMD_RESULT : Rg := ⟨0x4000010c, 0x0⟩
def SYS_OUT_CMD_RESULT_busy : Fd := ⟨SYS_OUT_CMD_RESULT, 31, 31⟩
def SYS_OUT_CMD_RESULT_seq : Fd := ⟨SYS_OUT_CMD_RESULT, 15, 8⟩
def SYS_OUT_CMD_RESULT_code : Fd := ⟨SYS_OUT_CMD_RESULT, 3, 0⟩
/-- SYS_OUT_STATUS, offset 0x0110 of SYS. -/
def SYS_OUT_STATUS : Rg := ⟨0x40000110, 0x3f3f⟩
def SYS_OUT_STATUS_state : Fd := ⟨SYS_OUT_STATUS, 31, 30⟩
def SYS_OUT_STATUS_dirty : Fd := ⟨SYS_OUT_STATUS, 29, 29⟩
def SYS_OUT_STATUS_last : Fd := ⟨SYS_OUT_STATUS, 28, 27⟩
def SYS_OUT_STATUS_why : Fd := ⟨SYS_OUT_STATUS, 26, 24⟩
def SYS_OUT_STATUS_count : Fd := ⟨SYS_OUT_STATUS, 23, 16⟩
def SYS_OUT_STATUS_target : Fd := ⟨SYS_OUT_STATUS, 13, 8⟩
def SYS_OUT_STATUS_cur : Fd := ⟨SYS_OUT_STATUS, 5, 0⟩
/-- CLK_STATUS, offset 0x0000 of CLK. -/
def CLK_STATUS : Rg := ⟨0x40010000, 0x0⟩
def CLK_STATUS_xtal : Fd := ⟨CLK_STATUS, 31, 30⟩
def CLK_STATUS_xsel : Fd := ⟨CLK_STATUS, 29, 29⟩
def CLK_STATUS_pll0 : Fd := ⟨CLK_STATUS, 28, 28⟩
def CLK_STATUS_pll1 : Fd := ⟨CLK_STATUS, 27, 27⟩
def CLK_STATUS_firc : Fd := ⟨CLK_STATUS, 26, 26⟩
def CLK_STATUS_lpo : Fd := ⟨CLK_STATUS, 25, 25⟩
def CLK_STATUS_src : Fd := ⟨CLK_STATUS, 24, 24⟩
def CLK_STATUS_op : Fd := ⟨CLK_STATUS, 23, 22⟩
def CLK_STATUS_opbusy : Fd := ⟨CLK_STATUS, 21, 21⟩
def CLK_STATUS_cmdres : Fd := ⟨CLK_STATUS, 15, 12⟩
def CLK_STATUS_s_xfail : Fd := ⟨CLK_STATUS, 7, 7⟩
def CLK_STATUS_s_pll0 : Fd := ⟨CLK_STATUS, 6, 6⟩
def CLK_STATUS_s_pll1 : Fd := ⟨CLK_STATUS, 5, 5⟩
def CLK_STATUS_s_lpo : Fd := ⟨CLK_STATUS, 4, 4⟩
def CLK_STATUS_s_firc : Fd := ⟨CLK_STATUS, 3, 3⟩
def CLK_STATUS_s_gated : Fd := ⟨CLK_STATUS, 2, 2⟩
def CLK_STATUS_s_ckhi : Fd := ⟨CLK_STATUS, 1, 1⟩
/-- CLK_CORE, offset 0x0004 of CLK. -/
def CLK_CORE : Rg := ⟨0x40010004, 0x0⟩
def CLK_CORE_src : Fd := ⟨CLK_CORE, 31, 31⟩
def CLK_CORE_op : Fd := ⟨CLK_CORE, 1, 0⟩
/-- CLK_CMD, offset 0x0008 of CLK. -/
def CLK_CMD : Rg := ⟨0x40010008, 0x0⟩
def CLK_CMD_op : Fd := ⟨CLK_CMD, 31, 28⟩
/-- CLK_MON, offset 0x000c of CLK. -/
def CLK_MON : Rg := ⟨0x4001000c, 0x0⟩
def CLK_MON_lpo : Fd := ⟨CLK_MON, 31, 16⟩
def CLK_MON_firc : Fd := ⟨CLK_MON, 15, 0⟩
/-- CLK_GATE, offset 0x0010 of CLK. -/
def CLK_GATE : Rg := ⟨0x40010010, 0xffffff3f⟩
def CLK_GATE_acc : Fd := ⟨CLK_GATE, 31, 31⟩
def CLK_GATE_led : Fd := ⟨CLK_GATE, 30, 30⟩
def CLK_GATE_t1s : Fd := ⟨CLK_GATE, 29, 29⟩
def CLK_GATE_eth : Fd := ⟨CLK_GATE, 28, 28⟩
def CLK_GATE_lin : Fd := ⟨CLK_GATE, 27, 20⟩
def CLK_GATE_can : Fd := ⟨CLK_GATE, 19, 8⟩
def CLK_GATE_host : Fd := ⟨CLK_GATE, 5, 5⟩
def CLK_GATE_body : Fd := ⟨CLK_GATE, 4, 4⟩
def CLK_GATE_net : Fd := ⟨CLK_GATE, 3, 3⟩
def CLK_GATE_lingrp : Fd := ⟨CLK_GATE, 2, 2⟩
def CLK_GATE_cangrp : Fd := ⟨CLK_GATE, 1, 1⟩
def CLK_GATE_root : Fd := ⟨CLK_GATE, 0, 0⟩
/-- CLK_GATE_RESULT, offset 0x0014 of CLK. -/
def CLK_GATE_RESULT : Rg := ⟨0x40010014, 0x0⟩
def CLK_GATE_RESULT_refused : Fd := ⟨CLK_GATE_RESULT, 31, 31⟩
def CLK_GATE_RESULT_why : Fd := ⟨CLK_GATE_RESULT, 9, 8⟩
def CLK_GATE_RESULT_bit : Fd := ⟨CLK_GATE_RESULT, 4, 0⟩
/-- CLK_CKOUT, offset 0x0018 of CLK. -/
def CLK_CKOUT : Rg := ⟨0x40010018, 0x0⟩
def CLK_CKOUT_mode : Fd := ⟨CLK_CKOUT, 31, 30⟩
def CLK_CKOUT_sel : Fd := ⟨CLK_CKOUT, 26, 24⟩
def CLK_CKOUT_div : Fd := ⟨CLK_CKOUT, 11, 0⟩
/-- PWR_STATUS, offset 0x0000 of PWR. -/
def PWR_STATUS : Rg := ⟨0x40020000, 0x0⟩
def PWR_STATUS_state : Fd := ⟨PWR_STATUS, 31, 30⟩
def PWR_STATUS_hs : Fd := ⟨PWR_STATUS, 29, 29⟩
def PWR_STATUS_pfw : Fd := ⟨PWR_STATUS, 28, 28⟩
def PWR_STATUS_pllwait : Fd := ⟨PWR_STATUS, 27, 27⟩
def PWR_STATUS_ign : Fd := ⟨PWR_STATUS, 26, 26⟩
def PWR_STATUS_parks : Fd := ⟨PWR_STATUS, 15, 0⟩
/-- PWR_CMD, offset 0x0004 of PWR. -/
def PWR_CMD : Rg := ⟨0x40020004, 0x0⟩
def PWR_CMD_op : Fd := ⟨PWR_CMD, 31, 28⟩
def PWR_CMD_key : Fd := ⟨PWR_CMD, 7, 0⟩
/-- PWR_CMD_RESULT, offset 0x0008 of PWR. -/
def PWR_CMD_RESULT : Rg := ⟨0x40020008, 0x0⟩
def PWR_CMD_RESULT_busy : Fd := ⟨PWR_CMD_RESULT, 31, 31⟩
def PWR_CMD_RESULT_seq : Fd := ⟨PWR_CMD_RESULT, 15, 8⟩
def PWR_CMD_RESULT_code : Fd := ⟨PWR_CMD_RESULT, 3, 0⟩
/-- PWR_HS, offset 0x000c of PWR. -/
def PWR_HS : Rg := ⟨0x4002000c, 0x0⟩
def PWR_HS_block : Fd := ⟨PWR_HS, 31, 28⟩
def PWR_HS_reason : Fd := ⟨PWR_HS, 23, 16⟩
def PWR_HS_delay : Fd := ⟨PWR_HS, 15, 1⟩
/-- PWR_CFG, offset 0x0010 of PWR. -/
def PWR_CFG : Rg := ⟨0x40020010, 0xc000017⟩
def PWR_CFG_wprio : Fd := ⟨PWR_CFG, 27, 24⟩
def PWR_CFG_pdfault : Fd := ⟨PWR_CFG, 4, 4⟩
def PWR_CFG_ignfall : Fd := ⟨PWR_CFG, 3, 3⟩
def PWR_CFG_ignrise : Fd := ⟨PWR_CFG, 2, 2⟩
def PWR_CFG_offign : Fd := ⟨PWR_CFG, 1, 1⟩
def PWR_CFG_offin : Fd := ⟨PWR_CFG, 0, 0⟩
/-- PWR_RSTCAUSE, offset 0x0014 of PWR. -/
def PWR_RSTCAUSE : Rg := ⟨0x40020014, 0⟩
def PWR_RSTCAUSE_act : Fd := ⟨PWR_RSTCAUSE, 5, 5⟩
def PWR_RSTCAUSE_clk : Fd := ⟨PWR_RSTCAUSE, 4, 4⟩
def PWR_RSTCAUSE_soft : Fd := ⟨PWR_RSTCAUSE, 3, 3⟩
def PWR_RSTCAUSE_pin : Fd := ⟨PWR_RSTCAUSE, 2, 2⟩
def PWR_RSTCAUSE_supply : Fd := ⟨PWR_RSTCAUSE, 1, 1⟩
def PWR_RSTCAUSE_cold : Fd := ⟨PWR_RSTCAUSE, 0, 0⟩
/-- PWR_WAKESRC, offset 0x0018 of PWR. -/
def PWR_WAKESRC : Rg := ⟨0x40020018, 0⟩
def PWR_WAKESRC_code : Fd := ⟨PWR_WAKESRC, 31, 28⟩
def PWR_WAKESRC_more : Fd := ⟨PWR_WAKESRC, 27, 27⟩
def PWR_WAKESRC_detail : Fd := ⟨PWR_WAKESRC, 22, 16⟩
def PWR_WAKESRC_wakes : Fd := ⟨PWR_WAKESRC, 15, 0⟩
/-- PWR_WAKETS_LO, offset 0x001c of PWR. -/
def PWR_WAKETS_LO : Rg := ⟨0x4002001c, 0x0⟩
def PWR_WAKETS_LO_pos : Fd := ⟨PWR_WAKETS_LO, 31, 0⟩
/-- PWR_WAKETS_HI, offset 0x0020 of PWR. -/
def PWR_WAKETS_HI : Rg := ⟨0x40020020, 0xc0000000⟩
def PWR_WAKETS_HI_qual : Fd := ⟨PWR_WAKETS_HI, 31, 30⟩
def PWR_WAKETS_HI_pos : Fd := ⟨PWR_WAKETS_HI, 15, 0⟩
/-- PWR_WAKEMASK, offset 0x0024 of PWR. -/
def PWR_WAKEMASK : Rg := ⟨0x40020024, 0x0⟩
def PWR_WAKEMASK_req : Fd := ⟨PWR_WAKEMASK, 9, 1⟩
/-- PWR_CYCLES, offset 0x0028 of PWR. -/
def PWR_CYCLES : Rg := ⟨0x40020028, 0⟩
def PWR_CYCLES_count : Fd := ⟨PWR_CYCLES, 31, 0⟩
/-- FLT_STATUS, offset 0x0000 of FLT. -/
def FLT_STATUS : Rg := ⟨0x40030000, 0x0⟩
def FLT_STATUS_mode : Fd := ⟨FLT_STATUS, 31, 30⟩
def FLT_STATUS_open : Fd := ⟨FLT_STATUS, 29, 29⟩
def FLT_STATUS_alive : Fd := ⟨FLT_STATUS, 28, 28⟩
def FLT_STATUS_safen : Fd := ⟨FLT_STATUS, 27, 27⟩
def FLT_STATUS_hcls : Fd := ⟨FLT_STATUS, 26, 24⟩
/-- FLT_CFG, offset 0x0004 of FLT. -/
def FLT_CFG : Rg := ⟨0x40030004, 0x0⟩
def FLT_CFG_lock : Fd := ⟨FLT_CFG, 31, 31⟩
def FLT_CFG_autoclose : Fd := ⟨FLT_CFG, 7, 0⟩
/-- FLT_CMD, offset 0x0008 of FLT. -/
def FLT_CMD : Rg := ⟨0x40030008, 0x0⟩
def FLT_CMD_op : Fd := ⟨FLT_CMD, 31, 28⟩
/-- FLT_CMD_RESULT, offset 0x000c of FLT. -/
def FLT_CMD_RESULT : Rg := ⟨0x4003000c, 0x0⟩
def FLT_CMD_RESULT_busy : Fd := ⟨FLT_CMD_RESULT, 31, 31⟩
def FLT_CMD_RESULT_seq : Fd := ⟨FLT_CMD_RESULT, 15, 8⟩
def FLT_CMD_RESULT_code : Fd := ⟨FLT_CMD_RESULT, 3, 0⟩
/-- FLT_NEWEST, offset 0x0010 of FLT. -/
def FLT_NEWEST : Rg := ⟨0x40030010, 0x0⟩
def FLT_NEWEST_seq : Fd := ⟨FLT_NEWEST, 31, 0⟩
/-- FLT_ALIVE, offset 0x0014 of FLT. -/
def FLT_ALIVE : Rg := ⟨0x40030014, 0x6403e8⟩
def FLT_ALIVE_kick : Fd := ⟨FLT_ALIVE, 31, 31⟩
def FLT_ALIVE_win : Fd := ⟨FLT_ALIVE, 23, 16⟩
def FLT_ALIVE_freq : Fd := ⟨FLT_ALIVE, 15, 0⟩
/-- FLT_KICK, offset 0x0018 of FLT. -/
def FLT_KICK : Rg := ⟨0x40030018, 0x0⟩
def FLT_KICK_key : Fd := ⟨FLT_KICK, 7, 0⟩
/-- FLT_SWRAISE, offset 0x001c of FLT. -/
def FLT_SWRAISE : Rg := ⟨0x4003001c, 0x0⟩
def FLT_SWRAISE_index : Fd := ⟨FLT_SWRAISE, 5, 0⟩
/-- FLT_SRCs, offset 0x0400 of FLT. -/
def FLT_SRC (s : Nat) : Rg := ⟨0x40030400 + 0x4 * s, resetFltSrc s⟩
def FLT_SRC_raised (s : Nat) : Fd := ⟨(FLT_SRC s), 31, 31⟩
def FLT_SRC_wire (s : Nat) : Fd := ⟨(FLT_SRC s), 30, 30⟩
def FLT_SRC_fixed (s : Nat) : Fd := ⟨(FLT_SRC s), 29, 29⟩
def FLT_SRC_class (s : Nat) : Fd := ⟨(FLT_SRC s), 26, 24⟩
def FLT_SRC_count (s : Nat) : Fd := ⟨(FLT_SRC s), 15, 0⟩
/-- FLT_RECk_Ww, offset 0x1000 of FLT. -/
def FLT_REC_W (k w : Nat) : Rg := ⟨0x40031000 + 0x40 * k + 0x4 * w, 0x0⟩
def FLT_REC_W_word (k w : Nat) : Fd := ⟨(FLT_REC_W k w), 31, 0⟩
/-- MON_TEMPt, offset 0x0000 of MON. -/
def MON_TEMP (t : Nat) : Rg := ⟨0x40040000 + 0x4 * t, resetMonTemp t⟩
def MON_TEMP_hi (t : Nat) : Fd := ⟨(MON_TEMP t), 25, 16⟩
def MON_TEMP_s_hi (t : Nat) : Fd := ⟨(MON_TEMP t), 15, 15⟩
def MON_TEMP_temp (t : Nat) : Fd := ⟨(MON_TEMP t), 9, 0⟩
/-- MON_RAILr, offset 0x0100 of MON. -/
def MON_RAIL (r : Nat) : Rg := ⟨0x40040100 + 0x4 * r, 0x0⟩
def MON_RAIL_under (r : Nat) : Fd := ⟨(MON_RAIL r), 31, 31⟩
def MON_RAIL_over (r : Nat) : Fd := ⟨(MON_RAIL r), 30, 30⟩
def MON_RAIL_s_under (r : Nat) : Fd := ⟨(MON_RAIL r), 29, 29⟩
def MON_RAIL_s_over (r : Nat) : Fd := ⟨(MON_RAIL r), 28, 28⟩
def MON_RAIL_v (r : Nat) : Fd := ⟨(MON_RAIL r), 11, 0⟩
/-- MON_PMm, offset 0x0200 of MON. -/
def MON_PM (m : Nat) : Rg := ⟨0x40040200 + 0x4 * m, 0x0⟩
def MON_PM_slow (m : Nat) : Fd := ⟨(MON_PM m), 31, 31⟩
def MON_PM_s_slow (m : Nat) : Fd := ⟨(MON_PM m), 30, 30⟩
def MON_PM_f (m : Nat) : Fd := ⟨(MON_PM m), 15, 0⟩
/-- TSK_STATUS, offset 0x0000 of TSK. -/
def TSK_STATUS : Rg := ⟨0x40050000, 0xff⟩
def TSK_STATUS_resident : Fd := ⟨TSK_STATUS, 21, 16⟩
def TSK_STATUS_traffic : Fd := ⟨TSK_STATUS, 7, 0⟩
/-- TSK_PAIR_STATE, offset 0x0004 of TSK. -/
def TSK_PAIR_STATE : Rg := ⟨0x40050004, 0x0⟩
def TSK_PAIR_STATE_pairn : Fd := ⟨TSK_PAIR_STATE, 31, 0⟩
/-- TSK_CMD, offset 0x0008 of TSK. -/
def TSK_CMD : Rg := ⟨0x40050008, 0x0⟩
def TSK_CMD_op : Fd := ⟨TSK_CMD, 31, 28⟩
def TSK_CMD_target : Fd := ⟨TSK_CMD, 8, 0⟩
/-- TSK_CMD_RESULT, offset 0x000c of TSK. -/
def TSK_CMD_RESULT : Rg := ⟨0x4005000c, 0x0⟩
def TSK_CMD_RESULT_busy : Fd := ⟨TSK_CMD_RESULT, 31, 31⟩
def TSK_CMD_RESULT_seq : Fd := ⟨TSK_CMD_RESULT, 15, 8⟩
def TSK_CMD_RESULT_code : Fd := ⟨TSK_CMD_RESULT, 3, 0⟩
/-- TSK_POST, offset 0x0010 of TSK. -/
def TSK_POST : Rg := ⟨0x40050010, 0x0⟩
def TSK_POST_input : Fd := ⟨TSK_POST, 31, 30⟩
def TSK_POST_ctx : Fd := ⟨TSK_POST, 24, 16⟩
def TSK_POST_payload : Fd := ⟨TSK_POST, 13, 0⟩
/-- TSK_UNROUTED, offset 0x0014 of TSK. -/
def TSK_UNROUTED : Rg := ⟨0x40050014, 0x0⟩
def TSK_UNROUTED_count : Fd := ⟨TSK_UNROUTED, 15, 0⟩
/-- TSK_DISP_MAX, offset 0x0018 of TSK. -/
def TSK_DISP_MAX : Rg := ⟨0x40050018, 0x0⟩
def TSK_DISP_MAX_cycles : Fd := ⟨TSK_DISP_MAX, 7, 0⟩
/-- TSK_SELF_ID, offset 0x0100 of TSK. -/
def TSK_SELF_ID : Rg := ⟨0x40050100, 0⟩
def TSK_SELF_ID_prio : Fd := ⟨TSK_SELF_ID, 27, 24⟩
def TSK_SELF_ID_tenant : Fd := ⟨TSK_SELF_ID, 20, 16⟩
def TSK_SELF_ID_ctx : Fd := ⟨TSK_SELF_ID, 8, 0⟩
/-- TSK_SELF_INn, offset 0x0110 of TSK. -/
def TSK_SELF_IN (n : Nat) : Rg := ⟨0x40050110 + 0x4 * n, 0x0⟩
def TSK_SELF_IN_ovf (n : Nat) : Fd := ⟨(TSK_SELF_IN n), 15, 8⟩
def TSK_SELF_IN_depth (n : Nat) : Fd := ⟨(TSK_SELF_IN n), 3, 0⟩
/-- TSK_ROUTEi, offset 0x1000 of TSK. -/
def TSK_ROUTE (i : Nat) : Rg := ⟨0x40051000 + 0x4 * i, 0x0⟩
def TSK_ROUTE_valid (i : Nat) : Fd := ⟨(TSK_ROUTE i), 31, 31⟩
def TSK_ROUTE_input (i : Nat) : Fd := ⟨(TSK_ROUTE i), 17, 16⟩
def TSK_ROUTE_ctx (i : Nat) : Fd := ⟨(TSK_ROUTE i), 8, 0⟩
/-- TSK_CAPSETs, offset 0x4000 of TSK. -/
def TSK_CAPSET (s : Nat) : Rg := ⟨0x40054000 + 0x80 * s, 0x0⟩
/-- TSK_CTX_CFG, offset 0x8000 of TSK. -/
def TSK_CTX_CFG (n : Nat) : Rg := ⟨0x40058000 + 0x40 * n, 0x0⟩
def TSK_CTX_CFG_prio (n : Nat) : Fd := ⟨(TSK_CTX_CFG n), 27, 24⟩
def TSK_CTX_CFG_pair (n : Nat) : Fd := ⟨(TSK_CTX_CFG n), 22, 20⟩
def TSK_CTX_CFG_alt (n : Nat) : Fd := ⟨(TSK_CTX_CFG n), 18, 16⟩
def TSK_CTX_CFG_tenant (n : Nat) : Fd := ⟨(TSK_CTX_CFG n), 12, 8⟩
def TSK_CTX_CFG_capset (n : Nat) : Fd := ⟨(TSK_CTX_CFG n), 5, 0⟩
/-- TSK_CTX_STATE, offset 0x8004 of TSK. -/
def TSK_CTX_STATE (n : Nat) : Rg := ⟨0x40058004 + 0x40 * n, 0x0⟩
def TSK_CTX_STATE_depth (n : Nat) : Fd := ⟨(TSK_CTX_STATE n), 31, 16⟩
def TSK_CTX_STATE_lane (n : Nat) : Fd := ⟨(TSK_CTX_STATE n), 9, 8⟩
def TSK_CTX_STATE_cur (n : Nat) : Fd := ⟨(TSK_CTX_STATE n), 6, 4⟩
def TSK_CTX_STATE_inact (n : Nat) : Fd := ⟨(TSK_CTX_STATE n), 3, 3⟩
def TSK_CTX_STATE_state (n : Nat) : Fd := ⟨(TSK_CTX_STATE n), 2, 0⟩
/-- TSK_CTX_INMODE, offset 0x8008 of TSK. -/
def TSK_CTX_INMODE (n : Nat) : Rg := ⟨0x40058008 + 0x40 * n, 0x0⟩
def TSK_CTX_INMODE_latest (n : Nat) : Fd := ⟨(TSK_CTX_INMODE n), 3, 0⟩
/-- TSK_CTX_INOVF, offset 0x800c of TSK. -/
def TSK_CTX_INOVF (n : Nat) : Rg := ⟨0x4005800c + 0x40 * n, 0x0⟩
def TSK_CTX_INOVF_ovf (n : Nat) : Fd := ⟨(TSK_CTX_INOVF n), 31, 0⟩
/-- TSK_CTX_VIOL, offset 0x8010 of TSK. -/
def TSK_CTX_VIOL (n : Nat) : Rg := ⟨0x40058010 + 0x40 * n, 0x0⟩
def TSK_CTX_VIOL_clr (n : Nat) : Fd := ⟨(TSK_CTX_VIOL n), 31, 31⟩
def TSK_CTX_VIOL_kind (n : Nat) : Fd := ⟨(TSK_CTX_VIOL n), 19, 16⟩
def TSK_CTX_VIOL_count (n : Nat) : Fd := ⟨(TSK_CTX_VIOL n), 15, 0⟩
/-- TSK_CTX_VADDR, offset 0x8014 of TSK. -/
def TSK_CTX_VADDR (n : Nat) : Rg := ⟨0x40058014 + 0x40 * n, 0x0⟩
def TSK_CTX_VADDR_addr (n : Nat) : Fd := ⟨(TSK_CTX_VADDR n), 31, 0⟩
/-- TSK_CTX_CODEWIN, offset 0x8018 of TSK. -/
def TSK_CTX_CODEWIN (n : Nat) : Rg := ⟨0x40058018 + 0x40 * n, 0x0⟩
def TSK_CTX_CODEWIN_limit (n : Nat) : Fd := ⟨(TSK_CTX_CODEWIN n), 31, 16⟩
def TSK_CTX_CODEWIN_base (n : Nat) : Fd := ⟨(TSK_CTX_CODEWIN n), 15, 0⟩
/-- TSK_CTX_ENTRY, offset 0x801c of TSK. -/
def TSK_CTX_ENTRY (n : Nat) : Rg := ⟨0x4005801c + 0x40 * n, 0x0⟩
def TSK_CTX_ENTRY_pc (n : Nat) : Fd := ⟨(TSK_CTX_ENTRY n), 20, 0⟩
/-- TSK_CTX_WINk_BASE, offset 0x8020 of TSK. -/
def TSK_CTX_WIN_BASE (n k : Nat) : Rg := ⟨0x40058020 + 0x40 * n + 0x8 * k, 0x0⟩
def TSK_CTX_WIN_BASE_base (n k : Nat) : Fd := ⟨(TSK_CTX_WIN_BASE n k), 31, 6⟩
def TSK_CTX_WIN_BASE_w (n k : Nat) : Fd := ⟨(TSK_CTX_WIN_BASE n k), 1, 1⟩
def TSK_CTX_WIN_BASE_r (n k : Nat) : Fd := ⟨(TSK_CTX_WIN_BASE n k), 0, 0⟩
/-- TSK_CTX_WINk_LIMIT, offset 0x8024 of TSK. -/
def TSK_CTX_WIN_LIMIT (n k : Nat) : Rg := ⟨0x40058024 + 0x40 * n + 0x8 * k, 0x0⟩
def TSK_CTX_WIN_LIMIT_limit (n k : Nat) : Fd := ⟨(TSK_CTX_WIN_LIMIT n k), 31, 6⟩
/-- TLN_STATUS, offset 0x0000 of TLN. -/
def TLN_STATUS : Rg := ⟨0x40060000, 0x0⟩
def TLN_STATUS_used : Fd := ⟨TLN_STATUS, 28, 16⟩
def TLN_STATUS_peak : Fd := ⟨TLN_STATUS, 12, 0⟩
/-- TLN_FULLCNT, offset 0x0004 of TLN. -/
def TLN_FULLCNT : Rg := ⟨0x40060004, 0x0⟩
def TLN_FULLCNT_count : Fd := ⟨TLN_FULLCNT, 15, 0⟩
/-- TLN_RESERVE, offset 0x0008 of TLN. -/
def TLN_RESERVE : Rg := ⟨0x40060008, 0x40⟩
def TLN_RESERVE_slots : Fd := ⟨TLN_RESERVE, 10, 0⟩
/-- TLN_LAG_MAX, offset 0x000c of TLN. -/
def TLN_LAG_MAX : Rg := ⟨0x4006000c, 0x0⟩
def TLN_LAG_MAX_lag : Fd := ⟨TLN_LAG_MAX, 15, 0⟩
/-- TLN_WAKE_LEAD, offset 0x0010 of TLN. -/
def TLN_WAKE_LEAD : Rg := ⟨0x40060010, 0x5⟩
def TLN_WAKE_LEAD_ms : Fd := ⟨TLN_WAKE_LEAD, 7, 0⟩
/-- TLN_PEEK_SEL, offset 0x0020 of TLN. -/
def TLN_PEEK_SEL : Rg := ⟨0x40060020, 0x0⟩
def TLN_PEEK_SEL_slot : Fd := ⟨TLN_PEEK_SEL, 11, 0⟩
/-- TLN_PEEK_META, offset 0x0024 of TLN. -/
def TLN_PEEK_META : Rg := ⟨0x40060024, 0x0⟩
def TLN_PEEK_META_state : Fd := ⟨TLN_PEEK_META, 31, 30⟩
def TLN_PEEK_META_gen : Fd := ⟨TLN_PEEK_META, 27, 16⟩
def TLN_PEEK_META_outcome : Fd := ⟨TLN_PEEK_META, 15, 12⟩
def TLN_PEEK_META_ctx : Fd := ⟨TLN_PEEK_META, 8, 0⟩
/-- TLN_PEEK_Wk, offset 0x0028 of TLN. -/
def TLN_PEEK_W (k : Nat) : Rg := ⟨0x40060028 + 0x4 * k, 0x0⟩
def TLN_PEEK_W_word (k : Nat) : Fd := ⟨(TLN_PEEK_W k), 31, 0⟩
/-- TLN_TQUOTAt, offset 0x0040 of TLN. -/
def TLN_TQUOTA (t : Nat) : Rg := ⟨0x40060040 + 0x4 * t, 0x1000⟩
def TLN_TQUOTA_quota (t : Nat) : Fd := ⟨(TLN_TQUOTA t), 12, 0⟩
/-- TLN_AXn_CFG, offset 0x0100 of TLN. -/
def TLN_AX_CFG (n : Nat) : Rg := ⟨0x40060100 + 0x40 * n, 0x0⟩
def TLN_AX_CFG_inb (n : Nat) : Fd := ⟨(TLN_AX_CFG n), 30, 24⟩
def TLN_AX_CFG_ina (n : Nat) : Fd := ⟨(TLN_AX_CFG n), 22, 16⟩
def TLN_AX_CFG_inv (n : Nat) : Fd := ⟨(TLN_AX_CFG n), 8, 8⟩
def TLN_AX_CFG_src (n : Nat) : Fd := ⟨(TLN_AX_CFG n), 2, 0⟩
/-- TLN_AXn_POSL, offset 0x0104 of TLN. -/
def TLN_AX_POSL (n : Nat) : Rg := ⟨0x40060104 + 0x40 * n, 0x0⟩
def TLN_AX_POSL_pos (n : Nat) : Fd := ⟨(TLN_AX_POSL n), 31, 0⟩
/-- TLN_AXn_POSH, offset 0x0108 of TLN. -/
def TLN_AX_POSH (n : Nat) : Rg := ⟨0x40060108 + 0x40 * n, 0xc0000000⟩
def TLN_AX_POSH_qual (n : Nat) : Fd := ⟨(TLN_AX_POSH n), 31, 30⟩
def TLN_AX_POSH_pos (n : Nat) : Fd := ⟨(TLN_AX_POSH n), 29, 0⟩
/-- TLN_AXn_SETL, offset 0x010c of TLN. -/
def TLN_AX_SETL (n : Nat) : Rg := ⟨0x4006010c + 0x40 * n, 0x0⟩
def TLN_AX_SETL_val (n : Nat) : Fd := ⟨(TLN_AX_SETL n), 31, 0⟩
/-- TLN_AXn_SETH, offset 0x0110 of TLN. -/
def TLN_AX_SETH (n : Nat) : Rg := ⟨0x40060110 + 0x40 * n, 0x0⟩
def TLN_AX_SETH_go (n : Nat) : Fd := ⟨(TLN_AX_SETH n), 31, 31⟩
def TLN_AX_SETH_val (n : Nat) : Fd := ⟨(TLN_AX_SETH n), 29, 0⟩
/-- TLN_AXn_STATUS, offset 0x0114 of TLN. -/
def TLN_AX_STATUS (n : Nat) : Rg := ⟨0x40060114 + 0x40 * n, 0x0⟩
def TLN_AX_STATUS_dir (n : Nat) : Fd := ⟨(TLN_AX_STATUS n), 31, 31⟩
def TLN_AX_STATUS_rev (n : Nat) : Fd := ⟨(TLN_AX_STATUS n), 15, 8⟩
def TLN_AX_STATUS_steperr (n : Nat) : Fd := ⟨(TLN_AX_STATUS n), 7, 0⟩
/-- TLN_AXn_SCALE, offset 0x0118 of TLN. -/
def TLN_AX_SCALE (n : Nat) : Rg := ⟨0x40060118 + 0x40 * n, 0x1000000⟩
def TLN_AX_SCALE_gain (n : Nat) : Fd := ⟨(TLN_AX_SCALE n), 31, 16⟩
def TLN_AX_SCALE_offset (n : Nat) : Fd := ⟨(TLN_AX_SCALE n), 15, 0⟩
/-- TLN_AXn_LATE, offset 0x011c of TLN. -/
def TLN_AX_LATE (n : Nat) : Rg := ⟨0x4006011c + 0x40 * n, 0x0⟩
def TLN_AX_LATE_count (n : Nat) : Fd := ⟨(TLN_AX_LATE n), 15, 0⟩
/-- TLN_A0_CFG, offset 0x0300 of TLN. -/
def TLN_A0_CFG : Rg := ⟨0x40060300, 0x1e7d064⟩
def TLN_A0_CFG_hold : Fd := ⟨TLN_A0_CFG, 31, 20⟩
def TLN_A0_CFG_slew : Fd := ⟨TLN_A0_CFG, 19, 10⟩
def TLN_A0_CFG_lockth : Fd := ⟨TLN_A0_CFG, 9, 0⟩
/-- TLN_A0_STATUS, offset 0x0304 of TLN. -/
def TLN_A0_STATUS : Rg := ⟨0x40060304, 0xc0000000⟩
def TLN_A0_STATUS_qual : Fd := ⟨TLN_A0_STATUS, 31, 30⟩
def TLN_A0_STATUS_slewing : Fd := ⟨TLN_A0_STATUS, 29, 29⟩
def TLN_A0_STATUS_steppend : Fd := ⟨TLN_A0_STATUS, 28, 28⟩
def TLN_A0_STATUS_port : Fd := ⟨TLN_A0_STATUS, 25, 24⟩
/-- TLN_A0_OFFSET, offset 0x0308 of TLN. -/
def TLN_A0_OFFSET : Rg := ⟨0x40060308, 0x0⟩
def TLN_A0_OFFSET_ns : Fd := ⟨TLN_A0_OFFSET, 31, 0⟩
/-- TLN_A0_OFFSET_US, offset 0x030c of TLN. -/
def TLN_A0_OFFSET_US : Rg := ⟨0x4006030c, 0x0⟩
def TLN_A0_OFFSET_US_us : Fd := ⟨TLN_A0_OFFSET_US, 31, 0⟩
/-- TLN_A0_RATE, offset 0x0310 of TLN. -/
def TLN_A0_RATE : Rg := ⟨0x40060310, 0x0⟩
def TLN_A0_RATE_ppb : Fd := ⟨TLN_A0_RATE, 31, 0⟩
/-- TLN_A0_CMD, offset 0x0314 of TLN. -/
def TLN_A0_CMD : Rg := ⟨0x40060314, 0x0⟩
def TLN_A0_CMD_cancel : Fd := ⟨TLN_A0_CMD, 1, 1⟩
def TLN_A0_CMD_step : Fd := ⟨TLN_A0_CMD, 0, 0⟩
/-- TLN_A0_STEP, offset 0x0318 of TLN. -/
def TLN_A0_STEP : Rg := ⟨0x40060318, 0x0⟩
def TLN_A0_STEP_result : Fd := ⟨TLN_A0_STEP, 31, 30⟩
def TLN_A0_STEP_n : Fd := ⟨TLN_A0_STEP, 29, 0⟩
/-- TLN_TPULSE_CFG, offset 0x0320 of TLN. -/
def TLN_TPULSE_CFG : Rg := ⟨0x40060320, 0x83e803e8⟩
def TLN_TPULSE_CFG_en : Fd := ⟨TLN_TPULSE_CFG, 31, 31⟩
def TLN_TPULSE_CFG_frstop : Fd := ⟨TLN_TPULSE_CFG, 30, 30⟩
def TLN_TPULSE_CFG_width : Fd := ⟨TLN_TPULSE_CFG, 29, 16⟩
def TLN_TPULSE_CFG_period : Fd := ⟨TLN_TPULSE_CFG, 15, 0⟩
/-- TLN_TPULSE_COUNT, offset 0x0324 of TLN. -/
def TLN_TPULSE_COUNT : Rg := ⟨0x40060324, 0x0⟩
def TLN_TPULSE_COUNT_index : Fd := ⟨TLN_TPULSE_COUNT, 31, 0⟩
/-- TLN_ROSr_CFG, offset 0x1000 of TLN. -/
def TLN_ROS_CFG (r : Nat) : Rg := ⟨0x40061000 + 0x20 * r, 0x0⟩
def TLN_ROS_CFG_en (r : Nat) : Fd := ⟨(TLN_ROS_CFG r), 31, 31⟩
def TLN_ROS_CFG_axis (r : Nat) : Fd := ⟨(TLN_ROS_CFG r), 2, 0⟩
/-- TLN_ROSr_PERIOD, offset 0x1004 of TLN. -/
def TLN_ROS_PERIOD (r : Nat) : Rg := ⟨0x40061004 + 0x20 * r, 0x2⟩
def TLN_ROS_PERIOD_t (r : Nat) : Fd := ⟨(TLN_ROS_PERIOD r), 31, 0⟩
/-- TLN_ROSr_OVL, offset 0x1008 of TLN. -/
def TLN_ROS_OVL (r : Nat) : Rg := ⟨0x40061008 + 0x20 * r, 0x0⟩
def TLN_ROS_OVL_w (r : Nat) : Fd := ⟨(TLN_ROS_OVL r), 31, 0⟩
/-- TLN_ROSr_BASEL, offset 0x100c of TLN. -/
def TLN_ROS_BASEL (r : Nat) : Rg := ⟨0x4006100c + 0x20 * r, 0x0⟩
def TLN_ROS_BASEL_base (r : Nat) : Fd := ⟨(TLN_ROS_BASEL r), 31, 0⟩
/-- TLN_ROSr_BASEH, offset 0x1010 of TLN. -/
def TLN_ROS_BASEH (r : Nat) : Rg := ⟨0x40061010 + 0x20 * r, 0x0⟩
def TLN_ROS_BASEH_base (r : Nat) : Fd := ⟨(TLN_ROS_BASEH r), 15, 0⟩
/-- TLN_ROSr_STATUS, offset 0x1014 of TLN. -/
def TLN_ROS_STATUS (r : Nat) : Rg := ⟨0x40061014 + 0x20 * r, 0x0⟩
def TLN_ROS_STATUS_skipped (r : Nat) : Fd := ⟨(TLN_ROS_STATUS r), 31, 16⟩
def TLN_ROS_STATUS_period (r : Nat) : Fd := ⟨(TLN_ROS_STATUS r), 15, 0⟩
/-- TLN_ROSr_MEMBERS, offset 0x1018 of TLN. -/
def TLN_ROS_MEMBERS (r : Nat) : Rg := ⟨0x40061018 + 0x20 * r, 0x0⟩
def TLN_ROS_MEMBERS_count (r : Nat) : Fd := ⟨(TLN_ROS_MEMBERS r), 12, 0⟩
/-- LDG_STATUS, offset 0x0000 of LDG. -/
def LDG_STATUS : Rg := ⟨0x40070000, 0x82000000⟩
def LDG_STATUS_recovering : Fd := ⟨LDG_STATUS, 31, 31⟩
def LDG_STATUS_scanning : Fd := ⟨LDG_STATUS, 30, 30⟩
def LDG_STATUS_awaitreplay : Fd := ⟨LDG_STATUS, 29, 29⟩
def LDG_STATUS_badrec : Fd := ⟨LDG_STATUS, 28, 28⟩
def LDG_STATUS_fenced : Fd := ⟨LDG_STATUS, 25, 16⟩
def LDG_STATUS_held : Fd := ⟨LDG_STATUS, 12, 0⟩
/-- LDG_CTRL, offset 0x0004 of LDG. -/
def LDG_CTRL : Rg := ⟨0x40070004, 0x100bab8⟩
def LDG_CTRL_en : Fd := ⟨LDG_CTRL, 31, 31⟩
def LDG_CTRL_reserve : Fd := ⟨LDG_CTRL, 24, 16⟩
def LDG_CTRL_port : Fd := ⟨LDG_CTRL, 15, 0⟩
/-- LDG_CMD, offset 0x0008 of LDG. -/
def LDG_CMD : Rg := ⟨0x40070008, 0x0⟩
def LDG_CMD_op : Fd := ⟨LDG_CMD, 31, 28⟩
def LDG_CMD_track : Fd := ⟨LDG_CMD, 24, 16⟩
def LDG_CMD_stage : Fd := ⟨LDG_CMD, 6, 0⟩
/-- LDG_CMD_RESULT, offset 0x000c of LDG. -/
def LDG_CMD_RESULT : Rg := ⟨0x4007000c, 0x0⟩
def LDG_CMD_RESULT_busy : Fd := ⟨LDG_CMD_RESULT, 31, 31⟩
def LDG_CMD_RESULT_seq : Fd := ⟨LDG_CMD_RESULT, 15, 8⟩
def LDG_CMD_RESULT_code : Fd := ⟨LDG_CMD_RESULT, 3, 0⟩
/-- LDG_COUNT_ADMIT, offset 0x0010 of LDG. -/
def LDG_COUNT_ADMIT : Rg := ⟨0x40070010, 0x0⟩
def LDG_COUNT_ADMIT_count : Fd := ⟨LDG_COUNT_ADMIT, 31, 0⟩
/-- LDG_COUNT_REFUSE, offset 0x0014 of LDG. -/
def LDG_COUNT_REFUSE : Rg := ⟨0x40070014, 0x0⟩
def LDG_COUNT_REFUSE_busy : Fd := ⟨LDG_COUNT_REFUSE, 31, 16⟩
def LDG_COUNT_REFUSE_other : Fd := ⟨LDG_COUNT_REFUSE, 15, 0⟩
/-- LDG_COUNT_DROP, offset 0x0018 of LDG. -/
def LDG_COUNT_DROP : Rg := ⟨0x40070018, 0x0⟩
def LDG_COUNT_DROP_mismatch : Fd := ⟨LDG_COUNT_DROP, 31, 16⟩
def LDG_COUNT_DROP_frames : Fd := ⟨LDG_COUNT_DROP, 15, 0⟩
/-- LDG_JOURNAL, offset 0x001c of LDG. -/
def LDG_JOURNAL : Rg := ⟨0x4007001c, 0x0⟩
def LDG_JOURNAL_badrec : Fd := ⟨LDG_JOURNAL, 31, 24⟩
def LDG_JOURNAL_head : Fd := ⟨LDG_JOURNAL, 13, 0⟩
/-- LDG_WM_SEL, offset 0x0020 of LDG. -/
def LDG_WM_SEL : Rg := ⟨0x40070020, 0x0⟩
def LDG_WM_SEL_valid : Fd := ⟨LDG_WM_SEL, 31, 31⟩
def LDG_WM_SEL_bound : Fd := ⟨LDG_WM_SEL, 30, 30⟩
def LDG_WM_SEL_track : Fd := ⟨LDG_WM_SEL, 24, 16⟩
def LDG_WM_SEL_stage : Fd := ⟨LDG_WM_SEL, 6, 0⟩
/-- LDG_WM_SEQ, offset 0x0024 of LDG. -/
def LDG_WM_SEQ : Rg := ⟨0x40070024, 0x0⟩
def LDG_WM_SEQ_seq : Fd := ⟨LDG_WM_SEQ, 31, 0⟩
/-- LDG_SESSk_ID, offset 0x0100 of LDG. -/
def LDG_SESS_ID (k : Nat) : Rg := ⟨0x40070100 + 0x8 * k, 0x0⟩
def LDG_SESS_ID_id (k : Nat) : Fd := ⟨(LDG_SESS_ID k), 31, 0⟩
/-- LDG_SESSk_CFG, offset 0x0104 of LDG. -/
def LDG_SESS_CFG (k : Nat) : Rg := ⟨0x40070104 + 0x8 * k, 0x0⟩
def LDG_SESS_CFG_en (k : Nat) : Fd := ⟨(LDG_SESS_CFG k), 31, 31⟩
def LDG_SESS_CFG_spi (k : Nat) : Fd := ⟨(LDG_SESS_CFG k), 18, 18⟩
def LDG_SESS_CFG_bb1 (k : Nat) : Fd := ⟨(LDG_SESS_CFG k), 17, 17⟩
def LDG_SESS_CFG_bb0 (k : Nat) : Fd := ⟨(LDG_SESS_CFG k), 16, 16⟩
def LDG_SESS_CFG_query (k : Nat) : Fd := ⟨(LDG_SESS_CFG k), 10, 8⟩
/-- LDG_SELF_TKT, offset 0x0200 of LDG. -/
def LDG_SELF_TKT : Rg := ⟨0x40070200, 0x0⟩
def LDG_SELF_TKT_valid : Fd := ⟨LDG_SELF_TKT, 31, 31⟩
def LDG_SELF_TKT_length : Fd := ⟨LDG_SELF_TKT, 27, 22⟩
def LDG_SELF_TKT_track : Fd := ⟨LDG_SELF_TKT, 21, 13⟩
def LDG_SELF_TKT_handle : Fd := ⟨LDG_SELF_TKT, 12, 0⟩
/-- LDG_SELF_SEQ, offset 0x0204 of LDG. -/
def LDG_SELF_SEQ : Rg := ⟨0x40070204, 0x0⟩
def LDG_SELF_SEQ_seq : Fd := ⟨LDG_SELF_SEQ, 31, 0⟩
/-- LDG_SELF_PAYw, offset 0x0210 of LDG. -/
def LDG_SELF_PAY (w : Nat) : Rg := ⟨0x40070210 + 0x4 * w, 0x0⟩
def LDG_SELF_PAY_data (w : Nat) : Fd := ⟨(LDG_SELF_PAY w), 31, 0⟩
/-- LDG_TRKn_CFG, offset 0x1000 of LDG. -/
def LDG_TRK_CFG (n : Nat) : Rg := ⟨0x40071000 + 0x10 * n, 0x8000020⟩
def LDG_TRK_CFG_open (n : Nat) : Fd := ⟨(LDG_TRK_CFG n), 31, 31⟩
def LDG_TRK_CFG_safety (n : Nat) : Fd := ⟨(LDG_TRK_CFG n), 30, 30⟩
def LDG_TRK_CFG_depth (n : Nat) : Fd := ⟨(LDG_TRK_CFG n), 27, 24⟩
def LDG_TRK_CFG_credit (n : Nat) : Fd := ⟨(LDG_TRK_CFG n), 12, 0⟩
/-- LDG_TRKn_OWNERS, offset 0x1004 of LDG. -/
def LDG_TRK_OWNERS (n : Nat) : Rg := ⟨0x40071004 + 0x10 * n, 0x0⟩
def LDG_TRK_OWNERS_fenced (n : Nat) : Fd := ⟨(LDG_TRK_OWNERS n), 31, 31⟩
def LDG_TRK_OWNERS_held (n : Nat) : Fd := ⟨(LDG_TRK_OWNERS n), 28, 16⟩
def LDG_TRK_OWNERS_owners (n : Nat) : Fd := ⟨(LDG_TRK_OWNERS n), 15, 0⟩
/-- LDG_TRKn_NEXT, offset 0x1008 of LDG. -/
def LDG_TRK_NEXT (n : Nat) : Rg := ⟨0x40071008 + 0x10 * n, 0x1⟩
def LDG_TRK_NEXT_next (n : Nat) : Fd := ⟨(LDG_TRK_NEXT n), 31, 0⟩
/-- LDG_TRKn_FLOOR, offset 0x100c of LDG. -/
def LDG_TRK_FLOOR (n : Nat) : Rg := ⟨0x4007100c + 0x10 * n, 0x0⟩
def LDG_TRK_FLOOR_floor (n : Nat) : Fd := ⟨(LDG_TRK_FLOOR n), 31, 0⟩
/-- LDG_TKTh, offset 0x4000 of LDG. -/
def LDG_TKT (h : Nat) : Rg := ⟨0x40074000 + 0x4 * (h - 1), 0x0⟩
def LDG_TKT_state (h : Nat) : Fd := ⟨(LDG_TKT h), 31, 29⟩
def LDG_TKT_track (h : Nat) : Fd := ⟨(LDG_TKT h), 28, 20⟩
def LDG_TKT_ctx (h : Nat) : Fd := ⟨(LDG_TKT h), 18, 10⟩

end Sys2Proof.Machine.Reg
end

