-- ==== Sys2Proof/Machine/RegMapIo.lean ====
section
/-! DEFINITION. Register and field names of blocks PSW, LED, DIN, ACC, MTR, CAN, LIN: each register is its data-space address (R22 base + heading offset)
and its heading's reset value; each field is its bits in its register's table. -/
namespace Sys2Proof.Machine.Reg
open Sys2Proof

/-- PSW_CHc_CMD, offset 0x0000 of PSW. -/
def PSW_CH_CMD (c : Nat) : Rg := ⟨0x40100000 + 0x100 * c, 0x0⟩
def PSW_CH_CMD_value (c : Nat) : Fd := ⟨(PSW_CH_CMD c), 31, 16⟩
def PSW_CH_CMD_cmd (c : Nat) : Fd := ⟨(PSW_CH_CMD c), 15, 8⟩
/-- PSW_CHc_STATE, offset 0x0004 of PSW. -/
def PSW_CH_STATE (c : Nat) : Rg := ⟨0x40100004 + 0x100 * c, 0x0⟩
def PSW_CH_STATE_cmd (c : Nat) : Fd := ⟨(PSW_CH_STATE c), 31, 28⟩
def PSW_CH_STATE_value (c : Nat) : Fd := ⟨(PSW_CH_STATE c), 27, 15⟩
def PSW_CH_STATE_eff (c : Nat) : Fd := ⟨(PSW_CH_STATE c), 12, 0⟩
/-- PSW_CHc_ACK, offset 0x0008 of PSW. -/
def PSW_CH_ACK (c : Nat) : Rg := ⟨0x40100008 + 0x100 * c, 0x0⟩
def PSW_CH_ACK_outcome (c : Nat) : Fd := ⟨(PSW_CH_ACK c), 31, 30⟩
def PSW_CH_ACK_ticketed (c : Nat) : Fd := ⟨(PSW_CH_ACK c), 29, 29⟩
def PSW_CH_ACK_badcmd (c : Nat) : Fd := ⟨(PSW_CH_ACK c), 28, 28⟩
def PSW_CH_ACK_track (c : Nat) : Fd := ⟨(PSW_CH_ACK c), 24, 16⟩
def PSW_CH_ACK_count (c : Nat) : Fd := ⟨(PSW_CH_ACK c), 15, 0⟩
/-- PSW_CHc_ACKSEQ, offset 0x000c of PSW. -/
def PSW_CH_ACKSEQ (c : Nat) : Rg := ⟨0x4010000c + 0x100 * c, 0x0⟩
def PSW_CH_ACKSEQ_seq (c : Nat) : Fd := ⟨(PSW_CH_ACKSEQ c), 31, 0⟩
/-- PSW_CHc_CTRL, offset 0x0010 of PSW. -/
def PSW_CH_CTRL (c : Nat) : Rg := ⟨0x40100010 + 0x100 * c, 0x41⟩
def PSW_CH_CTRL_even (c : Nat) : Fd := ⟨(PSW_CH_CTRL c), 25, 17⟩
def PSW_CH_CTRL_dead (c : Nat) : Fd := ⟨(PSW_CH_CTRL c), 7, 4⟩
def PSW_CH_CTRL_slew (c : Nat) : Fd := ⟨(PSW_CH_CTRL c), 1, 0⟩
/-- PSW_CHc_PWM, offset 0x0014 of PSW. -/
def PSW_CH_PWM (c : Nat) : Rg := ⟨0x40100014 + 0x100 * c, 0x1388⟩
def PSW_CH_PWM_phase (c : Nat) : Fd := ⟨(PSW_CH_PWM c), 19, 16⟩
def PSW_CH_PWM_period (c : Nat) : Fd := ⟨(PSW_CH_PWM c), 15, 0⟩
/-- PSW_CHc_PROT, offset 0x0018 of PSW. -/
def PSW_CH_PROT (c : Nat) : Rg := ⟨0x40100018 + 0x100 * c, 0x7d0300⟩
def PSW_CH_PROT_knee (c : Nat) : Fd := ⟨(PSW_CH_PROT c), 23, 16⟩
def PSW_CH_PROT_restarts (c : Nat) : Fd := ⟨(PSW_CH_PROT c), 11, 8⟩
def PSW_CH_PROT_ilim (c : Nat) : Fd := ⟨(PSW_CH_PROT c), 5, 4⟩
/-- PSW_CHc_WIRE, offset 0x001c of PSW. -/
def PSW_CH_WIRE (c : Nat) : Rg := ⟨0x4010001c + 0x100 * c, resetWire c⟩
def PSW_CH_WIRE_tau (c : Nat) : Fd := ⟨(PSW_CH_WIRE c), 15, 8⟩
def PSW_CH_WIRE_itrip (c : Nat) : Fd := ⟨(PSW_CH_WIRE c), 7, 0⟩
/-- PSW_CHc_SAFE, offset 0x0020 of PSW. -/
def PSW_CH_SAFE (c : Nat) : Rg := ⟨0x40100020 + 0x100 * c, 0x1⟩
def PSW_CH_SAFE_lval (c : Nat) : Fd := ⟨(PSW_CH_SAFE c), 28, 16⟩
def PSW_CH_SAFE_lcmd (c : Nat) : Fd := ⟨(PSW_CH_SAFE c), 11, 8⟩
def PSW_CH_SAFE_sidelimp (c : Nat) : Fd := ⟨(PSW_CH_SAFE c), 2, 2⟩
def PSW_CH_SAFE_class (c : Nat) : Fd := ⟨(PSW_CH_SAFE c), 1, 0⟩
/-- PSW_CHc_DIAG, offset 0x0024 of PSW. -/
def PSW_CH_DIAG (c : Nat) : Rg := ⟨0x40100024 + 0x100 * c, 0x300⟩
def PSW_CH_DIAG_go (c : Nat) : Fd := ⟨(PSW_CH_DIAG c), 31, 31⟩
def PSW_CH_DIAG_result (c : Nat) : Fd := ⟨(PSW_CH_DIAG c), 27, 24⟩
def PSW_CH_DIAG_period (c : Nat) : Fd := ⟨(PSW_CH_DIAG c), 23, 16⟩
def PSW_CH_DIAG_settle (c : Nat) : Fd := ⟨(PSW_CH_DIAG c), 11, 8⟩
/-- PSW_CHc_SENSE, offset 0x0028 of PSW. -/
def PSW_CH_SENSE (c : Nat) : Rg := ⟨0x40100028 + 0x100 * c, 0x0⟩
def PSW_CH_SENSE_snap (c : Nat) : Fd := ⟨(PSW_CH_SENSE c), 31, 16⟩
def PSW_CH_SENSE_avg (c : Nat) : Fd := ⟨(PSW_CH_SENSE c), 15, 0⟩
/-- PSW_CHc_TEMP, offset 0x002c of PSW. -/
def PSW_CH_TEMP (c : Nat) : Rg := ⟨0x4010002c + 0x100 * c, 0x0⟩
def PSW_CH_TEMP_x (c : Nat) : Fd := ⟨(PSW_CH_TEMP c), 31, 16⟩
def PSW_CH_TEMP_tj (c : Nat) : Fd := ⟨(PSW_CH_TEMP c), 9, 0⟩
/-- PSW_CHc_STATUS, offset 0x0030 of PSW. -/
def PSW_CH_STATUS (c : Nat) : Rg := ⟨0x40100030 + 0x100 * c, 0x0⟩
def PSW_CH_STATUS_siding (c : Nat) : Fd := ⟨(PSW_CH_STATUS c), 31, 31⟩
def PSW_CH_STATUS_latch (c : Nat) : Fd := ⟨(PSW_CH_STATUS c), 30, 30⟩
def PSW_CH_STATUS_wire (c : Nat) : Fd := ⟨(PSW_CH_STATUS c), 29, 29⟩
def PSW_CH_STATUS_tsdwait (c : Nat) : Fd := ⟨(PSW_CH_STATUS c), 28, 28⟩
def PSW_CH_STATUS_ilim (c : Nat) : Fd := ⟨(PSW_CH_STATUS c), 27, 27⟩
def PSW_CH_STATUS_nosup (c : Nat) : Fd := ⟨(PSW_CH_STATUS c), 26, 26⟩
def PSW_CH_STATUS_limp (c : Nat) : Fd := ⟨(PSW_CH_STATUS c), 25, 25⟩
def PSW_CH_STATUS_lead (c : Nat) : Fd := ⟨(PSW_CH_STATUS c), 24, 24⟩
def PSW_CH_STATUS_follow (c : Nat) : Fd := ⟨(PSW_CH_STATUS c), 23, 23⟩
def PSW_CH_STATUS_restarts (c : Nat) : Fd := ⟨(PSW_CH_STATUS c), 19, 16⟩
def PSW_CH_STATUS_s_ilim (c : Nat) : Fd := ⟨(PSW_CH_STATUS c), 7, 7⟩
def PSW_CH_STATUS_s_tsd (c : Nat) : Fd := ⟨(PSW_CH_STATUS c), 6, 6⟩
def PSW_CH_STATUS_s_nosup (c : Nat) : Fd := ⟨(PSW_CH_STATUS c), 5, 5⟩
def PSW_CH_STATUS_s_cap (c : Nat) : Fd := ⟨(PSW_CH_STATUS c), 4, 4⟩
/-- PSW_DIEd_STATE, offset 0x20000 of PSW. -/
def PSW_DIE_STATE (d : Nat) : Rg := ⟨0x40120000 + 0x1000 * d, 0x80010000⟩
def PSW_DIE_STATE_state (d : Nat) : Fd := ⟨(PSW_DIE_STATE d), 31, 30⟩
def PSW_DIE_STATE_remain (d : Nat) : Fd := ⟨(PSW_DIE_STATE d), 29, 20⟩
def PSW_DIE_STATE_ovshut (d : Nat) : Fd := ⟨(PSW_DIE_STATE d), 19, 19⟩
def PSW_DIE_STATE_nosup1 (d : Nat) : Fd := ⟨(PSW_DIE_STATE d), 18, 18⟩
def PSW_DIE_STATE_nosup2 (d : Nat) : Fd := ⟨(PSW_DIE_STATE d), 17, 17⟩
def PSW_DIE_STATE_fresh (d : Nat) : Fd := ⟨(PSW_DIE_STATE d), 16, 16⟩
def PSW_DIE_STATE_silences (d : Nat) : Fd := ⟨(PSW_DIE_STATE d), 15, 0⟩
/-- PSW_DIEd_CFG, offset 0x20004 of PSW. -/
def PSW_DIE_CFG (d : Nat) : Rg := ⟨0x40120004 + 0x1000 * d, 0x51400c8⟩
def PSW_DIE_CFG_vref (d : Nat) : Fd := ⟨(PSW_DIE_CFG d), 26, 16⟩
def PSW_DIE_CFG_hold (d : Nat) : Fd := ⟨(PSW_DIE_CFG d), 9, 0⟩
/-- PSW_DIEd_CMD, offset 0x20008 of PSW. -/
def PSW_DIE_CMD (d : Nat) : Rg := ⟨0x40120008 + 0x1000 * d, 0x0⟩
def PSW_DIE_CMD_op (d : Nat) : Fd := ⟨(PSW_DIE_CMD d), 31, 28⟩
def PSW_DIE_CMD_ch (d : Nat) : Fd := ⟨(PSW_DIE_CMD d), 6, 0⟩
/-- PSW_DIEd_VBAT, offset 0x2000c of PSW. -/
def PSW_DIE_VBAT (d : Nat) : Rg := ⟨0x4012000c + 0x1000 * d, 0x0⟩
def PSW_DIE_VBAT_v3 (d : Nat) : Fd := ⟨(PSW_DIE_VBAT d), 29, 20⟩
def PSW_DIE_VBAT_v2 (d : Nat) : Fd := ⟨(PSW_DIE_VBAT d), 19, 10⟩
def PSW_DIE_VBAT_v1 (d : Nat) : Fd := ⟨(PSW_DIE_VBAT d), 9, 0⟩
/-- PSW_DIEd_PAR, offset 0x20010 of PSW. -/
def PSW_DIE_PAR (d : Nat) : Rg := ⟨0x40120010 + 0x1000 * d, 0x0⟩
def PSW_DIE_PAR_quad (d : Nat) : Fd := ⟨(PSW_DIE_PAR d), 25, 0⟩
/-- PSW_BUD_CFG, offset 0x30000 of PSW. -/
def PSW_BUD_CFG : Rg := ⟨0x40130000, 0x80000000⟩
def PSW_BUD_CFG_en : Fd := ⟨PSW_BUD_CFG, 31, 31⟩
def PSW_BUD_CFG_grp : Fd := ⟨PSW_BUD_CFG, 30, 30⟩
def PSW_BUD_CFG_ceiling : Fd := ⟨PSW_BUD_CFG, 15, 0⟩
/-- PSW_BUD_STATUS, offset 0x30004 of PSW. -/
def PSW_BUD_STATUS : Rg := ⟨0x40130004, 0x0⟩
def PSW_BUD_STATUS_exhausted : Fd := ⟨PSW_BUD_STATUS, 31, 31⟩
def PSW_BUD_STATUS_budget : Fd := ⟨PSW_BUD_STATUS, 30, 16⟩
def PSW_BUD_STATUS_est : Fd := ⟨PSW_BUD_STATUS, 14, 0⟩
/-- PSW_BUDc, offset 0x30100 of PSW. -/
def PSW_BUD (c : Nat) : Rg := ⟨0x40130100 + 0x4 * c, 0x84100000⟩
def PSW_BUD_prio (c : Nat) : Fd := ⟨(PSW_BUD c), 31, 30⟩
def PSW_BUD_floor (c : Nat) : Fd := ⟨(PSW_BUD c), 28, 24⟩
def PSW_BUD_cap (c : Nat) : Fd := ⟨(PSW_BUD c), 20, 16⟩
def PSW_BUD_est (c : Nat) : Fd := ⟨(PSW_BUD c), 15, 0⟩
/-- LED_Kk_SET, offset 0x0000 of LED. -/
def LED_K_SET (k : Nat) : Rg := ⟨0x40140000 + 0x10 * k, 0x0⟩
def LED_K_SET_cur (k : Nat) : Fd := ⟨(LED_K_SET k), 23, 16⟩
def LED_K_SET_duty (k : Nat) : Fd := ⟨(LED_K_SET k), 12, 0⟩
/-- LED_Kk_CFG, offset 0x0004 of LED. -/
def LED_K_CFG (k : Nat) : Rg := ⟨0x40140004 + 0x10 * k, 0x1⟩
def LED_K_CFG_ldut (k : Nat) : Fd := ⟨(LED_K_CFG k), 28, 16⟩
def LED_K_CFG_vsh (k : Nat) : Fd := ⟨(LED_K_CFG k), 7, 4⟩
def LED_K_CFG_shoff (k : Nat) : Fd := ⟨(LED_K_CFG k), 2, 2⟩
def LED_K_CFG_class (k : Nat) : Fd := ⟨(LED_K_CFG k), 1, 0⟩
/-- LED_Kk_STATUS, offset 0x0008 of LED. -/
def LED_K_STATUS (k : Nat) : Rg := ⟨0x40140008 + 0x10 * k, 0x0⟩
def LED_K_STATUS_column (k : Nat) : Fd := ⟨(LED_K_STATUS k), 31, 31⟩
def LED_K_STATUS_open (k : Nat) : Fd := ⟨(LED_K_STATUS k), 30, 30⟩
def LED_K_STATUS_short (k : Nat) : Fd := ⟨(LED_K_STATUS k), 29, 29⟩
def LED_K_STATUS_shut (k : Nat) : Fd := ⟨(LED_K_STATUS k), 28, 28⟩
def LED_K_STATUS_limp (k : Nat) : Fd := ⟨(LED_K_STATUS k), 27, 27⟩
def LED_K_STATUS_tsd (k : Nat) : Fd := ⟨(LED_K_STATUS k), 26, 26⟩
def LED_K_STATUS_s_open (k : Nat) : Fd := ⟨(LED_K_STATUS k), 9, 9⟩
def LED_K_STATUS_s_short (k : Nat) : Fd := ⟨(LED_K_STATUS k), 8, 8⟩
def LED_K_STATUS_ieff (k : Nat) : Fd := ⟨(LED_K_STATUS k), 7, 0⟩
/-- LED_DIEd_FREQ, offset 0x0400 of LED. -/
def LED_DIE_FREQ (d : Nat) : Rg := ⟨0x40140400 + 0x20 * d, 0x3e803e8⟩
def LED_DIE_FREQ_f1 (d : Nat) : Fd := ⟨(LED_DIE_FREQ d), 30, 16⟩
def LED_DIE_FREQ_f0 (d : Nat) : Fd := ⟨(LED_DIE_FREQ d), 14, 0⟩
/-- LED_DIEd_DERATE, offset 0x0404 of LED. -/
def LED_DIE_DERATE (d : Nat) : Rg := ⟨0x40140404 + 0x20 * d, 0x6e1e04⟩
def LED_DIE_DERATE_knee (d : Nat) : Fd := ⟨(LED_DIE_DERATE d), 23, 16⟩
def LED_DIE_DERATE_span (d : Nat) : Fd := ⟨(LED_DIE_DERATE d), 13, 8⟩
def LED_DIE_DERATE_dmin (d : Nat) : Fd := ⟨(LED_DIE_DERATE d), 3, 0⟩
/-- LED_Pp_CMD, offset 0x1000 of LED. -/
def LED_P_CMD (p : Nat) : Rg := ⟨0x40141000 + 0x100 * p, 0x0⟩
def LED_P_CMD_value (p : Nat) : Fd := ⟨(LED_P_CMD p), 31, 16⟩
def LED_P_CMD_cmd (p : Nat) : Fd := ⟨(LED_P_CMD p), 15, 8⟩
/-- LED_Pp_ACK, offset 0x1004 of LED. -/
def LED_P_ACK (p : Nat) : Rg := ⟨0x40141004 + 0x100 * p, 0x0⟩
def LED_P_ACK_outcome (p : Nat) : Fd := ⟨(LED_P_ACK p), 31, 30⟩
def LED_P_ACK_ticketed (p : Nat) : Fd := ⟨(LED_P_ACK p), 29, 29⟩
def LED_P_ACK_badcmd (p : Nat) : Fd := ⟨(LED_P_ACK p), 28, 28⟩
def LED_P_ACK_track (p : Nat) : Fd := ⟨(LED_P_ACK p), 24, 16⟩
def LED_P_ACK_count (p : Nat) : Fd := ⟨(LED_P_ACK p), 15, 0⟩
/-- LED_Pp_ACKSEQ, offset 0x1008 of LED. -/
def LED_P_ACKSEQ (p : Nat) : Rg := ⟨0x40141008 + 0x100 * p, 0x0⟩
def LED_P_ACKSEQ_seq (p : Nat) : Fd := ⟨(LED_P_ACKSEQ p), 31, 0⟩
/-- LED_Pp_STATUS, offset 0x100c of LED. -/
def LED_P_STATUS (p : Nat) : Rg := ⟨0x4014100c + 0x100 * p, 0x0⟩
def LED_P_STATUS_siding (p : Nat) : Fd := ⟨(LED_P_STATUS p), 31, 31⟩
def LED_P_STATUS_active (p : Nat) : Fd := ⟨(LED_P_STATUS p), 30, 30⟩
def LED_P_STATUS_pend (p : Nat) : Fd := ⟨(LED_P_STATUS p), 29, 29⟩
def LED_P_STATUS_retiring (p : Nat) : Fd := ⟨(LED_P_STATUS p), 28, 28⟩
def LED_P_STATUS_limp (p : Nat) : Fd := ⟨(LED_P_STATUS p), 27, 27⟩
def LED_P_STATUS_front (p : Nat) : Fd := ⟨(LED_P_STATUS p), 26, 26⟩
def LED_P_STATUS_count (p : Nat) : Fd := ⟨(LED_P_STATUS p), 23, 8⟩
def LED_P_STATUS_s_lostw (p : Nat) : Fd := ⟨(LED_P_STATUS p), 7, 7⟩
def LED_P_STATUS_s_comb (p : Nat) : Fd := ⟨(LED_P_STATUS p), 6, 6⟩
def LED_P_STATUS_s_fsto (p : Nat) : Fd := ⟨(LED_P_STATUS p), 5, 5⟩
def LED_P_STATUS_s_ecc (p : Nat) : Fd := ⟨(LED_P_STATUS p), 4, 4⟩
def LED_P_STATUS_s_miss (p : Nat) : Fd := ⟨(LED_P_STATUS p), 3, 3⟩
/-- LED_Pp_EVEN, offset 0x101c of LED. -/
def LED_P_EVEN (p : Nat) : Rg := ⟨0x4014101c + 0x100 * p, 0x0⟩
def LED_P_EVEN_even (p : Nat) : Fd := ⟨(LED_P_EVEN p), 8, 1⟩
/-- LED_Mm_CFG, offset 0x1010 of LED. -/
def LED_M_CFG (m : Nat) : Rg := ⟨0x40141010 + 0x100 * m, 0x70fa0c01⟩
def LED_M_CFG_lines (m : Nat) : Fd := ⟨(LED_M_CFG m), 30, 28⟩
def LED_M_CFG_tl (m : Nat) : Fd := ⟨(LED_M_CFG m), 25, 16⟩
def LED_M_CFG_blank (m : Nat) : Fd := ⟨(LED_M_CFG m), 13, 8⟩
def LED_M_CFG_ldim (m : Nat) : Fd := ⟨(LED_M_CFG m), 7, 4⟩
def LED_M_CFG_class (m : Nat) : Fd := ⟨(LED_M_CFG m), 1, 0⟩
/-- LED_Fn_CFG, offset 0x1210 of LED. -/
def LED_F_CFG (n : Nat) : Rg := ⟨0x40141210 + 0x100 * n, 0x0⟩
def LED_F_CFG_fsto (n : Nat) : Fd := ⟨(LED_F_CFG n), 31, 16⟩
def LED_F_CFG_sync (n : Nat) : Fd := ⟨(LED_F_CFG n), 0, 0⟩
/-- LED_Fn_PAGE, offset 0x1214 of LED. -/
def LED_F_PAGE (n : Nat) : Rg := ⟨0x40141214 + 0x100 * n, 0x0⟩
def LED_F_PAGE_front (n : Nat) : Fd := ⟨(LED_F_PAGE n), 8, 8⟩
def LED_F_PAGE_page (n : Nat) : Fd := ⟨(LED_F_PAGE n), 1, 0⟩
/-- LED_Sk_CFG, offset 0x1410 of LED. -/
def LED_S_CFG (k : Nat) : Rg := ⟨0x40141410 + 0x100 * k, 0x40000⟩
def LED_S_CFG_src (k : Nat) : Fd := ⟨(LED_S_CFG k), 31, 31⟩
def LED_S_CFG_start (k : Nat) : Fd := ⟨(LED_S_CFG k), 30, 30⟩
def LED_S_CFG_latch (k : Nat) : Fd := ⟨(LED_S_CFG k), 29, 28⟩
def LED_S_CFG_ret (k : Nat) : Fd := ⟨(LED_S_CFG k), 27, 27⟩
def LED_S_CFG_latw (k : Nat) : Fd := ⟨(LED_S_CFG k), 23, 16⟩
def LED_S_CFG_div (k : Nat) : Fd := ⟨(LED_S_CFG k), 7, 0⟩
/-- LED_Sk_LEN, offset 0x1414 of LED. -/
def LED_S_LEN (k : Nat) : Rg := ⟨0x40141414 + 0x100 * k, 0x0⟩
def LED_S_LEN_len (k : Nat) : Fd := ⟨(LED_S_LEN k), 15, 0⟩
/-- LED_Sk_RB, offset 0x1418 of LED. -/
def LED_S_RB (k : Nat) : Rg := ⟨0x40141418 + 0x100 * k, 0x0⟩
def LED_S_RB_done (k : Nat) : Fd := ⟨(LED_S_RB k), 31, 31⟩
def LED_S_RB_match (k : Nat) : Fd := ⟨(LED_S_RB k), 30, 30⟩
def LED_S_RB_misses (k : Nat) : Fd := ⟨(LED_S_RB k), 1, 0⟩
/-- DIN_LEVELw, offset 0x0000 of DIN. -/
def DIN_LEVEL (w : Nat) : Rg := ⟨0x40150000 + 0x4 * w, 0x0⟩
def DIN_LEVEL_level (w : Nat) : Fd := ⟨(DIN_LEVEL w), 31, 0⟩
/-- DIN_FAULTw, offset 0x000c of DIN. -/
def DIN_FAULT (w : Nat) : Rg := ⟨0x4015000c + 0x4 * w, 0x0⟩
def DIN_FAULT_fault (w : Nat) : Fd := ⟨(DIN_FAULT w), 31, 0⟩
/-- DIN_STATUS, offset 0x0018 of DIN. -/
def DIN_STATUS : Rg := ⟨0x40150018, 0x0⟩
def DIN_STATUS_mira : Fd := ⟨DIN_STATUS, 31, 31⟩
def DIN_STATUS_mirb : Fd := ⟨DIN_STATUS, 30, 30⟩
def DIN_STATUS_qb : Fd := ⟨DIN_STATUS, 13, 8⟩
def DIN_STATUS_qa : Fd := ⟨DIN_STATUS, 5, 0⟩
/-- DIN_ADCGO, offset 0x001c of DIN. -/
def DIN_ADCGO : Rg := ⟨0x4015001c, 0x0⟩
def DIN_ADCGO_input : Fd := ⟨DIN_ADCGO, 6, 0⟩
/-- DIN_INi_CFG, offset 0x0100 of DIN. -/
def DIN_IN_CFG (i : Nat) : Rg := ⟨0x40150100 + 0x20 * i, 0x0⟩
def DIN_IN_CFG_en (i : Nat) : Fd := ⟨(DIN_IN_CFG i), 31, 31⟩
def DIN_IN_CFG_pol (i : Nat) : Fd := ⟨(DIN_IN_CFG i), 30, 30⟩
def DIN_IN_CFG_thr (i : Nat) : Fd := ⟨(DIN_IN_CFG i), 29, 28⟩
def DIN_IN_CFG_diag (i : Nat) : Fd := ⟨(DIN_IN_CFG i), 27, 27⟩
def DIN_IN_CFG_wake (i : Nat) : Fd := ⟨(DIN_IN_CFG i), 26, 26⟩
def DIN_IN_CFG_wedge (i : Nat) : Fd := ⟨(DIN_IN_CFG i), 25, 24⟩
def DIN_IN_CFG_even (i : Nat) : Fd := ⟨(DIN_IN_CFG i), 20, 16⟩
def DIN_IN_CFG_aper (i : Nat) : Fd := ⟨(DIN_IN_CFG i), 15, 8⟩
/-- DIN_INi_WET, offset 0x0104 of DIN. -/
def DIN_IN_WET (i : Nat) : Rg := ⟨0x40150104 + 0x20 * i, 0x8a040010⟩
def DIN_IN_WET_mode (i : Nat) : Fd := ⟨(DIN_IN_WET i), 31, 31⟩
def DIN_IN_WET_cur (i : Nat) : Fd := ⟨(DIN_IN_WET i), 27, 24⟩
def DIN_IN_WET_width (i : Nat) : Fd := ⟨(DIN_IN_WET i), 19, 16⟩
def DIN_IN_WET_per (i : Nat) : Fd := ⟨(DIN_IN_WET i), 7, 0⟩
/-- DIN_INi_DB, offset 0x0108 of DIN. -/
def DIN_IN_DB (i : Nat) : Rg := ⟨0x40150108 + 0x20 * i, 0x3e8⟩
def DIN_IN_DB_db (i : Nat) : Fd := ⟨(DIN_IN_DB i), 15, 0⟩
/-- DIN_INi_PARK, offset 0x010c of DIN. -/
def DIN_IN_PARK (i : Nat) : Rg := ⟨0x4015010c + 0x20 * i, 0xa040240⟩
def DIN_IN_PARK_cur (i : Nat) : Fd := ⟨(DIN_IN_PARK i), 27, 24⟩
def DIN_IN_PARK_width (i : Nat) : Fd := ⟨(DIN_IN_PARK i), 19, 16⟩
def DIN_IN_PARK_n (i : Nat) : Fd := ⟨(DIN_IN_PARK i), 11, 8⟩
def DIN_IN_PARK_per (i : Nat) : Fd := ⟨(DIN_IN_PARK i), 7, 0⟩
/-- DIN_INi_ADC, offset 0x0110 of DIN. -/
def DIN_IN_ADC (i : Nat) : Rg := ⟨0x40150110 + 0x20 * i, 0x0⟩
def DIN_IN_ADC_valid (i : Nat) : Fd := ⟨(DIN_IN_ADC i), 31, 31⟩
def DIN_IN_ADC_wet (i : Nat) : Fd := ⟨(DIN_IN_ADC i), 30, 30⟩
def DIN_IN_ADC_seq (i : Nat) : Fd := ⟨(DIN_IN_ADC i), 23, 16⟩
def DIN_IN_ADC_code (i : Nat) : Fd := ⟨(DIN_IN_ADC i), 11, 0⟩
/-- DIN_INi_STATUS, offset 0x0114 of DIN. -/
def DIN_IN_STATUS (i : Nat) : Rg := ⟨0x40150114 + 0x20 * i, 0x0⟩
def DIN_IN_STATUS_level (i : Nat) : Fd := ⟨(DIN_IN_STATUS i), 31, 31⟩
def DIN_IN_STATUS_raw (i : Nat) : Fd := ⟨(DIN_IN_STATUS i), 30, 30⟩
def DIN_IN_STATUS_line (i : Nat) : Fd := ⟨(DIN_IN_STATUS i), 29, 28⟩
def DIN_IN_STATUS_s_fault (i : Nat) : Fd := ⟨(DIN_IN_STATUS i), 27, 27⟩
def DIN_IN_STATUS_chg (i : Nat) : Fd := ⟨(DIN_IN_STATUS i), 15, 0⟩
/-- ACC_CFG, offset 0x0000 of ACC. -/
def ACC_CFG : Rg := ⟨0x40160000, 0x107f0000⟩
def ACC_CFG_en : Fd := ⟨ACC_CFG, 31, 31⟩
def ACC_CFG_btnrange : Fd := ⟨ACC_CFG, 30, 30⟩
def ACC_CFG_btnwake : Fd := ⟨ACC_CFG, 29, 29⟩
def ACC_CFG_doorlvl : Fd := ⟨ACC_CFG, 28, 28⟩
def ACC_CFG_doorin : Fd := ⟨ACC_CFG, 22, 16⟩
/-- ACC_STATUS, offset 0x0004 of ACC. -/
def ACC_STATUS : Rg := ⟨0x40160004, 0x0⟩
def ACC_STATUS_state : Fd := ⟨ACC_STATUS, 31, 30⟩
def ACC_STATUS_pstop : Fd := ⟨ACC_STATUS, 29, 29⟩
def ACC_STATUS_cand : Fd := ⟨ACC_STATUS, 28, 28⟩
def ACC_STATUS_failcnt : Fd := ⟨ACC_STATUS, 21, 19⟩
def ACC_STATUS_lockm : Fd := ⟨ACC_STATUS, 18, 16⟩
def ACC_STATUS_remain : Fd := ⟨ACC_STATUS, 11, 0⟩
/-- ACC_CMD, offset 0x0008 of ACC. -/
def ACC_CMD : Rg := ⟨0x40160008, 0x0⟩
def ACC_CMD_op : Fd := ⟨ACC_CMD, 31, 28⟩
def ACC_CMD_arg : Fd := ⟨ACC_CMD, 3, 0⟩
/-- ACC_POLL, offset 0x000c of ACC. -/
def ACC_POLL : Rg := ⟨0x4016000c, 0xf30e00fa⟩
def ACC_POLL_amask : Fd := ⟨ACC_POLL, 31, 28⟩
def ACC_POLL_probelen : Fd := ⟨ACC_POLL, 27, 22⟩
def ACC_POLL_stopdays : Fd := ⟨ACC_POLL, 21, 16⟩
def ACC_POLL_per : Fd := ⟨ACC_POLL, 15, 0⟩
/-- ACC_LFa, offset 0x0010 of ACC. -/
def ACC_LF (a : Nat) : Rg := ⟨0x40160010 + 0x4 * a, 0x140000⟩
def ACC_LF_en (a : Nat) : Fd := ⟨(ACC_LF a), 31, 31⟩
def ACC_LF_auth (a : Nat) : Fd := ⟨(ACC_LF a), 30, 30⟩
def ACC_LF_cur (a : Nat) : Fd := ⟨(ACC_LF a), 23, 16⟩
def ACC_LF_wakeid (a : Nat) : Fd := ⟨(ACC_LF a), 15, 0⟩
/-- ACC_RNG_CFG, offset 0x0020 of ACC. -/
def ACC_RNG_CFG : Rg := ⟨0x40160020, 0x18140000⟩
def ACC_RNG_CFG_div : Fd := ⟨ACC_RNG_CFG, 31, 24⟩
def ACC_RNG_CFG_win : Fd := ⟨ACC_RNG_CFG, 23, 16⟩
def ACC_RNG_CFG_cal : Fd := ⟨ACC_RNG_CFG, 15, 0⟩
/-- ACC_RNG_BOUND, offset 0x0024 of ACC. -/
def ACC_RNG_BOUND : Rg := ⟨0x40160024, 0x80000fa⟩
def ACC_RNG_BOUND_early : Fd := ⟨ACC_RNG_BOUND, 31, 24⟩
def ACC_RNG_BOUND_bound : Fd := ⟨ACC_RNG_BOUND, 15, 0⟩
/-- ACC_LAST, offset 0x0028 of ACC. -/
def ACC_LAST : Rg := ⟨0x40160028, 0x0⟩
def ACC_LAST_verdict : Fd := ⟨ACC_LAST, 31, 28⟩
def ACC_LAST_key : Fd := ⟨ACC_LAST, 27, 25⟩
def ACC_LAST_button : Fd := ⟨ACC_LAST, 24, 24⟩
def ACC_LAST_ant : Fd := ⟨ACC_LAST, 23, 22⟩
def ACC_LAST_cmd : Fd := ⟨ACC_LAST, 15, 8⟩
def ACC_LAST_count : Fd := ⟨ACC_LAST, 7, 0⟩
/-- ACC_LAST_RNG, offset 0x002c of ACC. -/
def ACC_LAST_RNG : Rg := ⟨0x4016002c, 0x0⟩
def ACC_LAST_RNG_dist : Fd := ⟨ACC_LAST_RNG, 31, 16⟩
def ACC_LAST_RNG_excess : Fd := ⟨ACC_LAST_RNG, 15, 0⟩
/-- ACC_SESSx, offset 0x0030 of ACC. -/
def ACC_SESS (x : Nat) : Rg := ⟨0x40160030 + 0x4 * x, 0x0⟩
def ACC_SESS_active (x : Nat) : Fd := ⟨(ACC_SESS x), 31, 31⟩
def ACC_SESS_key (x : Nat) : Fd := ⟨(ACC_SESS x), 30, 28⟩
def ACC_SESS_why (x : Nat) : Fd := ⟨(ACC_SESS x), 27, 26⟩
def ACC_SESS_remain (x : Nat) : Fd := ⟨(ACC_SESS x), 9, 0⟩
/-- ACC_SESS_TMO, offset 0x0038 of ACC. -/
def ACC_SESS_TMO : Rg := ⟨0x40160038, 0x1e001e⟩
def ACC_SESS_TMO_drive : Fd := ⟨ACC_SESS_TMO, 31, 16⟩
def ACC_SESS_TMO_entry : Fd := ⟨ACC_SESS_TMO, 15, 0⟩
/-- ACC_PARKED, offset 0x003c of ACC. -/
def ACC_PARKED : Rg := ⟨0x4016003c, 0⟩
def ACC_PARKED_min : Fd := ⟨ACC_PARKED, 31, 0⟩
/-- ACC_EVEN, offset 0x0040 of ACC. -/
def ACC_EVEN : Rg := ⟨0x40160040, 0x0⟩
def ACC_EVEN_even : Fd := ⟨ACC_EVEN, 7, 1⟩
/-- ACC_KEYk_ID, offset 0x0100 of ACC. -/
def ACC_KEY_ID (k : Nat) : Rg := ⟨0x40160100 + 0x10 * k, 0⟩
def ACC_KEY_ID_id (k : Nat) : Fd := ⟨(ACC_KEY_ID k), 31, 0⟩
/-- ACC_KEYk_CTL, offset 0x0104 of ACC. -/
def ACC_KEY_CTL (k : Nat) : Rg := ⟨0x40160104 + 0x10 * k, 0⟩
def ACC_KEY_CTL_en (k : Nat) : Fd := ⟨(ACC_KEY_CTL k), 31, 31⟩
def ACC_KEY_CTL_cand (k : Nat) : Fd := ⟨(ACC_KEY_CTL k), 30, 30⟩
/-- ACC_KEYk_CNT, offset 0x0108 of ACC. -/
def ACC_KEY_CNT (k : Nat) : Rg := ⟨0x40160108 + 0x10 * k, 0⟩
def ACC_KEY_CNT_c (k : Nat) : Fd := ⟨(ACC_KEY_CNT k), 31, 0⟩
/-- MTR_STATUS, offset 0x0000 of MTR. -/
def MTR_STATUS : Rg := ⟨0x40170000, Config.mtrStatus⟩
def MTR_STATUS_present : Fd := ⟨MTR_STATUS, 31, 31⟩
def MTR_STATUS_link : Fd := ⟨MTR_STATUS, 30, 30⟩
def MTR_STATUS_sealed : Fd := ⟨MTR_STATUS, 29, 29⟩
def MTR_STATUS_grid : Fd := ⟨MTR_STATUS, 28, 28⟩
def MTR_STATUS_fault : Fd := ⟨MTR_STATUS, 27, 27⟩
def MTR_STATUS_linkloss : Fd := ⟨MTR_STATUS, 15, 8⟩
def MTR_STATUS_s_lostreq : Fd := ⟨MTR_STATUS, 0, 0⟩
/-- MTR_REQ, offset 0x0004 of MTR. -/
def MTR_REQ : Rg := ⟨0x40170004, 0x0⟩
def MTR_REQ_op : Fd := ⟨MTR_REQ, 31, 28⟩
def MTR_REQ_arg : Fd := ⟨MTR_REQ, 15, 0⟩
/-- MTR_NONCE_LO, offset 0x0008 of MTR. -/
def MTR_NONCE_LO : Rg := ⟨0x40170008, 0x0⟩
def MTR_NONCE_LO_lo : Fd := ⟨MTR_NONCE_LO, 31, 0⟩
/-- MTR_NONCE_HI, offset 0x000c of MTR. -/
def MTR_NONCE_HI : Rg := ⟨0x4017000c, 0x0⟩
def MTR_NONCE_HI_hi : Fd := ⟨MTR_NONCE_HI, 31, 0⟩
/-- MTR_RESULT, offset 0x0010 of MTR. -/
def MTR_RESULT : Rg := ⟨0x40170010, 0x0⟩
def MTR_RESULT_busy : Fd := ⟨MTR_RESULT, 31, 31⟩
def MTR_RESULT_code : Fd := ⟨MTR_RESULT, 27, 24⟩
def MTR_RESULT_seq : Fd := ⟨MTR_RESULT, 23, 16⟩
def MTR_RESULT_length : Fd := ⟨MTR_RESULT, 8, 0⟩
/-- MTR_EVEN, offset 0x0020 of MTR. -/
def MTR_EVEN : Rg := ⟨0x40170020, 0x0⟩
def MTR_EVEN_even : Fd := ⟨MTR_EVEN, 5, 1⟩
/-- MTR_RESPw, offset 0x0100 of MTR. -/
def MTR_RESP (w : Nat) : Rg := ⟨0x40170100 + 0x4 * w, 0x0⟩
def MTR_RESP_data (w : Nat) : Fd := ⟨(MTR_RESP w), 31, 0⟩
/-- CAN_CTRL, offset 0x0000 of CAN. -/
def CAN_CTRL (u : Nat) : Rg := ⟨0x40200000 + 0x10000 * u, 0xa0000000⟩
def CAN_CTRL_fd (u : Nat) : Fd := ⟨(CAN_CTRL u), 31, 31⟩
def CAN_CTRL_tdc (u : Nat) : Fd := ⟨(CAN_CTRL u), 29, 29⟩
def CAN_CTRL_loop (u : Nat) : Fd := ⟨(CAN_CTRL u), 28, 28⟩
def CAN_CTRL_mode (u : Nat) : Fd := ⟨(CAN_CTRL u), 27, 26⟩
def CAN_CTRL_tt (u : Nat) : Fd := ⟨(CAN_CTRL u), 25, 24⟩
def CAN_CTRL_nomatch (u : Nat) : Fd := ⟨(CAN_CTRL u), 23, 22⟩
def CAN_CTRL_autorj (u : Nat) : Fd := ⟨(CAN_CTRL u), 21, 21⟩
/-- CAN_CMD, offset 0x0004 of CAN. -/
def CAN_CMD (u : Nat) : Rg := ⟨0x40200004 + 0x10000 * u, 0x0⟩
def CAN_CMD_op (u : Nat) : Fd := ⟨(CAN_CMD u), 31, 28⟩
/-- CAN_CMD_RESULT, offset 0x0008 of CAN. -/
def CAN_CMD_RESULT (u : Nat) : Rg := ⟨0x40200008 + 0x10000 * u, 0x0⟩
def CAN_CMD_RESULT_busy (u : Nat) : Fd := ⟨(CAN_CMD_RESULT u), 31, 31⟩
def CAN_CMD_RESULT_seq (u : Nat) : Fd := ⟨(CAN_CMD_RESULT u), 15, 8⟩
def CAN_CMD_RESULT_code (u : Nat) : Fd := ⟨(CAN_CMD_RESULT u), 3, 0⟩
/-- CAN_STATUS, offset 0x000c of CAN. -/
def CAN_STATUS (u : Nat) : Rg := ⟨0x4020000c + 0x10000 * u, 0x0⟩
def CAN_STATUS_state (u : Nat) : Fd := ⟨(CAN_STATUS u), 31, 29⟩
def CAN_STATUS_cause (u : Nat) : Fd := ⟨(CAN_STATUS u), 28, 27⟩
def CAN_STATUS_recov (u : Nat) : Fd := ⟨(CAN_STATUS u), 26, 26⟩
def CAN_STATUS_tec (u : Nat) : Fd := ⟨(CAN_STATUS u), 25, 17⟩
def CAN_STATUS_rec (u : Nat) : Fd := ⟨(CAN_STATUS u), 16, 9⟩
def CAN_STATUS_lec (u : Nat) : Fd := ⟨(CAN_STATUS u), 8, 5⟩
def CAN_STATUS_dphase (u : Nat) : Fd := ⟨(CAN_STATUS u), 4, 4⟩
def CAN_STATUS_s_lostw (u : Nat) : Fd := ⟨(CAN_STATUS u), 3, 3⟩
def CAN_STATUS_s_txto (u : Nat) : Fd := ⟨(CAN_STATUS u), 2, 2⟩
/-- CAN_ERRCNT, offset 0x0010 of CAN. -/
def CAN_ERRCNT (u : Nat) : Rg := ⟨0x40200010 + 0x10000 * u, 0x0⟩
def CAN_ERRCNT_txerr (u : Nat) : Fd := ⟨(CAN_ERRCNT u), 31, 16⟩
def CAN_ERRCNT_rxerr (u : Nat) : Fd := ⟨(CAN_ERRCNT u), 15, 0⟩
/-- CAN_NBT, offset 0x0014 of CAN. -/
def CAN_NBT (u : Nat) : Rg := ⟨0x40200014 + 0x10000 * u, 0xfc0f9f⟩
def CAN_NBT_brp (u : Nat) : Fd := ⟨(CAN_NBT u), 31, 27⟩
def CAN_NBT_tseg1 (u : Nat) : Fd := ⟨(CAN_NBT u), 24, 17⟩
def CAN_NBT_tseg2 (u : Nat) : Fd := ⟨(CAN_NBT u), 13, 7⟩
def CAN_NBT_sjw (u : Nat) : Fd := ⟨(CAN_NBT u), 6, 0⟩
/-- CAN_DBT, offset 0x0018 of CAN. -/
def CAN_DBT (u : Nat) : Rg := ⟨0x40200018 + 0x10000 * u, 0x1e1c99⟩
def CAN_DBT_brp (u : Nat) : Fd := ⟨(CAN_DBT u), 31, 27⟩
def CAN_DBT_tdco (u : Nat) : Fd := ⟨(CAN_DBT u), 23, 16⟩
def CAN_DBT_tseg1 (u : Nat) : Fd := ⟨(CAN_DBT u), 12, 8⟩
def CAN_DBT_tseg2 (u : Nat) : Fd := ⟨(CAN_DBT u), 7, 4⟩
def CAN_DBT_sjw (u : Nat) : Fd := ⟨(CAN_DBT u), 3, 0⟩
/-- CAN_RAMx, offset 0x0020 of CAN. -/
def CAN_RAM (u x : Nat) : Rg := ⟨0x40200020 + 0x10000 * u + 0x4 * x, resetCanRam x⟩
def CAN_RAM_dsz (u x : Nat) : Fd := ⟨(CAN_RAM u x), 30, 28⟩
def CAN_RAM_count (u x : Nat) : Fd := ⟨(CAN_RAM u x), 24, 16⟩
def CAN_RAM_start (u x : Nat) : Fd := ⟨(CAN_RAM u x), 12, 0⟩
/-- CAN_RAM_TT, offset 0x0030 of CAN. -/
def CAN_RAM_TT (u : Nat) : Rg := ⟨0x40200030 + 0x10000 * u, 0x1340⟩
def CAN_RAM_TT_start (u : Nat) : Fd := ⟨(CAN_RAM_TT u), 12, 0⟩
/-- CAN_PLx_STATUS, offset 0x0040 of CAN. -/
def CAN_PL_STATUS (u x : Nat) : Rg := ⟨0x40200040 + 0x10000 * u + 0x8 * x, 0x0⟩
def CAN_PL_STATUS_drop (u x : Nat) : Fd := ⟨(CAN_PL_STATUS u x), 31, 24⟩
def CAN_PL_STATUS_get (u x : Nat) : Fd := ⟨(CAN_PL_STATUS u x), 23, 16⟩
def CAN_PL_STATUS_fill (u x : Nat) : Fd := ⟨(CAN_PL_STATUS u x), 8, 0⟩
/-- CAN_PLx_ACK, offset 0x0044 of CAN. -/
def CAN_PL_ACK (u x : Nat) : Rg := ⟨0x40200044 + 0x10000 * u + 0x8 * x, 0x0⟩
def CAN_PL_ACK_n (u x : Nat) : Fd := ⟨(CAN_PL_ACK u x), 8, 0⟩
/-- CAN_OBJ_STATUS, offset 0x0050 of CAN. -/
def CAN_OBJ_STATUS (u : Nat) : Rg := ⟨0x40200050 + 0x10000 * u, 0x0⟩
def CAN_OBJ_STATUS_drop (u : Nat) : Fd := ⟨(CAN_OBJ_STATUS u), 31, 16⟩
def CAN_OBJ_STATUS_used (u : Nat) : Fd := ⟨(CAN_OBJ_STATUS u), 8, 0⟩
/-- CAN_OBJ_ACK, offset 0x0054 of CAN. -/
def CAN_OBJ_ACK (u : Nat) : Rg := ⟨0x40200054 + 0x10000 * u, 0x0⟩
def CAN_OBJ_ACK_free (u : Nat) : Fd := ⟨(CAN_OBJ_ACK u), 31, 31⟩
def CAN_OBJ_ACK_cnt (u : Nat) : Fd := ⟨(CAN_OBJ_ACK u), 23, 16⟩
def CAN_OBJ_ACK_index (u : Nat) : Fd := ⟨(CAN_OBJ_ACK u), 7, 0⟩
/-- CAN_TXREQ, offset 0x0060 of CAN. -/
def CAN_TXREQ (u : Nat) : Rg := ⟨0x40200060 + 0x10000 * u, 0x0⟩
def CAN_TXREQ_buffer (u : Nat) : Fd := ⟨(CAN_TXREQ u), 5, 0⟩
/-- CAN_TXCANCEL, offset 0x0064 of CAN. -/
def CAN_TXCANCEL (u : Nat) : Rg := ⟨0x40200064 + 0x10000 * u, 0x0⟩
def CAN_TXCANCEL_buffer (u : Nat) : Fd := ⟨(CAN_TXCANCEL u), 5, 0⟩
/-- CAN_TXACK, offset 0x0068 of CAN. -/
def CAN_TXACK (u : Nat) : Rg := ⟨0x40200068 + 0x10000 * u, 0x0⟩
def CAN_TXACK_outcome (u : Nat) : Fd := ⟨(CAN_TXACK u), 31, 30⟩
def CAN_TXACK_ticketed (u : Nat) : Fd := ⟨(CAN_TXACK u), 29, 29⟩
def CAN_TXACK_badreq (u : Nat) : Fd := ⟨(CAN_TXACK u), 28, 28⟩
def CAN_TXACK_cres (u : Nat) : Fd := ⟨(CAN_TXACK u), 27, 26⟩
def CAN_TXACK_track (u : Nat) : Fd := ⟨(CAN_TXACK u), 24, 16⟩
def CAN_TXACK_count (u : Nat) : Fd := ⟨(CAN_TXACK u), 15, 0⟩
/-- CAN_TXACKSEQ, offset 0x006c of CAN. -/
def CAN_TXACKSEQ (u : Nat) : Rg := ⟨0x4020006c + 0x10000 * u, 0x0⟩
def CAN_TXACKSEQ_seq (u : Nat) : Fd := ⟨(CAN_TXACKSEQ u), 31, 0⟩
/-- CAN_TXPENDw, offset 0x0070 of CAN. -/
def CAN_TXPEND (u w : Nat) : Rg := ⟨0x40200070 + 0x10000 * u + 0x4 * w, 0x0⟩
def CAN_TXPEND_pend (u w : Nat) : Fd := ⟨(CAN_TXPEND u w), 31, 0⟩
/-- CAN_TXDONEw, offset 0x0078 of CAN. -/
def CAN_TXDONE (u w : Nat) : Rg := ⟨0x40200078 + 0x10000 * u + 0x4 * w, 0x0⟩
def CAN_TXDONE_done (u w : Nat) : Fd := ⟨(CAN_TXDONE u w), 31, 0⟩
/-- CAN_DUP_CFG, offset 0x0080 of CAN. -/
def CAN_DUP_CFG (u : Nat) : Rg := ⟨0x40200080 + 0x10000 * u, 0x40000008⟩
def CAN_DUP_CFG_act (u : Nat) : Fd := ⟨(CAN_DUP_CFG u), 31, 30⟩
def CAN_DUP_CFG_thr (u : Nat) : Fd := ⟨(CAN_DUP_CFG u), 7, 0⟩
/-- CAN_DUP_ID, offset 0x0084 of CAN. -/
def CAN_DUP_ID (u : Nat) : Rg := ⟨0x40200084 + 0x10000 * u, 0x0⟩
def CAN_DUP_ID_xtd (u : Nat) : Fd := ⟨(CAN_DUP_ID u), 31, 31⟩
def CAN_DUP_ID_id (u : Nat) : Fd := ⟨(CAN_DUP_ID u), 28, 0⟩
/-- CAN_DUP_CNT, offset 0x0088 of CAN. -/
def CAN_DUP_CNT (u : Nat) : Rg := ⟨0x40200088 + 0x10000 * u, 0x0⟩
def CAN_DUP_CNT_trips (u : Nat) : Fd := ⟨(CAN_DUP_CNT u), 15, 8⟩
def CAN_DUP_CNT_count (u : Nat) : Fd := ⟨(CAN_DUP_CNT u), 7, 0⟩
/-- CAN_TT_CFG, offset 0x0090 of CAN. -/
def CAN_TT_CFG (u : Nat) : Rg := ⟨0x40200090 + 0x10000 * u, 0x10⟩
def CAN_TT_CFG_rows (u : Nat) : Fd := ⟨(CAN_TT_CFG u), 28, 24⟩
def CAN_TT_CFG_cols (u : Nat) : Fd := ⟨(CAN_TT_CFG u), 21, 16⟩
def CAN_TT_CFG_txw (u : Nat) : Fd := ⟨(CAN_TT_CFG u), 7, 0⟩
/-- CAN_TT_STATUS, offset 0x0094 of CAN. -/
def CAN_TT_STATUS (u : Nat) : Rg := ⟨0x40200094 + 0x10000 * u, 0x0⟩
def CAN_TT_STATUS_row (u : Nat) : Fd := ⟨(CAN_TT_STATUS u), 31, 27⟩
def CAN_TT_STATUS_col (u : Nat) : Fd := ⟨(CAN_TT_STATUS u), 26, 21⟩
def CAN_TT_STATUS_synced (u : Nat) : Fd := ⟨(CAN_TT_STATUS u), 20, 20⟩
def CAN_TT_STATUS_pendsw (u : Nat) : Fd := ⟨(CAN_TT_STATUS u), 19, 19⟩
def CAN_TT_STATUS_active (u : Nat) : Fd := ⟨(CAN_TT_STATUS u), 18, 18⟩
def CAN_TT_STATUS_missed (u : Nat) : Fd := ⟨(CAN_TT_STATUS u), 15, 0⟩
/-- CAN_EVEN, offset 0x00a0 of CAN. -/
def CAN_EVEN (u : Nat) : Rg := ⟨0x402000a0 + 0x10000 * u, 0x0⟩
def CAN_EVEN_status (u : Nat) : Fd := ⟨(CAN_EVEN u), 14, 9⟩
def CAN_EVEN_plb (u : Nat) : Fd := ⟨(CAN_EVEN u), 1, 1⟩
def CAN_EVEN_pla (u : Nat) : Fd := ⟨(CAN_EVEN u), 0, 0⟩
/-- CAN_FLTk_ID, offset 0x0100 of CAN. -/
def CAN_FLT_ID (u k : Nat) : Rg := ⟨0x40200100 + 0x10000 * u + 0x8 * k, 0x0⟩
def CAN_FLT_ID_target (u k : Nat) : Fd := ⟨(CAN_FLT_ID u k), 31, 30⟩
def CAN_FLT_ID_xtd (u k : Nat) : Fd := ⟨(CAN_FLT_ID u k), 29, 29⟩
def CAN_FLT_ID_id (u k : Nat) : Fd := ⟨(CAN_FLT_ID u k), 28, 0⟩
/-- CAN_FLTk_MASK, offset 0x0104 of CAN. -/
def CAN_FLT_MASK (u k : Nat) : Rg := ⟨0x40200104 + 0x10000 * u + 0x8 * k, 0x0⟩
def CAN_FLT_MASK_rej (u k : Nat) : Fd := ⟨(CAN_FLT_MASK u k), 31, 31⟩
def CAN_FLT_MASK_xtdm (u k : Nat) : Fd := ⟨(CAN_FLT_MASK u k), 29, 29⟩
def CAN_FLT_MASK_mask (u k : Nat) : Fd := ⟨(CAN_FLT_MASK u k), 28, 0⟩
/-- LIN_CTRL, offset 0x0000 of LIN. -/
def LIN_CTRL (u : Nat) : Rg := ⟨0x40300000 + 0x10000 * u, 0x4b00⟩
def LIN_CTRL_en (u : Nat) : Fd := ⟨(LIN_CTRL u), 31, 31⟩
def LIN_CTRL_cmdr (u : Nat) : Fd := ⟨(LIN_CTRL u), 30, 30⟩
def LIN_CTRL_even (u : Nat) : Fd := ⟨(LIN_CTRL u), 23, 20⟩
def LIN_CTRL_rate (u : Nat) : Fd := ⟨(LIN_CTRL u), 15, 0⟩
/-- LIN_CMD, offset 0x0004 of LIN. -/
def LIN_CMD (u : Nat) : Rg := ⟨0x40300004 + 0x10000 * u, 0x0⟩
def LIN_CMD_op (u : Nat) : Fd := ⟨(LIN_CMD u), 31, 28⟩
/-- LIN_STATUS, offset 0x0008 of LIN. -/
def LIN_STATUS (u : Nat) : Rg := ⟨0x40300008 + 0x10000 * u, 0x0⟩
def LIN_STATUS_state (u : Nat) : Fd := ⟨(LIN_STATUS u), 31, 30⟩
def LIN_STATUS_entry (u : Nat) : Fd := ⟨(LIN_STATUS u), 29, 24⟩
def LIN_STATUS_errors (u : Nat) : Fd := ⟨(LIN_STATUS u), 15, 8⟩
def LIN_STATUS_lerr (u : Nat) : Fd := ⟨(LIN_STATUS u), 3, 0⟩
/-- LIN_FRf, offset 0x0100 of LIN. -/
def LIN_FR (u f : Nat) : Rg := ⟨0x40300100 + 0x10000 * u + 0x10 * f, 0x0⟩
def LIN_FR_valid (u f : Nat) : Fd := ⟨(LIN_FR u f), 31, 31⟩
def LIN_FR_dir (u f : Nat) : Fd := ⟨(LIN_FR u f), 30, 29⟩
def LIN_FR_enh (u f : Nat) : Fd := ⟨(LIN_FR u f), 28, 28⟩
def LIN_FR_len (u f : Nat) : Fd := ⟨(LIN_FR u f), 27, 24⟩
def LIN_FR_fresh (u f : Nat) : Fd := ⟨(LIN_FR u f), 23, 23⟩
def LIN_FR_id (u f : Nat) : Fd := ⟨(LIN_FR u f), 5, 0⟩
/-- LIN_FRf_Dj, offset 0x0104 of LIN. -/
def LIN_FR_D (u f j : Nat) : Rg := ⟨0x40300104 + 0x10000 * u + 0x10 * f + 0x4 * j, 0x0⟩
def LIN_FR_D_data (u f j : Nat) : Fd := ⟨(LIN_FR_D u f j), 31, 0⟩
/-- LIN_SCHe, offset 0x0800 of LIN. -/
def LIN_SCH (u e : Nat) : Rg := ⟨0x40300800 + 0x10000 * u + 0x4 * e, 0x0⟩
def LIN_SCH_last (u e : Nat) : Fd := ⟨(LIN_SCH u e), 31, 31⟩
def LIN_SCH_frame (u e : Nat) : Fd := ⟨(LIN_SCH u e), 21, 16⟩
def LIN_SCH_slot (u e : Nat) : Fd := ⟨(LIN_SCH u e), 7, 0⟩

end Sys2Proof.Machine.Reg
end

