-- ==== Sys2Proof/Machine/RegMapNet.lean ====
section
/-! DEFINITION. Register and field names of blocks ETH, T1S, NMG, LCL, EVR, BIST, UPD: each register is its data-space address (R22 base + heading offset)
and its heading's reset value; each field is its bits in its register's table. -/
namespace Sys2Proof.Machine.Reg
open Sys2Proof

/-- ETH_CFG, offset 0x0000 of ETH. -/
def ETH_CFG : Rg := ⟨0x40380000, 0x0⟩
def ETH_CFG_ip4 : Fd := ⟨ETH_CFG, 31, 31⟩
def ETH_CFG_ip6 : Fd := ⟨ETH_CFG, 30, 30⟩
/-- ETH_IP4, offset 0x0004 of ETH. -/
def ETH_IP4 : Rg := ⟨0x40380004, 0x0⟩
def ETH_IP4_addr : Fd := ⟨ETH_IP4, 31, 0⟩
/-- ETH_IP6w, offset 0x0010 of ETH. -/
def ETH_IP6 (w : Nat) : Rg := ⟨0x40380010 + 0x4 * w, 0x0⟩
def ETH_IP6_addr (w : Nat) : Fd := ⟨(ETH_IP6 w), 31, 0⟩
/-- ETH_Pn_CTRL, offset 0x0100 of ETH. -/
def ETH_P_CTRL (n : Nat) : Rg := ⟨0x40380100 + 0x20 * n, 0x0⟩
def ETH_P_CTRL_en (n : Nat) : Fd := ⟨(ETH_P_CTRL n), 31, 31⟩
def ETH_P_CTRL_master (n : Nat) : Fd := ⟨(ETH_P_CTRL n), 30, 30⟩
def ETH_P_CTRL_untag (n : Nat) : Fd := ⟨(ETH_P_CTRL n), 29, 29⟩
def ETH_P_CTRL_pcp (n : Nat) : Fd := ⟨(ETH_P_CTRL n), 28, 26⟩
def ETH_P_CTRL_vid (n : Nat) : Fd := ⟨(ETH_P_CTRL n), 11, 0⟩
/-- ETH_Pn_STATUS, offset 0x0104 of ETH. -/
def ETH_P_STATUS (n : Nat) : Rg := ⟨0x40380104 + 0x20 * n, 0x0⟩
def ETH_P_STATUS_state (n : Nat) : Fd := ⟨(ETH_P_STATUS n), 31, 30⟩
def ETH_P_STATUS_downs (n : Nat) : Fd := ⟨(ETH_P_STATUS n), 15, 0⟩
/-- ETH_Pn_COUNT, offset 0x0108 of ETH. -/
def ETH_P_COUNT (n : Nat) : Rg := ⟨0x40380108 + 0x20 * n, 0x0⟩
def ETH_P_COUNT_fcs (n : Nat) : Fd := ⟨(ETH_P_COUNT n), 31, 16⟩
def ETH_P_COUNT_drop (n : Nat) : Fd := ⟨(ETH_P_COUNT n), 15, 0⟩
/-- T1S_Sn_CTRL, offset 0x0000 of T1S. -/
def T1S_S_CTRL (n : Nat) : Rg := ⟨0x40390000 + 0x100 * n, 0x820⟩
def T1S_S_CTRL_en (n : Nat) : Fd := ⟨(T1S_S_CTRL n), 31, 31⟩
def T1S_S_CTRL_plca (n : Nat) : Fd := ⟨(T1S_S_CTRL n), 30, 30⟩
def T1S_S_CTRL_rxev (n : Nat) : Fd := ⟨(T1S_S_CTRL n), 29, 29⟩
def T1S_S_CTRL_txev (n : Nat) : Fd := ⟨(T1S_S_CTRL n), 28, 28⟩
def T1S_S_CTRL_nodeid (n : Nat) : Fd := ⟨(T1S_S_CTRL n), 23, 16⟩
def T1S_S_CTRL_nodecnt (n : Nat) : Fd := ⟨(T1S_S_CTRL n), 15, 8⟩
def T1S_S_CTRL_to (n : Nat) : Fd := ⟨(T1S_S_CTRL n), 7, 0⟩
/-- T1S_Sn_STATUS, offset 0x0004 of T1S. -/
def T1S_S_STATUS (n : Nat) : Rg := ⟨0x40390004 + 0x100 * n, 0x0⟩
def T1S_S_STATUS_state (n : Nat) : Fd := ⟨(T1S_S_STATUS n), 31, 30⟩
def T1S_S_STATUS_plcaok (n : Nat) : Fd := ⟨(T1S_S_STATUS n), 29, 29⟩
def T1S_S_STATUS_pend (n : Nat) : Fd := ⟨(T1S_S_STATUS n), 27, 24⟩
def T1S_S_STATUS_drop (n : Nat) : Fd := ⟨(T1S_S_STATUS n), 23, 16⟩
def T1S_S_STATUS_get (n : Nat) : Fd := ⟨(T1S_S_STATUS n), 12, 8⟩
def T1S_S_STATUS_fill (n : Nat) : Fd := ⟨(T1S_S_STATUS n), 4, 0⟩
/-- T1S_Sn_CMD, offset 0x0008 of T1S. -/
def T1S_S_CMD (n : Nat) : Rg := ⟨0x40390008 + 0x100 * n, 0x0⟩
def T1S_S_CMD_op (n : Nat) : Fd := ⟨(T1S_S_CMD n), 31, 28⟩
def T1S_S_CMD_arg (n : Nat) : Fd := ⟨(T1S_S_CMD n), 4, 0⟩
/-- NMG_AWAKE, offset 0x0000 of NMG. -/
def NMG_AWAKE : Rg := ⟨0x403a0000, 0x0⟩
def NMG_AWAKE_awake : Fd := ⟨NMG_AWAKE, 21, 0⟩
/-- NMG_BUSb_CFG, offset 0x0100 of NMG. -/
def NMG_BUS_CFG (b : Nat) : Rg := ⟨0x403a0100 + 0x20 * b, resetNmgCfg b⟩
def NMG_BUS_CFG_en (b : Nat) : Fd := ⟨(NMG_BUS_CFG b), 31, 31⟩
def NMG_BUS_CFG_pin (b : Nat) : Fd := ⟨(NMG_BUS_CFG b), 29, 28⟩
def NMG_BUS_CFG_wake (b : Nat) : Fd := ⟨(NMG_BUS_CFG b), 27, 27⟩
def NMG_BUS_CFG_any (b : Nat) : Fd := ⟨(NMG_BUS_CFG b), 26, 26⟩
def NMG_BUS_CFG_filt (b : Nat) : Fd := ⟨(NMG_BUS_CFG b), 23, 16⟩
/-- NMG_BUSb_TIME, offset 0x0104 of NMG. -/
def NMG_BUS_TIME (b : Nat) : Rg := ⟨0x403a0104 + 0x20 * b, resetNmgTime b⟩
def NMG_BUS_TIME_sleep (b : Nat) : Fd := ⟨(NMG_BUS_TIME b), 31, 16⟩
def NMG_BUS_TIME_kper (b : Nat) : Fd := ⟨(NMG_BUS_TIME b), 15, 0⟩
/-- NMG_BUSb_KAID, offset 0x0108 of NMG. -/
def NMG_BUS_KAID (b : Nat) : Rg := ⟨0x403a0108 + 0x20 * b, 0x0⟩
def NMG_BUS_KAID_xtd (b : Nat) : Fd := ⟨(NMG_BUS_KAID b), 29, 29⟩
def NMG_BUS_KAID_id (b : Nat) : Fd := ⟨(NMG_BUS_KAID b), 28, 0⟩
/-- NMG_BUSb_KAMASK, offset 0x010c of NMG. -/
def NMG_BUS_KAMASK (b : Nat) : Rg := ⟨0x403a010c + 0x20 * b, 0x0⟩
def NMG_BUS_KAMASK_xtdm (b : Nat) : Fd := ⟨(NMG_BUS_KAMASK b), 29, 29⟩
def NMG_BUS_KAMASK_mask (b : Nat) : Fd := ⟨(NMG_BUS_KAMASK b), 28, 0⟩
/-- NMG_BUSb_KATX, offset 0x0110 of NMG. -/
def NMG_BUS_KATX (b : Nat) : Rg := ⟨0x403a0110 + 0x20 * b, 0x0⟩
def NMG_BUS_KATX_buf (b : Nat) : Fd := ⟨(NMG_BUS_KATX b), 5, 0⟩
/-- NMG_BUSb_NEED, offset 0x0114 of NMG. -/
def NMG_BUS_NEED (b : Nat) : Rg := ⟨0x403a0114 + 0x20 * b, 0x0⟩
def NMG_BUS_NEED_votes (b : Nat) : Fd := ⟨(NMG_BUS_NEED b), 31, 0⟩
/-- NMG_BUSb_STATE, offset 0x0118 of NMG. -/
def NMG_BUS_STATE (b : Nat) : Rg := ⟨0x403a0118 + 0x20 * b, 0x0⟩
def NMG_BUS_STATE_state (b : Nat) : Fd := ⟨(NMG_BUS_STATE b), 31, 30⟩
def NMG_BUS_STATE_need (b : Nat) : Fd := ⟨(NMG_BUS_STATE b), 29, 29⟩
def NMG_BUS_STATE_seen (b : Nat) : Fd := ⟨(NMG_BUS_STATE b), 28, 28⟩
def NMG_BUS_STATE_remain (b : Nat) : Fd := ⟨(NMG_BUS_STATE b), 27, 16⟩
def NMG_BUS_STATE_wakes (b : Nat) : Fd := ⟨(NMG_BUS_STATE b), 15, 12⟩
def NMG_BUS_STATE_falsewake (b : Nat) : Fd := ⟨(NMG_BUS_STATE b), 11, 8⟩
def NMG_BUS_STATE_lonely (b : Nat) : Fd := ⟨(NMG_BUS_STATE b), 7, 4⟩
def NMG_BUS_STATE_rejects (b : Nat) : Fd := ⟨(NMG_BUS_STATE b), 3, 0⟩
/-- LCL_SPI, offset 0x0000 of LCL. -/
def LCL_SPI : Rg := ⟨0x403b0000, 0x0⟩
def LCL_SPI_en : Fd := ⟨LCL_SPI, 31, 31⟩
def LCL_SPI_waiting : Fd := ⟨LCL_SPI, 18, 16⟩
def LCL_SPI_crcerr : Fd := ⟨LCL_SPI, 15, 8⟩
def LCL_SPI_discards : Fd := ⟨LCL_SPI, 7, 0⟩
/-- LCL_I2Cn_CFG, offset 0x0100 of LCL. -/
def LCL_I2C_CFG (n : Nat) : Rg := ⟨0x403b0100 + 0x40 * n, 0xa⟩
def LCL_I2C_CFG_en (n : Nat) : Fd := ⟨(LCL_I2C_CFG n), 31, 31⟩
def LCL_I2C_CFG_speed (n : Nat) : Fd := ⟨(LCL_I2C_CFG n), 30, 29⟩
def LCL_I2C_CFG_tmo (n : Nat) : Fd := ⟨(LCL_I2C_CFG n), 7, 0⟩
/-- LCL_I2Cn_CMD, offset 0x0104 of LCL. -/
def LCL_I2C_CMD (n : Nat) : Rg := ⟨0x403b0104 + 0x40 * n, 0x0⟩
def LCL_I2C_CMD_go (n : Nat) : Fd := ⟨(LCL_I2C_CMD n), 31, 31⟩
def LCL_I2C_CMD_addr (n : Nat) : Fd := ⟨(LCL_I2C_CMD n), 30, 24⟩
def LCL_I2C_CMD_wlen (n : Nat) : Fd := ⟨(LCL_I2C_CMD n), 21, 16⟩
def LCL_I2C_CMD_rlen (n : Nat) : Fd := ⟨(LCL_I2C_CMD n), 13, 8⟩
/-- LCL_I2Cn_STATUS, offset 0x0108 of LCL. -/
def LCL_I2C_STATUS (n : Nat) : Rg := ⟨0x403b0108 + 0x40 * n, 0x0⟩
def LCL_I2C_STATUS_busy (n : Nat) : Fd := ⟨(LCL_I2C_STATUS n), 31, 31⟩
def LCL_I2C_STATUS_result (n : Nat) : Fd := ⟨(LCL_I2C_STATUS n), 27, 24⟩
def LCL_I2C_STATUS_nbyte (n : Nat) : Fd := ⟨(LCL_I2C_STATUS n), 13, 8⟩
def LCL_I2C_STATUS_count (n : Nat) : Fd := ⟨(LCL_I2C_STATUS n), 7, 0⟩
/-- LCL_I2Cn_DATAw, offset 0x0120 of LCL. -/
def LCL_I2C_DATA (n w : Nat) : Rg := ⟨0x403b0120 + 0x40 * n + 0x4 * w, 0x0⟩
def LCL_I2C_DATA_data (n w : Nat) : Fd := ⟨(LCL_I2C_DATA n w), 31, 0⟩
/-- EVR_STATUS, offset 0x0000 of EVR. -/
def EVR_STATUS : Rg := ⟨0x40080000, 0x0⟩
def EVR_STATUS_flushing : Fd := ⟨EVR_STATUS, 31, 31⟩
def EVR_STATUS_loss : Fd := ⟨EVR_STATUS, 30, 30⟩
def EVR_STATUS_calsrc : Fd := ⟨EVR_STATUS, 29, 28⟩
def EVR_STATUS_unflushed : Fd := ⟨EVR_STATUS, 16, 0⟩
/-- EVR_CMD, offset 0x0004 of EVR. -/
def EVR_CMD : Rg := ⟨0x40080004, 0x0⟩
def EVR_CMD_op : Fd := ⟨EVR_CMD, 31, 28⟩
/-- EVR_NEWEST, offset 0x0008 of EVR. -/
def EVR_NEWEST : Rg := ⟨0x40080008, 0x0⟩
def EVR_NEWEST_seq : Fd := ⟨EVR_NEWEST, 31, 0⟩
/-- EVR_FLUSHED, offset 0x000c of EVR. -/
def EVR_FLUSHED : Rg := ⟨0x4008000c, 0x0⟩
def EVR_FLUSHED_seq : Fd := ⟨EVR_FLUSHED, 31, 0⟩
/-- EVR_PAGE, offset 0x0010 of EVR. -/
def EVR_PAGE : Rg := ⟨0x40080010, 0x0⟩
def EVR_PAGE_n : Fd := ⟨EVR_PAGE, 31, 0⟩
/-- EVR_LOST, offset 0x0014 of EVR. -/
def EVR_LOST : Rg := ⟨0x40080014, 0x0⟩
def EVR_LOST_count : Fd := ⟨EVR_LOST, 15, 0⟩
/-- EVR_CAL_LO, offset 0x0018 of EVR. -/
def EVR_CAL_LO : Rg := ⟨0x40080018, 0x0⟩
def EVR_CAL_LO_ms : Fd := ⟨EVR_CAL_LO, 31, 0⟩
/-- EVR_CAL_HI, offset 0x001c of EVR. -/
def EVR_CAL_HI : Rg := ⟨0x4008001c, 0x0⟩
def EVR_CAL_HI_go : Fd := ⟨EVR_CAL_HI, 31, 31⟩
def EVR_CAL_HI_ms : Fd := ⟨EVR_CAL_HI, 15, 0⟩
/-- EVR_OPSEC, offset 0x0020 of EVR. -/
def EVR_OPSEC : Rg := ⟨0x40080020, 0⟩
def EVR_OPSEC_sec : Fd := ⟨EVR_OPSEC, 31, 0⟩
/-- EVR_UTCOFF, offset 0x0024 of EVR. -/
def EVR_UTCOFF : Rg := ⟨0x40080024, 0x25⟩
def EVR_UTCOFF_sec : Fd := ⟨EVR_UTCOFF, 15, 0⟩
/-- EVR_PADDR, offset 0x0100 of EVR. -/
def EVR_PADDR : Rg := ⟨0x40080100, 0x0⟩
def EVR_PADDR_addr : Fd := ⟨EVR_PADDR, 31, 0⟩
/-- EVR_POST, offset 0x0104 of EVR. -/
def EVR_POST : Rg := ⟨0x40080104, 0x0⟩
def EVR_POST_code : Fd := ⟨EVR_POST, 23, 16⟩
def EVR_POST_len : Fd := ⟨EVR_POST, 7, 0⟩
/-- EVR_PRES, offset 0x0108 of EVR. -/
def EVR_PRES : Rg := ⟨0x40080108, 0x0⟩
def EVR_PRES_result : Fd := ⟨EVR_PRES, 31, 30⟩
/-- EVR_PSEQ, offset 0x010c of EVR. -/
def EVR_PSEQ : Rg := ⟨0x4008010c, 0x0⟩
def EVR_PSEQ_seq : Fd := ⟨EVR_PSEQ, 31, 0⟩
/-- BIST_VERDICT, offset 0x0000 of BIST. -/
def BIST_VERDICT : Rg := ⟨0x400a0000, 0⟩
def BIST_VERDICT_kind : Fd := ⟨BIST_VERDICT, 31, 30⟩
def BIST_VERDICT_result : Fd := ⟨BIST_VERDICT, 29, 27⟩
def BIST_VERDICT_origin : Fd := ⟨BIST_VERDICT, 26, 26⟩
def BIST_VERDICT_nfail : Fd := ⟨BIST_VERDICT, 23, 16⟩
def BIST_VERDICT_lfail : Fd := ⟨BIST_VERDICT, 12, 0⟩
/-- BIST_VCYCLES, offset 0x0004 of BIST. -/
def BIST_VCYCLES : Rg := ⟨0x400a0004, 0⟩
def BIST_VCYCLES_cycles : Fd := ⟨BIST_VCYCLES, 31, 0⟩
/-- BIST_PREV, offset 0x0008 of BIST. -/
def BIST_PREV : Rg := ⟨0x400a0008, 0⟩
def BIST_PREV_verdict : Fd := ⟨BIST_PREV, 31, 0⟩
/-- BIST_CFG, offset 0x000c of BIST. -/
def BIST_CFG : Rg := ⟨0x400a000c, 0x80000000⟩
def BIST_CFG_offtest : Fd := ⟨BIST_CFG, 31, 31⟩
def BIST_CFG_nextfull : Fd := ⟨BIST_CFG, 30, 30⟩
/-- BIST_REPAIR, offset 0x0010 of BIST. -/
def BIST_REPAIR : Rg := ⟨0x400a0010, 0⟩
def BIST_REPAIR_entries : Fd := ⟨BIST_REPAIR, 24, 16⟩
/-- BIST_FAILk_ADDR, offset 0x0100 of BIST. -/
def BIST_FAIL_ADDR (k : Nat) : Rg := ⟨0x400a0100 + 0x8 * k, 0⟩
def BIST_FAIL_ADDR_addr (k : Nat) : Fd := ⟨(BIST_FAIL_ADDR k), 31, 0⟩
/-- BIST_FAILk_INFO, offset 0x0104 of BIST. -/
def BIST_FAIL_INFO (k : Nat) : Rg := ⟨0x400a0104 + 0x8 * k, 0⟩
def BIST_FAIL_INFO_valid (k : Nat) : Fd := ⟨(BIST_FAIL_INFO k), 31, 31⟩
def BIST_FAIL_INFO_repaired (k : Nat) : Fd := ⟨(BIST_FAIL_INFO k), 30, 30⟩
def BIST_FAIL_INFO_mem (k : Nat) : Fd := ⟨(BIST_FAIL_INFO k), 27, 24⟩
def BIST_FAIL_INFO_inst (k : Nat) : Fd := ⟨(BIST_FAIL_INFO k), 23, 16⟩
def BIST_FAIL_INFO_bit (k : Nat) : Fd := ⟨(BIST_FAIL_INFO k), 6, 0⟩
/-- UPD_STATUS, offset 0x0000 of UPD. -/
def UPD_STATUS : Rg := ⟨0x40090000, 0⟩
def UPD_STATUS_bank1 : Fd := ⟨UPD_STATUS, 31, 29⟩
def UPD_STATUS_bank0 : Fd := ⟨UPD_STATUS, 28, 26⟩
def UPD_STATUS_active : Fd := ⟨UPD_STATUS, 25, 25⟩
def UPD_STATUS_fail : Fd := ⟨UPD_STATUS, 24, 23⟩
def UPD_STATUS_trial : Fd := ⟨UPD_STATUS, 22, 22⟩
def UPD_STATUS_trleft : Fd := ⟨UPD_STATUS, 19, 8⟩
def UPD_STATUS_tenant : Fd := ⟨UPD_STATUS, 7, 0⟩
/-- UPD_CMD, offset 0x0004 of UPD. -/
def UPD_CMD : Rg := ⟨0x40090004, 0x0⟩
def UPD_CMD_op : Fd := ⟨UPD_CMD, 31, 28⟩
def UPD_CMD_kind : Fd := ⟨UPD_CMD, 11, 10⟩
def UPD_CMD_arg : Fd := ⟨UPD_CMD, 9, 0⟩
/-- UPD_CMD_RESULT, offset 0x0008 of UPD. -/
def UPD_CMD_RESULT : Rg := ⟨0x40090008, 0x0⟩
def UPD_CMD_RESULT_busy : Fd := ⟨UPD_CMD_RESULT, 31, 31⟩
def UPD_CMD_RESULT_seq : Fd := ⟨UPD_CMD_RESULT, 15, 8⟩
def UPD_CMD_RESULT_code : Fd := ⟨UPD_CMD_RESULT, 3, 0⟩
/-- UPD_ARG, offset 0x000c of UPD. -/
def UPD_ARG : Rg := ⟨0x4009000c, 0x0⟩
def UPD_ARG_addr : Fd := ⟨UPD_ARG, 31, 0⟩
/-- UPD_CFG, offset 0x0010 of UPD. -/
def UPD_CFG : Rg := ⟨0x40090010, 0x0001000a⟩
def UPD_CFG_zlp : Fd := ⟨UPD_CFG, 31, 16⟩
def UPD_CFG_trial : Fd := ⟨UPD_CFG, 7, 0⟩
/-- UPD_STAGE, offset 0x0014 of UPD. -/
def UPD_STAGE : Rg := ⟨0x40090014, 0⟩
def UPD_STAGE_total : Fd := ⟨UPD_STAGE, 21, 12⟩
def UPD_STAGE_have : Fd := ⟨UPD_STAGE, 9, 0⟩
/-- UPD_ROLLt, offset 0x0100 of UPD. -/
def UPD_ROLL (t : Nat) : Rg := ⟨0x40090100 + 0x4 * t, 0⟩
def UPD_ROLL_version (t : Nat) : Fd := ⟨(UPD_ROLL t), 15, 0⟩
/-- UPD_SETADDR, offset 0x0200 of UPD. -/
def UPD_SETADDR : Rg := ⟨0x40090200, 0x0⟩
def UPD_SETADDR_addr : Fd := ⟨UPD_SETADDR, 31, 0⟩
/-- UPD_SETCMD, offset 0x0204 of UPD. -/
def UPD_SETCMD : Rg := ⟨0x40090204, 0x0⟩
def UPD_SETCMD_offset : Fd := ⟨UPD_SETCMD, 29, 16⟩
def UPD_SETCMD_len : Fd := ⟨UPD_SETCMD, 8, 0⟩
/-- UPD_SETRES, offset 0x0208 of UPD. -/
def UPD_SETRES : Rg := ⟨0x40090208, 0x0⟩
def UPD_SETRES_result : Fd := ⟨UPD_SETRES, 31, 30⟩

end Sys2Proof.Machine.Reg
end

