-- ==== Sys2Proof/Machine/Sparse.lean ====
section
/-! DEFINITION. The one form of every store of the model: a list of (key, value) pairs with strictly rising keys, in which an
entry equal to what an unlisted key reads as is left out, so that equal stores are equal data. -/
namespace Sys2Proof.Machine

/-- A sparse store: pairs of a key and a value. -/
abbrev SMap (α : Type) := List (Nat × α)

/-- The value listed at key `k`. -/
def SMap.find {α : Type} : SMap α → Nat → Option α
  | [], _ => none
  | (k', v) :: m, k => if k' = k then some v else SMap.find m k

/-- The store without key `k`. -/
def SMap.erase {α : Type} (m : SMap α) (k : Nat) : SMap α := m.filter (fun e => e.1 ≠ k)

/-- The store with `v` at key `k`, keys kept rising. -/
def SMap.ins {α : Type} : SMap α → Nat → α → SMap α
  | [], k, v => [(k, v)]
  | (k', v') :: m, k, v =>
    if k < k' then (k, v) :: (k', v') :: m
    else if k = k' then (k, v) :: m
    else (k', v') :: SMap.ins m k v

/-- Reading with a default. -/
def SMap.get {α : Type} (d : α) (m : SMap α) (k : Nat) : α := (m.find k).getD d

/-- Writing: the default value is not listed. -/
def SMap.set {α : Type} [DecidableEq α] (d : α) (m : SMap α) (k : Nat) (v : α) : SMap α :=
  if v = d then m.erase k else m.ins k v

/-- The keys rise strictly. -/
def SMap.sorted {α : Type} : SMap α → Bool
  | [] => true
  | (k, _) :: m => (m.all fun e => decide (k < e.1)) && SMap.sorted m

/-- The canonical form of a store whose unlisted keys read as `d`. -/
def SMap.wf {α : Type} [DecidableEq α] (d : α) (m : SMap α) : Bool :=
  SMap.sorted m && m.all fun e => decide (e.2 ≠ d)

/-- The canonical form of a store whose unlisted key `k` reads as `d k`: keys rise strictly, and no entry says what its key reads as
without it. -/
def SMap.wfBy {α : Type} [DecidableEq α] (d : Nat → α) (m : SMap α) : Bool :=
  SMap.sorted m && m.all fun e => decide (e.2 ≠ d e.1)

/-- The store with every key of `[lo, lo + n)` removed. -/
def SMap.clear {α : Type} (m : SMap α) (lo n : Nat) : SMap α := m.filter (fun e => ¬ (lo ≤ e.1 ∧ e.1 < lo + n))

end Sys2Proof.Machine
end

