-- ==== Sys2Proof/Machine/TypesAcc.lean ====
section
/-! DEFINITION. The state of the access unit and of the sealed meter that no register shows (chapters 15 and 16). -/
namespace Sys2Proof.Machine
open Sys2Proof

/-- Where the ranging port stands (R397, R405): idle, in an LF wake burst or its gap, waiting for a reply, clocking in a reply, clocking in
an announced message. -/
inductive AccPhase where
  | idle | burst | waiting | reading | announce
deriving DecidableEq, Repr

/-- A request: through an antenna to the broadcast identifier (R405), or to the identifier of the key slot of an accepted button message
(R400). -/
inductive AccReq where
  | ant (a : Nat)
  | key (k : Nat)
deriving DecidableEq, Repr

/-- The access unit. -/
structure AccSt where
  phase : AccPhase
  /-- the request being made -/
  req : Option AccReq
  /-- the requests queued, in order (R405) -/
  queue : List AccReq
  /-- an announce waits for the end of another exchange or of Park (R397, R408) -/
  waitAnn : Bool
  /-- t1 − t0 of the reply being clocked in, in 125 ps units (R397) -/
  flight : Nat
  /-- the 24 bits of the last LF wake burst (R405) -/
  lfBits : BitVec 24
  /-- the identifier that the last request shifted out before its challenge (R397, R400, R405) -/
  sentId : Word
  /-- the challenge of the request in progress (R397) -/
  challenge : Word
  /-- the candidates held, by key slot (R398) -/
  cands : SMap (Option Word)
  /-- consecutive verdicts of 10 or 12 on requests (R411) -/
  failRun : Nat
  /-- a lock-out is in force (R401); kept across every reset -/
  locked : Bool
  /-- the antennas of the probe round in progress whose presence windows have not closed (R406) -/
  probes : List Nat
  /-- the carrier of the first of them is on (R406) -/
  carrier : Bool
  /-- the parked timer as last stored (R407) -/
  parkedStored : Word
deriving DecidableEq, Repr

/-- The access unit as shipped. -/
def AccSt.init : AccSt :=
  { phase := .idle, req := none, queue := [], waitAnn := false, flight := 0, lfBits := 0, sentId := 0, challenge := 0, cands := [], failRun := 0, locked := false,
    probes := [], carrier := false, parkedStored := 0 }

/-- A record of the metrological log (R425): its index, the meter time in ms, its code and value. -/
structure MtrRec where
  index : Nat
  time : Nat
  code : Nat
  value : Nat
deriving DecidableEq, Repr

/-- A request of the mailbox (R422): its operation and argument, and what the meter held as it reached the meter (R424): the energy registers,
whether the grid voltage was there, the channels beyond their range, the log from index 1 on. -/
structure MtrReq where
  op : Nat
  arg : Nat
  imp : Nat
  exp : Nat
  grid : Bool
  overs : Nat
  log : List MtrRec
deriving DecidableEq, Repr

/-- The sealed meter and its mailbox. -/
structure MtrSt where
  /-- the request in progress (R422) -/
  req : Option MtrReq
  /-- the meter's count modulo 65,536 at its last update (R420) -/
  phase : Nat
  /-- the grid voltage is there, the voltage of L2 or L3 is lost, a self-check has failed, the channels in an overrange episode (R414, R421,
  R425), as the meter knows it -/
  grid : Bool
  linesOut : List Nat
  failed : Bool
  overs : Nat
  /-- the energy registers in mWh as last reported (R416) -/
  imp : Nat
  exp : Nat
  /-- the response counter (R423) -/
  ctr : Nat
  /-- the log's records from index 1 on that are kept, oldest first; index 0 is always kept (R425) -/
  log : List MtrRec
  /-- the index the next record takes, and the records overwritten to date -/
  next : Nat
  overwritten : Nat
  /-- the MTR domain is off since VMTR fell, with the import at the loss (R54, R417): it is on again at the meter's next start, which
  writes the record -/
  supplyLost : Option Nat
deriving DecidableEq, Repr

/-- The meter as shipped: sealed, log index 0 written (R426). -/
def MtrSt.init : MtrSt :=
  { req := none, phase := 0, grid := true, linesOut := [], failed := false, overs := 0, imp := 0, exp := 0, ctr := 0, log := [], next := 1, overwritten := 0, supplyLost := none }

end Sys2Proof.Machine
end

