-- ==== Sys2Proof/Machine/TypesCan.lean ====
section
/-! DEFINITION. The state of the CAN FD controllers that no register shows (chapter 12). -/
namespace Sys2Proof.Machine
open Sys2Proof

/-- A pending transmit request (R336, R343): its buffer, the ticket it is judged by, whether a slot released it for a single attempt, the
row that replaces data byte 0 of a reference cell, its attempts. -/
structure CanReq where
  buf : Nat
  tkt : Option (Nat × Word)
  slot : Bool
  ref : Option Nat
  attempts : Nat
deriving DecidableEq, Repr

/-- What a controller does at the end of the frame it is transmitting (R325). -/
inductive CanAfter where
  | stop | siding
  /-- STOP by network management, which leaves CAN_CMD_RESULT alone (R360) -/
  | quiet
deriving DecidableEq, Repr

/-- A controller. -/
structure CanCtl where
  pend : List CanReq
  /-- the buffer whose attempt is in transmission, and A0 bits 31:0 at its start-of-frame -/
  cur : Option (Nat × Word)
  window : Bool
  after : Option CanAfter
  rejoin : Bool
  /-- status event 3 is due at the next integration (R348) -/
  rejoined : Bool
  /-- assigned objects: bit 29 the identifier type, bits 28:0 the identifier (R333) -/
  objs : SMap Nat
  /-- a drop of Platform A or B has been reported since its last acknowledgement (R352) -/
  dropA : Bool
  dropB : Bool
deriving DecidableEq, Repr

/-- A controller after reset. -/
def CanCtl.init : CanCtl :=
  { pend := [], cur := none, window := false, after := none, rejoin := false, rejoined := false, objs := [], dropA := false, dropB := false }

/-- The twelve controllers. `msg` holds message RAM word w of controller u at 8,192 × u + w, `err` its uncorrectable words. `tail` is the
ticketed attempt of a path that a control-die reset cut off on the bus (R337). -/
structure CanSt where
  ctl : SMap CanCtl
  msg : SMap Word
  err : List Nat
  tail : SMap (Nat × Word)
deriving DecidableEq, Repr

/-- The controllers after reset: message RAM cleared to 0 (R349). -/
def CanSt.init : CanSt := { ctl := [], msg := [], err := [], tail := [] }

end Sys2Proof.Machine
end

