-- ==== Sys2Proof/Machine/TypesClk.lean ====
section
/-! DEFINITION. The state of the clock block that no register shows (chapter 17). -/
namespace Sys2Proof.Machine
open Sys2Proof

/-- The sequencer's running target, and a target that waits (R435); failures of FIRC and the LPO that are judged now; whether a reference
switch runs (R437); whether no clock is left (R439); the level of CKOUT while it belongs to the timeline, and the selection and divisor of
CKOUT in force, as CLK_CKOUT holds them (R443). -/
structure ClkSt where
  target : Nat
  queued : Option Nat
  fircBad : Bool
  lpoBad : Bool
  switching : Bool
  lost : Bool
  pin : Bool
  ckout : Word
deriving DecidableEq, Repr

/-- The clocks at the first start. -/
def ClkSt.init : ClkSt :=
  { target := 0, queued := none, fircBad := false, lpoBad := false, switching := false, lost := false, pin := false, ckout := 0 }

end Sys2Proof.Machine
end

