-- ==== Sys2Proof/Machine/TypesCore.lean ====
section
/-! DEFINITION. The state of task contexts, packets, inputs and memories that no register shows (chapters 04 and 06), and the
messages between blocks. -/
namespace Sys2Proof.Machine
open Sys2Proof

/-- The state of a context (R151). -/
inductive CtxMode where
  | empty | waiting | ready | resident | stopped | siding
deriving DecidableEq, Repr

/-- The code of a context state in TSK_CTX_STATE.state. -/
def CtxMode.code : CtxMode → Nat
  | .empty => 0 | .waiting => 1 | .ready => 2 | .resident => 3 | .stopped => 4 | .siding => 5

/-- What a result that has been produced and has not landed writes (R98, R117). -/
inductive Target where
  /-- general register `n` takes the value -/
  | g (n : Nat) (v : Word)
  /-- the masked predicates take the values -/
  | pred (mask vals : BitVec 8)
  /-- accumulator `i` takes the value; `ov` when it sets the overflow flag -/
  | acc (i : Nat) (v : Acc) (ov : Bool)
  /-- CSW.accsat takes the bit; the flags with a true clear bit are cleared -/
  | csw (accsat clr0 clr1 : Bool)
  /-- the ready flag of `q n` is cleared -/
  | rdyClear (n : Nat)
deriving DecidableEq, Repr

/-- A result on its way: it lands at the start of the `rem`-th own issue from now; `fresh` while its packet is the open one. -/
structure Landing where
  rem : Nat
  fresh : Bool
  tgt : Target
deriving DecidableEq, Repr

/-- A store on its way into data SRAM (R102): the aligned address, the byte enables and the data of its word. -/
structure PendStore where
  rem : Nat
  fresh : Bool
  addr : Nat
  be : BitVec 4
  data : Word
deriving DecidableEq, Repr

/-- The payload of a WIDEN in slot A of the open packet (R129). -/
structure Widen where
  neg : Bool
  ps : Nat
  imm : BitVec 8
deriving DecidableEq, Repr

/-- A transfer taken: its target and whether it is the end of an activation by WAIT (R122). -/
structure Transfer where
  target : Nat
  wait : Bool
deriving DecidableEq, Repr

/-- The open packet: whether it was fetched as two no-operations (R88), its WIDEN, the transfer its slot A took. -/
structure Packet where
  void : Bool
  widen : Option Widen
  taken : Option Transfer
deriving DecidableEq, Repr

/-- A port read in flight: an address sampled at arrival, with its order of issue among all port reads (R322), or an answer already formed
(R106, R145), or the answer to a request that still waits, by its stamp (R109, R454). -/
inductive PRead where
  | port (addr order : Nat)
  | answer (v : Word)
  | waits (stamp : Nat)
deriving DecidableEq, Repr

/-- An event held at an input: source, payload. -/
structure Ev where
  src : Nat
  pay : Nat
deriving DecidableEq, Repr

/-- One task input (R158, R159): its events oldest first, the coalescing count, and on a latest-only input whether the value held
has been delivered. -/
structure Inp where
  q : List Ev
  count : Nat
  delivered : Bool
deriving DecidableEq, Repr

/-- An empty input. -/
def Inp.none : Inp := ⟨[], 0, false⟩

/-- A context's registers, valid while it is Resident (R94). -/
structure CRegs where
  g : SMap Word
  p : BitVec 8
  a0 : Acc
  a1 : Acc
  q : SMap Word
  qrdy : BitVec 4
  accsat : Bool
  ov0 : Bool
  ov1 : Bool
  pc : Nat
  branch : Option Transfer
  lands : List Landing
  stores : List PendStore
deriving DecidableEq, Repr

/-- The creation state of R95. -/
def CRegs.init : CRegs :=
  { g := [], p := 1, a0 := 0, a1 := 0, q := [], qrdy := 0, accsat := true, ov0 := false, ov1 := false, pc := 0,
    branch := Option.none, lands := [], stores := [] }

/-- A task context beside its frame. -/
structure Ctx where
  mode : CtxMode
  /-- lane while Resident -/
  lane : Nat
  /-- current pair (R154) -/
  cur : Nat
  in0 : Inp
  in1 : Inp
  in2 : Inp
  in3 : Inp
  /-- a swap into the lane is in progress (R157) -/
  swapping : Bool
  /-- the delay packet of a WAIT has been issued and the activation is about to end (R139) -/
  ended : Bool
  /-- the input whose head event the unfinished activation has in service; none for the activation of R543 -/
  serving : Option Nat
  /-- whether the activation was already unfinished at the last commit of the frame (R167) -/
  committedAct : Bool
  /-- the input whose event is to be delivered again: its activation began after the last commit and R167 has undone it -/
  again : Option Nat
  /-- order stamps of becoming Ready and Resident (R155, R156) -/
  readySince : Nat
  residentSince : Nat
  regs : CRegs
  packet : Option Packet
  /-- the slot of the ticket bound by LBIND, with its track and sequence number (R148) -/
  bound : Option (Nat × Nat × Word)
  /-- port reads in flight, by port register (R106, R107) -/
  reads : SMap PRead
deriving DecidableEq, Repr

/-- An Empty context. -/
def Ctx.init : Ctx :=
  { mode := .empty, lane := 0, cur := 0, in0 := Inp.none, in1 := Inp.none, in2 := Inp.none, in3 := Inp.none, swapping := false,
    ended := false, serving := Option.none, committedAct := false, again := Option.none, readySince := 0, residentSince := 0, regs := CRegs.init, packet := Option.none,
    bound := Option.none, reads := [] }

/-- An event on its way to a context input (R162); `dst` for a source that names its own context and input. -/
structure EvMsg where
  src : Nat
  pay : Nat
  dst : Option (Nat × Nat)
deriving DecidableEq, Repr

/-- A raise on its way to the signal box (R463): source, wire fault, whether the pair then stays so, detail. -/
structure Raise where
  src : Nat
  wire : Bool
  hold : Bool
  detail : Word
deriving DecidableEq, Repr

/-- A segment in instruction SRAM (R519): its first word address, its number of words, and what its words were decrypted from: the package
identifier, the tenant, the image key, the bytes of its code blocks as they stand in MRAM, those that are not 0 (R510). -/
structure LoadedSeg where
  base : Nat
  words : Nat
  pkg : Nat
  tenant : Nat
  key : List Byte
  code : List (Nat × Byte)
deriving DecidableEq, Repr

/-- A port access that waits (R109, R454): a write of an address, or a timeline syllable, which counts as an access to TLN (R146), with the
port register that its answer goes to. -/
inductive PostedOp where
  | write (addr : Nat) (v : Word)
  | tarm (q : Nat) (w0 w1 w2 w3 : Word)
  | tcancel (q : Nat) (h : Word)
  | tread (q axis : Nat)
deriving DecidableEq, Repr

/-- A port access that waits: its context, the ticket bound when it was issued, and the stamp of its answer. -/
structure Posted where
  ctx : Nat
  op : PostedOp
  bound : Option (Nat × Nat × Word)
  stamp : Nat
deriving DecidableEq, Repr

/-- The cores and the memories of the control die. Error marks: 1 correctable, 2 uncorrectable. -/
structure CpuSt where
  ctxs : SMap Ctx
  /-- context memory, by word: 64 words a frame (R115) -/
  frames : SMap Word
  /-- instruction SRAM: the segments loaded, the newest last (R519, R521); words outside every segment are 0 -/
  loaded : List LoadedSeg
  /-- error marks of instruction SRAM, by packet -/
  imemErr : SMap Nat
  dmem : List (Nat × Byte)
  /-- error marks of data SRAM, by word -/
  dmemErr : SMap Nat
  mram : List (Nat × Byte)
  /-- error marks of MRAM, by 64-bit word -/
  mramErr : SMap Nat
  /-- running count that orders what became Ready or Resident when, and port reads by their issue -/
  stamp : Nat
  /-- the code with which the TSK command in progress will end (R544) -/
  tskCode : Nat
  /-- the port accesses that wait, oldest first (R109, R454) -/
  posted : List Posted
deriving DecidableEq, Repr

/-- The cores and memories right after a cold reset: no context, memories listing nothing. -/
def CpuSt.init : CpuSt :=
  { ctxs := [], frames := [], loaded := [], imemErr := [], dmem := [], dmemErr := [], mram := [], mramErr := [], stamp := 0, tskCode := 0, posted := [] }

end Sys2Proof.Machine
end

