-- ==== Sys2Proof/Machine/TypesDin.lean ====
section
/-! DEFINITION. The state of the switch inputs that no register shows (chapter 11). -/
namespace Sys2Proof.Machine
open Sys2Proof

/-- An input: consecutive samples that differ from its level, whether a first sample has been taken since it was enabled, whether a wetting
pulse flows, consecutive Park samples that ask for a wake (R309, R311, R312, R320). -/
structure DinIn where
  count : Nat
  started : Bool
  pulse : Bool
  parkCnt : Nat
deriving DecidableEq, Repr

/-- An input when its die's domain comes on. -/
def DinIn.init : DinIn := { count := 0, started := false, pulse := false, parkCnt := 0 }

/-- The switch inputs, with the readings queued on each die, oldest first (R319). -/
structure DinSt where
  ins : SMap DinIn
  queueA : List Nat
  queueB : List Nat
deriving DecidableEq, Repr

/-- The inputs with both domains just on. -/
def DinSt.init : DinSt := { ins := [], queueA := [], queueB := [] }

end Sys2Proof.Machine
end

