-- ==== Sys2Proof/Machine/TypesEvr.lean ====
section
/-! DEFINITION. The state of the event recorder that no register shows (chapter 20). -/
namespace Sys2Proof.Machine
open Sys2Proof

/-- A record in the recorder's buffer: the page and offset it is to have in the ring, its sequence number, its bytes (R482, R488). -/
structure EvrRec where
  page : Nat
  off : Nat
  seq : Word
  bytes : List Byte
deriving DecidableEq, Repr

/-- A record that waits for the end of the start-up scan (R495): its code, its payload, the context of a firmware post. -/
structure EvrWait where
  code : Nat
  pay : List Byte
  ctx : Option Nat
deriving DecidableEq, Repr

/-- The recorder. -/
structure EvrSt where
  /-- the unflushed records, oldest first -/
  buf : List EvrRec
  /-- the last sequence number used; none before the first record of the unit -/
  seq : Option Word
  /-- the current page and the offset its next record takes; none before the first page of the unit -/
  page : Option Nat
  off : Nat
  /-- A1 at the anchor of the current page, and the calendar source it shows (R485, R487) -/
  base : Nat
  src : Nat
  /-- a new page is wanted and its anchor has not been entered -/
  fresh : Bool
  /-- a flush runs, and whether it draws from the budget (R489) -/
  flushing : Bool
  charged : Bool
  /-- the write budget when it was last drawn, in 1/31,250,000 of a byte, and A1 at that time (R489) -/
  budget : Nat
  budgetAt : Nat
  /-- records refused in the open loss episode (R492) -/
  lost : Nat
  /-- the calendar set by EVR_CAL: ms, and A1 at the setting (R486) -/
  cal : Option (Nat × Nat)
  /-- operating time in counts of 2 ns before A1's present run, and the seconds last saved in the System region (R486) -/
  opBase : Nat
  opSaved : Nat
  /-- the start-up scan runs; what waits for it, and a flush asked for meanwhile, with whether it draws from the budget (R465, R489, R495) -/
  scanning : Bool
  waiting : List EvrWait
  asked : Option Bool
deriving DecidableEq, Repr

/-- The write budget when full: 64 KiB in 1/31,250,000 of a byte, of which 1 MiB/s adds 65,536 a count of A1 (R489). -/
def fullBudget : Nat := 65536 * 31250000

/-- The recorder of a new unit after a cold reset: the scan of the anchors runs. -/
def EvrSt.init : EvrSt :=
  { buf := [], seq := none, page := none, off := 0, base := 0, src := 0, fresh := false, flushing := false, charged := false, budget := fullBudget, budgetAt := 0, lost := 0,
    cal := none, opBase := 0, opSaved := 0, scanning := true, waiting := [], asked := none }

end Sys2Proof.Machine
end

