-- ==== Sys2Proof/Machine/TypesLdg.lean ====
section
/-! DEFINITION. The state of the command ledger that no register shows (chapter 08): tickets, admission queues, sessions, the journal,
the answers sent, and the watermarks of the stages. -/
namespace Sys2Proof.Machine
open Sys2Proof

/-- The state of a held ticket (R213). -/
inductive TktState where
  | accepted | dispatched | done | abandoned
deriving DecidableEq, Repr

/-- The state codes of R213. -/
def TktState.code : TktState → Nat
  | .accepted => 1 | .dispatched => 2 | .done => 3 | .abandoned => 5

/-- A held ticket: its result code or abandonment reason in `result`, whether its completion record has been written. -/
structure Ticket where
  track : Nat
  seq : Word
  pay : List Byte
  st : TktState
  ctx : Nat
  result : Nat
  recorded : Bool
deriving DecidableEq, Repr

/-- A submission queued for admission, with every answer entry that waits for it (request number, entry index) (R216, R218). -/
structure Sub where
  seq : Word
  pay : List Byte
  waiters : List (Nat × Nat)
deriving DecidableEq, Repr

/-- A SUBMIT whose answer waits for verdicts (R237). -/
structure SubReq where
  id : Nat
  link : ZLink
  src : ZSrc
  sess : Nat
  verdicts : List (Option SubVerdict)
deriving DecidableEq, Repr

/-- A record of the journal (R242). -/
inductive JRec where
  | admission (track : Nat) (seq : Word) (pay : List Byte)
  | completion (track : Nat) (seq : Word) (abandoned : Bool) (result : Nat) (floor : Word)
  | session (k : Nat) (block floor : Nat)
deriving DecidableEq, Repr

/-- A journal write in progress: its record, its position, and the queue it came from. -/
inductive JWrite where
  | adm (track : Nat) (sub : Sub) (pos : Nat)
  | comp (handle : Nat) (pos : Nat)
  | sess (k : Nat) (pos : Nat)
deriving DecidableEq, Repr

/-- A ZLP session's counters (R236): the next send counter (bits 62:0), the highest accepted counter, the counters seen among the 64
below it (bit i: highest − 1 − i), whether its start-up record has been written, the block that its newest record holds. -/
structure Sess where
  send : Nat
  high : Nat
  any : Bool
  window : BitVec 64
  floor : Nat
  ready : Bool
  blk : Nat
deriving DecidableEq, Repr

/-- A session before its start-up record. -/
def Sess.init : Sess := { send := 0, high := 0, any := false, window := 0, floor := 0, ready := false, blk := 0 }

/-- The body of an answer the ledger sends (R237 to R240; update answers under R515). -/
inductive ZBody where
  | submit (entries : List SubVerdict)
  | poll (track flags : Nat) (expected floor : Word) (credit : Nat) (entries : List (Word × Nat × Nat))
  | query (cls status : Nat) (next : Word) (data : List Byte)
  | error (code : Nat)
  | update (type code stage active fail : Nat) (detail : Word)
deriving DecidableEq, Repr

/-- An answer sent: its link, its destination, its session with identifier and key, its counter, its body. -/
structure ZAns where
  link : ZLink
  src : ZSrc
  sess : Nat
  sid : Word
  key : List Byte
  ctr : Nat
  body : ZBody
deriving DecidableEq, Repr

/-- The ledger. -/
structure LdgSt where
  tickets : SMap Ticket
  /-- the next handle never used, and the freed handles oldest first (R214) -/
  fresh : Nat
  freeQ : List Nat
  /-- tracks whose fence has been lifted (R246) -/
  fenced : SMap Bool
  queues : SMap (List Sub)
  /-- the round of R218: the track last served and how many submissions it has given in this round -/
  rndTrack : Nat
  rndTaken : Nat
  /-- the kind written last, true for an admission (R219) -/
  lastKind : Option Bool
  reqs : List SubReq
  /-- the next number of a request that waits -/
  reqId : Nat
  compQ : List Nat
  sessQ : List Nat
  writing : Option JWrite
  journal : SMap JRec
  /-- answers that wait for the session record of the block they are to be sent in (R236): link, destination, session, body, and the number
  of their place in the queue of a backbone port -/
  held : List (ZLink × ZSrc × Nat × ZBody × Nat)
  /-- answers given to the backbone links, oldest first -/
  sent : List ZAns
  /-- answers waiting at the SPI host port, oldest first (R389) -/
  spiQ : List ZAns
  sessions : SMap Sess
  /-- handles of events a DRAIN discarded, not yet settled (R225, R544) -/
  drained : List Nat
  /-- the power-fail warning has been raised (R244) -/
  pfw : Bool
  /-- whether every store-valid flag was set when recovery read them (R246, step 2) -/
  storesOk : Bool
  /-- the code with which the command in progress ends, and the tickets that the ABANDON in progress has abandoned -/
  code : Nat
  abandoned : List Nat
  /-- the journal write head is known (R236) -/
  headKnown : Bool
  /-- the write head as the ring in MRAM shows it to a scan (R236, R243) -/
  ringHead : Nat
deriving DecidableEq, Repr

/-- The ledger after a reset that initialises LDG: no ticket in memory, every track fenced (R246). -/
def LdgSt.init : LdgSt :=
  { tickets := [], fresh := 1, freeQ := [], fenced := [], queues := [], rndTrack := 0, rndTaken := 0, lastKind := none, reqs := [],
    reqId := 0, compQ := [], sessQ := [], writing := none, held := [], journal := [], sent := [], spiQ := [], sessions := [], drained := [],
    pfw := false, storesOk := false, code := 0, abandoned := [], headKnown := false, ringHead := 0 }

/-- The watermarks of the stages (R228, R229), kept in retained logic, and the store-valid flags of R232. -/
structure WmSt where
  marks : SMap (Nat × Word)
  validA : Bool
  validB : Bool
  validC : Bool
deriving DecidableEq, Repr

/-- Retained logic that has lost its supply: no stage bound, no flag set (R229, R232). -/
def WmSt.init : WmSt := { marks := [], validA := false, validB := false, validC := false }

end Sys2Proof.Machine
end

