-- ==== Sys2Proof/Machine/TypesLed.lean ====
section
/-! DEFINITION. The state of LED sinks, matrix, frame and stitch ports that no register shows (chapter 10). -/
namespace Sys2Proof.Machine
open Sys2Proof

/-- What a sink follows: its LED_Kk_SET, its limp state, or nothing (class Off after Held) (R300). -/
inductive SinkMode where
  | set | limp | off
deriving DecidableEq, Repr

/-- A sink: the current code and duty in force since the last period start (R280), and, for a column, its on-time in ns since its string was
last judged (R282). -/
structure Sink where
  mode : SinkMode
  cur : Nat
  duty : Nat
  onNs : Nat
deriving DecidableEq, Repr

/-- A sink when its die's domain comes on. -/
def Sink.init : Sink := { mode := .set, cur := 0, duty := 0, onNs := 0 }

/-- A matrix port (R292 to R294). -/
structure Mat where
  /-- it holds its line channels and column sinks: from ENABLE to BLANK -/
  own : Bool
  scan : Bool
  limp : Bool
  dim : Nat
  /-- the line of the running slot; none before the first slot -/
  line : Option Nat
  /-- the line counter (R293, R175) -/
  lineCtr : Nat
  /-- the table the scan uses, and a copied table that waits for a frame start, by 12 × line + column -/
  tab : SMap Nat
  next : Option (SMap Nat)
  /-- buffers whose table copy runs, oldest first -/
  copies : List Nat
  /-- lines whose fault has been reported and that have had no slot without one since, and whether the running slot is blanked -/
  fault : List Nat
  slotBad : Bool
  /-- LED_Mm_CFG in force since the last frame start -/
  cfg : Word
  rejoin : Bool
deriving DecidableEq, Repr

/-- A matrix port after reset. -/
def Mat.init : Mat :=
  { own := false, scan := false, limp := false, dim := 0, line := none, lineCtr := 0, tab := [], next := none, copies := [], fault := [], slotBad := false,
    cfg := 0x70FA0C01, rejoin := false }

/-- A frame port: a REJOIN waits for its frame boundary; event 6 has been raised in this retiring span (R299, R303). -/
structure FPort where
  rejoin : Bool
  lostNoted : Bool
deriving DecidableEq, Repr

/-- What a stitch port does: nothing, shifting, or about to pulse its latch (R295, R296). -/
inductive StPhase where
  | idle | shifting | latching
deriving DecidableEq, Repr

/-- A stitch port: the frame port and buffer it shifts from, whether it shifts zeros, rejoins or repeats, the marker sent, the
configuration and length in force, a LATCH that waits, the result of the last marker check, the level of STn_LAT while the timeline drives
it, and the bits that its last shift sent, first bit first (R295, R297). -/
structure Stitch where
  phase : StPhase
  src : Nat
  buf : Nat
  zero : Bool
  rejoin : Bool
  again : Bool
  marker : Word
  cfg : Word
  len : Nat
  latchReq : Bool
  matched : Bool
  lat : Bool
  sent : List Bool
deriving DecidableEq, Repr

/-- A stitch port after reset. -/
def Stitch.init : Stitch :=
  { phase := .idle, src := 0, buf := 0, zero := false, rejoin := false, again := false, marker := 0, cfg := 0x00040000, len := 0,
    latchReq := false, matched := false, lat := false, sent := [] }

/-- The lighting block. -/
structure LedSt where
  sinks : SMap Sink
  /-- the derating factor of each die (R281) -/
  factorA : ℚ
  factorB : ℚ
  mat0 : Mat
  mat1 : Mat
  f0 : FPort
  f1 : FPort
  stitch : SMap Stitch
  /-- frame memory: port n, buffer b, offset o at n × 0x20000 + b × 0x10000 + o (R288) -/
  fmem : List (Nat × Byte)
  /-- words of the frame memory with an uncorrectable error, by the key of their first byte (R298) -/
  fbad : List Nat
deriving DecidableEq, Repr

/-- The block after a reset with both power dies just on. -/
def LedSt.init : LedSt :=
  { sinks := [], factorA := 1, factorB := 1, mat0 := Mat.init, mat1 := Mat.init, f0 := ⟨false, false⟩, f1 := ⟨false, false⟩,
    stitch := [], fmem := [], fbad := [] }

end Sys2Proof.Machine
end

