-- ==== Sys2Proof/Machine/TypesNet.lean ====
section
/-! DEFINITION. The state of LIN, 10BASE-T1S, the local links, the backbone ports and network management that no register shows (chapters
13 and 14). -/
namespace Sys2Proof.Machine
open Sys2Proof

/-- A LIN frame whose response is in progress: its table entry, its identifier, whether its checksum is the enhanced one, whether it is
published, its length, the data sent (R382). -/
structure LinCur where
  frame : Nat
  id : Nat
  enh : Bool
  publish : Bool
  len : Nat
  d0 : Word
  d1 : Word
deriving DecidableEq, Repr

/-- A LIN channel: the response in progress, whether its schedule has started, the frame-table entry of the header a slot sends
with its word as the slot began, a REJOIN that waits, a wake-up signal that is to be sent or repeated (R361), and the responses and commands
sent, oldest first: identifier, data, checksum (R361, R381, R382). -/
structure LinCh where
  cur : Option LinCur
  started : Bool
  hdr : Option (Nat × Word)
  rejoin : Bool
  wakeup : Bool
  sent : List (Nat × List Byte × Byte)
deriving DecidableEq, Repr

/-- A LIN channel after reset. -/
def LinCh.init : LinCh := { cur := none, started := false, hdr := none, rejoin := false, wakeup := false, sent := [] }

/-- A 10BASE-T1S segment beside its registers: its pending buffers in the order of their requests (R378); a keep-alive frame of network
management that is to be sent (R357); since PLCA last restarted, whether a BEACON has been sent or received (R376, R379); after a rejoin and
until the first frame received, A0 bits 31:0 at the rejoin (R379); the frames sent, oldest first, each with its padding and FCS. -/
structure T1sSeg where
  pend : List Nat
  ka : Bool
  beacon : Bool
  since : Option Word
  sent : List (List Byte)
deriving DecidableEq, Repr

/-- A segment after reset. -/
def T1sSeg.init : T1sSeg := { pend := [], ka := false, beacon := false, since := none, sent := [] }

/-- The 10BASE-T1S segments: rings and buffers by word offset in the block (R377, R378), and the two segments. -/
structure T1sSt where
  mem : SMap Word
  seg0 : T1sSeg
  seg1 : T1sSeg
deriving DecidableEq, Repr

/-- An I²C transfer in progress: the target's address, the bytes it reads, whether 9 clocks and a STOP go before it, the bytes it writes. -/
structure I2cXfer where
  addr : Nat
  rlen : Nat
  clear : Bool
  out : List Byte
deriving DecidableEq, Repr

/-- The local links: ZLP frames passed to the ledger whose answer is pending, whether the last SPI write was discarded, the bytes that the
SPI host port sent in the last transaction (R387, R389), I²C transfers in progress, and what transfers have sent, oldest first: the controller,
whether 9 clocks and a STOP went first, the bytes (R390). -/
structure LclSt where
  spiPend : Nat
  lastDiscard : Bool
  miso : List Byte
  i2c0 : Option I2cXfer
  i2c1 : Option I2cXfer
  i2cSent : List (Nat × Bool × List Byte)
deriving DecidableEq, Repr

/-- What a frame of a backbone port carries (R373): an ARP reply or a neighbour advertisement for the device's address, a ledger answer, an
802.1AS message; or the place, by number, of a ledger answer that is not complete yet, which later answers stay behind. -/
inductive EthMsg where
  | arp | na
  | zlp (a : ZAns)
  | ptp
  | later (id : Nat)
deriving DecidableEq, Repr

/-- Whether it is the place of an answer that is not complete. -/
def EthMsg.waits : EthMsg → Bool
  | .later _ => true
  | _ => false

/-- A frame of a backbone port (R369, R373): the port, its addresses, the VID and the PCP of its tag, the device's IP address, the
addressee's and the TTL or hop limit, the UDP ports, what it carries. -/
structure EthOut where
  port : Nat
  dst : BitVec 48
  src : BitVec 48
  tag : Option (BitVec 12 × Nat)
  ip : Option (IpAddr × IpAddr × Nat)
  udp : Option (Nat × Nat)
  msg : EthMsg
deriving DecidableEq, Repr

/-- Network management: what each bus's timer was last loaded with in ms, buses that a remote wake in Park makes Awake, a remote wake that
has passed its filter in this handshake (R356, R364, R366). -/
structure NmgSt where
  timer : SMap Nat
  parkWake : List Nat
  woke : Bool
deriving DecidableEq, Repr

/-- The links together. -/
structure NetSt where
  lin : SMap LinCh
  t1s : T1sSt
  lcl : LclSt
  /-- frames queued for transmission on the backbone ports and the places of answers among them, in the order of their requests; the frames
  sent, oldest first (R373, R391) -/
  ethQ : List EthOut
  ethSent : List EthOut
  nmg : NmgSt
deriving DecidableEq, Repr

/-- The links after reset. -/
def NetSt.init : NetSt :=
  { lin := [], t1s := ⟨[], T1sSeg.init, T1sSeg.init⟩, lcl := ⟨0, false, [], none, none, []⟩, ethQ := [], ethSent := [], nmg := ⟨[], [], false⟩ }

end Sys2Proof.Machine
end

