-- ==== Sys2Proof/Machine/TypesPsw.lean ====
section
/-! DEFINITION. The state of the protected switch channels and of the power dies that no register shows (chapter 09). -/
namespace Sys2Proof.Machine
open Sys2Proof

/-- What a channel's output follows between actions and period starts: a command of R252 and the duty in force. -/
structure OutCmd where
  cmd : Nat
  d : Nat
deriving DecidableEq, Repr

/-- The level of an output (R252): every switch open, the high switch closed, the low switch of a half-bridge closed, or PWM with the
high switch closed for `d` of 4,096. No level closes both switches (R258). -/
inductive Level where
  | opened | high | low
  | pwm (d : Nat)
deriving DecidableEq, Repr

/-- A channel beside its registers. -/
structure Chan where
  out : OutCmd
  /-- the limp state in force, if the output is in it (R268, R271) -/
  limp : Option OutCmd
  /-- the cap the power die keeps, and the cap in force since the last period start (R275) -/
  cap : Nat
  capIn : Nat
  /-- the junction reached TSD with every switch open and has not cooled (R261) -/
  hot : Bool
  /-- the junction has tripped and has not been reported cooled since (R261, R272) -/
  warm : Bool
  /-- the phase of a running open-load test: 0 none, 1 source off, 2 source on (R265) -/
  test : Nat
  /-- a SAMPLE has been triggered and its value not yet copied (R259) -/
  sampleDue : Bool
  /-- the wire model's X in square amperes (R262) -/
  x : ℚ
  /-- PSW_CHc_PWM in force (R258) -/
  pwm : Word
  /-- the length in ns of a shortened period that is running (R258) -/
  span : Option Nat
deriving DecidableEq, Repr

/-- A channel when its die's domain comes on. -/
def Chan.init : Chan :=
  { out := ⟨0, 0⟩, limp := none, cap := 16, capIn := 16, hot := false, warm := false, test := 0, sampleDue := false, x := 0, pwm := 0x1388, span := none }

/-- A power die beside its registers: domain on (R54); taken as off by the control die (R251); feed groups 1 and 2 lost (R264). -/
structure DieSt where
  on : Bool
  away : Bool
  lost1 : Bool
  lost2 : Bool
deriving DecidableEq, Repr

/-- A power die right after its domain came on: both feed groups start lost (R264). -/
def DieSt.init : DieSt := { on := true, away := false, lost1 := true, lost2 := true }

/-- The channels and the two power dies. -/
structure PswSt where
  chans : SMap Chan
  dieA : DieSt
  dieB : DieSt
deriving DecidableEq, Repr

/-- The channels with both domains just on. -/
def PswSt.init : PswSt := { chans := [], dieA := DieSt.init, dieB := DieSt.init }

/-- A block's answer in the entry handshake (R447). -/
inductive HsAns where
  | ack | delay
  | refuse (reason : Nat)
deriving DecidableEq, Repr

end Sys2Proof.Machine
end

