-- ==== Sys2Proof/Machine/TypesPwr.lean ====
section
/-! DEFINITION. The state of the power-state controller that no register shows (chapter 18). -/
namespace Sys2Proof.Machine
open Sys2Proof

/-- Where the control die is (R444): Run, Doze, between the commit and the end of entry to Park or Off, Park, Off, held in reset, or
released and before step 6 of R460. -/
inductive PwrPhase where
  | run | doze | parking | park | offing | off | inReset | starting
deriving DecidableEq, Repr

/-- What a frame between the control die and a power die carries (R16, R17, R31, R255, R256). An item is named by its slot and generation. -/
inductive FrameBody where
  | idle
  /-- an action for a channel: its ticket, whether an item that context 0 armed sent it, and that item -/
  | action (c cmd val : Nat) (tkt : Option (Nat × Word)) (item0 : Bool) (slot : Option (Nat × Nat))
  /-- a register write of a context -/
  | write (w addr : Nat) (v : Word)
  /-- the trigger of a sample for an item -/
  | sense (target : Nat) (slot : Nat × Nat)
  /-- a safe frame (R466) -/
  | safe
  /-- the watermark of a stage, or none (R229, R545) -/
  | bind (stage : Nat) (mark : Option (Nat × Word))
  /-- the cap of a channel (R275) -/
  | cap (c k : Nat)
  /-- the fields of an outfit's descriptor, staged; and their commit (R531, R532) -/
  | staging (d : List Word)
  | commit
  /-- the outcome of an action for the item that sent it -/
  | report (slot : Option (Nat × Nat)) (outcome : Nat)
  /-- an event of the power die -/
  | event (src pay : Nat)
  /-- a bit of the input mirrors: of the line faults or of the levels, and whether a change of level set it (R306, R311) -/
  | mirror (fault : Bool) (i : Nat) (b change : Bool)
deriving DecidableEq, Repr

/-- One direction of the frame traffic between the control die and a power die (R16, R17): the number of the next new frame, the frames
sent and not acknowledged, oldest first, the number the receiver expects next, and what waits until fewer than 8 are unacknowledged. -/
structure LinkDir where
  next : Nat
  unacked : List (Nat × FrameBody)
  expect : Nat
  waiting : List FrameBody
deriving DecidableEq, Repr

/-- A direction in which no frame has been sent. -/
def LinkDir.init : LinkDir := { next := 0, unacked := [], expect := 0, waiting := [] }

/-- The die links: the directions, by 2 × die, plus 1 toward the control die; the run of frames with a failed CRC that a link has
delivered, by 2 × link, plus 1 toward the control die (R18); the link whose REJOIN is in progress (R28). -/
structure LnkSt where
  dirs : SMap LinkDir
  runs : SMap Nat
  rejoin : Option Nat
deriving DecidableEq, Repr

/-- The links when a reset releases the control die. -/
def LnkSt.init : LnkSt := { dirs := [], runs := [], rejoin := none }

/-- The controller. -/
structure PwrSt where
  phase : PwrPhase
  /-- the handshake in progress: to Park (true) or to Off (R447) -/
  target : Option Bool
  /-- VIO1 and VIO2 are in range (R54, R56) -/
  io1 : Bool
  io2 : Bool
  /-- blocks whose own limit of Delay has run out in this handshake, by code of R449 -/
  expired : List Nat
  /-- a wake request has been latched since the last commit (R453, R456) -/
  wake : Bool
  /-- the source of a cold start from Off that die A keeps, code and detail (R456) -/
  offWake : Option (Nat × Nat)
  /-- the level of the ALIVE land (R474) -/
  alivePin : Bool
  /-- sources whose rails were not idle when a reset took every source as idle; each raises again at release (R463) -/
  rails : List (Nat × Bool)
  /-- runs of slow measurements of the process monitors, up to 8 (R479) -/
  slow : SMap Nat
  /-- A1 when the ALIVE watchdog's window last started (R474) -/
  kickAt : Nat
  /-- A1 at the last power-fail warning (R244, R491) -/
  pfwAt : Nat
  /-- the start-up in progress follows a cold or supply reset, and its self-test has been decided (R460, step 3) -/
  supply : Bool
  tested : Bool
  /-- context 0 of the image has still to issue its first packet (R460) -/
  first : Bool
deriving DecidableEq, Repr

/-- The controller after reset release (R460). -/
def PwrSt.init : PwrSt :=
  { phase := .starting, target := none, io1 := true, io2 := true, expired := [], wake := false, offWake := none, alivePin := false,
    rails := [], slow := [], kickAt := 0, pfwAt := 0, supply := true, tested := false, first := false }

end Sys2Proof.Machine
end

