-- ==== Sys2Proof/Machine/TypesTln.lean ====
section
/-! DEFINITION. The state of the Eloasel timeline engine that no register shows (chapter 07): axes, items, rosters, the due queue and
the discipline of A0. -/
namespace Sys2Proof.Machine
open Sys2Proof

/-- An axis: its 62-bit position, its quality (R174), the distance it has moved in all, whether its source is lost, whether it has
counted since reset (R175), the levels of its two inputs that the next count is judged from, how far A1 had moved when the second
input last changed, and the line starts of its matrix port that it has taken. -/
structure Axis where
  pos : Nat
  qual : Nat
  travel : Nat
  lost : Bool
  counted : Bool
  lvlA : Bool
  lvlB : Bool
  bAt : Nat
  lines : Nat
deriving DecidableEq, Repr

/-- A position axis after reset: Unset at position 0 (R207). -/
def Axis.init : Axis := { pos := 0, qual := 3, travel := 0, lost := false, counted := false, lvlA := false, lvlB := false, bAt := 0, lines := 0 }

/-- The state of a slot's last item (TLN_PEEK_META.state). -/
inductive SlotState where
  | free | armed | fired | cancelled
deriving DecidableEq, Repr

/-- The code of a slot state in TLN_PEEK_META.state. -/
def SlotState.code : SlotState → Nat
  | .free => 0 | .armed => 1 | .fired => 2 | .cancelled => 3

/-- One slot of the item store (R179, R184). `pos` is the absolute 48-bit position, or the offset of a roster member. `commit` is the
arming context's commit count at arming (R186); `order` the order in which TARM answered (R188). -/
structure Item where
  st : SlotState
  gen : Nat
  ctx : Nat
  tenant : Nat
  axis : Nat
  sense : Nat
  kind : Nat
  arg : Word
  wake : Bool
  late : Bool
  roster : Nat
  pos : Nat
  /-- ticket handle, and its track and sequence number captured at arming (R190) -/
  handle : Nat
  tkt : Option (Nat × Word)
  outcome : Nat
  order : Nat
  commit : Nat
  /-- a roster member armed and not yet in force (R194) -/
  stagedArm : Bool
  /-- a roster member whose cancellation is staged (R194) -/
  stagedCancel : Bool
  /-- a roster member out of force that waits for its last instance (R194) -/
  leaving : Bool
  /-- the wake request of a wake item has been made (R206) -/
  wakeDone : Bool
deriving DecidableEq, Repr

/-- A slot never used. -/
def Item.init : Item :=
  { st := .free, gen := 0, ctx := 0, tenant := 0, axis := 0, sense := 0, kind := 0, arg := 0, wake := false, late := false,
    roster := 0, pos := 0, handle := 0, tkt := none, outcome := 0, order := 0, commit := 0, stagedArm := false, stagedCancel := false,
    leaving := false, wakeDone := false }

/-- A started roster period: its number, its axis and start as they stood when it started (R195), its order stamp, the slots of its pending
instances (R191). -/
structure RPeriod where
  n : Nat
  axis : Nat
  start : Nat
  stamp : Nat
  pending : List Nat
deriving DecidableEq, Repr

/-- A roster: the next period to start, one past the highest period ever started, the started periods (R191, R192). -/
structure Roster where
  nextN : Nat
  startedTo : Nat
  periods : List RPeriod
deriving DecidableEq, Repr

/-- A roster after reset. -/
def Roster.init : Roster := { nextN := 0, startedTo := 0, periods := [] }

/-- What has fallen due (R187): a single item, an instance of a roster period, or a period start. -/
inductive DueKind where
  | single (slot : Nat)
  | inst (roster n slot : Nat)
  | period (roster n : Nat)
deriving DecidableEq, Repr

/-- An entry of the due queue: its axis, the axis's travel at its position, its order keys (R188), the cycle in which it fell due (R189),
whether it counts as late. -/
structure Due where
  axis : Nat
  travel : Nat
  ord1 : Nat
  ord2 : Nat
  cyc : Nat
  late : Bool
  kind : DueKind
deriving DecidableEq, Repr

/-- The engine. -/
structure TlnSt where
  axes : SMap Axis
  items : SMap Item
  /-- the next slot never used, and the freed slots oldest first (R185) -/
  fresh : Nat
  freeQ : List Nat
  order : Nat
  rosters : SMap Roster
  due : List Due
  /-- an item has fired in the present cycle (R189) -/
  fired : Bool
  /-- A0: remaining offset in 10^-9 of 2 ns, rate correction in ppb, the fraction of a count carried in 10^-9 -/
  off : Int
  rate : Int
  frac : Int
  /-- consecutive Syncs inside and outside the lock threshold (R198) -/
  inCnt : Nat
  outCnt : Nat
  holdRunning : Bool
  /-- the TPULSE configuration in force (R203) -/
  pulseCfg : Word
  pulseHigh : Bool
  /-- counts of A1 for which a pulse still lasts (R202) -/
  pulseLeft : Nat
  /-- A0 has reached a boundary of TPULSE that is not dealt with yet (R201, R202) -/
  atBound : Bool
  /-- the last Sync of BB0 and BB1: how far A1 had moved, and whether BMCA gave the port the slave role (R197) -/
  sync0 : Option (Nat × Bool)
  sync1 : Option (Nat × Bool)
  /-- peer delay of BB0 and BB1 in ns (R197) -/
  pdelay0 : Nat
  pdelay1 : Nat
  /-- counts by which A0 and A1 have advanced on the LPO and that are not yet judged, and the fraction in 1/32 (R205, R432) -/
  parked0 : Nat
  parked : Nat
  lpoFrac : Nat
  /-- the position of A0 before the update in which the start that commits an outfit change fell due (R532) -/
  a0Before : Nat
deriving DecidableEq, Repr

/-- The engine after a reset that initialises TLN (R207): A0 Unset counting from 0, A1 at 0 and Locked, A2 to A7 Unset at 0. -/
def TlnSt.init : TlnSt :=
  { axes := [(1, { Axis.init with qual := 0 })], items := [], fresh := 0, freeQ := [], order := 0, rosters := [], due := [], fired := false, off := 0,
    rate := 0, frac := 0, inCnt := 0, outCnt := 0, holdRunning := false, pulseCfg := 0x83E803E8, pulseHigh := false, pulseLeft := 0,
    atBound := false, sync0 := none, sync1 := none, pdelay0 := 0, pdelay1 := 0,
    parked0 := 0, parked := 0, lpoFrac := 0, a0Before := 0 }

end Sys2Proof.Machine
end

