-- ==== Sys2Proof/Machine/TypesUpd.lean ====
section
/-! DEFINITION. The state of the update engine, the key store and the recovery ROM that no register shows (chapter 22), and of outfit
changes (chapter 23) and the self-test (chapter 21). -/
namespace Sys2Proof.Machine
open Sys2Proof

/-- What a checked bank holds: the package kind and its segments. -/
structure Bank where
  kind : Nat
  segs : List Seg
deriving DecidableEq, Repr

/-- A bank that holds nothing checked. -/
def Bank.init : Bank := { kind := 0, segs := [] }

/-- A slot of the key store (R523): its bytes and its change counter; an empty slot holds no byte. -/
structure KeySlot where
  bytes : List Byte
  ctr : Nat
deriving DecidableEq, Repr

/-- Where the answer of a ZLP update message goes: link, source, session. -/
structure ZReply where
  link : ZLink
  src : ZSrc
  sess : Nat
deriving DecidableEq, Repr

/-- What the engine does in the background: a block write, a check with where its answer goes and the number of its place among the answers
(R373), the load of a tenant's new segment. -/
inductive UpdJob where
  | write (block : Nat) (bytes : List Byte)
  | check (reply : Option (ZReply × Nat))
  | load (reply : Option ZReply)
deriving DecidableEq, Repr

/-- A settings copy in progress (R522): the context, its tenant, the offset, the bytes. -/
structure SetJob where
  ctx : Nat
  tenant : Nat
  off : Nat
  bytes : List Byte
deriving DecidableEq, Repr

/-- The update engine. -/
structure UpdSt where
  bank0 : Bank
  bank1 : Bank
  /-- the package kind that BEGIN named, the staged bytes by 4,096 × block + offset, and the 16-byte units received (R513, R514) -/
  kind : Nat
  bytes : List (Nat × Byte)
  units : SMap Bool
  job : Option UpdJob
  sets : Option SetJob
  /-- tenants whose settings are kept during a trial (R522) -/
  kept : List Nat
  keys : SMap KeySlot
  /-- the recovery record: the values of the registers it holds (R525) -/
  record : Option (List Word)
  /-- the recovery ROM runs; it has run since the last image start (R525) -/
  rom : Bool
  romNote : Bool
  /-- the trial timer of the Trial bank has been started; A1 at its start (R520, R521) -/
  trialStarted : Bool
  trialAt : Nat
  /-- an activation reset is to follow (R521, R525), once the answer to the message that causes it has left the SPI host port (R515) -/
  resetDue : Bool
  resetWaits : Bool
deriving DecidableEq, Repr

/-- The engine as shipped: banks Empty, no key beside the transport key. -/
def UpdSt.init : UpdSt :=
  { bank0 := Bank.init, bank1 := Bank.init, kind := 0, bytes := [], units := [], job := none, sets := none, kept := [], keys := [],
    record := none, rom := false, romNote := false, trialStarted := false, trialAt := 0, resetDue := false, resetWaits := false }

/-- A repair entry (R506): memory, instance, bank, and the row or the column that a spare replaces. -/
structure Repair where
  mem : Nat
  inst : Nat
  bank : Nat
  isRow : Bool
  line : Nat
deriving DecidableEq, Repr

/-- The self-test: the test that runs (full or short, at a start or at a shutdown), the repair table, the repairs in force, which a start
applies (R507), and whether the last start found the control die unfit to load a code bank (R508). -/
structure BistSt where
  running : Option (Bool × Bool)
  repairs : List Repair
  applied : List Repair
  unfit : Bool
deriving DecidableEq, Repr

/-- The self-test of a new unit. -/
def BistSt.init : BistSt := { running := none, repairs := [], applied := [], unfit := false }

/-- Outfits: the descriptor that is Staging or Armed, whether it commits at once, the descriptor in force, and what each power die has staged
(R531, R535). -/
structure OutSt where
  staged : Option (List Word)
  now : Bool
  force : Option (List Word)
  onDie : SMap (List Word)
deriving DecidableEq, Repr

/-- No outfit in force (R540). -/
def OutSt.init : OutSt := { staged := none, now := false, force := none, onDie := [] }

end Sys2Proof.Machine
end

