-- ==== Sys2Proof/Machine/State.lean ====
section
/-! DEFINITION. The state of the device, the reasons a step can stop, and the state right after reset. -/
namespace Sys2Proof.Machine
open Sys2Proof

/-- The reasons of a fault. No meaning raises one: the spec gives every command of the table an effect. Safe. -/
inductive Fault where
  /-- Raised by nobody; it stands so that the type is closed and inhabited. Safe. -/
  | never
deriving DecidableEq, Repr

/-- The reasons of a refusal. -/
inductive Refusal where
  /-- Raised by the arm of a command that has no meaning yet, with its mnemonic. Safe. -/
  | notModelled (mnemonic : String)
deriving DecidableEq, Repr

/-- The state of the device: plain data. -/
structure State where
  /-- the registers, by data-space address; a register not listed holds its reset value (R11) -/
  regs : SMap Word
  /-- the commands waiting, first in first out -/
  pending : List Instr
  /-- events on their way to context inputs (R162) -/
  evq : List EvMsg
  /-- raises on their way to the signal box (R463) -/
  raiseQ : List Raise
  /-- the model's own counter of free values drawn (log entry 3) -/
  freeCtr : Nat
  cpu : CpuSt
  tln : TlnSt
  ldg : LdgSt
  wm : WmSt
  psw : PswSt
  led : LedSt
  din : DinSt
  can : CanSt
  net : NetSt
  pwr : PwrSt
  lnk : LnkSt
  acc : AccSt
  mtr : MtrSt
  clk : ClkSt
  evr : EvrSt
  upd : UpdSt
  bist : BistSt
  out : OutSt
deriving DecidableEq, Repr

/-- The device right after a cold reset releases the control die: PWR_RSTCAUSE shows the cold reset, and PWR_CYCLES counts it as the
first (R458, log entry 58); every other register has its reset value. -/
def State.reset : State :=
  { regs := [(0x40020014, 1), (0x40020028, 1)], pending := [], evq := [], raiseQ := [], freeCtr := 0, cpu := CpuSt.init, tln := TlnSt.init, ldg := LdgSt.init,
    wm := WmSt.init, psw := PswSt.init, led := LedSt.init, din := DinSt.init, can := CanSt.init, net := NetSt.init,
    pwr := PwrSt.init, lnk := LnkSt.init, acc := AccSt.init, mtr := MtrSt.init, clk := ClkSt.init,
    evr := EvrSt.init, upd := UpdSt.init, bist := BistSt.init, out := OutSt.init }

end Sys2Proof.Machine
end

