-- ==== Sys2Proof/Machine/Ops.lean ====
section
/-! DEFINITION. The named operations over registers, contexts and memories, and the messages blocks send each other. -/
namespace Sys2Proof.Machine
open Sys2Proof Reg

/-- The outcome of a command that the spec gives an effect: always a next state. -/
abbrev Out := Host.Outcome State Fault Refusal

/-- The value of a register. -/
def State.rd (s : State) (r : Rg) : Word := SMap.get r.reset s.regs r.addr

/-- The state with a register set. -/
def State.wr (s : State) (r : Rg) (v : Word) : State := { s with regs := SMap.set r.reset s.regs r.addr v }

/-- The value of a field, as a number. -/
def State.get (s : State) (f : Fd) : Nat := getBits (s.rd f.r) f.hi f.lo

/-- A one-bit field as a Boolean. -/
def State.bit (s : State) (f : Fd) : Bool := s.get f == 1

/-- The state with a field set to the low bits of a number. -/
def State.put (s : State) (f : Fd) (n : Nat) : State := s.wr f.r (setBits (s.rd f.r) f.hi f.lo n)

/-- The state with a one-bit field set. -/
def State.putB (s : State) (f : Fd) (b : Bool) : State := s.put f (b2n b)

/-- The field raised to the value, if the value is larger. -/
def State.putMax (s : State) (f : Fd) (n : Nat) : State := if s.get f < n then s.put f n else s

/-- A saturating count field of the field's width, one up (R14, "saturates"). -/
def State.count (s : State) (f : Fd) : State := s.put f (satInc (f.hi - f.lo + 1) (s.get f))

/-- A wrapping count field, one up. -/
def State.wrap (s : State) (f : Fd) : State := s.put f (s.get f + 1)

/-- The effect of `f` where `b` holds, and none where it does not. -/
def State.iff (s : State) (b : Bool) (f : State → State) : State := if b then f s else s

/-- The register of context `c` of its own that shares an address with every other context's: the context stands above bit 32 of the key. -/
def own (c : Nat) (r : Rg) : Rg := ⟨r.addr + 2 ^ 32 * (c + 1), r.reset⟩

/-- Whether a source stays raised for as long as a condition holds that the signal box watches: SAFE_N low, and the monitors (R475 to
R479). Any other source of the device is raised by an occurrence, after which its pair is idle again. -/
def stays (src : Nat) : Bool := src == 1 || (32 ≤ src && src < 57)

/-- A source raises (R463): the raise is on its way to the signal box. -/
def State.raise (s : State) (src : Nat) (detail : Word := 0) : State := { s with raiseQ := s.raiseQ ++ [⟨src, false, stays src, detail⟩] }

/-- A wire fault of a source's pair (R462). -/
def State.raiseWire (s : State) (src : Nat) : State := { s with raiseQ := s.raiseQ ++ [⟨src, true, true, 0⟩] }

/-- A block posts an event (R162): it is on its way to the input that its route names. -/
def State.event (s : State) (src pay : Nat) : State := { s with evq := s.evq ++ [⟨src, pay % 16384, none⟩] }

/-- An event whose source names the context and the input itself (R162). -/
def State.eventTo (s : State) (src pay ctx inp : Nat) : State := { s with evq := s.evq ++ [⟨src, pay % 16384, some (ctx, inp)⟩] }

/-- A free value: a word the spec does not state, fresh at each drawing (log entry 3). -/
def State.freeW (s : State) : Word := Config.freeWord s.freeCtr

/-- The state after a free value has been drawn. -/
def State.drawn (s : State) : State := { s with freeCtr := s.freeCtr + 1 }

/-! ## Contexts and frames -/

/-- Context `c`. -/
def State.ctx (s : State) (c : Nat) : Ctx := SMap.get Ctx.init s.cpu.ctxs c

/-- The state with context `c` replaced. -/
def State.setCtx (s : State) (c : Nat) (x : Ctx) : State := { s with cpu := { s.cpu with ctxs := SMap.set Ctx.init s.cpu.ctxs c x } }

/-- The state with context `c` changed. -/
def State.modCtx (s : State) (c : Nat) (f : Ctx → Ctx) : State := s.setCtx c (f (s.ctx c))

/-- Word `w` of the frame of context `c` (R115): byte offset 4w. -/
def State.frame (s : State) (c w : Nat) : Word := SMap.get 0 s.cpu.frames (64 * c + w)

/-- The state with a frame word set. -/
def State.setFrame (s : State) (c w : Nat) (v : Word) : State :=
  { s with cpu := { s.cpu with frames := SMap.set 0 s.cpu.frames (64 * c + w) v } }

/-- The next order stamp, and the state that has used it. -/
def State.stamped (s : State) : State := { s with cpu := { s.cpu with stamp := s.cpu.stamp + 1 } }

/-- The contexts that are not Empty, in ascending order. -/
def State.liveCtxs (s : State) : List Nat := (s.cpu.ctxs.filter fun e => e.2.mode ≠ .empty).map (·.1)

/-! ## Memories -/

/-- A byte of data SRAM; data SRAM is cleared to 0 at every reset (R459). -/
def State.dByte (s : State) (a : Nat) : Byte := SMap.get 0 s.cpu.dmem a

/-- The state with a byte of data SRAM written. -/
def State.setDByte (s : State) (a : Nat) (v : Byte) : State :=
  { s with cpu := { s.cpu with dmem := SMap.set 0 s.cpu.dmem a v } }

/-- Four bytes as a little-endian word. -/
def wordOf (b0 b1 b2 b3 : Byte) : Word := b3 ++ b2 ++ b1 ++ b0

/-- Byte `i` of a word, little-endian. -/
def byteOf (w : Word) (i : Nat) : Byte := (w >>> (8 * i)).setWidth 8

/-- The word of data SRAM at an aligned address. -/
def State.dWord (s : State) (a : Nat) : Word := wordOf (s.dByte a) (s.dByte (a + 1)) (s.dByte (a + 2)) (s.dByte (a + 3))

/-- The bytes of a word that the enables select, written at an aligned address. -/
def State.setDBytes (s : State) (a : Nat) (be : BitVec 4) (v : Word) : State :=
  let f (i : Nat) (s : State) : State := if be.getLsbD i then s.setDByte (a + i) (byteOf v i) else s
  f 3 (f 2 (f 1 (f 0 s)))

/-- A whole word written. -/
def State.setDWord (s : State) (a : Nat) (v : Word) : State := s.setDBytes a 0xF v

/-- The counter block of unit `u` of code block `i` (R510): package identifier, tenant, 1 for a code block, block, unit. -/
def counterBlock (pkg tenant i u : Nat) : BitVec 128 :=
  BitVec.ofNat 32 pkg ++ BitVec.ofNat 8 tenant ++ BitVec.ofNat 8 1 ++ BitVec.ofNat 16 0 ++ BitVec.ofNat 32 i ++ BitVec.ofNat 32 u

/-- Byte `o` of the code blocks of a loaded segment, decrypted (R510). -/
def LoadedSeg.byte (l : LoadedSeg) (o : Nat) : Byte :=
  SMap.get 0 l.code o ^^^ (Config.aes256 l.key (counterBlock l.pkg l.tenant (o / 4096) (o % 4096 / 16))).extractLsb' (8 * (15 - o % 16)) 8

/-- A word of instruction SRAM (R511, R519): word k of a code block stands in its bytes 2k and 2k + 1, in bits 13:0. -/
def State.imemWord (s : State) (a : Nat) : Syl :=
  match s.cpu.loaded.reverse.find? fun l => decide (l.base ≤ a ∧ a < l.base + l.words) with
  | some l => (l.byte (2 * (a - l.base) + 1) ++ l.byte (2 * (a - l.base))).setWidth 14
  | none => 0

/-- What a byte of MRAM that is not listed reads as, by its offset in the window: as shipped, bytes 8 to 11 of every page slot of the recorder
hold 0xFF (R488); every other byte reads 0 (log entry 5). -/
def mramBlank (a : Nat) : Byte := if 0x900000 ≤ a ∧ a < 0xA80000 ∧ 8 ≤ a % 4096 ∧ a % 4096 < 12 then 0xFF else 0

/-- A byte of MRAM by its offset in the window. -/
def State.mByte (s : State) (a : Nat) : Byte := SMap.get (mramBlank a) s.cpu.mram a

/-- The state with a byte of MRAM written. -/
def State.setMByte (s : State) (a : Nat) (v : Byte) : State :=
  { s with cpu := { s.cpu with mram := SMap.set (mramBlank a) s.cpu.mram a v } }

/-- Bytes written to MRAM from an offset on. -/
def State.setMBytes (s : State) (a : Nat) : List Byte → State
  | [] => s
  | b :: bs => (s.setMByte a b).setMBytes (a + 1) bs

/-- `n` bytes of MRAM from an offset on. -/
def State.mBytes (s : State) (a n : Nat) : List Byte := (List.range n).map fun i => s.mByte (a + i)

/-- `n` little-endian bytes of a number. -/
def leBytes (n : Nat) (v : Nat) : List Byte := (List.range n).map fun i => BitVec.ofNat 8 (v / 256 ^ i)

/-- `n` bytes of data SRAM from an address on. -/
def State.dBytes (s : State) (a n : Nat) : List Byte := (List.range n).map fun i => s.dByte (a + i)

/-- The 32-bit word of a list of bytes at an offset, little-endian; bytes beyond the list read 0. -/
def leWord (l : List Byte) (i : Nat) : Word := wordOf (l.getD i 0) (l.getD (i + 1) 0) (l.getD (i + 2) 0) (l.getD (i + 3) 0)

/-- The number of data SRAM's bytes: 12 MiB (R22). -/
def dSize : Nat := 0xC00000

/-! ## Grants and violations (R12 to R14, R163 to R165, R542) -/

/-- Word `w` of the capability set of context `c`. -/
def State.capWord (s : State) (c w : Nat) : Word := s.rd ⟨(TSK_CAPSET (s.get (TSK_CTX_CFG_capset c))).addr + 4 * w, 0⟩

/-- Whether bit `b` of word `w` of the context's capability set is set; context 0 is granted everything (R164). -/
def State.capBit (s : State) (c w b : Nat) : Bool := c == 0 || bitOf (s.capWord c w) b

/-- Block bit `b` (chapter 06, capability set, word 0x00). -/
def State.blockOk (s : State) (c b : Nat) : Bool := s.capBit c 0 b
/-- Power channel `n`. -/
def State.chanOk (s : State) (c n : Nat) : Bool := s.capBit c (1 + n / 32) (n % 32)
/-- LED sink `k`. -/
def State.sinkOk (s : State) (c k : Nat) : Bool := s.capBit c (5 + k / 32) (k % 32)
/-- LED port `p` in the order M0, M1, F0, F1, S0 to S3. -/
def State.portOk (s : State) (c p : Nat) : Bool := s.capBit c 6 (16 + p)
/-- CAN controller `n`. -/
def State.canOk (s : State) (c n : Nat) : Bool := s.capBit c 7 n
/-- LIN channel `n`. -/
def State.linOk (s : State) (c n : Nat) : Bool := s.capBit c 7 (12 + n)
/-- 10BASE-T1S segment `n`. -/
def State.t1sOk (s : State) (c n : Nat) : Bool := s.capBit c 7 (20 + n)
/-- Axis `n`. -/
def State.axisOk (s : State) (c n : Nat) : Bool := s.capBit c 7 (24 + n)
/-- Ledger track `n`. -/
def State.trackOk (s : State) (c n : Nat) : Bool := s.capBit c (8 + n / 32) (n % 32)

/-- A violation of context `c` (R14, R542): the count saturates; kind and address are those of the first. -/
def State.violate (s : State) (c kind : Nat) (addr : Word) : State :=
  let s := if s.get (TSK_CTX_VIOL_kind c) = 0 then (s.put (TSK_CTX_VIOL_kind c) kind).wr (TSK_CTX_VADDR c) addr else s
  s.count (TSK_CTX_VIOL_count c)

/-- A capability violation of an access that names no address (R165): the first offending address is a free value. -/
def State.violateCap (s : State) (c : Nat) : State := (s.violate c 3 s.freeW).drawn

/-- Whether one 64-byte block is covered by a data window of context `c` with the permission (R163). -/
def State.blockCovered (s : State) (c blk : Nat) (write : Bool) : Bool :=
  (List.range 4).any fun k =>
    let p := if write then s.bit (TSK_CTX_WIN_BASE_w c k) else s.bit (TSK_CTX_WIN_BASE_r c k)
    p && s.get (TSK_CTX_WIN_BASE_base c k) ≤ blk && blk ≤ s.get (TSK_CTX_WIN_LIMIT_limit c k)

/-- Whether every byte of `[a, a + n)` is covered (R13, R163); context 0 needs no window (R164). -/
def State.covered (s : State) (c a n : Nat) (write : Bool) : Bool :=
  c == 0 || (List.range ((a + n - 1) / 64 - a / 64 + 1)).all fun i => s.blockCovered c (a / 64 + i) write

/-- Whether packet address `pc` lies with both words in the code window of context `c` (R88, R163). -/
def State.codeCovered (s : State) (c pc : Nat) : Bool :=
  c == 0 || (s.get (TSK_CTX_CODEWIN_base c) ≤ pc / 32 && pc / 32 ≤ s.get (TSK_CTX_CODEWIN_limit c))

/-- The priority of a context; the stationmaster ranks above every priority (chapter 06). -/
def State.prio (s : State) (c : Nat) : Nat := if c = 0 then 16 else s.get (TSK_CTX_CFG_prio c)

/-- The tenant of a context; context 0 always belongs to tenant 0 (R150). -/
def State.tenant (s : State) (c : Nat) : Nat := if c = 0 then 0 else s.get (TSK_CTX_CFG_tenant c)

/-! ## Gated blocks (R440) -/

/-- The buses of a leaf (R354): CAN and LIN one each, the T1S leaf both segments. -/
def leafBuses (b : Nat) : List Nat :=
  if 8 ≤ b ∧ b < 20 then [b - 8] else if 20 ≤ b ∧ b < 28 then [b - 8] else if b = 29 then [20, 21] else []

/-- Whether NMG manages a bus of the leaf. -/
def leafManaged (s : State) (b : Nat) : Bool := (leafBuses b).any fun k => s.bit (NMG_BUS_CFG_en k)
/-- Whether a bus of the leaf that NMG manages is Awake. -/
def leafAwake (s : State) (b : Nat) : Bool := (leafBuses b).any fun k => s.bit (NMG_BUS_CFG_en k) && s.get (NMG_BUS_STATE_state k) == 2

/-- Whether a gate is on. -/
def gateOn (s : State) (b : Nat) : Bool := bitOf (s.rd CLK_GATE) b || leafAwake s b

/-- The leaf of the gate tree that an address of the data space lies behind, if any: the LED leaf gates the frame memories and the stitch
ports alone (R440). -/
def leafOf (a : Nat) : Option Nat :=
  let b := a / 0x10000
  if 0x4020 ≤ b ∧ b < 0x402C then some (b - 0x4020 + 8)
  else if 0x4030 ≤ b ∧ b < 0x4038 then some (b - 0x4030 + 20)
  else if b = 0x4038 then some 28
  else if b = 0x4039 then some 29
  else if b = 0x403B then some 5
  else if b = 0x4016 then some 31
  else if b = 0x4014 ∧ (0x8000 ≤ a % 0x10000 ∨ (0x1400 ≤ a % 0x10000 ∧ a % 0x10000 < 0x1800)) then some 30
  else none

/-- Whether an address lies behind a leaf that is off. -/
def gatedOff (s : State) (a : Nat) : Bool := match leafOf a with | some b => ! gateOn s b | none => false

/-! ## Register accesses -/

/-- Whether the control die runs: powered and not held in reset (R48, R58). -/
def dieRuns (s : State) : Bool := match s.pwr.phase with | .off | .inReset => false | _ => true

/-- Whether the control die can be reached (R444): it runs, and is not in Park. -/
def ctlReached (s : State) : Bool := match s.pwr.phase with | .off | .inReset | .park => false | _ => true

/-- Whether the blocks that PLL1 clocks run: the timeline, the CAN controllers, the stitch and ranging ports (R430, R432, R437). -/
def perRuns (s : State) : Bool := s.bit CLK_STATUS_pll1

/-- An access of context `w` to the register at an address while the control die can be reached (R48, R444): without the grant it is
ignored and counts as a capability violation (R12, R14,
R165); behind a leaf that is off it is ignored and sets s_gated (R440); else it is performed. -/
def State.granted (s : State) (w : Nat) (ok : Bool) (r : Rg) (f : State → State) : State :=
  if ! ctlReached s then s else if ! ok then s.violate w 3 (BitVec.ofNat 32 r.addr) else if gatedOff s r.addr then s.putB CLK_STATUS_s_gated true else f s

/-- The ticket that a port write of context `w` carries (R148): track and sequence number. -/
def State.boundTkt (s : State) (w : Nat) : Option (Nat × Word) := (s.ctx w).bound.map (·.2)

end Sys2Proof.Machine
end

