-- ==== Sys2Proof/Machine/AccBase.lean ====
section
/-! DEFINITION. Events and sessions of the access unit (R402, R403, R410). -/
namespace Sys2Proof.Machine
open Sys2Proof Reg

/-- The access part of the state changed. -/
def State.modAcc (s : State) (f : AccSt → AccSt) : State := { s with acc := f s.acc }

/-- An event of the unit, if its code is enabled: code in bits 3:0, detail in bits 13:8 (R410). -/
def accEvent (s : State) (code detail : Nat) : State :=
  if bitOf (s.rd ACC_EVEN) code then s.event 762 (code + 256 * (detail % 64)) else s

/-- The parked timer restarts at 0 (R407), and what MRAM keeps of it with it (R395, log entry 81). -/
def parkedZero (s : State) : State := (s.wr ACC_PARKED 0).modAcc fun a => { a with parkedStored := 0 }

/-- A session ends with its reason (R403): 1 door, 2 timeout, 3 END. -/
def endSession (s : State) (x why : Nat) : State :=
  if s.bit (ACC_SESS_active x) then
    let s := ((s.putB (ACC_SESS_active x) false).put (ACC_SESS_why x) why).put (ACC_SESS_remain x) 0
    accEvent s 2 (32 * x + why)
  else s

/-- The debounced level of input `i` has changed to `lvl` (R403): the door opening ends the entry session. -/
def doorChange (s : State) (i : Nat) (lvl : Bool) : State :=
  if s.get ACC_CFG_doorin = i ∧ s.bit ACC_CFG_doorlvl = lvl then endSession s 0 1 else s

end Sys2Proof.Machine
end

