-- ==== Sys2Proof/Machine/Bytes.lean ====
section
/-! DEFINITION. Bytes on the links and in MRAM: big-endian fields, the two cyclic redundancy checks, and the reads an owner of an MRAM region
makes (R25, R235, R242, R378, R387). -/
namespace Sys2Proof.Machine
open Sys2Proof Reg

/-- `n` big-endian bytes of a number. -/
def beBytes (n v : Nat) : List Byte := (leBytes n v).reverse
/-- The 4 bytes of a word, big-endian as the fields of a ZLP frame are (R235). -/
def beWord (w : Word) : List Byte := [byteOf w 3, byteOf w 2, byteOf w 1, byteOf w 0]
/-- The number that bytes spell, big-endian. -/
def beVal (l : List Byte) : Nat := l.foldl (fun a b => 256 * a + b.toNat) 0
/-- The field of `n` bytes at offset `i` of a list of bytes, big-endian. -/
def beField (l : List Byte) (i n : Nat) : Nat := beVal ((l.drop i).take n)

/-- One step over a byte of a check that shifts right, with its reversed polynomial. -/
def crcByte (poly c : Word) (b : Byte) : Word :=
  (List.range 8).foldl (fun x _ => if x.getLsbD 0 then (x >>> 1) ^^^ poly else x >>> 1) (c ^^^ b.setWidth 32)

/-- CRC-32C of a list of bytes. -/
def crc32c (l : List Byte) : Word := ~~~ (l.foldl (crcByte 0x82F63B78) 0xFFFFFFFF)
/-- The FCS of an Ethernet frame: CRC-32 of its bytes, least significant byte first on the wire. -/
def ethFcs (l : List Byte) : List Byte := leBytes 4 (~~~ (l.foldl (crcByte 0xEDB88320) 0xFFFFFFFF)).toNat

/-- The owner of `n` 64-bit words of MRAM from word `w` on reads them (R25): a correctable error is corrected, rewritten and raised; an
uncorrectable one is raised. -/
def mramSweep (s : State) (w n : Nat) : State :=
  let hit := s.cpu.mramErr.filter fun e => decide (w ≤ e.1 ∧ e.1 < w + n)
  let s := hit.foldl (fun s e => s.raise (if e.2 = 2 then 10 else 9)) s
  { s with cpu := { s.cpu with mramErr := s.cpu.mramErr.filter fun e => ! decide (w ≤ e.1 ∧ e.1 < w + n) || e.2 == 2 } }

/-- `n` 64-bit words of MRAM from word `w` on are written whole: their check bits are renewed. -/
def mramFresh (s : State) (w n : Nat) : State := { s with cpu := { s.cpu with mramErr := SMap.clear s.cpu.mramErr w n } }

/-- Whether one of `n` 64-bit words of MRAM from word `w` on has an uncorrectable error. -/
def mramLost (s : State) (w n : Nat) : Bool := s.cpu.mramErr.any fun e => decide (w ≤ e.1 ∧ e.1 < w + n) && e.2 == 2

end Sys2Proof.Machine
end

