-- ==== Sys2Proof/Machine/LedgerBase.lean ====
section
/-! DEFINITION. Tickets, watermarks and sequence numbers (R211, R213, R214, R228 to R232): the operations that other blocks share. -/
namespace Sys2Proof.Machine
open Sys2Proof Reg

/-- The ticket in the slot of a handle, if one is held there (R147). -/
def State.ticket (s : State) (h : Nat) : Option Ticket := s.ldg.tickets.find h
/-- The state with a ticket stored under its handle. -/
def State.setTicket (s : State) (h : Nat) (t : Ticket) : State := { s with ldg := { s.ldg with tickets := s.ldg.tickets.ins h t } }

/-- `a` is later than `b` (R211). -/
def seqLater (a b : Word) : Bool := let d := (a - b).toNat; 1 ≤ d && d < 2 ^ 31
/-- `a` is earlier than `b` (R211). -/
def seqEarlier (a b : Word) : Bool := seqLater b a

/-- The expected sequence of track `n` (R212). -/
def State.expected (s : State) (n : Nat) : Word := s.rd (LDG_TRK_NEXT n)

/-- A ticket Abandoned with a reason; its completion record waits (R213, R225). -/
def abandonTicket (s : State) (h reason : Nat) : State :=
  match s.ticket h with
  | none => s
  | some t =>
    let s := s.setTicket h { t with st := .abandoned, result := reason, recorded := false }
    { s with ldg := { s.ldg with compQ := s.ldg.compQ ++ [h] } }

/-- The tickets whose events a DRAIN discarded are settled: a Dispatched one is Abandoned with reason 0x02 (R213, R225). -/
def settleDrained (s : State) : State :=
  let hs := s.ldg.drained
  let s := { s with ldg := { s.ldg with drained := [] } }
  hs.foldl (fun s h => match s.ticket h with
    | some t => if t.st = .dispatched then abandonTicket s h 2 else s
    | none => s) s

/-- Whether track `n` is fenced; every track is from reset on (R246), whatever the heading of
LDG_TRKn_OWNERS gives (DEDUCED, log entry 83). -/
def State.isFenced (s : State) (n : Nat) : Bool := SMap.get true s.ldg.fenced n

/-- The store-valid flag of the store that holds stage `k` (R228, R232): channels on the die that owns them. -/
def stageOnDie (k : Nat) : Nat :=
  if 104 ≤ k then 2
  else if k < 8 then k / 4 else if k < 40 then (k - 8) / 16 else if k < 88 then (k - 40) / 24 else (k - 88) / 8
/-- The store-valid flag of store 0 (die A), 1 (die B) or 2 (control die). -/
def State.storeValid (s : State) (d : Nat) : Bool := match d with | 0 => s.wm.validA | 1 => s.wm.validB | _ => s.wm.validC
/-- The state with a store-valid flag set or cleared. -/
def State.setStoreValid (s : State) (d : Nat) (b : Bool) : State :=
  match d with
  | 0 => { s with wm := { s.wm with validA := b } }
  | 1 => { s with wm := { s.wm with validB := b } }
  | _ => { s with wm := { s.wm with validC := b } }
/-- A store loses its supply: its stages are unbound and its flag is cleared (R229, R232). -/
def State.loseStore (s : State) (d : Nat) : State :=
  let s := { s with wm := { s.wm with marks := s.wm.marks.filter fun e => stageOnDie e.1 ≠ d } }
  s.setStoreValid d false

/-- The 60 bytes of a journal record before its CRC (R242). -/
def recBody : JRec → List Byte
  | .admission t q p => [0x11, BitVec.ofNat 8 p.length] ++ leBytes 2 t ++ leBytes 4 q.toNat ++ (p ++ List.replicate 52 0).take 52
  | .completion t q ab r f =>
    [if ab then 0x25 else 0x23, BitVec.ofNat 8 r] ++ leBytes 2 t ++ leBytes 4 q.toNat ++ leBytes 4 f.toNat ++ List.replicate 48 0
  | .session k b f => [0x30, BitVec.ofNat 8 k, 0, 0] ++ leBytes 8 b ++ leBytes 8 f ++ List.replicate 40 0

/-- The 64 bytes of a journal record. -/
def recImage (r : JRec) : List Byte := let b := recBody r; b ++ leBytes 4 (crc32c b).toNat

/-- A slot of the key store: slot 0 holds the transport key as shipped (R523). -/
def keySlot (s : State) (k : Nat) : KeySlot :=
  match s.upd.keys.find k with
  | some x => x
  | none => ⟨if k = 0 then (List.range 16).map Config.transportKey else [], 0⟩

/-- The verdict of a stage on an action (R32, R33, R211, R230). -/
inductive Judge where
  /-- perform without reference to the watermark; `mismatch` when the action carries a ticket of another track -/
  | plain (mismatch : Bool)
  /-- perform; the watermark advances -/
  | advance (seq : Word)
  /-- already applied: not performed -/
  | already
deriving DecidableEq, Repr

/-- The comparison of an action's ticket with the watermark of stage `k`. -/
def judge (s : State) (k : Nat) (tkt : Option (Nat × Word)) : Judge :=
  match tkt with
  | none => .plain false
  | some (t, q) =>
    match s.wm.marks.find k with
    | none => .plain true
    | some (bt, w) => if bt ≠ t then .plain true else if seqLater q w then .advance q else .already

/-- An action of a stage in service: `perform` is its effect; the answer is its outcome, 1 applied or 2 already applied (R32, R33,
R230). An unbound stage or a ticket of another track counts a mismatch and raises source 61. -/
def stageAct (s : State) (k : Nat) (tkt : Option (Nat × Word)) (perform : State → State) : State × Nat :=
  match judge s k tkt with
  | .plain mis => ((if mis then (s.count LDG_COUNT_DROP_mismatch).raise 61 (BitVec.ofNat 32 k) else s) |> perform, 1)
  | .advance q =>
    let tr := (tkt.map (·.1)).getD 0
    (perform { s with wm := { s.wm with marks := s.wm.marks.ins k (tr, q) } }, 1)
  | .already => (s, 2)

end Sys2Proof.Machine
end

