-- ==== Sys2Proof/Machine/Link.lean ====
section
/-! DEFINITION. The die links as the blocks of the control die use them (R16, R17, R28, R34, R251, R255): link states, the numbered frames
of each direction, and how an action or a write reaches a power die. -/
namespace Sys2Proof.Machine
open Sys2Proof Reg

/-- A power die. -/
def State.die (s : State) (d : Nat) : DieSt := if d = 0 then s.psw.dieA else s.psw.dieB
/-- The state with a power die replaced. -/
def State.setDie (s : State) (d : Nat) (x : DieSt) : State :=
  if d = 0 then { s with psw := { s.psw with dieA := x } } else { s with psw := { s.psw with dieB := x } }
/-- Whether a die answers for itself: its domain is on and the control die does not take it as off (R251). -/
def dieReached (s : State) (d : Nat) : Bool := (s.die d).on && ! (s.die d).away

/-- The link part of the state changed. -/
def State.modLnk (s : State) (f : LnkSt → LnkSt) : State := { s with lnk := f s.lnk }

/-- The outfit part of the state changed. -/
def State.modOut (s : State) (f : OutSt → OutSt) : State := { s with out := f s.out }

/-- The state of a die link in SYS_LINK_STATUS: 0 traffic, 1 siding, 2 retraining (R28). -/
def linkState (s : State) (k : Nat) : Nat := getBits (s.rd SYS_LINK_STATUS) (2 * k + 1) (2 * k)
/-- The state with a link's state set. -/
def setLink (s : State) (k v : Nat) : State := s.wr SYS_LINK_STATUS (setBits (s.rd SYS_LINK_STATUS) (2 * k + 1) (2 * k) v)
/-- The other link of the same power die. -/
def otherLink (k : Nat) : Nat := 2 * (k / 2) + (1 - k % 2)
/-- Whether a link of the die is in traffic: without one no frame passes (R28). -/
def dieLinked (s : State) (d : Nat) : Bool := linkState s (2 * d) == 0 || linkState s (2 * d + 1) == 0

/-- Whether idle frames alone are sent: during a self-test, after a failed one, and while the recovery ROM runs (R502, R508, R525). -/
def idleOnly (s : State) : Bool := s.bist.running.isSome || s.bist.unfit || s.upd.rom

/-- Whether frames with a body go to the die: a link is in traffic; in Stop idle frames alone are sent as well (R467). -/
def dieFed (s : State) (d : Nat) : Bool := dieLinked s d && s.get FLT_STATUS_mode != 2 && ! idleOnly s

/-- Whether a frame that waits may go: toward the control die while a link is in traffic, toward a power die while the die is fed; in Stop the
safe frame of its entry still goes (R466, R467). -/
def mayGo (s : State) (d : Nat) (up : Bool) (b : FrameBody) : Bool :=
  if up then dieLinked s d else dieFed s d || (b == .safe && dieLinked s d && ! idleOnly s)

/-- A direction of a die's frames: down toward the power die, up toward the control die. -/
def State.dir (s : State) (d : Nat) (up : Bool) : LinkDir := SMap.get LinkDir.init s.lnk.dirs (2 * d + b2n up)
/-- The state with a direction replaced. -/
def State.setDir (s : State) (d : Nat) (up : Bool) (x : LinkDir) : State :=
  s.modLnk fun l => { l with dirs := SMap.set LinkDir.init l.dirs (2 * d + b2n up) x }

/-- Whether one more frame may be sent in a direction: fewer than 8 are unacknowledged (R17). -/
def LinkDir.room (x : LinkDir) : Bool := decide (x.unacked.length < 8)
/-- A frame takes the next number and stays with its sender until it is acknowledged (R17). -/
def LinkDir.push (x : LinkDir) (b : FrameBody) : LinkDir := { x with next := x.next + 1, unacked := x.unacked ++ [(x.next, b)] }
/-- Whether nothing waits and every frame sent has been received: the next frame is the one expected. -/
def LinkDir.clear (x : LinkDir) : Bool := x.room && x.expect == x.next && x.waiting.isEmpty
/-- A frame sent, received and acknowledged. -/
def LinkDir.pass (x : LinkDir) : LinkDir := { x with next := x.next + 1, expect := x.next + 1 }

/-- What enters frames and what goes on waiting: in order, what may go, as far as there is room. -/
def departs (may : FrameBody → Bool) : Nat → List FrameBody → List FrameBody × List FrameBody
  | _, [] => ([], [])
  | n, b :: bs =>
    if 0 < n ∧ may b then let (go, keep) := departs may (n - 1) bs; (b :: go, keep)
    else let (go, keep) := departs may n bs; (go, b :: keep)

/-- What waits enters frames as far as there is room (R17). -/
def fillDir (s : State) (d : Nat) (up : Bool) : State :=
  let x := s.dir d up
  let (go, keep) := departs (mayGo s d up) (8 - x.unacked.length) x.waiting
  s.setDir d up (go.foldl LinkDir.push { x with waiting := keep })

/-- A frame is handed to a direction: it is sent at once where there is room, after what waits (R17, R255). -/
def queueFrame (s : State) (d : Nat) (up : Bool) (b : FrameBody) : State :=
  let x := s.dir d up
  fillDir (s.setDir d up { x with waiting := x.waiting ++ [b] }) d up

/-- Whether an action or a write passes to a die and its report back within the command: a link carries frames and nothing is under way
(log entry 10). -/
def linkClear (s : State) (d : Nat) : Bool := dieFed s d && (s.dir d false).clear && (s.dir d true).clear

/-- Whether everything on its way in a direction of a die has arrived, but for idle frames, and a link carries frames. -/
def dieSettled (s : State) (d : Nat) (up : Bool) : Bool :=
  let x := s.dir d up
  dieLinked s d && x.waiting.isEmpty && x.unacked.all fun e => decide (e.1 < x.expect) || e.2 == .idle

/-- A frame to the die and its report pass, each acknowledged. -/
def exchange (s : State) (d : Nat) : State :=
  let s := s.setDir d false (s.dir d false).pass
  s.setDir d true (s.dir d true).pass

/-- The effect `f` of a frame on a power die: at once where the links are clear, else when the frame is received (R16, R17); a die that is
off is answered for (R251), and the write is ignored. -/
def viaDie (s : State) (d : Nat) (b : FrameBody) (f : State → State) : State :=
  if ! dieReached s d then s else if linkClear s d then exchange (f s) d else queueFrame s d false b

/-- The same for a frame that goes ahead of every other (R532). -/
def viaDieFirst (s : State) (d : Nat) (b : FrameBody) (f : State → State) : State :=
  if ! dieReached s d then s
  else if linkClear s d then exchange (f s) d
  else
    let x := s.dir d false
    fillDir (s.setDir d false { x with waiting := b :: x.waiting }) d false

/-- What power die `d` tells the control die: at once where the die is heard and nothing of it is on its way, else by a frame behind that (R16,
R17). It is lost while the control die is in reset or unpowered (R318, log entry 56). -/
def dieTells (s : State) (d : Nat) (b : FrameBody) (f : State → State) : State :=
  match s.pwr.phase with
  | .off | .inReset | .starting => s
  | _ => if dieReached s d && dieSettled s d true then f s else queueFrame s d true b

/-- The frames toward die `d` that have not been received, oldest first. -/
def underWay (s : State) (d : Nat) : List FrameBody :=
  let x := s.dir d false
  ((x.unacked.filter fun e => decide (x.expect ≤ e.1)).map (·.2)) ++ x.waiting

end Sys2Proof.Machine
end

