-- ==== Sys2Proof/Machine/PswBase.lean ====
section
/-! DEFINITION. Channels and power dies: numbering, paralleled groups, the output that protection lets through, limp states and siding
(R250, R255, R257, R258, R261, R264, R266, R268, R271, R277). -/
namespace Sys2Proof.Machine
open Sys2Proof Reg

/-! ## Numbering (R250) -/

/-- The power die of a channel: 0 for A, 1 for B. -/
def dieOf (c : Nat) : Nat := stageOnDie c
/-- The feed group of a channel, 1 to 3. -/
def groupOf (c : Nat) : Nat :=
  if c < 8 then 1 else if c < 16 then 2 else if c < 24 then 3 else if c < 32 then 2 else if c < 88 then 3 else 2
/-- Whether a channel is a half-bridge. -/
def isHB (c : Nat) : Bool := 88 ≤ c
/-- The channels of a die, ascending. -/
def dieChans (d : Nat) : List Nat := (List.range 104).filter fun c => dieOf c == d
/-- The aligned quads of a die, by their first channel, ascending (R266). -/
def dieQuads (d : Nat) : List Nat := (dieChans d).filter fun c => c % 4 == 0

/-- A channel beside its registers. -/
def State.chan (s : State) (c : Nat) : Chan := SMap.get Chan.init s.psw.chans c
/-- The state with a channel replaced. -/
def State.setChan (s : State) (c : Nat) (x : Chan) : State := { s with psw := { s.psw with chans := SMap.set Chan.init s.psw.chans c x } }
/-- The state with a channel changed. -/
def State.modChan (s : State) (c : Nat) (f : Chan → Chan) : State := s.setChan c (f (s.chan c))
/-- The state of a die: 0 Served, 1 Held, 2 Expired (R267). -/
def dieState (s : State) (d : Nat) : Nat := s.get (PSW_DIE_STATE_state d)
/-- Whether the feed group of a channel is lost (R264). -/
def groupLost (s : State) (c : Nat) : Bool :=
  match groupOf c with | 1 => (s.die (dieOf c)).lost1 | 2 => (s.die (dieOf c)).lost2 | _ => false

/-- Whether a channel is a line of an enabled matrix port: OUTL0 to OUTL7 of M0, OUTL24 to OUTL31 of M1 (R292). -/
def isLine (s : State) (c : Nat) : Bool := (40 ≤ c && c < 48 && s.led.mat0.own) || (64 ≤ c && c < 72 && s.led.mat1.own)

/-! ## Paralleling (R266) -/

/-- The paralleling code of the quad that holds a channel. -/
def parOf (s : State) (c : Nat) : Nat :=
  let q := (dieQuads (dieOf c)).idxOf (4 * (c / 4))
  getBits (s.rd (PSW_DIE_PAR (dieOf c))) (2 * q + 1) (2 * q)
/-- The members of a channel's group, the leader first; a channel that is not paralleled is its own group. -/
def membersOf (s : State) (c : Nat) : List Nat :=
  match parOf s c with
  | 1 => [2 * (c / 2), 2 * (c / 2) + 1]
  | 2 => [4 * (c / 4), 4 * (c / 4) + 1, 4 * (c / 4) + 2, 4 * (c / 4) + 3]
  | _ => [c]
/-- The leader of a channel's group. -/
def leadOf (s : State) (c : Nat) : Nat := (membersOf s c).headD c
/-- Whether a channel is a follower. -/
def isFollower (s : State) (c : Nat) : Bool := leadOf s c != c
/-- An effect on every member of a channel's group. -/
def onMembers (s : State) (c : Nat) (f : State → Nat → State) : State := (membersOf s c).foldl f s

/-- An event of power die `d` (R16, R28, R318). -/
def dieEvent (s : State) (d src pay : Nat) : State := dieTells s d (.event src pay) fun s => s.event src pay

/-- An event of a channel, if its code is enabled; a group raises from its leader (R277). -/
def chEvent (s : State) (c code detail : Nat) : State :=
  let l := leadOf s c
  if bitOf (s.rd (PSW_CH_CTRL l)) (16 + code) then dieEvent s (dieOf c) (650 + l) (code + 256 * (detail % 64)) else s

/-! ## The output (R252, R255, R257, R258, R275) -/

/-- The smallest PWM period of a channel's class in ns (R258). -/
def minPeriod (c : Nat) : Nat := if c < 8 then 500000 else if c < 40 then 250000 else if c < 88 then 100000 else 40000
/-- The minimum pulse of a channel at its slew code in ns (R257). -/
def minPulse (s : State) (c : Nat) : Nat :=
  match isHB c, (if isLine s c then 3 else s.get (PSW_CH_CTRL_slew c)) with
  | false, 0 => 60000 | false, 1 => 30000 | false, 2 => 15000 | false, _ => 8000
  | true, 0 => 6000 | true, 1 => 3000 | true, 2 => 1500 | true, _ => 1000
/-- The PWM period in force in ns (R258). -/
def periodOf (s : State) (c : Nat) : Nat := max (getBits (s.chan c).pwm 15 0 * 1000) (minPeriod c)

/-- The commanded state (R253): command and duty or D0. -/
def commanded (s : State) (c : Nat) : OutCmd := ⟨s.get (PSW_CH_STATE_cmd c), s.get (PSW_CH_STATE_value c)⟩
/-- What the output follows: its limp value while it is in its limp state, OFF in siding, else the commanded state (R268, R271). -/
def followed (s : State) (c : Nat) : OutCmd :=
  match (s.chan c).limp with
  | some v => v
  | none => if s.bit (PSW_CH_STATUS_siding c) then ⟨0, 0⟩ else commanded s c

/-- The effective duty of an output after the cap in force (R275); LOW closes the high switch for no time. -/
def effective (x : Chan) : Nat :=
  match x.out.cmd with
  | 1 => 256 * x.capIn
  | 2 | 3 => min x.out.d (256 * x.capIn)
  | _ => 0

/-- The duty produced in the running period: an on-time or off-time shorter than the minimum pulse is left out (R257). -/
def produced (s : State) (c : Nat) : Nat :=
  let x := s.chan c
  let d := effective x
  let p := x.span.getD (periodOf s c)
  let on := min (d * periodOf s c / 4096) p
  if 0 < on ∧ on < minPulse s c then 0
  else if 0 < p - on ∧ p - on < minPulse s c then 4096
  else d

/-- Whether a protection state keeps the output off (R55, R68, R255, R261, R264), or the device is in Off (R58). -/
def blocked (s : State) (c : Nat) : Bool :=
  s.pwr.phase == .off || ! (s.die (dieOf c)).on || s.bit (PSW_DIE_STATE_ovshut (dieOf c)) || groupLost s c || s.bit (PSW_CH_STATUS_tsdwait c) ||
    (membersOf s c).any fun m => (s.chan m).hot

/-- The level of a channel's output; a follower has its leader's (R266). -/
def levelOf (s : State) (c : Nat) : Level :=
  let l := leadOf s c
  let x := s.chan l
  if blocked s l then .opened
  else
    match x.out.cmd with
    | 0 => .opened
    | 4 => .low
    | _ =>
      let d := if x.out.cmd = 1 ∧ x.capIn = 16 then 4096 else produced s l
      if d = 4096 then .high else if d = 0 then (if isHB l then .low else .opened) else .pwm d

/-- Whether a switch of the channel is closed, at an instant that lies in the on-time of a PWM period or not. -/
def switchClosed (s : State) (c : Nat) (onTime : Bool) : Bool :=
  match levelOf s c with
  | .opened => false
  | .pwm _ => isHB c || onTime
  | _ => true

/-- The registers that follow the output: STATE.eff, and STATUS.ilim, which reads 0 while every switch is open (R260). -/
def settleOut (s : State) (c : Nat) : State :=
  let s := s.put (PSW_CH_STATE_eff c) (effective (s.chan c))
  if levelOf s c = .opened then onMembers s c fun s m => s.putB (PSW_CH_STATUS_ilim m) false else s

/-- The output follows a command from now on. -/
def setOut (s : State) (c : Nat) (o : OutCmd) : State := settleOut (s.modChan c fun x => { x with out := o }) c

/-- The code of a channel's feed-group voltage in 50 mV units (PSW_DIEd_VBAT). -/
def groupVolts (s : State) (c : Nat) : Nat :=
  let d := dieOf c
  match groupOf c with | 1 => s.get (PSW_DIE_VBAT_v1 d) | 2 => s.get (PSW_DIE_VBAT_v2 d) | _ => s.get (PSW_DIE_VBAT_v3 d)

/-- The compensated duty of R258 for D0 and a mean supply in µV; Vref in 10 mV units. -/
def compensated (s : State) (c d0 uv : Nat) : Nat :=
  let vref := s.get (PSW_DIE_CFG_vref (dieOf c)) * 10000
  if uv = 0 then 4096 else min 4096 (d0 * vref ^ 2 / uv ^ 2)

/-- The output takes a command at once; a compensated duty is worked out from the group's last reading. -/
def takeOut (s : State) (c : Nat) (o : OutCmd) : State :=
  setOut s c (if o.cmd = 3 then ⟨3, compensated s c o.d (groupVolts s c * 50000)⟩ else o)

/-! ## Limp states and siding (R268, R270, R271) -/

/-- The limp state of a channel (R268): its limp value for classes 0 and 2, OFF for classes 1 and 3; an undefined command acts as OFF. -/
def limpState (s : State) (c : Nat) : OutCmd :=
  let cls := s.get (PSW_CH_SAFE_class c)
  let cmd := s.get (PSW_CH_SAFE_lcmd c)
  if cls = 1 ∨ cls = 3 ∨ 4 < cmd ∨ (cmd = 4 ∧ ¬ isHB c) then ⟨0, 0⟩ else ⟨cmd, min 4096 (s.get (PSW_CH_SAFE_lval c))⟩

/-- The group of a channel takes the limp state of its leader; a follower has no limp state of its own. -/
def takeLimp (s : State) (c : Nat) : State :=
  if isFollower s c then s
  else takeOut (s.modChan c fun x => { x with limp := some (limpState s c) }) c (limpState s c)

/-- The same for a channel outside siding; in siding the output stays as siding has it (R271). A line of an enabled matrix port follows the
port's class (R292, R300). -/
def limpUnlessSided (s : State) (c : Nat) : State := if s.bit (PSW_CH_STATUS_siding c) || isLine s c then s else takeLimp s c

/-- How a channel enters siding (R271). -/
inductive SideBy where
  | junction | wire | command
deriving DecidableEq, Repr

/-- The group of a channel enters siding. A channel that is in siding already keeps its state on a command (R465); a latch-off switches
it off in any case. -/
def chSiding (s : State) (c : Nat) (why : SideBy) : State :=
  let l := leadOf s c
  if why = .command ∧ s.bit (PSW_CH_STATUS_siding l) then s
  else
    let s := onMembers s l fun s m =>
      let s := (s.putB (PSW_CH_STATUS_siding m) true).putB (PSW_CH_STATUS_tsdwait m) false
      match why with
      | .junction => s.putB (PSW_CH_STATUS_latch m) true
      | .wire => s.putB (PSW_CH_STATUS_wire m) true
      | .command => s
    if why = .command ∧ s.bit (PSW_CH_SAFE_sidelimp l) then takeLimp s l
    else setOut (s.modChan l fun x => { x with limp := none }) l ⟨0, 0⟩

/-- A latch-off (R261, R262, R277, R278): siding, event 3 and the die's latch-off source. -/
def latchOff (s : State) (c : Nat) (wire : Bool) : State :=
  let s := chSiding s c (if wire then .wire else .junction)
  (chEvent s c 3 (b2n wire)).raise (64 + dieOf c) (BitVec.ofNat 32 (leadOf s c))

/-- A safe frame reaches a die (R270, R466): every channel takes its limp state; the die state does not change. -/
def pswSafe (s : State) (d : Nat) : State := if (s.die d).on then (dieChans d).foldl limpUnlessSided s else s

/-! ## Die states and domains (R54, R55, R251, R267, R268) -/

/-- The control die is silent: a Served die becomes Held, and its Off and Limp channels take their limp state (R267, R268). -/
def dieSilent (s : State) (d : Nat) : State :=
  if (s.die d).on ∧ dieState s d = 0 then
    let s := s.put (PSW_DIE_STATE_state d) 1
    let s := s.put (PSW_DIE_STATE_remain d) (max 50 (min 1000 (s.get (PSW_DIE_CFG_hold d))))
    let s := s.count (PSW_DIE_STATE_silences d)
    (dieChans d).foldl (fun s c => if s.get (PSW_CH_SAFE_class c) = 0 then s else limpUnlessSided s c) s
  else s

/-- The hold window expires (R267): Hold-class channels take their limp state. -/
def holdExpire (s : State) (d : Nat) : State :=
  if (s.die d).on ∧ dieState s d = 1 then
    let s := (s.put (PSW_DIE_STATE_state d) 2).put (PSW_DIE_STATE_remain d) 0
    (dieChans d).foldl (fun s c => if s.get (PSW_CH_SAFE_class c) = 0 then limpUnlessSided s c else s) s
  else s

/-- RECLAIM (R267, R278): the die is Served; every output stays as it is. -/
def reclaim (s : State) (d : Nat) : State :=
  if (s.die d).on then
    let s := if dieState s d = 2 ∧ ¬ s.bit (PSW_DIE_STATE_fresh d) then s.raise (68 + d) else s
    ((s.put (PSW_DIE_STATE_state d) 0).put (PSW_DIE_STATE_remain d) 0).putB (PSW_DIE_STATE_fresh d) false
  else s

/-- The channel and die registers of a die, and its channels, at reset (R251, R267). -/
def pswReset (s : State) (d : Nat) : State :=
  let s := (dieChans d).foldl (fun s c =>
    { s with regs := SMap.clear s.regs (PSW_CH_CMD c).addr 0x100 } |>.setChan c Chan.init) s
  { s with regs := SMap.clear s.regs (PSW_DIE_STATE d).addr 0x1000 }

end Sys2Proof.Machine
end

