-- ==== Sys2Proof/Machine/Psw.lean ====
section
/-! DEFINITION. The commands and events of the protected switch channels (R250 to R278). -/
namespace Sys2Proof.Machine
open Sys2Proof Reg

/-! ## Actions (R252 to R256, R272, R273) -/

/-- The commanded state of R253 set; the value field of a command whose value is ignored is not stated (log entry 3). -/
def recordCmd (s : State) (c cmd d : Nat) : State :=
  let s := s.put (PSW_CH_STATE_cmd c) cmd
  if cmd = 2 ∨ cmd = 3 then s.put (PSW_CH_STATE_value c) d else (s.put (PSW_CH_STATE_value c) s.freeW.toNat).drawn

/-- A running open-load test is aborted with result 0 (R265). -/
def testResult (s : State) (c r : Nat) : State :=
  let old := s.get (PSW_CH_DIAG_result c)
  let s := (s.put (PSW_CH_DIAG_result c) r).modChan c fun x => { x with test := 0 }
  if old = r then s else chEvent s c 4 r

/-- A performed command (R252, R255, R258): ON, OFF and LOW act at once, a duty at the next period start. It ends the limp state. -/
def performCmd (s : State) (c cmd val : Nat) : State :=
  let d := min 4096 (val % 8192)
  let s := recordCmd s c cmd d
  let s := s.modChan c fun x => { x with limp := none }
  let s := if cmd = 0 then onMembers (s.put (PSW_CH_STATUS_restarts c) 0) c fun s m => s.putB (PSW_CH_STATUS_tsdwait m) false else s
  let s := if (s.chan c).test ≠ 0 ∧ (cmd = 1 ∨ cmd = 4 ∨ (2 ≤ cmd ∧ (0 < d ∨ isHB c))) then testResult s c 0 else s
  if cmd = 2 ∨ cmd = 3 then settleOut s c else setOut s c ⟨cmd, 0⟩

/-- Whether a command is defined for a channel (R254). -/
def cmdDefined (c cmd val : Nat) (item0 : Bool) : Bool :=
  let ok (k : Nat) : Bool := k ≤ 3 || (k == 4 && isHB c)
  if cmd = 15 then item0 && ok (val / 4096) else ok cmd

/-- PSW_CHc_TEMP.x: X / Itrip² × 1,024, saturating at 65,535; 0 where the model is disabled (R262). -/
def wireCode (s : State) (c : Nat) : Nat :=
  let i : ℚ := s.get (PSW_CH_WIRE_itrip c)
  let st : ℚ := if c < 8 then 1 / 4 else if c < 40 then 1 / 16 else if c < 88 then 1 / 64 else 1 / 8
  let t := (i * st) ^ 2
  if t = 0 then 0 else min 65535 ((s.chan c).x / t * 1024).floor.toNat

/-- Itrip² of a channel in square amperes (R262). -/
def itrip2 (s : State) (c : Nat) : ℚ :=
  let st : ℚ := if c < 8 then 1 / 4 else if c < 40 then 1 / 16 else if c < 88 then 1 / 64 else 1 / 8
  ((s.get (PSW_CH_WIRE_itrip c) : ℚ) * st) ^ 2

/-- Whether no junction of the group is above TSD less its hysteresis (R272): the limits are each unit's own (R260), so the events of R261
say it. -/
def cooled (s : State) (c : Nat) : Bool := (membersOf s c).all fun m => ! (s.chan m).hot && ! (s.chan m).warm

/-- The rejoin of a channel in siding (R272). -/
def rejoin (s : State) (c val : Nat) : State :=
  let s := onMembers s c fun s m =>
    ((s.putB (PSW_CH_STATUS_siding m) false).putB (PSW_CH_STATUS_latch m) false).putB (PSW_CH_STATUS_wire m) false
  let s := s.put (PSW_CH_STATUS_restarts c) 0
  performCmd (chEvent s c 9 0) c (val / 4096) (val % 4096)

/-- ACK and ACKSEQ after an action (R256). -/
def ackRegs (s : State) (c outcome : Nat) (bad : Bool) (tkt : Option (Nat × Word)) : State :=
  let s := (((s.put (PSW_CH_ACK_outcome c) outcome).putB (PSW_CH_ACK_badcmd c) bad).putB (PSW_CH_ACK_ticketed c) tkt.isSome).wrap
    (PSW_CH_ACK_count c)
  match tkt with
  | some (t, q) => (s.put (PSW_CH_ACK_track c) t).wr (PSW_CH_ACKSEQ c) q
  | none => s

/-- ACK and ACKSEQ after an action, and event 8 (R256, R277). -/
def ackAction (s : State) (c outcome : Nat) (bad : Bool) (tkt : Option (Nat × Word)) : State :=
  chEvent (ackRegs s c outcome bad tkt) c 8 outcome

/-- An action addressed to a follower is ignored; a ticketed one is reported as outcome 1 (R266). -/
def followerAction (s : State) (c : Nat) (tkt : Option (Nat × Word)) : State × Nat :=
  (if tkt.isSome then ackRegs s c 1 false tkt else s, 1)

/-- An action of channel `c` on its die (R252 to R256, R266, R269, R272, R273): the state and the outcome. `item0`: it comes from a SETCH
item armed by context 0. A line of an enabled matrix port answers 3 and keeps its watermark (R292); an undefined REJOIN is judged before the
die state (R272); a follower answers 1 and judges no ticket (R266). -/
def chAction (s : State) (c cmd val : Nat) (tkt : Option (Nat × Word)) (item0 : Bool) : State × Nat :=
  if isLine s c then (ackAction s c 3 (! cmdDefined c cmd val item0) tkt, 3)
  else if isFollower s c then followerAction s c tkt
  else
    let defined := cmdDefined c cmd val item0
    let sided := s.bit (PSW_CH_STATUS_siding c)
    let (s, out) :=
      if ! defined && cmd == 15 then stageAct s c tkt id
      else if dieState s (dieOf c) ≠ 0 then (s, 3)
      else if ! defined then if sided then (s, 3) else stageAct s c tkt id
      else if cmd = 15 then
        if sided then
          if cooled s c && decide (wireCode s c ≤ 256) then stageAct s c tkt fun s => rejoin s c val else (s, 3)
        else stageAct s c tkt fun s => performCmd s c (val / 4096) (val % 4096)
      else if sided then (s, 3)
      else stageAct s c tkt fun s => performCmd s c cmd val
    (ackAction s c out (! defined) tkt, out)

/-- An action goes to channel `c` over the die links (R16, R17, R31, R255): the state and the outcome, 0 while the report is still to come.
For a die that is off the control die answers 3 (R251). -/
def sendAction (s : State) (c cmd val : Nat) (tkt : Option (Nat × Word)) (item0 : Bool) (slot : Option (Nat × Nat)) : State × Nat :=
  let d := dieOf c
  if ! dieReached s d then (s, 3)
  else if linkClear s d then let (s, o) := chAction s c cmd val tkt item0; (exchange s d, o)
  else (queueFrame s d false (.action c cmd val tkt item0 slot), 0)

/-- A write of PSW_CHc_CMD by context `w` (R251, R253). -/
def chWrite (s : State) (w c cmd val : Nat) : State :=
  s.granted w (s.blockOk w 10 && s.chanOk w c) (PSW_CH_CMD c) fun s => (sendAction s c cmd val (s.boundTkt w) false none).1

/-- OFF (R252). -/
def execChOff (w : CtxId) (c : Fin 104) (val : BitVec 16) (s : State) : Out := .next (chWrite s w c 0 val.toNat)
/-- ON (R252). -/
def execChOn (w : CtxId) (c : Fin 104) (val : BitVec 16) (s : State) : Out := .next (chWrite s w c 1 val.toNat)
/-- DUTY (R252). -/
def execChDuty (w : CtxId) (c : Fin 104) (val : BitVec 16) (s : State) : Out := .next (chWrite s w c 2 val.toNat)
/-- DUTYC (R252, R258). -/
def execChDutyc (w : CtxId) (c : Fin 104) (val : BitVec 16) (s : State) : Out := .next (chWrite s w c 3 val.toNat)
/-- LOW (R252, R254). -/
def execChLow (w : CtxId) (c : Fin 104) (val : BitVec 16) (s : State) : Out := .next (chWrite s w c 4 val.toNat)
/-- REJOIN by a SETCH item armed by context 0, as it reaches the channel (R272, R273). -/
def execChRejoin (c : Fin 104) (val : BitVec 16) (tkt : Option (Fin 512 × Word)) (s : State) : Out :=
  .next (sendAction s c 15 val.toNat (tkt.map fun t => (t.1.val, t.2)) true none).1

/-! ## PWM and sensing (R257 to R260, R275) -/

/-- A PWM period of channel `c` starts (R258, R275): the grid of PSW_CHc_PWM, the duty, the compensation for the mean supply `uv` in µV
and the cap take effect; a line of a matrix port is driven by the port (R292). `span` is the length in ns of the period that starts, which counts where the grid has just changed. -/
def pwmStart (s : State) (c uv span : Nat) : State :=
  let x := s.chan c
  let reg := s.rd (PSW_CH_PWM c)
  let o := followed s c
  let out : OutCmd := if o.cmd = 3 then ⟨3, compensated s c o.d uv⟩ else o
  let sp := if x.pwm ≠ reg then some (min span (max (getBits reg 15 0 * 1000) (minPeriod c))) else none
  settleOut (s.setChan c { x with pwm := reg, span := sp, capIn := x.cap, out := if isLine s c then x.out else out }) c

/-- A PWM period starts (R258); a follower has its leader's periods (R266). -/
def execPwmPeriodStart (c : Fin 104) (uv span : Nat) (s : State) : Out :=
  .next (if (s.die (dieOf c)).on && ! isFollower s c then pwmStart s c uv span else s)

/-- The instantaneous current of a channel that a SAMPLE triggered is copied (R259). -/
def execSampleTrigger (c : Fin 104) (code : BitVec 16) (s : State) : Out :=
  .next (if (s.die (dieOf c)).on && (s.chan c).sampleDue then (s.put (PSW_CH_SENSE_snap c) code.toNat).modChan c fun x => { x with sampleDue := false } else s)

/-- The knee temperature Tk in °C (R260): values outside 60 to 150 act as the nearer limit. -/
def kneeOf (s : State) (c : Nat) : Nat := max 60 (min 150 (s.get (PSW_CH_PROT_knee (leadOf s c))))

/-- The derating of the current limit at the member's junction reading (R260). -/
def ilimDerating (s : State) (c : Nat) : ℚ :=
  let tj : ℚ := (sgn 10 (s.get (PSW_CH_TEMP_tj c)) : ℚ) / 2
  let tk : ℚ := kneeOf s c
  if tj ≤ tk then 1 else if 165 ≤ tj then 2 / 5 else 1 - 3 / 5 * (tj - tk) / (165 - tk)

/-- ILIM of a channel in mA (R260): the unit's ILIM0 × scale × derating; a group's members follow its leader's PROT (R266). -/
def ilimOf (s : State) (c : Nat) : ℚ :=
  (Config.ilim0 c : ℚ) * ((4 - s.get (PSW_CH_PROT_ilim (leadOf s c)) : ℚ) / 4) * ilimDerating s c

/-- A switch whose load would draw `load` mA (R260, R277): a closed one limits where that exceeds ILIM; the channel stops limiting where it
does not. -/
def currentLimit (s : State) (c load : Nat) : State :=
  if ilimOf s c < load then
    if (s.die (dieOf c)).on && levelOf s c != .opened && ! s.bit (PSW_CH_STATUS_ilim c) then
      chEvent ((s.putB (PSW_CH_STATUS_ilim c) true).putB (PSW_CH_STATUS_s_ilim c) true) c 1 0
    else s
  else s.putB (PSW_CH_STATUS_ilim c) false

/-! ## Junction protection (R261) -/

/-- Commanded on (R261): ON, LOW, or a duty above 0. -/
def commandedOn (s : State) (c : Nat) : Bool :=
  let o := commanded s c
  o.cmd == 1 || o.cmd == 4 || ((o.cmd == 2 || o.cmd == 3) && decide (0 < o.d))

/-- The junction of channel `c` reaches TSD (R261): a trip where a switch is closed, else the channel waits for it to cool. -/
def junctionTsd (s : State) (c : Nat) (onTime : Bool) : State :=
  let l := leadOf s c
  if ! (s.die (dieOf c)).on then s
  else if ! switchClosed s c onTime then s.modChan c fun x => { x with hot := true }
  else
    let s := s.putB (PSW_CH_STATUS_s_tsd c) true
    let s := s.modChan c fun x => { x with warm := true }
    let made := s.get (PSW_CH_STATUS_restarts l)
    if s.get (PSW_CH_PROT_restarts l) ≤ made then latchOff s c false
    else
      let s := onMembers s l fun s m => s.putB (PSW_CH_STATUS_tsdwait m) true
      settleOut (chEvent s c 2 made) l


/-- The junction of channel `c` falls below TSD less the hysteresis (R261): a pending restart counts where the channel is still commanded
on, or is a line of a matrix port, which has no command of its own (R292), and the output takes its command once no member is hot. -/
def junctionCooled (s : State) (c : Nat) : State :=
  let l := leadOf s c
  let s := s.modChan c fun x => { x with hot := false, warm := false }
  if cooled s l && s.bit (PSW_CH_STATUS_tsdwait l) then
    let s := onMembers s l fun s m => s.putB (PSW_CH_STATUS_tsdwait m) false
    let s := if commandedOn s l || isLine s l || ((s.chan l).limp.map fun o => decide (o.cmd ≠ 0)).getD false then s.put (PSW_CH_STATUS_restarts l) (min 15 (s.get (PSW_CH_STATUS_restarts l) + 1))
      else s
    settleOut s l
  else s

/-- A junction has cooled (R261). -/
def execThermalRestart (c : Fin 104) (s : State) : Out := .next (junctionCooled s c)

/-- A channel has been commanded on for 1 s without a break and without a trip (R261); a line of a matrix port is driven by the port (R292). -/
def execRestartCountReset (c : Fin 104) (s : State) : Out :=
  .next (if (s.die (dieOf c)).on && (commandedOn s c || isLine s c) && ! s.bit (PSW_CH_STATUS_tsdwait c) then s.put (PSW_CH_STATUS_restarts c) 0 else s)

/-! ## Wire model (R262) -/

/-- The magnitude of a 1 ms mean in amperes: the sense code times the LSB of R259; a half-bridge's code is signed. -/
def amps (c : Nat) (code : BitVec 16) : ℚ :=
  let lsb : ℚ := if c < 8 then 1 / 500 else if c < 40 then 1 / 2000 else if c < 88 then 1 / 8000 else 1 / 500
  (if isHB c then (code.toInt.natAbs : ℚ) else (code.toNat : ℚ)) * lsb

/-- The 1 ms update of channel `c` (R259, R262): the mean current, the junction reading, the group's voltage reading and X. A group's model
runs on the summed current of its leader's reading (R266). -/
def wireUpdate (s : State) (c : Nat) (avg : BitVec 16) (tj volts : Nat) : State :=
  let d := dieOf c
  if ! (s.die d).on then s
  else
    let s := (s.put (PSW_CH_SENSE_avg c) avg.toNat).put (PSW_CH_TEMP_tj c) tj
    let s := match groupOf c with
      | 1 => s.put (PSW_DIE_VBAT_v1 d) volts | 2 => s.put (PSW_DIE_VBAT_v2 d) volts | _ => s.put (PSW_DIE_VBAT_v3 d) volts
    if isFollower s c then s
    else
      let x := (s.chan c).x
      let tau : ℚ := max 1 (s.get (PSW_CH_WIRE_tau c)) / 2
      let x' := if s.get (PSW_CH_WIRE_itrip c) = 0 then 0 else x + (amps c avg ^ 2 - x) * (1 / 1000) / tau
      let s := s.modChan c fun y => { y with x := x' }
      if s.get (PSW_CH_WIRE_itrip c) ≠ 0 ∧ itrip2 s c < x' ∧ ¬ s.bit (PSW_CH_STATUS_wire c) then latchOff s c true else s

/-- The wire model's 1 ms update (R262). -/
def execWireModelUpdate (c : Fin 104) (avg : BitVec 16) (tj volts : BitVec 10) (s : State) : Out :=
  .next (wireUpdate s c avg tj.toNat volts.toNat)

/-! ## Feed groups (R264) -/

/-- The lost flag of a feed group set or cleared. -/
def setLost (s : State) (d g : Nat) (b : Bool) : State :=
  s.setDie d (if g = 1 then { s.die d with lost1 := b } else { s.die d with lost2 := b })

/-- The channels of a feed group, ascending. -/
def groupChans (d g : Nat) : List Nat := (dieChans d).filter fun c => groupOf c == g

/-- A feed group 1 or 2 is lost (R264, R277, R278). -/
def groupLoss (s : State) (d g : Nat) : State :=
  let x := s.die d
  if x.on && ! (if g = 1 then x.lost1 else x.lost2) then
    let s := setLost s d g true
    let s := (groupChans d g).foldl (fun s c =>
      let s := settleOut (s.putB (PSW_CH_STATUS_s_nosup c) true) (leadOf s c)
      if isFollower s c then s else chEvent s c 5 0) s
    s.raise (66 + d)
  else s

/-- A feed group returns (R264): its channels take their commanded state in ascending order. -/
def groupReturn (s : State) (d g : Nat) : State :=
  let x := s.die d
  if x.on && (if g = 1 then x.lost1 else x.lost2) then
    (groupChans d g).foldl (fun s c => if isFollower s c then s else chEvent (settleOut s c) c 6 0) (setLost s d g false)
  else s

/-- A feed group is lost; group 0 is VBATx1, group 1 VBATx2 (R264). -/
def execFeedGroupLost (d g : Fin 2) (s : State) : Out := .next (groupLoss s d (g + 1))
/-- A feed group returns (R264). -/
def execFeedGroupReturn (d g : Fin 2) (s : State) : Out := .next (groupReturn s d (g + 1))

/-! ## Open-load test (R265) -/

/-- Whether the power dies and the access unit are in their Park mode: from the commit to Park, after which each die receives its Park frame, to
the return to Run (R276, R450, R451). -/
def inPark (s : State) : Bool := match s.pwr.phase with | .parking | .park => true | _ => false

/-- A test starts (R265): a channel that cannot start it records result 0, except below 6 V, where the result is kept. -/
def testStart (s : State) (c : Nat) : State :=
  if ! (s.die (dieOf c)).on || isFollower s c || (s.chan c).test != 0 then s
  else if s.get (PSW_DIE_VBAT_v3 (dieOf c)) < 120 then s
  else if s.get (PSW_CH_STATE_cmd c) = 0 ∧ ¬ s.bit (PSW_CH_STATUS_siding c) ∧ (s.chan c).out.cmd = 0 ∧ ¬ inPark s then
    s.modChan c fun x => { x with test := 1 }
  else testResult s c 0

/-- A test starts: on a write of PSW_CHc_DIAG.go by a context, or on the periodic timer (R265). -/
def execOpenLoadTestStart (c : Fin 104) (w : Option CtxId) (s : State) : Out :=
  .next <| match w with
    | some w => s.granted w (s.blockOk w 10 && s.chanOk w c) (PSW_CH_DIAG c) fun s =>
        viaDie s (dieOf c) (.write w (PSW_CH_DIAG c).addr (s.rd (PSW_CH_DIAG c) ||| 0x80000000#32)) fun s => testStart s c
    | none => if s.get (PSW_CH_DIAG_period c) ≠ 0 ∧ ¬ inPark s then testStart s c else s

/-- Whether a die's VBATx3 reads below 6 V, where open-load detection is suspended (R66, R265). -/
def lowBand (s : State) (d : Nat) : Bool := decide (s.get (PSW_DIE_VBAT_v3 d) < 120)

/-- A settle time ends and the output is compared with VOL (R265); a test that runs into the band below 6 V ends with result 0, not tested
(R66). -/
def execOpenLoadSettle (c : Fin 104) (above : Bool) (s : State) : Out :=
  .next <| match (if (s.die (dieOf c)).on then (if (s.chan c).test ≠ 0 ∧ lowBand s (dieOf c) then 3 else (s.chan c).test) else 0) with
  | 3 => testResult s c 0
  | 1 => if above then testResult s c 3 else s.modChan c fun x => { x with test := 2 }
  | 2 => testResult s c (if above then 2 else 1)
  | _ => s

/-! ## Die commands (R267, R271) and paralleling (R266) -/

/-- A write of PSW_DIEd_CMD as it reaches the die (R251): RECLAIM, SIDING of a channel of that die, others ignored. -/
def dieCommand (s : State) (d op ch : Nat) : State :=
  match op with
  | 1 => reclaim s d
  | 2 => if ch < 104 ∧ dieOf ch = d then chSiding s ch .command else s
  | _ => s

/-- A write of PSW_DIEd_CMD by context `w`: context 0 only. -/
def dieCmdWrite (s : State) (w d op ch : Nat) : State :=
  s.granted w (w == 0) (PSW_DIE_CMD d) fun s =>
    viaDie s d (.write w (PSW_DIE_CMD d).addr (BitVec.ofNat 32 (2 ^ 28 * op + ch))) fun s => dieCommand s d op ch

/-- RECLAIM (R267). -/
def execReclaim (w : CtxId) (d : Fin 2) (s : State) : Out := .next (dieCmdWrite s w d 1 0)
/-- SIDING of a channel (R271). -/
def execChSiding (w : CtxId) (d : Fin 2) (ch : BitVec 7) (s : State) : Out := .next (dieCmdWrite s w d 2 ch.toNat)

/-- A write of PSW_DIEd_PAR (R266): a quad's field changes only while every member is OFF and not in siding. -/
def parWrite (s : State) (d : Nat) (v : Word) : State :=
  let r := PSW_DIE_PAR d
  let ok (c : Nat) : Bool := (List.range 4).all fun i => s.get (PSW_CH_STATE_cmd (c + i)) == 0 && ! s.bit (PSW_CH_STATUS_siding (c + i))
  let w := ((dieQuads d).zipIdx).foldl (fun (w : Word) (c, q) => if ok c then setBits w (2 * q + 1) (2 * q) (getBits v (2 * q + 1) (2 * q)) else w) (s.rd r)
  s.wr r w

/-! ## Thermal budget manager (R274, R275) -/

/-- The floor of a channel: values above 16 act as 16. -/
def floorOf (s : State) (c : Nat) : Nat := min 16 (s.get (PSW_BUD_floor c))

/-- The switching term of a half-bridge in mW (R274): VBAT × |I| × edge time × PWM frequency, at the reading of its feed group. An edge
takes VBAT over the slew rate of R257. -/
def switchTerm (s : State) (c i : Nat) : Nat :=
  let mv := groupVolts s c * 50
  let rate := 5 * 2 ^ s.get (PSW_CH_CTRL_slew (leadOf s c))
  mv * i * mv / (1000 * rate * periodOf s (leadOf s c))

/-- The channel's estimate in mW (R274, R75): mean I² by the on-resistance at its junction reading, and the switching
term of a half-bridge in PWM. -/
def chanEst (s : State) (c : Nat) (m : ChanMeas) : Nat :=
  let ron : Int := if c < 8 then 3500 else if c < 40 then 16000 else if c < 88 then 80000 else 12000
  let tj := sgn 10 (s.get (PSW_CH_TEMP_tj c))
  let switching := isHB c && match levelOf s c with | .pwm _ => true | _ => false
  (((m.i2 : Int) * ron * (1000 + 3 * (tj - 50))) / 1000000000000).toNat + if switching then switchTerm s c m.i else 0

/-- The limit of R78 in 10 mW at the higher of the two baseplate readings (R477). -/
def thermalLimit (s : State) : Nat :=
  let t := max (sgn 10 (s.get (MON_TEMP_temp 12))) (sgn 10 (s.get (MON_TEMP_temp 13)))
  if t ≤ 130 then 4000 else (25 * (290 - t)).toNat

/-- A quantity of the channels of a list, scaled from the caps kept to new caps (R275). -/
def scaledTotal (s : State) (cs : List Nat) (q caps : List Nat) : ℚ :=
  (cs.map fun c => (q.getD c 0 : ℚ) * caps.getD c 16 / (s.chan c).cap).sum

/-- The caps with level `lv` of the listed channels at `max k F`. -/
def levelCaps (s : State) (cs : List Nat) (lv k : Nat) (caps : List Nat) : List Nat :=
  caps.zipIdx.map fun (x, c) => if cs.contains c && s.get (PSW_BUD_prio c) == lv then max k (floorOf s c) else x

/-- Levels taken in turn until the total is within the bound (R275): the caps, and whether the bound is met. -/
def reduceCaps (s : State) (cs : List Nat) (q : List Nat) (bound : ℚ) : List Nat → List Nat → List Nat × Bool
  | [], caps => (caps, decide (scaledTotal s cs q caps ≤ bound))
  | lv :: ls, caps =>
    if scaledTotal s cs q caps ≤ bound then (caps, true)
    else
      match (List.range 17).reverse.find? fun k => decide (scaledTotal s cs q (levelCaps s cs lv k caps) ≤ bound) with
      | some k => (levelCaps s cs lv k caps, true)
      | none => reduceCaps s cs q bound ls (levelCaps s cs lv 0 caps)

/-- The caps raised by 1, level 2 first (R275). -/
def raiseCaps (s : State) (caps : List Nat) : List Nat :=
  match [2, 1, 0].find? fun lv => caps.zipIdx.any fun (x, c) => decide (x < 16) && s.get (PSW_BUD_prio c) == lv with
  | some lv => caps.zipIdx.map fun (x, c) => if s.get (PSW_BUD_prio c) = lv then min 16 (x + 1) else x
  | none => caps

/-- A cap reaches the power die (R275, R277): a change raises event 7. -/
def takeCap (s : State) (c k : Nat) : State :=
  if (s.chan c).cap = k then s
  else
    let s := s.modChan c fun x => { x with cap := k }
    let s := if k < 16 then s.putB (PSW_CH_STATUS_s_cap c) true else s
    chEvent s c 7 k

/-- The cap that the manager has sent last to a channel: the one under way, else the one its die keeps. -/
def capSent (s : State) (c : Nat) : Nat :=
  (underWay s (dieOf c)).foldl (fun k b => match b with | .cap i n => if i = c then n else k | _ => k) (s.chan c).cap

/-- A new cap goes to the power die (R17, R275). -/
def setCap (s : State) (c k : Nat) : State :=
  if capSent s c = k then s else viaDie s (dieOf c) (.cap c k) fun s => takeCap s c k

/-- Every cap set to 16: PSW_BUD_CFG.en is 0. -/
def uncapAll (s : State) : State := (List.range 104).foldl (fun s c => setCap s c 16) s

/-- A run of the manager (R274, R275): `fixed` is the measured fixed dissipation in 10 mW, `ms` the measured means by channel. -/
def budgetRun (s : State) (fixed : Nat) (ms : List ChanMeas) : State :=
  if ! (s.pwr.phase == .run || s.pwr.phase == .doze) then s
  else if ! s.bit PSW_BUD_CFG_en then uncapAll s
  else
    let all := List.range 104
    let ceil := s.get PSW_BUD_CFG_ceiling
    let lim := thermalLimit s
    let b := (if ceil ≠ 0 ∧ ceil < lim then ceil else lim) - fixed
    let est := all.map fun c => chanEst s c (ms.getD c ⟨0, 0⟩)
    let cur := all.map fun c => (ms.getD c ⟨0, 0⟩).i
    let total := est.sum
    let s := all.foldl (fun s c => s.put (PSW_BUD_est c) (min 65535 (est.getD c 0))) s
    let s := (s.put PSW_BUD_STATUS_budget (min 32767 b)).put PSW_BUD_STATUS_est (min 32767 (total / 10))
    let caps0 := all.map fun c => if s.get (PSW_BUD_prio c) = 3 then 16 else (s.chan c).cap
    let (caps, ok) := reduceCaps s all est (10 * b : ℚ) [0, 1, 2] caps0
    let groups : List (Nat × Nat × ℚ) := if s.bit PSW_BUD_CFG_grp then
      [(0, 1, 35000), (0, 2, 20000), (0, 3, 20000), (1, 1, 35000), (1, 2, 20000), (1, 3, 20000)] else []
    let (caps, ok) := groups.foldl (fun (r : List Nat × Bool) (d, g, i) =>
      let q := reduceCaps s (groupChans d g) cur i [0, 1, 2] r.1
      (q.1, r.2 && q.2)) (caps, ok)
    let caps := if 10 * total < 9 * (10 * b) ∧ caps = caps0 then raiseCaps s caps else caps
    let s := all.foldl (fun s c => setCap s c (caps.getD c 16)) s
    let s := s.putB PSW_BUD_STATUS_exhausted (! ok)
    if ok then s else s.raise 70

/-- A run of the budget manager (R274, R275). -/
def execBudgetRun (fixed : Nat) (ms : List ChanMeas) (s : State) : Out := .next (budgetRun s fixed ms)

/-! ## Over-voltage (R68) and the entry handshake (R276) -/

/-- Over-voltage shutdown of a die (R68). -/
def overVoltage (s : State) (d : Nat) : State :=
  if (s.die d).on ∧ ¬ s.bit (PSW_DIE_STATE_ovshut d) then
    ((dieChans d).foldl settleOut (s.putB (PSW_DIE_STATE_ovshut d) true)).raise (30 + d)
  else s

/-- Release of the shutdown (R68, R69): outputs return in ascending order to their commanded state, or to the limp value of a hold window
that has expired. -/
def overVoltageEnd (s : State) (d : Nat) : State :=
  if (s.die d).on then (dieChans d).foldl settleOut (s.putB (PSW_DIE_STATE_ovshut d) false) else s

/-- The duties that a channel commanded DUTY or DUTYC may have before the cap (R276): a compensated one is that of the last reading, or the one
in force. -/
def dutiesOf (s : State) (c : Nat) : List Nat :=
  let o := commanded s c
  let x := s.chan c
  match o.cmd with
  | 2 => [o.d]
  | 3 => compensated s c o.d (groupVolts s c * 50000) :: (if x.out.cmd = 3 then [x.out.d] else [])
  | _ => []

/-- The answer of PSW in the entry handshake; entry to Off is Acked at once (R276). -/
def pswAnswer (s : State) (park : Bool) : HsAns :=
  let live := (List.range 104).filter fun c => (s.die (dieOf c)).on
  if ! park then .ack
  else if live.any fun c => ! s.bit (PSW_CH_STATUS_siding c) &&
      (dutiesOf s c).any (fun d => let e := min d (256 * (s.chan c).capIn); e != 0 && e != 4096) then .refuse 0x10
  else if [0, 1].any fun d => (s.die d).on && dieState s d != 0 then .refuse 0x11
  else if live.any fun c => (s.chan c).test != 0 then .delay
  else .ack

end Sys2Proof.Machine
end

