-- ==== Sys2Proof/Machine/Items.lean ====
section
/-! DEFINITION. The item store of the timeline engine: slots, their use, freeing and removal (R184 to R186, R194). -/
namespace Sys2Proof.Machine
open Sys2Proof Reg

/-- The item in a slot. -/
def State.item (s : State) (k : Nat) : Item := SMap.get Item.init s.tln.items k
/-- The state with a slot's item replaced. -/
def State.setItem (s : State) (k : Nat) (i : Item) : State := { s with tln := { s.tln with items := SMap.set Item.init s.tln.items k i } }
/-- Roster `r`. -/
def State.ros (s : State) (r : Nat) : Roster := SMap.get Roster.init s.tln.rosters r
/-- The state with a roster replaced. -/
def State.setRos (s : State) (r : Nat) (x : Roster) : State :=
  { s with tln := { s.tln with rosters := SMap.set Roster.init s.tln.rosters r x } }
/-- Axis `n`. -/
def State.axis (s : State) (n : Nat) : Axis := SMap.get Axis.init s.tln.axes n
/-- The state with an axis replaced. -/
def State.setAxis (s : State) (n : Nat) (x : Axis) : State := { s with tln := { s.tln with axes := SMap.set Axis.init s.tln.axes n x } }

/-- The slots in use (R184): a slot is in use while its item is armed. -/
def State.usedSlots (s : State) : Nat := (s.tln.items.filter fun e => e.2.st = .armed).length
/-- The slots held by items of tenant `t`. -/
def State.tenantSlots (s : State) (t : Nat) : Nat := (s.tln.items.filter fun e => e.2.st = .armed ∧ e.2.tenant = t).length

/-- A slot given back (R185): free slots are reused in the order in which they were freed. -/
def State.freeSlot (s : State) (k : Nat) (st : SlotState) : State :=
  let s := s.setItem k { s.item k with st := st, leaving := false, stagedCancel := false, stagedArm := false }
  { s with tln := { s.tln with freeQ := s.tln.freeQ ++ [k] } }

/-- Whether a due entry is of the slot. -/
def Due.ofSlot (k : Nat) (d : Due) : Bool :=
  match d.kind with
  | .single j => j == k
  | .inst _ _ j => j == k
  | .period _ _ => false

/-- The instances of a slot forgotten: nothing of it is pending or due any more. -/
def State.dropInstances (s : State) (k : Nat) : State :=
  let r := (s.item k).roster
  let x := s.ros r
  let s := if r = 0 then s else s.setRos r { x with periods := x.periods.map fun p => { p with pending := p.pending.filter (· ≠ k) } }
  { s with tln := { s.tln with due := s.tln.due.filter fun d => ! d.ofSlot k } }

/-- Whether a roster is enabled. -/
def rosOn (s : State) (r : Nat) : Bool := s.bit (TLN_ROS_CFG_en r)
/-- Whether a slot already stands in the due queue. -/
def isDue (s : State) (k : Nat) : Bool := s.tln.due.any fun d => d.ofSlot k

/-- A cancelled member's slot freed once nothing of it is pending or due (R185, R194). -/
def freeLeaving (s : State) (r : Nat) : State :=
  let ks := (s.tln.items.filter fun e => e.2.st = .armed ∧ e.2.roster = r ∧ e.2.leaving).map (·.1)
  ks.foldl (fun s k =>
    if isDue s k || (s.ros r).periods.any (fun p => p.pending.contains k) then s else s.freeSlot k .cancelled) s

/-- The staged changes of a roster take effect together (R194). -/
def applyStaged (s : State) (r : Nat) : State :=
  let ks := (s.tln.items.filter fun e => e.2.st = .armed ∧ e.2.roster = r).map (·.1)
  let s := ks.foldl (fun s k =>
    let i := s.item k
    s.setItem k { i with stagedArm := false, leaving := i.leaving || i.stagedCancel, stagedCancel := false }) s
  freeLeaving s r

/-- A period has completed when its last instance has fired (R192); completed periods are forgotten, and on a disabled roster with no
period running the staged changes take effect (R195). -/
def settleRoster (s : State) (r : Nat) : State :=
  let x := s.ros r
  let running (p : RPeriod) : Bool :=
    ! p.pending.isEmpty || s.tln.due.any fun d => match d.kind with | .inst q n _ => q == r && n == p.n | _ => false
  let s := s.setRos r { x with periods := x.periods.filter running }
  let s := freeLeaving s r
  if ! rosOn s r && (s.ros r).periods.isEmpty then applyStaged s r else s

/-- An item removed without firing (R186, R208); the last pending instance of its roster may go with it (R195). -/
def State.removeItem (s : State) (k : Nat) : State :=
  let r := (s.item k).roster
  let s := (s.dropInstances k).freeSlot k .cancelled
  if r = 0 then s else settleRoster s r

/-- Every armed item that satisfies `p`, removed without firing. -/
def State.removeItems (s : State) (p : Item → Bool) : State :=
  ((s.tln.items.filter fun e => e.2.st = .armed ∧ p e.2).map (·.1)).foldl State.removeItem s

/-- The items of a context removed (R186, RESTART, RELEASE, TENANT_RESTART). -/
def State.removeItemsOf (s : State) (c : Nat) : State := s.removeItems fun i => i.ctx == c

/-- The items a context armed after its last committed frame removed (R186); frame word 0xEC counts the commits (R170). -/
def State.removeUncommitted (s : State) (c : Nat) : State :=
  s.removeItems fun i => i.ctx == c && i.commit == (s.frame c 0x3B).toNat

end Sys2Proof.Machine
end

