-- ==== Sys2Proof/Machine/PwrBase.lean ====
section
/-! DEFINITION. Wake requests (R452, R453) and the phases of the power-state controller that other blocks ask for. -/
namespace Sys2Proof.Machine
open Sys2Proof Reg

/-- The power part of the state changed. -/
def State.modPwr (s : State) (f : PwrSt → PwrSt) : State := { s with pwr := f s.pwr }

/-- Whether wake requests are taken: from the commit to Park until the return to Run (R453). -/
def wakeable (s : State) : Bool := match s.pwr.phase with | .parking | .park => true | _ => false

/-- A wake request with its code and detail (R453): the first is recorded with A0, every one sets its bit. A later request counts as
falling in another LPO cycle unless `same` says otherwise; then the lowest code is recorded and `more` is set. -/
def wakeRequest (s : State) (code detail : Nat) (same : Bool := false) : State :=
  if ! wakeable s then s
  else
    let s := s.wr PWR_WAKEMASK (s.rd PWR_WAKEMASK ||| (1#32 <<< code))
    let record (s : State) : State :=
      let a := s.axis 0
      let s := (s.put PWR_WAKESRC_code code).put PWR_WAKESRC_detail detail
      ((s.put PWR_WAKETS_LO_pos (a.pos % 2 ^ 32)).put PWR_WAKETS_HI_pos (a.pos / 2 ^ 32 % 65536)).put PWR_WAKETS_HI_qual a.qual
    if ! s.pwr.wake then (record (s.putB PWR_WAKESRC_more false)).modPwr fun p => { p with wake := true }
    else if same then
      let s := s.putB PWR_WAKESRC_more true
      if code < s.get PWR_WAKESRC_code then record s else s
    else s

/-- A PWR command finishes with a code. -/
def pwrDone (s : State) (code : Nat) : State :=
  ((s.putB PWR_CMD_RESULT_busy false).wrap PWR_CMD_RESULT_seq).put PWR_CMD_RESULT_code code

/-- The entry handshake ends without entry (R448): block 0 is the controller. -/
def hsEnd (s : State) (block reason : Nat) : State :=
  if s.bit PWR_STATUS_hs then
    let s := ((s.putB PWR_STATUS_hs false).put PWR_HS_block block).put PWR_HS_reason reason
    (pwrDone s 2).modPwr fun p => { p with target := none, expired := [] }
  else s

/-! ## Outfit fields (R536) -/

/-- The outfit in force: 0x3F none. -/
def outCur (s : State) : Nat := s.get SYS_OUT_STATUS_cur
/-- Whether an outfit is in force. -/
def outInForce (s : State) : Bool := outCur s != 0x3F
/-- A write of an outfit field by a context sets dirty while an outfit is in force (R536). -/
def outDirty (s : State) : State := if outInForce s then s.putB SYS_OUT_STATUS_dirty true else s


end Sys2Proof.Machine
end

