-- ==== Sys2Proof/Machine/Acc.lean ====
section
/-! DEFINITION. Access and immobiliser (R393 to R412). -/
namespace Sys2Proof.Machine
open Sys2Proof Reg

/-- A field value held to a range: values outside act as the nearer limit. -/
def clampTo (lo hi n : Nat) : Nat := max lo (min hi n)

/-! ## Lock-out (R401) -/

/-- The length of a lock-out of level `m` in seconds: 4 min × 2^m. -/
def lockSeconds (m : Nat) : Nat := 240 * 2 ^ m

/-- failcnt and m return to 0. -/
def clearFails (s : State) : State := (s.put ACC_STATUS_failcnt 0).put ACC_STATUS_lockm 0

/-- A failed attempt (R401, R410): at the fifth a lock-out begins and source 145 raises (R411). -/
def failAttempt (s : State) (verdict : Nat) : State :=
  let s := accEvent s 3 verdict
  if s.get ACC_STATUS_failcnt < 4 then s.put ACC_STATUS_failcnt (s.get ACC_STATUS_failcnt + 1)
  else
    let m := s.get ACC_STATUS_lockm
    let s := ((s.put ACC_STATUS_failcnt 0).put ACC_STATUS_remain (lockSeconds m)).modAcc fun a => { a with locked := true }
    (accEvent s 4 m).raise 145

/-- The lock-out is over. -/
def unlock (s : State) : State := (s.put ACC_STATUS_remain 0).modAcc fun a => { a with locked := false }

/-- A lock-out expires (R401): m rises by 1, up to 4. It does not run while the die is unpowered or held in reset. -/
def lockoutEnd (s : State) : State :=
  if s.acc.locked && dieRuns s then (unlock s).put ACC_STATUS_lockm (min 4 (s.get ACC_STATUS_lockm + 1)) else s

/-! ## Candidates (R398) -/

/-- The candidate of a key slot. -/
def candOf (s : State) (k : Nat) : Option Word := SMap.get none s.acc.cands k

/-- A candidate held or discarded, with its marks. -/
def setCand (s : State) (k : Nat) (v : Option Word) : State :=
  let s := (s.modAcc fun a => { a with cands := SMap.set none a.cands k v }).putB (ACC_KEY_CTL_cand k) v.isSome
  s.putB ACC_STATUS_cand (! s.acc.cands.isEmpty)

/-- A key's counter set: its candidate is discarded (R398). -/
def setCounter (s : State) (k : Nat) (n : Word) : State := setCand (s.wr (ACC_KEY_CNT k) n) k none

/-! ## Sessions (R402) -/

/-- A session of authority `x` (0 entry, 1 drive) opens for a key; the parked timer restarts (R407). -/
def openSession (s : State) (x k : Nat) : State :=
  let tmo := clampTo 1 600 (s.get (if x = 1 then ACC_SESS_TMO_drive else ACC_SESS_TMO_entry))
  let s := ((s.putB (ACC_SESS_active x) true).put (ACC_SESS_key x) k).put (ACC_SESS_why x) 0
  accEvent (parkedZero (s.put (ACC_SESS_remain x) tmo)) 1 (32 * x + k)

/-! ## Exchanges (R397, R405) -/

/-- Whether an exchange is in progress. -/
def exchanging (s : State) : Bool := s.acc.phase != .idle

/-- An exchange ends; an announce that waits is served (R397). -/
def endExchange (s : State) : State :=
  s.modAcc fun a => { a with phase := if a.waitAnn then .announce else .idle, waitAnn := false, req := none }

/-- The antenna of the request in progress. -/
def reqAnt (s : State) : Option Nat := match s.acc.req with | some (.ant a) => some a | _ => none

/-- ACC_LAST written with a verdict (R412's map); what the verdict's message does not have is a free value. -/
def noteVerdict (s : State) (verdict : Nat) (key cmd : Option Nat) (button : Bool) : State :=
  let w := s.freeW.toNat
  let s := s.drawn
  let s := ((s.put ACC_LAST_verdict verdict).put ACC_LAST_key (key.getD w)).putB ACC_LAST_button button
  (s.put ACC_LAST_ant ((reqAnt s).getD (w / 8))).put ACC_LAST_cmd (cmd.getD (w / 32))

/-- The verdict of a request (R411): three consecutive verdicts of 10 or 12 raise source 146. -/
def noteRequest (s : State) (verdict : Nat) : State :=
  if verdict = 10 ∨ verdict = 12 then
    if s.acc.failRun < 2 then s.modAcc fun a => { a with failRun := a.failRun + 1 }
    else (s.modAcc fun a => { a with failRun := 0 }).raise 146
  else s.modAcc fun a => { a with failRun := 0 }

/-- The slot in use whose identifier matches (R393, R398); the broadcast identifier matches none. -/
def matchKey (s : State) (id : Word) : Option Nat :=
  if id = 0xFFFFFFFF then none else (List.range 8).find? fun k => s.bit (ACC_KEY_CTL_en k) && s.rd (ACC_KEY_ID k) == id

/-- The excess of a reply in 125 ps units (R399). -/
def excess (s : State) (delay : Nat) : Int := (s.acc.flight : Int) - delay - sgn 16 (s.get ACC_RNG_CFG_cal)

/-- The distance of an excess in cm: floor(e × 1,199 / 640) for e > 0, else 0 (R399). -/
def distance (e : Int) : Nat := e.toNat * 1199 / 640

/-- A message (R396): whether it is a reply, its identifier, command byte, declared delay and counter, and whether its MAC is that of the slot
its identifier matches. -/
structure KeyMsg where
  reply : Bool
  id : Word
  cmd : Nat
  delay : Nat
  n : Word
  macOk : Bool
deriving DecidableEq, Repr

/-- An accepted message opens what it opens (R400, R402): a reply through an antenna the antenna's session, a reply to a key's request
the entry session, a button message 0x02 or 0x03 the entry session or a request to its key. -/
def onAccepted (s : State) (m : KeyMsg) (k : Nat) : State :=
  let s := clearFails s
  if m.reply then
    match s.acc.req with
    | some (.ant a) => openSession s (s.get (ACC_LF_auth a)) k
    | _ => openSession s 0 k
  else
    let s := accEvent s 6 m.cmd
    if m.cmd = 2 ∨ m.cmd = 3 then
      if s.bit ACC_CFG_btnrange then s.modAcc fun a => { a with queue := .key k :: a.queue } else openSession s 0 k
    else s

/-- Orders 9 to 11 of R398: the counter is set, a reply's excess and distance are judged. -/
def judgeRange (s : State) (m : KeyMsg) (k verdict : Nat) : State × Nat :=
  let s := setCounter s k m.n
  if m.reply then
    let e := excess s m.delay
    let s := (s.put ACC_LAST_RNG_dist (min 65535 (distance e))).put ACC_LAST_RNG_excess
      (BitVec.ofInt 16 (max (-32768) (min 32767 e))).toNat
    if e < -(s.get ACC_RNG_BOUND_early : Int) then (failAttempt s 9, 9)
    else if s.get ACC_RNG_BOUND_bound < distance e then (failAttempt s 8, 8)
    else (onAccepted s m k, verdict)
  else (onAccepted s m k, verdict)

/-- The judgement of R398: the state after, the verdict and the slot matched. -/
def judgeMsg (s : State) (m : KeyMsg) : State × Nat × Option Nat :=
  if s.acc.locked then (s, 11, none)
  else if (m.reply ∧ m.cmd ≠ 0) ∨ (¬ m.reply ∧ (m.cmd = 0 ∨ 0x3F < m.cmd ∨ m.delay ≠ 0)) then (s, 12, none)
  else
    match matchKey s m.id with
    | none => (failAttempt s 5, 5, none)
    | some k =>
      let d := (m.n - s.rd (ACC_KEY_CNT k)).toNat
      let r : State × Nat :=
        if ! m.macOk then (failAttempt s 4, 4)
        else if d = 0 ∨ 2 ^ 31 ≤ d then (failAttempt s 6, 6)
        else if (candOf s k).any fun c => c + 1 == m.n then judgeRange s m k 2
        else if 257 ≤ d ∧ d ≤ 8192 then (setCand s k (some m.n), 3)
        else if 8192 < d then (s, 7)
        else judgeRange s m k 1
      (r.1, r.2, some k)

/-- A message has been clocked in: it is judged, the verdict stands in ACC_LAST, and the exchange ends (R397, R398). -/
def keyMessage (s : State) (m : KeyMsg) : State :=
  let (s, v, k) := judgeMsg s m
  let s := (noteVerdict s v k (some m.cmd) (! m.reply)).wrap ACC_LAST_count
  endExchange (if m.reply then noteRequest s v else s)

/-! ## Commands (R405, R407, R412) -/

/-- The antennas of a mask that are enabled, ascending. -/
def antennas (s : State) (mask : Nat) : List Nat := (List.range 4).filter fun a => mask.testBit a && s.bit (ACC_LF_en a)

/-- A write of ACC_CMD by context `w` (R412): POLL and END for a context granted ACC, RESUME and CLRLOCK for context 0; another op is
ignored. -/
def accCommand (s : State) (w op arg : Nat) : State :=
  s.granted w (if op = 3 ∨ op = 4 then w == 0 else s.blockOk w 13) ACC_CMD fun s =>
    match op with
    | 1 => s.modAcc fun a => { a with queue := a.queue ++ (antennas s arg).map .ant }
    | 2 =>
      let s := if arg.testBit 0 then endSession s 0 3 else s
      if arg.testBit 1 then endSession s 1 3 else s
    | 3 => parkedZero (s.putB ACC_STATUS_pstop false)
    | 4 => clearFails (if s.acc.locked then unlock s else s)
    | _ => s

/-- ACC_CMD POLL (R405). -/
def execAccPoll (w : CtxId) (mask : BitVec 4) (s : State) : Out := .next (accCommand s w 1 mask.toNat)
/-- ACC_CMD END (R403). -/
def execAccEnd (w : CtxId) (entry drive : Bool) (s : State) : Out := .next (accCommand s w 2 (b2n entry + 2 * b2n drive))
/-- ACC_CMD RESUME (R407). -/
def execAccResume (w : CtxId) (s : State) : Out := .next (accCommand s w 3 0)
/-- ACC_CMD CLRLOCK (R401). -/
def execClrlock (w : CtxId) (s : State) : Out := .next (accCommand s w 4 0)

/-- A write of a key register by context `w` (R394): ID and CNT only while the slot is not in use. -/
def keyWrite (s : State) (w k which : Nat) (v : Word) : State :=
  let r := if which = 0 then ACC_KEY_ID k else if which = 1 then ACC_KEY_CTL k else ACC_KEY_CNT k
  s.granted w (w == 0) r fun s =>
    if which = 1 then s.putB (ACC_KEY_CTL_en k) (bitOf v 31)
    else if s.bit (ACC_KEY_CTL_en k) then s
    else if which = 0 then s.wr r v
    else setCounter s k v

/-- ACC_KEYk_CTL.en cleared (R394). -/
def execKeyRevoke (w : CtxId) (k : Fin 8) (s : State) : Out := .next (keyWrite s w k 1 0)

/-! ## Exchanges on the port -/

/-- Whether a request may be made: no exchange, no lock-out, not in Park (R401, R408). -/
def mayRequest (s : State) : Bool := ! exchanging s && ! s.acc.locked && ! inPark s

/-- The 24 bits of a burst (R405): the wake identifier of the antenna, then its number. -/
def burstBits (s : State) (a : Nat) : BitVec 24 := BitVec.ofNat 16 (s.get (ACC_LF_wakeid a)) ++ BitVec.ofNat 8 a

/-- The identifier a request goes to (R400, R405). -/
def reqId (s : State) : AccReq → Word
  | .ant _ => 0xFFFFFFFF
  | .key k => s.rd (ACC_KEY_ID k)

/-- The request at the head of the queue begins with its LF burst (R405). -/
def lfBurst (s : State) : State :=
  match s.acc.queue with
  | .ant a :: q =>
    if mayRequest s then
      s.modAcc fun x => { x with phase := .burst, req := some (.ant a), queue := q, lfBits := burstBits s a }
    else s
  | _ => s

/-- The LF wake burst of a request (R405). -/
def execLfWakeBurst (s : State) : Out := .next (lfBurst s)

/-- The identifier and a challenge are shifted out, while the peripheral clock runs (R430), and t0 captured (R397): after the burst, or at
once for a request to a key's identifier
(R400). -/
def rangingRequest (s : State) : State :=
  let go (s : State) : State :=
    (s.modAcc fun x => { x with phase := .waiting, sentId := (x.req.map (reqId s)).getD 0xFFFFFFFF, challenge := s.freeW }).drawn
  if ! perRuns s then s
  else if s.acc.phase = .burst then go s
  else
    match s.acc.queue with
    | .key k :: q => if mayRequest s then go (s.modAcc fun x => { x with req := some (.key k), queue := q }) else s
    | _ => s

/-- The request of R397. -/
def execRangingRequest (s : State) : Out := .next (rangingRequest s)

/-- No rise within the window (R397, R398): verdict 10, not a failed attempt. -/
def noReply (s : State) : State :=
  if s.acc.phase = .waiting then endExchange (noteRequest (noteVerdict s 10 none none false) 10) else s

/-- The reply window in 125 ps units: ACC_RNG_CFG.win × 50 µs (R397). -/
def replyWindow (s : State) : Nat := clampTo 1 80 (s.get ACC_RNG_CFG_win) * 400000

/-- RNG_RX rises: t1 is captured, `flight` after t0 in 125 ps units; a rise after the window is no reply (R397). With VIO1 out of range
the land reads 0 (R56). -/
def execRangingReply (flight : Nat) (s : State) : Out :=
  .next <|
    if ! (s.acc.phase = .waiting && s.pwr.io1) then s
    else if replyWindow s < flight then noReply s
    else s.modAcc fun x => { x with phase := .reading, flight := flight }

/-- No reply (R397). -/
def execNoReply (s : State) : Out := .next (noReply s)

/-- The MAC of a message under the key of a slot (R393, R396): the first 4 bytes of the AES-128 encryption of message bytes 0 to 11 and the
challenge. -/
def keyMac (s : State) (k : Nat) (id : Word) (cmd : Byte) (delay : BitVec 24) (n challenge : Word) : Word :=
  (Config.aes128 (keySlot s (16 + k)).bytes (id ++ cmd ++ delay ++ n ++ challenge)).extractLsb' 96 32

/-- The message of 16 bytes, with what its MAC shows (R396): a reply is checked with the challenge of its request, a button message with
0. -/
def keyMsg (s : State) (reply : Bool) (id : Word) (cmd : Byte) (delay : BitVec 24) (n mac : Word) : KeyMsg :=
  let ok := (matchKey s id).any fun k => keyMac s k id cmd delay n (if reply then s.acc.challenge else 0) == mac
  ⟨reply, id, cmd.toNat, delay.toNat, n, ok⟩

/-- The message as the port clocks it in: with VIO1 out of range every bit reads 0 (R56). -/
def msgSeen (s : State) (reply : Bool) (id : Word) (cmd : Byte) (delay : BitVec 24) (n mac : Word) : KeyMsg :=
  if s.pwr.io1 then keyMsg s reply id cmd delay n mac else keyMsg s reply 0 0 0 0 0

/-- The 16 bytes of a message have been clocked in (R396, R398). -/
def execKeyMessage (id : Word) (cmd : Byte) (delay : BitVec 24) (n mac : Word) (s : State) : Out :=
  .next <| if ! perRuns s then s else
    match s.acc.phase with
    | .reading => keyMessage s (msgSeen s true id cmd delay n mac)
    | .announce => keyMessage s (msgSeen s false id cmd delay n mac)
    | _ => s

/-- The radio holds RNG_RX high (R397): served when the port is idle, else when the exchange ends; in Park after start-up, with a wake
if btnwake = 1 (R408). With VIO1 out of range the land reads 0 (R56). -/
def execAnnounce (s : State) : Out :=
  .next <|
    if ! (s.pwr.io1 && dieRuns s) then s
    else if inPark s then
      let s := s.modAcc fun x => { x with waitAnn := true }
      if s.bit ACC_CFG_btnwake then wakeRequest s 6 0 else s
    else if exchanging s then s.modAcc fun x => { x with waitAnn := true }
    else s.modAcc fun x => { x with phase := .announce }

/-- Probes that are to come, the first with its carrier on. -/
def setProbes (s : State) (l : List Nat) : State := s.modAcc fun x => { x with probes := l, carrier := ! l.isEmpty }

/-- The probe in progress goes on (R406): its carrier ends and its presence window follows; as that closes the next probe starts. -/
def probeStep (s : State) : State := if s.acc.carrier then s.modAcc fun x => { x with carrier := false } else setProbes s s.acc.probes.tail

/-- The probe period expires (R406): a probe on each enabled antenna of amask. -/
def execProbe (s : State) : Out :=
  .next <|
    if s.bit ACC_CFG_en ∧ ¬ s.acc.locked ∧ ¬ s.bit ACC_STATUS_pstop then
      setProbes s (antennas s (s.get ACC_POLL_amask))
    else s

/-- A presence in the window of a probe (R406, R408): event code 7, and a wake from Park. The windows of the antennas before it have
closed. With VIO1 out of range there is no presence to read (R56). -/
def presence (s : State) (a : Nat) : State :=
  if s.acc.probes.contains a && s.pwr.io1 then
    let s := setProbes s (s.acc.probes.filter (a < ·))
    let s := accEvent s 7 a
    if inPark s then wakeRequest s 5 a else s
  else s

/-- A presence (R406). -/
def execPresence (a : Fin 4) (s : State) : Out := .next (presence s a)

/-- A lock-out expires (R401). -/
def execLockoutEnd (s : State) : Out := .next (lockoutEnd s)
/-- A candidate has been held for 30 s (R398). -/
def execCandidateExpire (k : Fin 8) (s : State) : Out := .next (if (candOf s k).isSome then setCand s k none else s)
/-- A session's timeout expires (R403). -/
def execSessionTimeout (drive : Bool) (s : State) : Out := .next (endSession s (b2n drive) 2)

/-! ## The parked timer (R407) -/

/-- A minute of the parked timer while IGN is low: stored every 10 min; at stopdays × 1,440 probing stops. -/
def parkedTick (s : State) : State :=
  if s.bit PWR_STATUS_ign ∨ ! dieRuns s then s
  else
    let n := satInc 32 (s.rd ACC_PARKED).toNat
    let s := s.wr ACC_PARKED (BitVec.ofNat 32 n)
    let s := if n % 10 = 0 then s.modAcc fun x => { x with parkedStored := BitVec.ofNat 32 n } else s
    if clampTo 1 60 (s.get ACC_POLL_stopdays) * 1440 ≤ n ∧ ¬ s.bit ACC_STATUS_pstop then accEvent (s.putB ACC_STATUS_pstop true) 5 0 else s

/-- A minute of the parked timer (R407). -/
def execParkedTimerTick (s : State) : Out := .next (parkedTick s)

/-! ## Power states and reset (R408, R409) -/

/-- The answer of ACC in the entry handshake. -/
def accAnswer (s : State) (park : Bool) : HsAns :=
  if ! park then .ack
  else if exchanging s then .delay
  else if s.bit (ACC_SESS_active 0) || s.bit (ACC_SESS_active 1) then .refuse 0x70
  else .ack

/-- The return to Run: an announce that came in Park is served (R408). -/
def accRunResume (s : State) : State := if s.acc.phase = .idle ∧ s.acc.waitAnn then endExchange s else s

/-- A reset that initialises ACC (R395, R401, R409): the keys, the lock-out state and the stored parked timer stay; a lock-out in force
starts again with its full length. -/
def accReset (s : State) : State :=
  let f := s.get ACC_STATUS_failcnt
  let m := s.get ACC_STATUS_lockm
  let s := { s with regs := SMap.clear s.regs ACC_CFG.addr 0x100 }
  let s := { s with acc := { AccSt.init with locked := s.acc.locked, parkedStored := s.acc.parkedStored } }
  let s := (List.range 8).foldl (fun s k => s.putB (ACC_KEY_CTL_cand k) false) s
  let s := ((s.put ACC_STATUS_failcnt f).put ACC_STATUS_lockm m).wr ACC_PARKED s.acc.parkedStored
  if s.acc.locked then s.put ACC_STATUS_remain (lockSeconds m) else s

end Sys2Proof.Machine
end

