-- ==== Sys2Proof/Machine/NmgBase.lean ====
section
/-! DEFINITION. Bus timers and keep-alives as the buses report them to network management (R356, R358). -/
namespace Sys2Proof.Machine
open Sys2Proof Reg

/-- The links part of the state changed. -/
def State.modNet (s : State) (f : NetSt → NetSt) : State := { s with net := f s.net }

/-- The state of bus `b`: 0 Off, 1 Asleep, 2 Awake (R356). -/
def busState (s : State) (b : Nat) : Nat := s.get (NMG_BUS_STATE_state b)

/-- tsleep of a bus in ms (R356): 10 ms × sleep, 0 acts as 1; at least 4 s for a LIN responder (R361). -/
def tsleep (s : State) (b : Nat) : Nat :=
  let t := 10 * max 1 (s.get (NMG_BUS_TIME_sleep b))
  if 12 ≤ b ∧ b < 20 ∧ ¬ s.bit (LIN_CTRL_cmdr (b - 12)) then max 4000 t else t

/-- The timer of a bus restarted at tsleep. -/
def busTimer (s : State) (b : Nat) : State :=
  s.modNet fun n => { n with nmg := { n.nmg with timer := SMap.set 0 n.nmg.timer b (tsleep s b) } }

/-- A keep-alive is seen on an Awake bus, or an own one counts as sent (R356, R358). -/
def keepAliveSeen (s : State) (b : Nat) (own : Bool) : State :=
  if busState s b = 2 then busTimer (if own then s else s.putB (NMG_BUS_STATE_seen b) true) b else s

/-- Whether a CAN frame is a keep-alive of its bus (R358). -/
def isKeepAlive (s : State) (u : Nat) (f : CanFrame) : Bool :=
  s.bit (NMG_BUS_CFG_any u) ||
    (decide ((f.id.toNat ^^^ s.get (NMG_BUS_KAID_id u)) &&& s.get (NMG_BUS_KAMASK_mask u) = 0) &&
      (! s.bit (NMG_BUS_KAMASK_xtdm u) || s.bit (NMG_BUS_KAID_xtd u) == f.xtd))

/-- A valid frame on a CAN bus, as network management sees it. -/
def nmgCanFrame (s : State) (u : Nat) (f : CanFrame) (own : Bool) : State := if isKeepAlive s u f then keepAliveSeen s u own else s

end Sys2Proof.Machine
end

