-- ==== Sys2Proof/Machine/Can.lean ====
section
/-! DEFINITION. CAN FD controllers and the timetable (R322 to R353). -/
namespace Sys2Proof.Machine
open Sys2Proof Reg

/-- Controller `u` beside its registers. -/
def State.canc (s : State) (u : Nat) : CanCtl := SMap.get CanCtl.init s.can.ctl u
/-- The state with a controller changed. -/
def State.modCan (s : State) (u : Nat) (f : CanCtl → CanCtl) : State :=
  { s with can := { s.can with ctl := SMap.set CanCtl.init s.can.ctl u (f (s.canc u)) } }

/-- State codes of R325. -/
def canState (s : State) (u : Nat) : Nat := s.get (CAN_STATUS_state u)
/-- Whether context `w` reaches controller `u` (R326). -/
def canGrant (s : State) (w u : Nat) : Bool := s.blockOk w 15 && s.canOk w u

/-! ## Message RAM (R328, R329, R350) -/

/-- A message RAM word; an uncorrectable word reads as 0, and a controller has no word above 8,191. -/
def State.canWord (s : State) (u w : Nat) : Word :=
  if 8192 ≤ w ∨ s.can.err.contains (8192 * u + w) then 0 else SMap.get 0 s.can.msg (8192 * u + w)
/-- The state with a message RAM word written; a write makes the word good. -/
def State.setCanWord (s : State) (u w : Nat) (v : Word) : State :=
  if 8192 ≤ w then s
  else { s with can := { s.can with msg := SMap.set 0 s.can.msg (8192 * u + w) v, err := s.can.err.filter (· ≠ 8192 * u + w) } }
/-- Whether a word is uncorrectable. -/
def canBad (s : State) (u w : Nat) : Bool := decide (w < 8192) && s.can.err.contains (8192 * u + w)

/-- The data size D of a dsz code (R328). -/
def dszBytes (d : Nat) : Nat := match d with | 0 => 8 | 1 => 12 | 2 => 16 | 3 => 20 | 4 => 24 | 5 => 32 | 6 => 48 | _ => 64
/-- Data bytes of an element of region `x`. -/
def ramD (s : State) (u x : Nat) : Nat := dszBytes (s.get (CAN_RAM_dsz u x))
/-- Words of an element of region `x`. -/
def ramLen (s : State) (u x : Nat) : Nat := 3 + ramD s u x / 4
/-- Elements of region `x`: at most 256, for the transmit region 64. -/
def ramCount (s : State) (u x : Nat) : Nat := min (if x = 3 then 64 else 256) (s.get (CAN_RAM_count u x))
/-- The first word of element `k` of region `x`. -/
def ramAt (s : State) (u x k : Nat) : Nat := s.get (CAN_RAM_start u x) + k * ramLen s u x
/-- The timetable mode: 3 acts as 0 (R343). -/
def ttMode (s : State) (u : Nat) : Nat := let m := s.get (CAN_CTRL_tt u); if m = 3 then 0 else m

/-- The regions in use, first word and words (R328). -/
def ramRegions (s : State) (u : Nat) : List (Nat × Nat) :=
  ([0, 1, 2, 3].filterMap fun x => if ramCount s u x = 0 then none else some (s.get (CAN_RAM_start u x), ramCount s u x * ramLen s u x)) ++
    if ttMode s u = 0 then [] else [(s.get (CAN_RAM_TT_start u), 2048)]

/-- Whether regions lie within 8,192 words and do not overlap. -/
def regionsOk : List (Nat × Nat) → Bool
  | [] => true
  | (a, n) :: l => decide (a + n ≤ 8192) && (l.all fun (b, m) => decide (a + n ≤ b ∨ b + m ≤ a)) && regionsOk l

/-- Whether START finds the configuration valid (R327, R328). -/
def canConfigOk (s : State) (u : Nat) : Bool :=
  let qn := 3 + s.get (CAN_NBT_tseg1 u) + s.get (CAN_NBT_tseg2 u)
  let cn := (s.get (CAN_NBT_brp u) + 1) * qn
  let qd := 3 + s.get (CAN_DBT_tseg1 u) + s.get (CAN_DBT_tseg2 u)
  let cd := (s.get (CAN_DBT_brp u) + 1) * qd
  decide (80 ≤ cn ∧ cn ≤ 640 ∧ 10 ≤ cd ∧ cd ≤ cn ∧ s.get (CAN_NBT_sjw u) ≤ s.get (CAN_NBT_tseg2 u) ∧
    s.get (CAN_DBT_sjw u) ≤ s.get (CAN_DBT_tseg2 u) ∧ 8 ≤ qd) && regionsOk (ramRegions s u)

/-- Bytes of a frame's data by its DLC (ISO 11898-1). -/
def dlcBytes (fdf : Bool) (dlc : Nat) : Nat :=
  if dlc ≤ 8 then dlc
  else if ! fdf then 8
  else match dlc with | 9 => 12 | 10 => 16 | 11 => 20 | 12 => 24 | 13 => 32 | 14 => 48 | _ => 64

/-- Data bytes written from word 3 of an element on; bytes beyond the frame's data keep their value. -/
def writeData (s : State) (u base n : Nat) (d : List Byte) : State :=
  (List.range n).foldl (fun s i =>
    let w := base + 3 + i / 4
    let j := i % 4
    s.setCanWord u w (setBits (s.canWord u w) (8 * j + 7) (8 * j) (d.getD i 0).toNat)) s

/-- Word 0 of an element that a frame enters. -/
def word0 (f : CanFrame) : Word :=
  BitVec.ofNat 32 (b2n f.esi * 2 ^ 31 + b2n f.rtr * 2 ^ 30 + b2n f.xtd * 2 ^ 29 + f.id.toNat)

/-! ## Events and errors (R352, R353) -/

/-- A status event, if its code is enabled. -/
def canEvent (s : State) (u code detail : Nat) : State :=
  if bitOf (s.rd (CAN_EVEN u)) (8 + code) then s.event (521 + 2 * u) (8192 + code + 16 * (detail % 256)) else s

/-- A buffer's uncorrectable word, or a matrix cell's, raises the message-RAM source (R350). -/
def ramFault (s : State) (u : Nat) : State := s.raise (84 + 4 * u + 3)

/-- A word the controller reads: an uncorrectable one reads as 0 and raises its source (R350). -/
def canRead (s : State) (u w : Nat) : State × Word := (if canBad s u w then ramFault s u else s, s.canWord u w)

/-! ## Requests (R335 to R340) -/

/-- A bit of CAN_TXPENDw. -/
def isPend (s : State) (u b : Nat) : Bool := (s.canc u).pend.any fun r => r.buf == b

/-- A request ends with a result (R340). -/
def endReq (s : State) (u : Nat) (r : CanReq) (result : Nat) : State :=
  let at1 := ramAt s u 3 r.buf + 1
  let (s, w) := canRead s u at1
  let s := s.setCanWord u at1 (setBits (setBits w 19 16 result) 31 24 (min 255 r.attempts))
  let s := s.modCan u fun c => { c with pend := c.pend.filter fun q => q.buf ≠ r.buf }
  let s := if result = 1 then s.wr (CAN_TXDONE u (r.buf / 32)) (s.rd (CAN_TXDONE u (r.buf / 32)) ||| (1#32 <<< (r.buf % 32))) else s
  canEvent s u 1 r.buf

/-- Every pending request ends with a result. -/
def endAll (s : State) (u result : Nat) : State := (s.canc u).pend.foldl (fun s r => endReq s u r result) s

/-- A release is missed (R344): counted, and its request, if any, ends with result 3. -/
def missed (s : State) (u : Nat) : State := s.count (CAN_TT_STATUS_missed u)

/-- CAN_TXACK and CAN_TXACKSEQ after an action or a release (R336, R344). -/
def canAck (s : State) (u outcome : Nat) (bad : Option Bool) (tkt : Option (Nat × Word)) : State :=
  let s := ((s.put (CAN_TXACK_outcome u) outcome).putB (CAN_TXACK_ticketed u) tkt.isSome).wrap (CAN_TXACK_count u)
  let s := match bad with | some b => s.putB (CAN_TXACK_badreq u) b | none => s
  match tkt with
  | some (t, q) => (s.put (CAN_TXACK_track u) t).wr (CAN_TXACKSEQ u) q
  | none => s

/-- Whether a ticket of the bound track is not later than the newest pending ticketed request of the path (R336, R344). -/
def behindPending (s : State) (u : Nat) (q : Word) : Bool :=
  (s.canc u).pend.any fun r => match r.tkt with | some (_, p) => ! seqLater q p | none => false

/-- The ticket of an action as the path takes it (R230, R336): `none` when it is already applied; otherwise the ticket to judge the request
by, with a mismatch counted. -/
def canTicket (s : State) (u : Nat) (tkt : Option (Nat × Word)) : Option (State × Option (Nat × Word)) :=
  match judge s (112 + u) tkt with
  | .already => none
  | .advance q => if behindPending s u q then none else some (s, tkt)
  | .plain mis => some (if mis then (s.count LDG_COUNT_DROP_mismatch).raise 61 (BitVec.ofNat 32 (112 + u)) else s, none)

/-- The mode of a controller: 3 acts as 0. -/
def canMode (s : State) (u : Nat) : Nat := let m := s.get (CAN_CTRL_mode u); if m = 3 then 0 else m

/-- A request becomes pending: its buffer shows result 0, none since the last request (R340); an uncorrectable word 1 stays as it is until the
attempt finds it (R350). -/
def addReq (s : State) (u : Nat) (r : CanReq) : State :=
  let a := ramAt s u 3 r.buf + 1
  let s := if canBad s u a then s else s.setCanWord u a (setBits (s.canWord u a) 19 16 0)
  s.modCan u fun c => { c with pend := c.pend ++ [r] }

/-- A write of CAN_TXREQ (R336). -/
def txRequest (s : State) (u b : Nat) (tkt : Option (Nat × Word)) : State :=
  if canState s u = 4 then canAck s u 3 (some false) tkt
  else
    match canTicket s u tkt with
    | none => canAck s u 2 (some false) tkt
    | some (s, t) =>
      let (s, w) := if ramCount s u 3 ≤ b then (s, 0) else canRead s u (ramAt s u 3 b + 1)
      let bad := decide (ramCount s u 3 ≤ b) || bitOf w 6 || isPend s u b || canState s u == 0 || canMode s u != 0
      let s := if bad then s else addReq s u ⟨b, t, false, none, 0⟩
      canAck s u 1 (some bad) tkt

/-- CAN_TXREQ (R336). -/
def execTxRequest (w : CtxId) (u : Fin 12) (b : BitVec 6) (s : State) : Out :=
  .next (s.granted w (canGrant s w u) (CAN_TXREQ u) fun s => txRequest s u b.toNat (s.boundTkt w))

/-- A write of CAN_TXCANCEL (R339). -/
def txCancel (s : State) (u b : Nat) : State :=
  match (s.canc u).pend.find? fun r => r.buf == b with
  | none => s.put (CAN_TXACK_cres u) 3
  | some r => if (s.canc u).cur.map (·.1) = some b then s.put (CAN_TXACK_cres u) 2 else (endReq s u r 2).put (CAN_TXACK_cres u) 1

/-- CAN_TXCANCEL (R339). -/
def execTxCancel (w : CtxId) (u : Fin 12) (b : BitVec 6) (s : State) : Out :=
  .next (s.granted w (canGrant s w u) (CAN_TXCANCEL u) fun s => txCancel s u b.toNat)

/-! ## Controller states (R325, R348) -/

/-- A CAN command ends. -/
def canDone (s : State) (u code : Nat) : State :=
  ((s.putB (CAN_CMD_RESULT_busy u) false).wrap (CAN_CMD_RESULT_seq u)).put (CAN_CMD_RESULT_code u) code

/-- The controller returns to Init (R325); a REJOIN that waited finds the wrong state. -/
def canStop (s : State) (u : Nat) : State :=
  let s := endAll s u 5
  let s := if (s.canc u).rejoin then canDone s u 1 else s
  (s.modCan u fun c => { c with cur := none, window := false, after := none, rejoin := false, rejoined := false }).put (CAN_STATUS_state u) 0

/-- The controller enters Siding with a cause (R325, R348, R352); a STOP or SIDING that waited for the end of the frame then takes effect,
and a bus put to sleep meanwhile has its controller in Init (R360). -/
def canSide (s : State) (u cause : Nat) : State :=
  let after := (s.canc u).after
  let s := endAll s u 5
  let s := s.modCan u fun c => { c with cur := none, window := false, after := none, rejoin := false, rejoined := false }
  let s := ((s.put (CAN_STATUS_state u) 4).put (CAN_STATUS_cause u) cause).putB (CAN_STATUS_recov u) false
  let s := if cause = 1 then s.raise (84 + 4 * u) else s
  let s := canEvent s u 2 cause
  match after with
  | none => s
  | some .stop => canDone (canStop s u) u 0
  | some .siding => let s := canDone s u 0; if busState s u = 1 then canStop s u else s
  | some .quiet => canStop s u

/-- The controller integrates: counters 0, not synchronised (R325, R345). -/
def canIntegrate (s : State) (u : Nat) (rejoined : Bool) : State :=
  let s := (((s.put (CAN_STATUS_state u) 1).put (CAN_STATUS_tec u) 0).put (CAN_STATUS_rec u) 0).putB (CAN_TT_STATUS_synced u) false
  (s.putB (CAN_STATUS_recov u) false).modCan u fun c => { c with rejoin := false, rejoined := rejoined, window := false }

/-- Whether the rejoin of a controller in Siding need not wait: after bus-off only once recovery is complete. -/
def rejoinFree (s : State) (u : Nat) : Bool := s.get (CAN_STATUS_cause u) != 1 || s.bit (CAN_STATUS_recov u)

/-- A command written to CAN_CMD (R325, R346); SIDING and STOP wait for the end of an own frame, REJOIN for bus-off recovery. -/
def canCommand (s : State) (w u op : Nat) : State :=
  s.granted w (w == 0) (CAN_CMD u) fun s =>
    if s.bit (CAN_CMD_RESULT_busy u) then s
    else
      let st := canState s u
      let tx := (s.canc u).cur.isSome
      match op with
      | 1 => if st ≠ 0 then canDone s u 1 else if canConfigOk s u then canDone (canIntegrate s u false) u 0 else canDone s u 2
      | 2 =>
        if st = 0 then canDone s u 1
        else if tx then (s.putB (CAN_CMD_RESULT_busy u) true).modCan u fun c => { c with after := some .stop }
        else canDone (canStop s u) u 0
      | 3 =>
        if st = 0 ∨ st = 4 then canDone s u 1
        else if tx then (s.putB (CAN_CMD_RESULT_busy u) true).modCan u fun c => { c with after := some .siding }
        else canDone (canSide s u 0) u 0
      | 4 =>
        if st ≠ 4 then canDone s u 1
        else if rejoinFree s u then canDone (canIntegrate s u true) u 0
        else (s.putB (CAN_CMD_RESULT_busy u) true).modCan u fun c => { c with rejoin := true }
      | 5 => if ttMode s u = 0 then canDone s u 3 else canDone (s.putB (CAN_TT_STATUS_pendsw u) true) u 0
      | _ => canDone s u 4

/-- START (R325). -/
def execCanStart (w : CtxId) (u : Fin 12) (s : State) : Out := .next (canCommand s w u 1)
/-- STOP (R325). -/
def execCanStop (w : CtxId) (u : Fin 12) (s : State) : Out := .next (canCommand s w u 2)
/-- SIDING (R325). -/
def execCanSiding (w : CtxId) (u : Fin 12) (s : State) : Out := .next (canCommand s w u 3)
/-- REJOIN (R348). -/
def execCanRejoin (w : CtxId) (u : Fin 12) (s : State) : Out := .next (canCommand s w u 4)
/-- TTSWITCH (R346). -/
def execCanTtswitch (w : CtxId) (u : Fin 12) (s : State) : Out := .next (canCommand s w u 5)

/-- Whether RXD of a controller shows its bus: CAN8 to CAN11 read 0, dominant, while VIO2 is out of range (R56). -/
def canHears (s : State) (u : Nat) : Bool := decide (u < 8) || s.pwr.io2

/-- Whether a controller is on its bus: the CAN clock runs (R430, R432, R437), and CAN8 to CAN11 need VIO2 (R50, R56, R322). -/
def canLinked (s : State) (u : Nat) : Bool := perRuns s && canHears s u

/-- Nothing of the attempt that a reset found on the bus is left to follow (R337). -/
def tailOver (s : State) (u : Nat) : State := { s with can := { s.can with tail := s.can.tail.erase u } }

/-- 11 consecutive recessive bits (R325, R348): the attempt of before a reset has ended. -/
def execCanIntegrated (u : Fin 12) (s : State) : Out :=
  .next <| let s := tailOver s u; if canState s u = 1 ∧ canLinked s u then
    let s := s.put (CAN_STATUS_state u) 2
    if (s.canc u).rejoined then canEvent (s.modCan u fun c => { c with rejoined := false }) u 3 0 else s
  else s

/-- 128 occurrences of 11 recessive bits complete bus-off recovery (R348). -/
def execCanRecoveryComplete (u : Fin 12) (s : State) : Out :=
  .next <| if canState s u = 4 ∧ s.get (CAN_STATUS_cause u) = 1 ∧ ¬ s.bit (CAN_STATUS_recov u) ∧ canLinked s u then
    let s := s.putB (CAN_STATUS_recov u) true
    if (s.canc u).rejoin then canDone (canIntegrate s u true) u 0
    else if s.bit (CAN_CTRL_autorj u) then canIntegrate s u true
    else s
  else s

/-- What waited for the end of an own frame (R325). -/
def frameEnd (s : State) (u : Nat) : State :=
  match (s.canc u).after with
  | none => s
  | some .stop => canDone (canStop s u) u 0
  | some .siding => canSide s u 0
  | some .quiet => canStop s u

/-- TEC and REC (CAN_STATUS). -/
def tecOf (s : State) (u : Nat) : Nat := s.get (CAN_STATUS_tec u)
def recOf (s : State) (u : Nat) : Nat := s.get (CAN_STATUS_rec u)

/-- REC after a frame received without error (ISO 11898-1, log entry 37): one less, or from above 127 back to a value from 119 to 127. -/
def recAfter (n : Nat) : Nat := if 127 < n then 119 + (Config.canRecBack n).val else n - 1

/-- The error counters take values, and the state follows them (R325). -/
def confine (s : State) (u tec rec_ : Nat) : State :=
  let s := (s.put (CAN_STATUS_tec u) (min 256 tec)).put (CAN_STATUS_rec u) (min 255 rec_)
  let st := canState s u
  if st ≠ 2 ∧ st ≠ 3 then s
  else if 255 < tec then canSide s u 1
  else if st = 2 ∧ (127 < tec ∨ 127 < rec_) then canEvent (s.put (CAN_STATUS_state u) 3) u 4 0
  else if st = 3 ∧ tec ≤ 127 ∧ rec_ ≤ 127 then s.put (CAN_STATUS_state u) 2
  else s

/-! ## Receiving (R330 to R333) -/

/-- Whether filter `k` matches a frame (R330). -/
def filterHit (s : State) (u : Nat) (f : CanFrame) (k : Nat) : Bool :=
  s.get (CAN_FLT_ID_target u k) != 0 &&
    decide ((f.id.toNat ^^^ s.get (CAN_FLT_ID_id u k)) &&& s.get (CAN_FLT_MASK_mask u k) = 0) &&
    (! s.bit (CAN_FLT_MASK_xtdm u k) || s.bit (CAN_FLT_ID_xtd u k) == f.xtd)

/-- Where a frame goes: 0 nowhere, 1 Platform A, 2 Platform B, 3 the object store; with its filter index and nomatch (R330). -/
def frameTarget (s : State) (u : Nat) (f : CanFrame) : Nat × Nat × Bool :=
  match (List.range 64).find? (filterHit s u f) with
  | some k => (if s.bit (CAN_FLT_MASK_rej u k) then 0 else s.get (CAN_FLT_ID_target u k), k, false)
  | none => (match s.get (CAN_CTRL_nomatch u) with | 1 => 2 | 2 => 3 | _ => 0, 0, true)

/-- Word 1 of an entry that a frame enters, but for lost, new and cnt. -/
def word1 (f : CanFrame) (d k : Nat) (noFlt : Bool) : Nat :=
  f.dlc.toNat + 16 * b2n f.fdf + 32 * b2n f.brs + 64 * b2n (decide (d < dlcBytes f.fdf f.dlc.toNat) && ! f.rtr) + 256 * k + 16384 * b2n noFlt

/-- The data bytes of a frame that enter an element of D bytes. -/
def dataLen (f : CanFrame) (d : Nat) : Nat := if f.rtr then 0 else min d (dlcBytes f.fdf f.dlc.toNat)

/-- A frame enters platform `x`, or is dropped (R332, R352). -/
def enterPlatform (s : State) (u x : Nat) (f : CanFrame) (k : Nat) (noFlt : Bool) (sof : Word) : State :=
  let n := ramCount s u x
  let fill := s.get (CAN_PL_STATUS_fill u x)
  if n ≤ fill then
    let s := s.count (CAN_PL_STATUS_drop u x)
    let noted := if x = 0 then (s.canc u).dropA else (s.canc u).dropB
    if noted then s
    else canEvent (s.modCan u fun c => if x = 0 then { c with dropA := true } else { c with dropB := true }) u 6 x
  else
    let i := (s.get (CAN_PL_STATUS_get u x) + fill) % n
    let a := ramAt s u x i
    let d := ramD s u x
    let s := ((s.setCanWord u a (word0 f)).setCanWord u (a + 1) (BitVec.ofNat 32 (word1 f d k noFlt))).setCanWord u (a + 2) sof
    let s := (writeData s u a (dataLen f d) f.data).put (CAN_PL_STATUS_fill u x) (fill + 1)
    if s.bit (if x = 0 then CAN_EVEN_pla u else CAN_EVEN_plb u) then s.event (520 + 2 * u + x) i else s

/-- A frame enters the object store, or is dropped (R333). -/
def enterObject (s : State) (u : Nat) (f : CanFrame) (k : Nat) (noFlt : Bool) (sof : Word) : State :=
  let key := b2n f.xtd * 2 ^ 29 + f.id.toNat
  let n := ramCount s u 2
  let objs := (s.canc u).objs
  let slot := match (objs.find? fun e => e.2 == key && decide (e.1 < n)) with
    | some e => some e.1
    | none => (List.range n).find? fun i => (objs.find i).isNone
  match slot with
  | none => s.count (CAN_OBJ_STATUS_drop u)
  | some i =>
    let fresh := (objs.find i).isNone
    let s := if fresh then (s.modCan u fun c => { c with objs := c.objs.ins i key }).put (CAN_OBJ_STATUS_used u) (s.get (CAN_OBJ_STATUS_used u) + 1)
      else s
    let a := ramAt s u 2 i
    let (s, old) := canRead s u (a + 1)
    let d := ramD s u 2
    let lost := ! fresh && bitOf old 15
    let w1 := word1 f d k noFlt + 128 * b2n lost + 32768 + 2 ^ 24 * ((getBits old 31 24 + 1) % 256)
    let s := ((s.setCanWord u a (word0 f)).setCanWord u (a + 1) (BitVec.ofNat 32 w1)).setCanWord u (a + 2) sof
    writeData s u a (dataLen f d) f.data

/-- A valid frame is filtered (R330, R331). -/
def acceptFrame (s : State) (u : Nat) (f : CanFrame) (sof : Word) : State :=
  let (t, k, nm) := frameTarget s u f
  match t with
  | 1 => enterPlatform s u 0 f k nm sof
  | 2 => enterPlatform s u 1 f k nm sof
  | 3 => enterObject s u f k nm sof
  | _ => s

/-- A frame of another node, valid (R331): A0 bits 31:0 at its start-of-frame. -/
def frameReceived (s : State) (u : Nat) (f : CanFrame) (sof : Word) : State :=
  if (canState s u = 2 ∨ canState s u = 3) ∧ canLinked s u ∧ (f.fdf → s.bit (CAN_CTRL_fd u)) then
    confine (acceptFrame (nmgCanFrame s u f false) u f sof) u (tecOf s u) (recAfter (recOf s u))
  else s

/-- Whether a frame is valid (R331, R337): the sixth bit of its end-of-frame field, and no error signalled. -/
def frameValid (eof : Nat) (error : Bool) : Bool := eof == 6 && ! error

/-- A frame of another node reaches a bit of its end-of-frame field (R331). -/
def execCanFrameReceive (u : Fin 12) (f : CanFrame) (sof : Word) (eof : Fin 8) (error : Bool) (s : State) : Out :=
  .next (let s := tailOver s u; if frameValid eof error then frameReceived s u f sof else s)

/-- A write of CAN_PLx_ACK (R332). -/
def platformAck (s : State) (u x n : Nat) : State :=
  let fill := s.get (CAN_PL_STATUS_fill u x)
  let k := min n fill
  let cnt := ramCount s u x
  let s := (s.put (CAN_PL_STATUS_fill u x) (fill - k)).put (CAN_PL_STATUS_get u x)
    (if cnt = 0 then 0 else (s.get (CAN_PL_STATUS_get u x) + k) % cnt)
  s.modCan u fun c => if x = 0 then { c with dropA := false } else { c with dropB := false }

/-- CAN_PLx_ACK (R332). -/
def execPlatformAck (w : CtxId) (u : Fin 12) (x : Fin 2) (n : BitVec 9) (s : State) : Out :=
  .next (s.granted w (canGrant s w u) (CAN_PL_ACK u x) fun s => platformAck s u x n.toNat)

/-- A write of CAN_OBJ_ACK (R333). -/
def objectAck (s : State) (u i cnt : Nat) (free : Bool) : State :=
  if ramCount s u 2 ≤ i then s
  else
    let a := ramAt s u 2 i + 1
    let (s, w) := canRead s u a
    if getBits w 31 24 ≠ cnt then s
    else
      let s := s.setCanWord u a (setBits (setBits w 15 15 0) 7 7 0)
      if free ∧ ((s.canc u).objs.find i).isSome then
        (s.modCan u fun c => { c with objs := c.objs.erase i }).put (CAN_OBJ_STATUS_used u) (s.get (CAN_OBJ_STATUS_used u) - 1)
      else s

/-- CAN_OBJ_ACK (R333). -/
def execObjectAck (w : CtxId) (u : Fin 12) (i cnt : Byte) (free : Bool) (s : State) : Out :=
  .next (s.granted w (canGrant s w u) (CAN_OBJ_ACK u) fun s => objectAck s u i.toNat cnt.toNat free)

/-! ## Attempts (R337 to R341) -/

/-- The frame in a transmit buffer, with a reference cell's row in data byte 0 (R342); an FD frame's ESI is sent according to the error state,
recessive from a passive node (R329). -/
def bufFrame (s : State) (u : Nat) (r : CanReq) : CanFrame :=
  let a := ramAt s u 3 r.buf
  let w0 := s.canWord u a
  let w1 := s.canWord u (a + 1)
  let dlc := getBits w1 3 0
  let raw := (List.range (ramD s u 3)).map fun i => byteOf (s.canWord u (a + 3 + i / 4)) (i % 4)
  { esi := bitOf w1 4 && canState s u == 3, rtr := bitOf w0 30, xtd := bitOf w0 29, id := BitVec.ofNat 29 (getBits w0 28 0), dlc := BitVec.ofNat 4 dlc,
    fdf := bitOf w1 4, brs := bitOf w1 5,
    data := match r.ref with | some row => if 1 ≤ dlc then BitVec.ofNat 8 row :: raw.tail else raw | none => raw }

/-- The arbitration field as a number; the lower goes first (ISO 11898-1). -/
def arbKey (f : CanFrame) : Nat :=
  let base := f.id.toNat / 2 ^ 18
  if f.xtd then base * 2 ^ 21 + 3 * 2 ^ 19 + (f.id.toNat % 2 ^ 18) * 2 + b2n f.rtr else base * 2 ^ 21 + b2n f.rtr * 2 ^ 20

/-- Whether a pending request may start now (R338, R343). -/
def eligible (s : State) (u : Nat) (r : CanReq) : Bool :=
  let later := match r.tkt with
    | some (_, q) => (s.canc u).pend.any fun p => match p.tkt with | some (_, q') => seqEarlier q' q | none => false
    | none => false
  let tt := bitOf (s.canWord u (ramAt s u 3 r.buf + 1)) 6
  ! later && (if r.slot then true else ! tt && (ttMode s u != 1 || (s.canc u).window))

/-- The better of two requests: released by a slot first, then the arbitration field, then the buffer number (R338, R344). -/
def better (s : State) (u : Nat) (a b : CanReq) : CanReq :=
  if a.slot != b.slot then (if a.slot then a else b)
  else
    let ka := arbKey (bufFrame s u a)
    let kb := arbKey (bufFrame s u b)
    if ka < kb then a else if kb < ka then b else if a.buf ≤ b.buf then a else b

/-- Whether an attempt can be sent (R340, result 6). -/
def sendable (s : State) (u : Nat) (r : CanReq) : Bool :=
  let a := ramAt s u 3 r.buf
  let f := bufFrame s u r
  let len := dlcBytes f.fdf f.dlc.toNat
  ! ((List.range (ramLen s u 3)).any fun i => canBad s u (a + i)) && (f.rtr || decide (len ≤ ramD s u 3)) &&
    ! (f.fdf && ! s.bit (CAN_CTRL_fd u)) && ! (f.rtr && f.fdf)

/-- A start-of-frame: the controller chooses a buffer and its attempt begins (R338, R340). -/
def txStart (s : State) (u : Nat) (sof : Word) : State :=
  let c := s.canc u
  if ! (canState s u == 2 || canState s u == 3) || canMode s u != 0 || c.cur.isSome || ! canLinked s u then s
  else
    match c.pend.filter (eligible s u) with
    | [] => s
    | r :: rs =>
      let b := rs.foldl (better s u) r
      if sendable s u b then
        s.modCan u fun c => { c with cur := some (b.buf, sof),
                                     pend := c.pend.map fun q => if q.buf = b.buf then { q with attempts := min 255 (q.attempts + 1) } else q }
      else
        let bad := (List.range (ramLen s u 3)).any fun i => i != 1 && canBad s u (ramAt s u 3 b.buf + i)
        endReq (if bad then ramFault s u else s) u b 6

/-- A start-of-frame at A0 bits 31:0 `sof` (R338). -/
def execCanTxStart (u : Fin 12) (sof : Word) (s : State) : Out := .next (txStart s u sof)

/-- The request in transmission. -/
def curReq (s : State) (u : Nat) : Option CanReq :=
  match (s.canc u).cur with
  | some (b, _) => (s.canc u).pend.find? fun r => r.buf == b
  | none => none

/-- The watermark of a path advances to a request's sequence (R337). -/
def pathAdvance (s : State) (u : Nat) (t : Option (Nat × Word)) : State :=
  match t with
  | some (tr, q) =>
    match s.wm.marks.find (112 + u) with
    | some (bt, w) => if bt = tr ∧ seqLater q w then { s with wm := { s.wm with marks := s.wm.marks.ins (112 + u) (tr, q) } } else s
    | none => s
  | none => s

/-- The stored identifier of a frame as CAN_DUP_ID shows it (R341). -/
def dupKey (f : CanFrame) : Word := BitVec.ofNat 32 (b2n f.xtd * 2 ^ 31 + f.id.toNat)

/-- An own frame becomes valid (R337, R340, R341, R331): TEC is one less (ISO 11898-1, log entry 37). -/
def txValid (s : State) (u : Nat) : State :=
  match curReq s u, (s.canc u).cur with
  | some r, some (_, sof) =>
    let f := bufFrame s u r
    let s := pathAdvance s u r.tkt
    let s := s.setCanWord u (ramAt s u 3 r.buf + 2) sof
    let s := nmgCanFrame (endReq s u r 1) u f true
    let s := s.modCan u fun c => { c with cur := none }
    let s := if s.rd (CAN_DUP_ID u) = dupKey f then s.put (CAN_DUP_CNT_count u) 0 else s
    let s := if s.bit (CAN_CTRL_loop u) then acceptFrame s u f sof else s
    frameEnd (confine s u (tecOf s u - 1) (recOf s u)) u
  | _, _ => s

/-- The path's retained logic follows the attempt that a reset found on the bus (R337): its valid bit advances the watermark, a dominant bit or
its end before ends it. -/
def tailBit (s : State) (u eof : Nat) (error : Bool) : State :=
  if frameValid eof error ∧ canHears s u then tailOver (pathAdvance s u (s.can.tail.find u)) u
  else if error ∨ 6 < eof ∨ ¬ canHears s u then tailOver s u
  else s

/-- An own frame reaches a bit of its end-of-frame field (R337). -/
def execCanTxValid (u : Fin 12) (eof : Fin 8) (error : Bool) (s : State) : Out :=
  .next (if (s.canc u).cur.isSome then (if frameValid eof error && canLinked s u then txValid s u else s) else tailBit s u eof error)

/-- A slot's single attempt has failed: the release is missed (R344). -/
def slotFailed (s : State) (u : Nat) (r : CanReq) : State := missed (endReq s u r 3) u

/-- The identifier-duplication count after a bit error in the data field of an own attempt (R341). -/
def duplicate (s : State) (u : Nat) (r : CanReq) : State :=
  let key := dupKey (bufFrame s u r)
  let cnt := if s.rd (CAN_DUP_ID u) = key then s.get (CAN_DUP_CNT_count u) + 1 else 1
  let s := (s.wr (CAN_DUP_ID u) key).put (CAN_DUP_CNT_count u) cnt
  if cnt < max 1 (s.get (CAN_DUP_CFG_thr u)) then s
  else
    let s := canEvent (s.raise (84 + 4 * u + 1)) u 5 r.buf
    let s := (s.count (CAN_DUP_CNT_trips u)).put (CAN_DUP_CNT_count u) 0
    match s.get (CAN_DUP_CFG_act u) with
    | 0 => s
    | 1 => if isPend s u r.buf then endReq s u r 4 else s
    | _ => canSide (if isPend s u r.buf then endReq s u r 4 else s) u 2

/-- A bus error (R325, R341, R344): its code, whether it falls in a data phase, whether it hits an own attempt and there the data field; the
release of a slot's attempt is missed, withdrawn or not. A
transmitter adds 8 to TEC, but for the two exceptions of ISO 11898-1 (`exempt`); a receiver adds 1 to REC, or 8 where the bit after its error
flag or a bit of it is the error (`flag`, log entry 37). -/
def canError (s : State) (u lec : Nat) (dphase own dataField exempt flag : Bool) : State :=
  let st := canState s u
  if st ≠ 2 ∧ st ≠ 3 then s
  else
    let s := (s.put (CAN_STATUS_lec u) lec).putB (CAN_STATUS_dphase u) dphase
    match (if own then curReq s u else none) with
    | some r =>
      let s := s.count (CAN_ERRCNT_txerr u)
      let s := s.modCan u fun c => { c with cur := none }
      let s := if dataField ∧ (lec = 4 ∨ lec = 5) then duplicate s u r else s
      let s := if ! r.slot then s else if isPend s u r.buf then slotFailed s u r else missed s u
      frameEnd (confine s u (tecOf s u + if exempt then 0 else 8) (recOf s u)) u
    | none => confine (s.count (CAN_ERRCNT_rxerr u)) u (tecOf s u) (recOf s u + if flag then 8 else 1)

/-- A bus error (R325). -/
def execCanError (u : Fin 12) (lec : Fin 7) (dphase own dataField exempt flag : Bool) (s : State) : Out :=
  .next (let s := tailOver s u; if perRuns s then canError s u lec dphase own dataField exempt flag else s)

/-- An own attempt loses arbitration (R338, R344). -/
def execArbitrationLost (u : Fin 12) (s : State) : Out :=
  .next <| if ! perRuns s then s else match curReq s u with
    | some r =>
      let s := s.modCan u fun c => { c with cur := none }
      frameEnd (if r.slot then slotFailed s u r else s) u
    | none => s

/-- The transceiver releases a TXD held dominant too long (R324); CAN8 to CAN11 have no integrated transceiver. -/
def execTxdDominantTimeout (u : Fin 12) (s : State) : Out :=
  .next (if u.val < 8 then (s.putB (CAN_STATUS_s_txto u) true).raise (84 + 4 * u + 2) else s)

/-! ## The timetable (R342 to R346) -/

/-- The halfword of a cell in the copy in force (R342), and the word that holds it. -/
def cellAt (s : State) (u row col : Nat) : Nat × Nat :=
  let h := 64 * row + col
  let w := s.get (CAN_RAM_TT_start u) + 1024 * s.get (CAN_TT_STATUS_active u) + h / 2
  (if h % 2 = 0 then getBits (s.canWord u w) 15 0 else getBits (s.canWord u w) 31 16, w)

/-- A release that is taken (R342, R344): the cell's effect; a buffer whose word 1 is uncorrectable ends with result 6 (R350). -/
def takeCell (s : State) (u row col : Nat) (t : Option (Nat × Word)) (late : Bool) : State :=
  let s := if row = 0 ∧ col = 0 ∧ s.bit (CAN_TT_STATUS_pendsw u) then
    (s.putB (CAN_TT_STATUS_pendsw u) false).put (CAN_TT_STATUS_active u) (1 - s.get (CAN_TT_STATUS_active u)) else s
  let s := (s.put (CAN_TT_STATUS_row u) row).put (CAN_TT_STATUS_col u) col
  if s.get (CAN_TT_CFG_rows u) < row ∨ s.get (CAN_TT_CFG_cols u) < col then missed s u
  else
    let (cell, w) := cellAt s u row col
    if canBad s u w then missed (ramFault s u) u
    else
      let b := cell % 64
      match cell / 16384 with
      | 0 => s
      | 3 => if late then missed s u else s.modCan u fun c => { c with window := true }
      | ty =>
        let s := match (s.canc u).pend.find? fun r => r.buf == b && r.slot && (s.canc u).cur.map (·.1) != some b with
          | some r => slotFailed s u r
          | none => s
        if ramCount s u 3 ≤ b then missed s u
        else
          let r : CanReq := ⟨b, t, true, if ty = 2 then some row else none, 0⟩
          if canBad s u (ramAt s u 3 b + 1) && ! isPend s u b then endReq s u r 6
          else if ! bitOf (s.canWord u (ramAt s u 3 b + 1)) 6 || late || isPend s u b then missed (if isPend s u b then s else endReq s u r 3) u
          else addReq s u r

/-- A slot release at controller `u` (R344, R345): its state and outcome. -/
def slotRelease (s : State) (u row col : Nat) (tkt : Option (Nat × Word)) (late : Bool) : State × Nat :=
  if canState s u = 4 then (canAck s u 3 none tkt, 3)
  else
    match canTicket s u tkt with
    | none => (canAck s u 2 none tkt, 2)
    | some (s, t) =>
      let s := canAck s u 1 none tkt
      let s := s.modCan u fun c => { c with window := false }
      if canState s u = 0 ∨ ttMode s u = 0 then (missed s u, 1)
      else if s.bit (CAN_TT_STATUS_synced u) then (takeCell s u row col t late, 1)
      else if col = 0 then (takeCell (s.putB (CAN_TT_STATUS_synced u) true) u row col t late, 1)
      else (missed s u, 1)

/-- A SLOT release reaches a controller (R344). -/
def execSlotRelease (u : Fin 12) (row : Fin 32) (col : Fin 64) (tkt : Option (Fin 512 × Word)) (late : Bool) (s : State) : Out :=
  .next (slotRelease s u row col (tkt.map fun t => (t.1.val, t.2)) late).1

/-- A released frame has not started within txw bit times (R344). -/
def execSlotWindowExpire (u : Fin 12) (b : Fin 64) (s : State) : Out :=
  .next <| match (s.canc u).pend.find? fun r => r.buf == b.val && r.slot with
    | some r => if (s.canc u).cur.map (·.1) = some b.val then s else slotFailed s u r
    | none => s

/-! ## Message RAM writes, class 2, Park, reset (R335, R346, R349, R351) -/

/-- A port write of a message RAM word: ignored in a pending buffer and in the copy in force of a running timetable (R335, R346). -/
def ramWrite (s : State) (u w : Nat) (v : Word) : State :=
  let inBuf := (s.canc u).pend.any fun r => decide (ramAt s u 3 r.buf ≤ w ∧ w < ramAt s u 3 r.buf + ramLen s u 3)
  let t0 := s.get (CAN_RAM_TT_start u) + 1024 * s.get (CAN_TT_STATUS_active u)
  let inTt := ttMode s u != 0 && canState s u != 0 && canState s u != 4 && decide (t0 ≤ w ∧ w < t0 + 1024)
  if inBuf || inTt then s.putB (CAN_STATUS_s_lostw u) true else s.setCanWord u w v

/-- A port read of a message RAM word; an uncorrectable word reads as 0 and raises its source (R350). -/
def ramRead (s : State) (u w : Nat) : State × Word := canRead s u w

/-- A class 2 reaction that names a controller (R325). -/
def canClass2 (s : State) (u : Nat) : State := if canState s u = 0 ∨ canState s u = 4 then s else canSide s u 3

/-- The answer of CAN in the entry handshake (R351). -/
def canAnswer (s : State) (park : Bool) : HsAns :=
  if park && (List.range 12).any fun u => ! (s.canc u).pend.isEmpty then (if s.pwr.expired.contains 5 then .refuse 0x30 else .delay) else .ack

/-- Entry to Off ends every pending request with result 5 (R351). -/
def canOff (s : State) : State := (List.range 12).foldl (fun s u => endAll s u 5) s

/-- The return from Park (R351): controllers that were on the bus integrate again and follow R345. -/
def canResume (s : State) : State :=
  (List.range 12).foldl (fun s u =>
    if canState s u = 0 ∨ canState s u = 4 then s
    else (s.put (CAN_STATUS_state u) 1).putB (CAN_TT_STATUS_synced u) false) s

/-- A control-die reset (R337, R349): controllers and message RAM at reset; a ticketed attempt on the bus stays with its path,
which follows it to its valid bit or its end. -/
def canReset (s : State) : State :=
  let tail := (List.range 12).foldl (fun (m : SMap (Nat × Word)) u =>
    match curReq s u with
    | some r => match r.tkt with | some t => m.ins u t | none => m.erase u
    | none => m) s.can.tail
  { s with can := { CanSt.init with tail := tail } }

end Sys2Proof.Machine
end

