-- ==== Sys2Proof/Machine/EvrBase.lean ====
section
/-! DEFINITION. The event recorder: making records, pages, the buffer and the flush (R482 to R492). -/
namespace Sys2Proof.Machine
open Sys2Proof Reg

/-- The recorder part of the state changed. -/
def State.modEvr (s : State) (f : EvrSt → EvrSt) : State := { s with evr := f s.evr }

/-- The count of page numbers (R487). -/
def pageCount : Nat := 4294967040

/-- A1 as the recorder sees it, in counts of 2 ns: on the LPO it stands where the LPO has taken it (R205, R432). -/
def a1Now (s : State) : Nat := (s.axis 1).pos
/-- A0, in counts of 2 ns. -/
def a0Now (s : State) : Nat := (s.axis 0).pos

/-- The calendar source (R486): 1 A0, 2 set calendar, 0 none. -/
def calSource (s : State) : Nat := if (s.axis 0).qual ≠ 3 then 1 else if s.evr.cal.isSome then 2 else 0

/-- The calendar time in ms since 1970 (R485, R486); 0 without a calendar. -/
def calMs (s : State) : Nat :=
  match calSource s, s.evr.cal with
  | 1, _ => a0Now s / 500000 - 1000 * s.get EVR_UTCOFF_sec
  | 2, some (ms, at0) => ms + (a1Now s - at0) / 500000
  | _, _ => 0

/-- Operating seconds (R486). -/
def opSeconds (s : State) : Nat := (s.evr.opBase + a1Now s) / 500000000

/-- The unflushed bytes (R489). -/
def unflushed (s : State) : Nat := (s.evr.buf.map fun r => r.bytes.length).sum

/-- The sequence number the next record takes; a unit that has none yet begins at 0. -/
def nextSeq (s : State) : Word := match s.evr.seq with | some q => q + 1 | none => 0

/-- The number of the next page. -/
def nextPage (s : State) : Nat := match s.evr.page with | some n => (n + 1) % pageCount | none => 0

/-- The bytes of a record (R482): header and payload. -/
def recBytes (code : Nat) (seq : Word) (offset : Nat) (pay : List Byte) : List Byte :=
  leBytes 1 ((8 + pay.length) / 8) ++ leBytes 1 code ++ leBytes 2 (seq.toNat % 65536) ++ leBytes 4 offset ++ pay

/-- The payload of an anchor (R485). -/
def anchorPay (s : State) (n : Nat) (seq : Word) : List Byte :=
  leBytes 4 n ++ leBytes 4 seq.toNat ++ leBytes 8 (calMs s) ++ leBytes 1 (calSource s) ++ leBytes 1 (s.axis 0).qual ++ [0, 0]
    ++ leBytes 4 (opSeconds s) ++ leBytes 4 (s.rd PWR_CYCLES).toNat ++ [0, 0, 0, 0]

/-- A record entered at the current place of the current page. -/
def putRec (s : State) (offset code : Nat) (pay : List Byte) : State :=
  let q := nextSeq s
  let b := recBytes code q offset pay
  let r : EvrRec := ⟨s.evr.page.getD 0, s.evr.off, q, b⟩
  (s.wr EVR_NEWEST q).modEvr fun e => { e with buf := e.buf ++ [r], seq := some q, off := e.off + b.length }

/-- A new page with its anchor. -/
def putPage (s : State) : State :=
  let n := nextPage s
  let pay := anchorPay s n (nextSeq s)
  let src := calSource s
  let s := (s.wr EVR_PAGE (BitVec.ofNat 32 n)).modEvr fun e => { e with page := some n, off := 0, base := a1Now s, src := src, fresh := false }
  putRec s 0 0x01 pay

/-- The offset in ms of a record made now (R482). -/
def offsetMs (s : State) : Nat := (a1Now s - s.evr.base) / 500000

/-- Whether a record of `len` bytes needs a new page (R487). -/
def wantsPage (s : State) (len : Nat) : Bool :=
  s.evr.fresh || s.evr.page.isNone || decide (2 ^ 32 ≤ offsetMs s) || decide (4096 < s.evr.off + len)

/-- The bytes that records of the lengths given take from offset `off` on, anchors of new pages with them. -/
def bytesNeeded (off : Nat) (fresh : Bool) : List Nat → Nat
  | [] => 0
  | l :: ls => if fresh || 4096 < off + l then 40 + l + bytesNeeded (40 + l) false ls else l + bytesNeeded (off + l) false ls

/-- A record entered, with a new page where one is needed. -/
def placeRec (s : State) (code : Nat) (pay : List Byte) : State :=
  let s := if wantsPage s (8 + pay.length) then putPage s else s
  putRec s (offsetMs s) code pay

/-- A flush starts or is extended (R489); an uncharged trigger makes the rest uncharged. During the start-up scan, when nothing can be
flushed yet, the flush is due at its end (R495). -/
def startFlush (s : State) (charged : Bool) : State :=
  if s.evr.scanning then s.modEvr fun e => { e with asked := some (charged && e.asked.getD true) }
  else if s.evr.buf.isEmpty then s
  else s.modEvr fun e => { e with flushing := true, charged := charged && (! e.flushing || e.charged) }

/-- A record refused (R492): counted; the first of an episode raises source 147. -/
def refuseRec (s : State) : State :=
  let s := s.count EVR_LOST_count
  let first := s.evr.lost == 0
  (s.modEvr fun e => { e with lost := e.lost + 1 }).iff first fun s => s.raise 147

/-- The flush that 32,768 unflushed bytes start (R489). -/
def flushFull (s : State) : State := s.iff (32768 ≤ unflushed s) fun s => startFlush s true

/-- The payload of a loss record (R484). -/
def lossPay (s : State) : List Byte := leBytes 4 s.evr.lost ++ [0, 0, 0, 0]
/-- The loss episode ends (R492). -/
def lossOver (s : State) : State := s.modEvr fun e => { e with lost := 0 }

/-- A record made now (R483, R487, R489, R492): the state after, and whether it was entered. -/
def makeRec (s : State) (code : Nat) (pay : List Byte) : State × Bool :=
  let space := 65536 - unflushed s
  let len := 8 + pay.length
  let fresh := s.evr.fresh || s.evr.page.isNone || decide (2 ^ 32 ≤ offsetMs s)
  if 0 < s.evr.lost ∧ bytesNeeded s.evr.off fresh [16, len] ≤ space then
    (flushFull (placeRec (lossOver (placeRec s 0x02 (lossPay s))) code pay), true)
  else if bytesNeeded s.evr.off fresh [len] ≤ space then (flushFull (placeRec s code pay), true)
  else (refuseRec s, false)

/-- A record of a hardware block: while the start-up scan runs it waits (R495). -/
def blockRec (s : State) (code : Nat) (pay : List Byte) : State :=
  if s.evr.scanning then s.modEvr fun e => { e with waiting := e.waiting ++ [⟨code, pay, none⟩] } else (makeRec s code pay).1

/-- A new page starts with its anchor (R487), which is a record as every other (R492): in a loss episode the loss record goes before it
where both fit, on the page that ends if that page takes it, else first on the new page; an anchor that does not fit is refused, and the next
record that enters starts the page. -/
def startPage (s : State) : State :=
  let space := 65536 - unflushed s
  if s.evr.scanning then s
  else if 0 < s.evr.lost ∧ 56 ≤ space then
    flushFull (if wantsPage s 16 then lossOver (placeRec (putPage s) 0x02 (lossPay s)) else putPage (lossOver (placeRec s 0x02 (lossPay s))))
  else if 40 ≤ space then flushFull (putPage s)
  else (refuseRec s).modEvr fun e => { e with fresh := true }

/-- The page changes if the calendar source has changed (R487). -/
def calCheck (s : State) : State := if s.evr.page.isSome ∧ calSource s ≠ s.evr.src then startPage s else s

/-- The offset in the MRAM window of page `n` of the ring (R488). -/
def ringAt (n : Nat) : Nat := 0x900000 + 4096 * (n % 384)

/-- A 64-bit write to MRAM: its place and its 8 bytes. -/
abbrev MWrite := Nat × List Byte

/-- The 64-bit writes of bytes from an offset on. -/
def wordsOf (a : Nat) : Nat → List Byte → List MWrite
  | 0, _ => []
  | n + 1, l => if l.isEmpty then [] else (a, l.take 8) :: wordsOf (a + 8) n (l.drop 8)

/-- The length-0 header at offset `off` of page `n`; none at the end of the slot (R488). -/
def endMark (n off : Nat) : List MWrite := if off < 4096 then [(ringAt n + off, List.replicate 8 0)] else []

/-- Bytes appended to page `n` at offset `off` (R490): the length-0 header after them, every word but the one at the old end of the
records, and that word last. -/
def appendWrites (n off : Nat) (l : List Byte) : List MWrite :=
  if l.isEmpty then []
  else endMark n (off + l.length) ++ wordsOf (ringAt n + off + 8) 512 (l.drop 8) ++ [(ringAt n + off, l.take 8)]

/-- Page `n` started with its anchor (R490): bytes 8 to 15 with 0xFFFF_FFFF as the page number, the rest of the anchor and the length-0 header
after it, and last the true page number. -/
def anchorWrites (n : Nat) (l : List Byte) : List MWrite :=
  let a := ringAt n
  [(a + 8, List.replicate 4 0xFF ++ (l.drop 12).take 4), (a, l.take 8)] ++ wordsOf (a + 16) 512 (l.drop 16) ++ endMark n l.length
    ++ [(a + 8, (l.drop 8).take 8)]

/-- The writes of a page's unflushed records, in order. -/
def pageWrites (n : Nat) (rs : List EvrRec) : List MWrite :=
  match rs with
  | [] => []
  | r :: t =>
    if r.off = 0 then anchorWrites n r.bytes ++ appendWrites n r.bytes.length (t.flatMap (·.bytes))
    else appendWrites n r.off (rs.flatMap (·.bytes))

/-- The writes of a flush (R490): page by page, as the records entered. -/
def flushWrites (s : State) : List MWrite :=
  ((s.evr.buf.map (·.page)).eraseDups).flatMap fun n => pageWrites n (s.evr.buf.filter fun r => r.page == n)

/-- One 64-bit write of the recorder: the word's check bits are renewed (R25). -/
def mramPut (s : State) (w : MWrite) : State := mramFresh (s.setMBytes w.1 w.2) (w.1 / 8) 1

/-- The write budget now (R489): refilled at 1 MiB/s, up to 64 KiB. -/
def budgetNow (s : State) : Nat := min fullBudget (s.evr.budget + 65536 * (a1Now s - s.evr.budgetAt))

/-- Every unflushed byte has been copied (R489); a charged flush has drawn its bytes from the budget, as far as it held them. -/
def flushDone (s : State) : State :=
  let left := budgetNow s - (if s.evr.charged then 31250000 * unflushed s else 0)
  let last := s.evr.buf.getLast?
  let s := (flushWrites s).foldl mramPut s
  let s := match last with | some r => s.wr EVR_FLUSHED r.seq | none => s
  s.modEvr fun e => { e with buf := [], flushing := false, charged := false, budget := left, budgetAt := a1Now s }

/-- A flush that runs is cut off by a reset (R243, R490): the writes up to some point have been made, which point is a free value (log
entry 46). -/
def flushCut (s : State) : State :=
  if s.evr.flushing then
    let l := flushWrites s
    (l.take (s.freeW.toNat % (l.length + 1))).foldl mramPut s.drawn
  else s

/-- Whether more than a time in counts of 2 ns has passed since the power-fail warning that is in force (R244, R491). -/
def warnedFor (s : State) (n : Nat) : Bool := s.bit PWR_STATUS_pfw && decide (s.pwr.pfwAt + n < a1Now s)

end Sys2Proof.Machine
end

