-- ==== Sys2Proof/Machine/Timeline.lean ====
section
/-! DEFINITION. The Eloasel timeline engine: axis motion, due items, rosters, arming and cancelling, and network time (R171 to R209,
R546). -/
namespace Sys2Proof.Machine
open Sys2Proof Reg

/-! ## Positions -/

/-- The low 48 bits of a position (R172). -/
def low48 (x : Nat) : Nat := x % 2 ^ 48
/-- The forward distance from `x` to `p`, modulo 2^48 (R172). -/
def fwdDist (x p : Nat) : Nat := (low48 p + 2 ^ 48 - low48 x) % 2 ^ 48
/-- `p` is not yet reached from `x` in the forward direction (R172). -/
def ahead (x p : Nat) : Bool := 1 ≤ fwdDist x p && fwdDist x p < 2 ^ 47
/-- The distance in a waiting direction. -/
def distIn (fwd : Bool) (x p : Nat) : Nat := if fwd then fwdDist x p else fwdDist p x

/-! ## Rosters: parameters and periods (R191) -/

/-- The period T of roster `r`; values below 2 act as 2. -/
def rosT (s : State) (r : Nat) : Nat := max 2 (s.get (TLN_ROS_PERIOD_t r))
/-- The overlap W; values of T or more act as T − 1. -/
def rosW (s : State) (r : Nat) : Nat := min (s.get (TLN_ROS_OVL_w r)) (rosT s r - 1)
/-- The base S0. -/
def rosBase (s : State) (r : Nat) : Nat := s.get (TLN_ROS_BASEL_base r) + 2 ^ 32 * s.get (TLN_ROS_BASEH_base r)
/-- The start of period `n`: S0 + n × T, modulo 2^48. -/
def rosStart (s : State) (r n : Nat) : Nat := low48 (rosBase s r + n * rosT s r)
/-- The axis of a roster. -/
def rosAxis (s : State) (r : Nat) : Nat := s.get (TLN_ROS_CFG_axis r)
/-- Whether roster `r` is the changing roster of an Armed outfit change that commits at a period start (R531). -/
def changing (s : State) (r : Nat) : Bool := s.get SYS_OUT_STATUS_state == 2 && s.get SYS_OUT_CFG_roster == r && ! s.out.now
/-- Whether roster `r` starts periods on axis `n`. -/
def rosRuns (s : State) (n r : Nat) : Bool := rosOn s r && rosAxis s r == n
/-- Whether the starts of roster `r` fall due on axis `n`: those of an enabled roster, and the start at which an Armed change is judged, the
changing roster disabled meanwhile or not (R534). -/
def rosStarts (s : State) (n r : Nat) : Bool := (rosOn s r || changing s r) && rosAxis s r == n
/-- The rosters whose starts fall due on an axis or that have started periods on it. -/
def rosOf (s : State) (n : Nat) : List Nat :=
  ((List.range 63).map (· + 1)).filter fun r => rosStarts s n r || (s.ros r).periods.any (·.axis == n)

/-- The first period from `low` on whose start is not reached from `x` (R172, R191, R196). -/
def firstPeriod (s : State) (r x low : Nat) : Nat :=
  if ahead x (rosStart s r low) then low else low + fwdDist (rosStart s r low) x / rosT s r + 1

/-! ## The due queue (R187 to R189) -/

/-- Whether an entry is the start at which an outfit change commits: the one kind of start whose second order key is 0. -/
def Due.commits (d : Due) : Bool := match d.kind with | .period _ _ => d.ord2 == 0 | _ => false

/-- The order of R188: the cycle; in one cycle the start at which an outfit change commits (R532), then the axis, on one axis the position
along the motion, period starts first at one position, then the order keys. -/
def Due.before (a b : Due) : Bool :=
  let cls (d : Due) : Nat := match d.kind with | .period _ _ => 0 | _ => 1
  if a.cyc ≠ b.cyc then a.cyc < b.cyc
  else if a.commits ≠ b.commits then a.commits
  else if a.axis ≠ b.axis then a.axis < b.axis
  else if a.travel ≠ b.travel then a.travel < b.travel
  else if cls a ≠ cls b then cls a < cls b
  else if a.ord1 ≠ b.ord1 then a.ord1 < b.ord1
  else a.ord2 < b.ord2

/-- An entry put into the queue: before the first entry that comes after it, else last. -/
def insertDue (l : List Due) (d : Due) : List Due :=
  l.takeWhile (fun e => ! d.before e) ++ [d] ++ l.dropWhile (fun e => ! d.before e)

/-- Entries that have fallen due, put into the queue. -/
def addDue (s : State) (ds : List Due) : State := { s with tln := { s.tln with due := ds.foldl insertDue s.tln.due } }

/-- The number of the present cycle of the engine: how far A1 has moved, by one count in each (R178). -/
def engineCycle (s : State) : Nat := (s.axis 1).travel

/-- A single item due at once (R182, R546), counted late. -/
def dueNow (s : State) (k : Nat) : State :=
  let i := s.item k
  addDue s [⟨i.axis, (s.axis i.axis).travel, i.order, 0, engineCycle s, true, .single k⟩]

/-- The single items that a move of `m` counts from `x` takes from "not reached" to "reached" in their waiting direction (R187). -/
def crossedSingles (s : State) (n x m : Nat) (fwd late : Bool) (travel cyc : Nat) : List Due :=
  (s.tln.items.filter fun e =>
      let i := e.2
      let d := distIn fwd x i.pos
      i.st = .armed ∧ i.axis = n ∧ i.roster = 0 ∧ ¬ isDue s e.1 ∧ (i.sense = 2 ∨ (i.sense = 0 ∧ fwd) ∨ (i.sense = 1 ∧ ¬ fwd))
        ∧ 1 ≤ d ∧ d ≤ m ∧ d < 2 ^ 47).map
    fun e => ⟨n, travel + distIn fwd x e.2.pos, e.2.order, 0, cyc, late, .single e.1⟩

/-- Whether an instance position is crossed by a forward move. -/
def crossed (x m p : Nat) : Bool := let d := fwdDist x p; 1 ≤ d && d ≤ m && d < 2 ^ 47

/-- The pending instances a forward move crosses (R187, R191). -/
def crossedInstances (s : State) (n x m : Nat) (late : Bool) (travel cyc : Nat) : List Due :=
  (rosOf s n).flatMap fun r => ((s.ros r).periods.filter (·.axis == n)).flatMap fun p =>
    (p.pending.filter fun k => crossed x m (p.start + (s.item k).pos)).map fun k =>
      ⟨n, travel + fwdDist x (p.start + (s.item k).pos), p.stamp, (s.item k).order, cyc, late, .inst r p.n k⟩

/-- The order of a roster's start among the starts at one position: ascending; 0 for the start at which an outfit change commits (R532). -/
def startOrder (s : State) (r : Nat) : Nat := if changing s r then 0 else r

/-- The next period starts a forward move crosses, one per enabled roster; a later start is found when the first has started. -/
def crossedStarts (s : State) (n x m : Nat) (travel cyc : Nat) : List Due :=
  ((rosOf s n).filter fun r => rosStarts s n r && crossed x m (rosStart s r (s.ros r).nextN)
      && ! (s.tln.due.any fun d => match d.kind with | .period q _ => q == r | _ => false)).map fun r =>
    ⟨n, travel + fwdDist x (rosStart s r (s.ros r).nextN), 0, startOrder s r, cyc, false, .period r (s.ros r).nextN⟩

/-- The instances in the list no longer pending. -/
def unpend (s : State) (ds : List Due) : State :=
  ds.foldl (fun s d => match d.kind with
    | .inst r n k =>
      let x := s.ros r
      s.setRos r { x with periods := x.periods.map fun p => if p.n = n then { p with pending := p.pending.filter (· ≠ k) } else p }
    | _ => s) s

/-- Motion of axis `n` by `m` counts to position `pos`: what it crosses falls due (R187). -/
def moveAxis (s : State) (n pos m : Nat) (fwd late : Bool) (starts : Bool := true) : State :=
  let a := s.axis n
  let x := a.pos
  let cyc := engineCycle s + if n = 1 then m else 0
  let singles := crossedSingles s n x m fwd late a.travel cyc
  let insts := if fwd then crossedInstances s n x m late a.travel cyc else []
  let st := if fwd && starts then crossedStarts s n x m a.travel cyc else []
  let s := s.setAxis n { a with pos := pos % 2 ^ 62, travel := a.travel + m }
  let s := if n = 1 ∧ st.any Due.commits then { s with tln := { s.tln with a0Before := (s.axis 0).pos } } else s
  addDue (unpend s insts) (singles ++ insts ++ st)

/-! ## Staged members (R194, R195) -/

/-- The members of a roster in force. -/
def members (s : State) (r : Nat) : List Nat :=
  (s.tln.items.filter fun e => e.2.st = .armed ∧ e.2.roster = r ∧ ¬ e.2.stagedArm ∧ ¬ e.2.leaving).map (·.1)

/-- Period `n` of roster `r` starts (R191, R193, R194): staged changes take effect; instances already passed fall due, on A0 and A1 in the
cycle that their offset gives; a further start already passed falls due in its turn. -/
def startPeriod (s : State) (d : Due) (r n : Nat) : State :=
  let s := applyStaged s r
  let s := { s with tln := { s.tln with order := s.tln.order + 1 } }
  let ms := members s r
  let x := (s.axis (rosAxis s r)).pos
  let f := fwdDist (rosStart s r n) x
  let passed (o : Nat) : Bool := f < 2 ^ 47 && o ≤ f
  let now := ms.filter fun k => passed (s.item k).pos
  let ros := s.ros r
  let s := s.setRos r
    { nextN := max ros.nextN (n + 1), startedTo := max ros.startedTo (n + 1),
      periods := ros.periods ++ [⟨n, rosAxis s r, rosStart s r n, s.tln.order, ms.filter fun k => ! passed (s.item k).pos⟩] }
  let s := (s.put (TLN_ROS_STATUS_period r) n).put (TLN_ROS_MEMBERS_count r) ms.length
  let cyc (o : Nat) : Nat := if d.axis < 2 then min (engineCycle s) (d.cyc + o) else d.cyc
  let s := addDue s (now.map fun k =>
    ⟨d.axis, d.travel + (s.item k).pos, s.tln.order, (s.item k).order, cyc (s.item k).pos, d.late, .inst r n k⟩)
  let s := if rosOn s r && ros.nextN ≤ n + 1 && passed (rosT s r) then
      addDue s [⟨d.axis, d.travel + rosT s r, 0, startOrder s r, cyc (rosT s r), d.late, .period r (n + 1)⟩] else s
  settleRoster s r

/-- Enabling a roster, judged from position `x` of its axis (R191, R532): its first period is the first not reached from `x` and later than
every period it has started; where the axis already stands at or past that start, it falls due. -/
def rosterEnableFrom (s : State) (r x : Nat) : State :=
  if rosOn s r then s
  else
    let s := s.putB (TLN_ROS_CFG_en r) true
    let ros := s.ros r
    let n := firstPeriod s r x ros.startedTo
    let s := s.setRos r { ros with nextN := n }
    let a := rosAxis s r
    if ahead x (rosStart s r n) ∧ ¬ ahead (s.axis a).pos (rosStart s r n) then
      addDue s [⟨a, (s.axis a).travel - fwdDist (rosStart s r n) (s.axis a).pos, 0, r, engineCycle s, false, .period r n⟩]
    else s

/-- Enabling a roster (R191). -/
def rosterEnable (s : State) (r : Nat) : State := rosterEnableFrom s r (s.axis (rosAxis s r)).pos

/-- Disabling a roster stops new periods at once (R195). -/
def rosterDisable (s : State) (r : Nat) : State :=
  if rosOn s r then
    let s := s.putB (TLN_ROS_CFG_en r) false
    let s := { s with tln := { s.tln with due := s.tln.due.filter fun d => match d.kind with | .period q _ => q ≠ r || changing s r | _ => true } }
    settleRoster s r
  else s

/-- Saturating addition to the skipped count of a roster. -/
def skipPeriods (s : State) (r k : Nat) : State := s.put (TLN_ROS_STATUS_skipped r) (min 65535 (s.get (TLN_ROS_STATUS_skipped r) + k))

/-- The next period of roster `r` to be judged: after `low`, and after the period whose start has fallen due and is not served yet. -/
def nextFrom (s : State) (r low : Nat) : Nat :=
  s.tln.due.foldl (fun m d => match d.kind with | .period q n => if q = r then max m (n + 1) else m | _ => m) low

/-- The rosters of axis `n` after a load of its position (R196). A forward load drops the pending instances it passes,
completes their periods and skips the starts it passes; a backward load only moves the next start to the first one not reached. -/
def loadRosters (s : State) (n : Nat) (fwd : Bool) : State :=
  let x := (s.axis n).pos
  (rosOf s n).foldl (fun s r =>
    let ros := s.ros r
    let passed (p : RPeriod) : Bool := p.axis == n && p.pending.any fun k => ! ahead x (p.start + (s.item k).pos)
    let done := if fwd then (ros.periods.filter passed).length else 0
    let low := nextFrom s r (if fwd then ros.nextN else ros.startedTo)
    let nx := firstPeriod s r x low
    let s := s.setRos r { ros with periods := if fwd then ros.periods.filter (! passed ·) else ros.periods,
                                   nextN := if rosRuns s n r then nx else ros.nextN }
    settleRoster (skipPeriods s r (done + if fwd && rosRuns s n r then nx - low else 0)) r) s

/-! ## Axes A2 to A7 (R175 to R177) -/

/-- The source of an axis; codes 6 and 7 act as 0; on the ZN9640-A0 a grid-phase source is always lost (R175, R176). -/
def axisSrc (s : State) (n : Nat) : Nat := let c := s.get (TLN_AX_CFG_src n); if c < 6 then c else 0

/-- The debounced level of switch input `i` (DIN_LEVELw); no input above 95 is listed, and what is not listed reads 0 (R10). -/
def dinLevel (s : State) (i : Nat) : Bool := decide (i < 96) && bitOf (s.rd (DIN_LEVEL (i / 32))) (i % 32)

/-- A motion in a direction: dir and the reversal count (R175). -/
def noteDir (s : State) (n : Nat) (back : Bool) : State :=
  let a := s.axis n
  let s := if a.counted && s.bit (TLN_AX_STATUS_dir n) != back then s.count (TLN_AX_STATUS_rev n) else s
  (s.putB (TLN_AX_STATUS_dir n) back).setAxis n { a with counted := true }

/-- `k` counts of an axis, negated by inv (R175). -/
def countAxis (s : State) (n k : Nat) (back : Bool) : State :=
  let back := back != s.bit (TLN_AX_CFG_inv n)
  let s := noteDir s n back
  let x := (s.axis n).pos
  moveAxis s n (if back then x + 2 ^ 62 - k else x + k) k (! back) false

/-- The analogue position (code − offset) × gain / 256, absolute (R175, source 3). DESIGN CHOICE (log entry 63): the quotient is rounded
down, since the rule names no rounding. -/
def analogPos (code offset gain : Nat) : Int := ((code : Int) - offset) * sgn 16 gain / 256

/-- The step of a quadrature sample: 0 none, 1 forward, 2 backward, 3 both inputs changed (R175, source 1). -/
def quadStep (a0 b0 a1 b1 : Bool) : Nat :=
  if a0 == a1 && b0 == b1 then 0
  else if a0 != a1 && b0 != b1 then 3
  else
    let ph (a b : Bool) : Nat := match a, b with | false, false => 0 | true, false => 1 | true, true => 2 | false, true => 3
    if (ph a0 b0 + 1) % 4 = ph a1 b1 then 1 else 2

/-- A grid-phase axis takes the meter's count (R420, R421): bits 15:0 become the count, a forward wrap carries; forward only. -/
def phaseTo (s : State) (n c : Nat) : State :=
  let x := (s.axis n).pos
  let m := (c + 65536 - x % 65536) % 65536
  if m = 0 then s else moveAxis (noteDir s n false) n (x + m) m true false

/-- The line counter of the matrix port that axis `n` names (R175, R293). -/
def lineCount (s : State) (n : Nat) : Nat := if s.get (TLN_AX_CFG_ina n) % 2 = 0 then s.led.mat0.lineCtr else s.led.mat1.lineCtr

/-- A position source delivers a count or a reading (R175): the axis moves, by one count where an input, the line counter or the meter's count
shows one that the axis has not taken. A source that is absent or lost moves nothing. An analogue position is absolute, and inv, which negates
the direction of counts, does not apply to it (DESIGN CHOICE, log entry 76). -/
def sourceUpdate (s : State) (n : Nat) : State :=
  let ax := s.axis n
  if n < 2 ∨ ax.lost ∨ ax.qual = 3 then s
  else
    let a := dinLevel s (s.get (TLN_AX_CFG_ina n))
    let b := dinLevel s (s.get (TLN_AX_CFG_inb n))
    let keep (s : State) : State := s.setAxis n { s.axis n with lvlA := a, lvlB := b }
    match axisSrc s n with
    | 1 =>
      match quadStep ax.lvlA ax.lvlB a b with
      | 1 => keep (countAxis s n 1 false)
      | 2 => keep (countAxis s n 1 true)
      | 3 => keep (s.count (TLN_AX_STATUS_steperr n))
      | _ => s
    | 2 => if a == ax.lvlA then s else if a then keep (countAxis s n 1 (! ax.lvlB)) else keep s
    | 3 =>
      let p := analogPos (s.get (DIN_IN_ADC_code (s.get (TLN_AX_CFG_ina n)))) (s.get (TLN_AX_SCALE_offset n)) (s.get (TLN_AX_SCALE_gain n))
      let pos := (p % 2 ^ 62).toNat
      let m := (pos + 2 ^ 62 - ax.pos) % 2 ^ 62
      if m = 0 then s
      else if m < 2 ^ 61 then moveAxis (noteDir s n false) n pos m true false
      else moveAxis (noteDir s n true) n pos (2 ^ 62 - m) false false
    | 4 =>
      let k := lineCount s n
      if k = ax.lines then s else countAxis (s.setAxis n { ax with lines := ax.lines + 1 }) n 1 false
    | 5 => if s.mtr.grid then phaseTo s n s.mtr.phase else s
    | _ => s

/-- A source is lost (R176): Unset, the position frozen, source 57 raised. -/
def axisLost (s : State) (n : Nat) : State :=
  let a := s.axis n
  if n < 2 ∨ a.lost ∨ axisSrc s n = 0 then s
  else (s.setAxis n { a with lost := true, qual := 3 }).raise 57 (BitVec.ofNat 32 n)

/-- Whether no input that the source of axis `n` uses has a line fault. -/
def inputsWell (s : State) (n : Nat) : Bool :=
  let ok (i : Nat) : Bool := s.get (DIN_IN_STATUS_line i) == 0
  ok (s.get (TLN_AX_CFG_ina n)) && (axisSrc s n == 3 || ok (s.get (TLN_AX_CFG_inb n)))

/-- Whether the source an axis has is there (R176): its lines sound, its LED port not in siding, the meter fitted and answering. -/
def sourceWell (s : State) (n : Nat) : Bool :=
  match axisSrc s n with
  | 0 => true
  | 4 => ! s.bit (LED_P_STATUS_siding (s.get (TLN_AX_CFG_ina n) % 2))
  | 5 => Config.meterFitted && s.bit MTR_STATUS_link
  | _ => inputsWell s n

/-- The levels and the line counter a count of axis `n` is judged from, taken anew. -/
def axisLevels (s : State) (n : Nat) (a : Axis) : Axis :=
  { a with lvlA := dinLevel s (s.get (TLN_AX_CFG_ina n)), lvlB := dinLevel s (s.get (TLN_AX_CFG_inb n)), lines := lineCount s n }

/-- A lost source returns (R176): Locked, counting on from the frozen position. -/
def axisReturn (s : State) (n : Nat) : State :=
  let a := s.axis n
  if a.lost && sourceWell s n then s.setAxis n (axisLevels s n { a with lost := false, qual := 0 }) else s

/-- A write of TLN_AXn_CFG selects the source (R174 to R176): without one the axis is Unset; a source that is not there is lost. -/
def axisConfigure (s : State) (n : Nat) : State :=
  if n < 2 then s
  else
    let s := s.setAxis n (axisLevels s n { s.axis n with lost := false, qual := if axisSrc s n = 0 then 3 else 0 })
    if sourceWell s n then s else axisLost s n

/-- The debounced level of input `i` has changed to `v` (R175): a pulse and direction source takes its direction from the level its second
input held before the sample in which the first rises; a sample is what arrives in one cycle of the engine. -/
def axisLevel (s : State) (i : Nat) (v : Bool) : State :=
  [2, 3, 4, 5, 6, 7].foldl (fun s n =>
    let a := s.axis n
    let now := engineCycle s
    let b := dinLevel s (s.get (TLN_AX_CFG_inb n))
    let rising := dinLevel s (s.get (TLN_AX_CFG_ina n)) && ! a.lvlA
    if axisSrc s n != 2 then s
    else if i = s.get (TLN_AX_CFG_ina n) then
      s.setAxis n (if ! v then { a with lvlA := false } else if a.bAt = now then a else { a with lvlB := b })
    else if i = s.get (TLN_AX_CFG_inb n) ∧ ¬ rising then
      s.setAxis n (if a.bAt = now then a else { a with lvlB := ! v, bAt := now })
    else s) s

/-- The armed single items of an axis in the order in which TARM answered. -/
def singlesInOrder (s : State) (n : Nat) : List Nat :=
  let ks := (s.tln.items.filter fun e => e.2.st = .armed ∧ e.2.roster = 0 ∧ e.2.axis = n).map (·.1)
  ks.foldl (fun l k => l.takeWhile (fun j => (s.item j).order < (s.item k).order) ++ [k] ++ l.dropWhile (fun j => (s.item j).order < (s.item k).order)) []

/-- A0 is set by the first Sync or by a load while Unset (R198, R546): not motion; every single item armed on A0 fires at once, late;
rosters continue as for a forward load; A0 enters Free-run and raises source 59 (R208). -/
def setA0 (s : State) (v : Nat) : State :=
  let a := s.axis 0
  let ks := (singlesInOrder s 0).filter fun k => ! isDue s k
  let s := s.setAxis 0 { a with pos := v % 2 ^ 62, qual := 2 }
  let s := { s with tln := { s.tln with holdRunning := false, off := 0, inCnt := 0, outCnt := 0, atBound := false, parked0 := 0 } }
  calCheck ((loadRosters (ks.foldl dueNow s) 0 true).raise 59)

/-- TLN_AXn_SETH with go = 1 (R177): A2 to A7 load at once, a grid-phase axis bits 61:16 (R420); A0 only while Unset; A1 never. -/
def axisLoad (s : State) (n hi : Nat) : State :=
  let v := (hi * 2 ^ 32 + s.get (TLN_AX_SETL_val n)) % 2 ^ 62
  let a := s.axis n
  if n = 0 then (if a.qual = 3 then setA0 s v else s)
  else if n = 1 then s
  else
    let v := if axisSrc s n = 5 then v / 65536 * 65536 + a.pos % 65536 else v
    loadRosters (s.setAxis n { a with pos := v }) n (fwdDist a.pos v < 2 ^ 47)

/-! ## TARM, TCANCEL, TREAD (R173, R179 to R185) -/

/-- Whether the target an item's argument names exists and is granted to the context (R180). -/
def targetOk (s : State) (c kind : Nat) (arg : Word) : Bool :=
  let f (hi lo : Nat) : Nat := getBits arg hi lo
  match kind with
  | 0x1 => f 6 0 < 104 && s.chanOk c (f 6 0)
  | 0x2 => if f 8 0 < 0x60 then s.blockOk c 12 else 0x100 ≤ f 8 0 && f 8 0 < 0x168 && s.chanOk c (f 8 0 - 0x100)
  | 0x3 => f 3 0 < 12 && s.canOk c (f 3 0)
  | 0x4 => c == 0 || s.tenant (f 24 16) == s.tenant c
  | 0x5 => if f 2 0 = 0 then s.blockOk c 1 else f 2 0 < 5 && s.portOk c (f 2 0 + 3)
  | 0x6 => s.portOk c (4 + f 1 0)
  | 0x7 => s.portOk c (2 + f 0 0)
  | _ => true

/-- Whether an action kind carries a ticket (R180). -/
def carriesTicket (kind : Nat) : Bool := kind == 1 || kind == 3 || kind == 6 || kind == 7

/-- The lowest refusal code of R181 that applies, if any. -/
def tarmRefusal (s : State) (c : Nat) (w0 w1 w2 w3 : Word) : Option Nat :=
  let axis := getBits w1 18 16
  let kind := getBits w1 23 20
  let sense := getBits w1 25 24
  let lateB := bitOf w1 26
  let rel := bitOf w1 19
  let pos := w0.toNat + getBits w1 15 0 * 2 ^ 32
  let r := getBits w3 21 16
  let h := getBits w3 12 0
  let x := (s.axis axis).pos
  let tk := carriesTicket kind && h ≠ 0
  let t := s.ticket h
  let used := s.usedSlots
  let reserve := min (s.get TLN_RESERVE_slots) 1024
  let far := rel && sense ≠ 2 && 2 ^ 47 ≤ pos
  let p := if rel then (if sense = 1 then low48 x + 2 ^ 48 - low48 pos else low48 x + pos) else pos
  let reached := if sense = 2 then fwdDist x p == 0 else
    let d := distIn (sense ≠ 1) x p
    d == 0 || 2 ^ 47 ≤ d
  let tests : List (Bool × Nat) := [
    (! (s.axisOk c axis && targetOk s c kind w2 && (! tk || (match t with | some t => s.trackOk c t.track | none => true))), 0x00),
    (if c = 0 then 4096 ≤ used else 4096 - reserve ≤ used, 0x01),
    (c ≠ 0 && min (s.get (TLN_TQUOTA_quota (s.tenant c))) 4096 ≤ s.tenantSlots (s.tenant c), 0x02),
    (kind == 0 || 8 ≤ kind || sense == 3, 0x03),
    (r == 0 && ! far && reached && lateB, 0x04),
    (far, 0x05),
    (sense ≠ 0 && (axis < 2 || r ≠ 0), 0x06),
    (2 ≤ axis && axisSrc s axis == 0, 0x07),
    (r ≠ 0 && ((! rosOn s r && c ≠ 0) || rosT s r + rosW s r ≤ pos || tk || axis ≠ rosAxis s r || rel), 0x08),
    (tk && (match t with | some t => ! (t.st = .accepted || t.st = .dispatched) | none => true), 0x09),
    (r == 0 && ! rel && axis == 0 && (s.axis 0).qual == 3, 0x0A)]
  (tests.find? (·.1)).map (·.2)

/-- The next slot taken: the never-used slots ascending, then the freed ones in the order in which they were freed (R185). -/
def takeSlot (s : State) : Nat × State :=
  if s.tln.fresh < 4096 then (s.tln.fresh, { s with tln := { s.tln with fresh := s.tln.fresh + 1 } })
  else (s.tln.freeQ.headD 0, { s with tln := { s.tln with freeQ := s.tln.freeQ.tail } })

/-- TARM (R179 to R185): the item armed and its handle, or a refusal. -/
def tarm (s : State) (c : Nat) (w0 w1 w2 w3 : Word) : State × Word :=
  match tarmRefusal s c w0 w1 w2 w3 with
  | some 0 => (s.violateCap c, 0)
  | some code => (if code ≤ 2 then s.count TLN_FULLCNT_count else s, BitVec.ofNat 32 code)
  | none =>
    let axis := getBits w1 18 16
    let kind := getBits w1 23 20
    let sense := getBits w1 25 24
    let pos := w0.toNat + getBits w1 15 0 * 2 ^ 32
    let r := getBits w3 21 16
    let x := (s.axis axis).pos
    let p := if r = 0 && bitOf w1 19 then (if sense = 1 then low48 (low48 x + 2 ^ 48 - low48 pos) else low48 (x + pos)) else pos
    let h := if carriesTicket kind then getBits w3 12 0 else 0
    let (k, s) := takeSlot s
    let old := s.item k
    let gen := if old.st = .free then 0 else (old.gen + 1) % 4096
    let s := { s with tln := { s.tln with order := s.tln.order + 1 } }
    let it : Item :=
     {st := .armed, gen := gen, ctx := c, tenant := s.tenant c, axis := axis, sense := sense, kind := kind, arg := w2,
      wake := bitOf w1 27, late := bitOf w1 26, roster := r, pos := p, handle := h,
      tkt := (s.ticket h).map fun t => (t.track, t.seq), outcome := 0, order := s.tln.order, commit := (s.frame c 0x3B).toNat,
      stagedArm := r ≠ 0, stagedCancel := false, leaving := false, wakeDone := false }
    let s := s.setItem k it
    let s := s.putMax TLN_STATUS_peak s.usedSlots
    let d := distIn (sense ≠ 1) x p
    let reached := if sense = 2 then fwdDist x p == 0 else d == 0 || 2 ^ 47 ≤ d
    let s := if r = 0 then (if reached then dueNow s k else s) else if rosOn s r then s else settleRoster s r
    (s, BitVec.ofNat 32 (2 ^ 31 + gen * 2 ^ 16 + k))

/-- TREAD (R173): the quality in bits 31:30, bits 29:0 of the position; an axis not granted returns 0 and counts (R165). -/
def tread (s : State) (c n : Nat) : State × Word :=
  if s.axisOk c n then (s, BitVec.ofNat 32 ((s.axis n).qual * 2 ^ 30 + (s.axis n).pos % 2 ^ 30)) else (s.violateCap c, 0)

/-! ## Network time (R197 to R204) -/

/-- The TPULSE configuration's enable and frstop bits. -/
def pulseEn (cfg : Word) : Bool := bitOf cfg 31
def pulseStop (cfg : Word) : Bool := bitOf cfg 30

/-- The TPULSE period P in ms: 10 to 60,000, values outside act as the nearer limit. -/
def pulseMs (cfg : Word) : Nat := max 10 (min 60000 (getBits cfg 15 0))
/-- The TPULSE period in counts of 2 ns. -/
def pulseP (s : State) : Nat := pulseMs s.tln.pulseCfg * 500000

/-- The limit of A0's total rate in ppb: min(slew, 500 µs / P) (R199). -/
def rateLimit (s : State) : Nat :=
  let slew := max 1 (min 500 (s.get TLN_A0_CFG_slew))
  min (slew * 1000) (500000000 / pulseMs s.tln.pulseCfg)

/-- The total rate of A0 against A1, in ppb (R199): the whole allowance while an offset is being closed, else the rate correction. -/
def totalRate (s : State) : Int :=
  let lim : Int := rateLimit s
  if (s.axis 0).qual = 3 then 0
  else if 0 < s.tln.off then lim else if s.tln.off < 0 then -lim else max (-lim) (min lim s.tln.rate)

/-- The lock threshold in ns; 0 acts as 1 unit of 10 ns (R198). -/
def lockNs (s : State) : Nat := 10 * max 1 (s.get TLN_A0_CFG_lockth)

/-- How long a pulse stays high, in counts (R202): the width in 10 µs units, 0 acting as 1, limited to P / 2. -/
def pulseWidth (cfg : Word) : Nat := min (max 1 (getBits cfg 29 16) * 5000) (pulseMs cfg * 500000 / 2)

/-- Whether A0's quality keeps TPULSE low: Unset, or Free-run with frstop (R204). -/
def pulseHeld (s : State) : Bool := (s.axis 0).qual == 3 || ((s.axis 0).qual == 2 && pulseStop s.tln.pulseCfg)

/-- Whether TPULSE is pulsing under the configuration in force: enabled, and not kept low (R203, R204). -/
def pulsing (s : State) : Bool := pulseEn s.tln.pulseCfg && ! pulseHeld s

/-- TPULSE driven low where A0's quality keeps it low (R204); a configuration written while it does not pulse is in force at once, since no
next pulse comes (R203). -/
def pulseCheck (s : State) : State :=
  let s := if pulseHeld s then { s with tln := { s.tln with pulseHigh := false } } else s
  if pulsing s then s else { s with tln := { s.tln with pulseCfg := s.rd TLN_TPULSE_CFG } }

/-- The quality of A0 set. -/
def setQual0 (s : State) (q : Nat) : State := pulseCheck (s.setAxis 0 { s.axis 0 with qual := q })

/-- A signed value saturated to 32 bits. -/
def sat32 (x : Int) : Word := BitVec.ofInt 32 (max (-(2 ^ 31)) (min (2 ^ 31 - 1) x))

/-- Three sync intervals of 125 ms, in counts of A1 (R197). -/
def syncTimeout : Nat := 187500000
/-- Whether a port has received Sync within the timeout and has the slave role (R197). -/
def portQualifies (s : State) (p : Nat) : Bool :=
  match (if p = 0 then s.tln.sync0 else s.tln.sync1) with
  | some (at_, slave) => slave && decide (engineCycle s < at_ + syncTimeout)
  | none => false

/-- A Sync received on a port, with the role that BMCA gives it (R197). -/
def syncNoted (s : State) (p : Nat) (slave : Bool) : State :=
  let x := some (engineCycle s, slave)
  { s with tln := if p = 0 then { s.tln with sync0 := x } else { s.tln with sync1 := x } }

/-- Whether a port's Sync is used: the port qualifies; of two, BB0 (R197). -/
def syncTaken (s : State) (p : Nat) : Bool := portQualifies s p && (p == 0 || ! portQualifies s 0)

/-- Network time less A0 in counts of 2 ns (R197). -/
def netOffset (s : State) (net : Nat) : Int := sgn 62 ((net + 2 ^ 62 - (s.axis 0).pos % 2 ^ 62) % 2 ^ 62)

/-- A Sync used (R197, R198): the first sets A0; a later one measures the offset and moves the quality. `net` is network time in counts,
`rate` the measured rate correction in ppb. DESIGN CHOICE (log entry 63): the first Sync, which sets A0, writes no offset and counts
toward no run of Syncs, since no offset is measured before A0 is set. -/
def syncUsed (s : State) (port net : Nat) (rate : Int) : State :=
  let s := s.put TLN_A0_STATUS_port (port + 1)
  let offNs := 2 * netOffset s net
  if (s.axis 0).qual = 3 then
    let s := pulseCheck (setA0 s net)
    { s with tln := { s.tln with rate := rate } }
  else
    let s := (s.wr TLN_A0_OFFSET (sat32 offNs)).wr TLN_A0_OFFSET_US (sat32 (offNs.tdiv 1000))
    let inside := offNs.natAbs ≤ lockNs s
    let inC := if inside then s.tln.inCnt + 1 else 0
    let outC := if inside then 0 else s.tln.outCnt + 1
    let t : TlnSt := { s.tln with off := offNs * 500000000, rate := rate, inCnt := inC, outCnt := outC }
    let s := { s with tln := t }
    let q := (s.axis 0).qual
    if q = 0 ∧ 8 ≤ t.outCnt then
      let s := setQual0 s 1
      ({ s with tln := { s.tln with holdRunning := true, outCnt := 0, inCnt := 0 } }).raise 58
    else if q ≠ 0 ∧ 8 ≤ t.inCnt then
      let s := setQual0 s 0
      { s with tln := { s.tln with holdRunning := false, outCnt := 0, inCnt := 0 } }
    else s

/-- No Sync on any port for 3 intervals (R198): a Locked A0 enters Holdover and raises source 58. DESIGN CHOICE (log entry 63): what is
left of an offset is not slewed away any more, since A0 then runs at its last rate correction. -/
def a0Holdover (s : State) : State :=
  let s := s.put TLN_A0_STATUS_port 0
  if (s.axis 0).qual = 0 then
    let s := setQual0 s 1
    ({ s with tln := { s.tln with holdRunning := true, off := 0, inCnt := 0, outCnt := 0 } }).raise 58
  else { s with tln := { s.tln with off := 0, inCnt := 0, outCnt := 0 } }

/-- The holdover timer expires (R198): Holdover becomes Free-run and raises source 59. -/
def a0FreeRun (s : State) : State :=
  if (s.axis 0).qual = 1 ∧ s.tln.holdRunning then
    let s := setQual0 s 2
    ({ s with tln := { s.tln with holdRunning := false } }).raise 59
  else s

/-- TLN_A0_CMD.step (R201): pending while a source is present and A0 is behind network time, else refused. -/
def a0Step (s : State) : State :=
  if s.get TLN_A0_STATUS_port ≠ 0 ∧ (s.axis 0).qual ≠ 3 ∧ 0 < s.tln.off then
    (s.put TLN_A0_STEP_result 1).putB TLN_A0_STATUS_steppend true
  else s.put TLN_A0_STEP_result 3

/-- TLN_A0_CMD.cancel withdraws a pending step (R201). DESIGN CHOICE (log entry 63): the result then shows 0, none. -/
def a0StepCancel (s : State) : State :=
  if s.bit TLN_A0_STATUS_steppend then (s.putB TLN_A0_STATUS_steppend false).put TLN_A0_STEP_result 0 else s

/-- TPULSE rises at a boundary (R202, R203): the index of the boundary, for the width in force; a configuration written since the last
pulse is in force after it. -/
def pulseRise (s : State) : State :=
  let k := (s.axis 0).pos / pulseP s
  let s := s.wr TLN_TPULSE_COUNT (BitVec.ofNat 32 k)
  { s with tln := { s.tln with pulseHigh := true, pulseLeft := pulseWidth s.tln.pulseCfg, pulseCfg := s.rd TLN_TPULSE_CFG } }

/-- The width of a pulse has expired (R202). -/
def pulseFall (s : State) : State := if s.tln.pulseLeft = 0 then { s with tln := { s.tln with pulseHigh := false } } else s

/-- A motion of A0 by `m` counts takes it to a boundary of TPULSE or across it (R201, R202). -/
def reachesBound (s : State) (m : Nat) : Bool :=
  let x := (s.axis 0).pos
  x / pulseP s != (x + m) / pulseP s

/-- One count of the 500 MHz counter (R171, R178, R199, R546): A1 by one, A0 by its total rate; a new cycle begins, and a pulse has one count
less to last. -/
def tlnTick (s : State) : State :=
  let tot := totalRate s
  let frac := s.tln.frac + tot
  let (m, frac) := if 1000000000 ≤ frac then (2, frac - 1000000000) else if frac ≤ -1000000000 then (0, frac + 1000000000) else (1, frac)
  let off := s.tln.off + s.tln.rate - tot
  let off' := if (0 < s.tln.off ∧ off < 0) ∨ (s.tln.off < 0 ∧ 0 < off) ∨ s.tln.off = 0 then 0 else off
  let s := { s with tln := { s.tln with frac := frac, off := off', fired := false, pulseLeft := s.tln.pulseLeft - 1,
                                        atBound := s.tln.atBound || reachesBound s m } }
  let s := moveAxis s 1 ((s.axis 1).pos + 1) 1 true false
  if m = 0 then s else moveAxis s 0 ((s.axis 0).pos + m) m true false

/-- The starts of roster `r` on an axis that moves by `m` counts from `x` without judging them one by one: from its next period on, the
periods whose start the motion passes are skipped and counted; the start at its end falls due, and with `last` the start of the earliest period
that has not ended (R192, R205): the last one started, or the one before while its overlap window lasts. -/
def jumpStarts (s : State) (n r x m : Nat) (last : Bool) (travel : Nat) (late : Bool) : State :=
  let ros := s.ros r
  let low := nextFrom s r ros.nextN
  let δ := fwdDist x (rosStart s r low)
  if ! (rosStarts s n r && ahead x (rosStart s r low)) || m < δ then s
  else
    let k := if last then (m - δ) / rosT s r else (m - δ + rosT s r - 1) / rosT s r
    let k := if last && decide (0 < k ∧ m < δ + k * rosT s r + rosW s r) then k - 1 else k
    let s := skipPeriods (s.setRos r { ros with nextN := low + k }) r k
    if δ + k * rosT s r ≤ m then
      addDue s [⟨n, travel + δ + k * rosT s r, 0, startOrder s r, engineCycle s, late, .period r (low + k)⟩]
    else s

/-- The advance of A0 or A1 by `d` counts on the LPO is judged (R205): items that fell due fire late; periods that started and ended
meanwhile are skipped and counted, those that have not ended start. -/
def axisElapsed (s : State) (n d : Nat) : State :=
  let a := s.axis n
  let x := (a.pos + 2 ^ 62 - d % 2 ^ 62) % 2 ^ 62
  let s := moveAxis (s.setAxis n { a with pos := x }) n (x + d) d true true false
  (rosOf s n).foldl (fun s r => jumpStarts s n r x d true a.travel true) s

/-- One cycle of the LPO passes while the 500 MHz counter stands (R205, R432): A0 and A1 advance by 15,258 25/32 counts of 2 ns, which are
judged when the counter runs again. -/
def lpoTick (s : State) : State :=
  let f := s.tln.lpoFrac + 25
  let d := 15258 + f / 32
  let adv (s : State) (n : Nat) : State := s.setAxis n { s.axis n with pos := ((s.axis n).pos + d) % 2 ^ 62 }
  adv (adv { s with tln := { s.tln with lpoFrac := f % 32, parked0 := s.tln.parked0 + d, parked := s.tln.parked + d } } 0) 1

/-- The 500 MHz counter takes over from the values A0 and A1 have reached on the LPO, and a grid-phase axis takes the meter's count (R205,
R432). -/
def takeOver (s : State) : State :=
  let d0 := s.tln.parked0
  let d1 := s.tln.parked
  let s := { s with tln := { s.tln with a0Before := ((s.axis 0).pos + 2 ^ 62 - d0 % 2 ^ 62) % 2 ^ 62, parked0 := 0, parked := 0, lpoFrac := 0,
                                        items := s.tln.items.map fun e => (e.1, { e.2 with wakeDone := false }) } }
  let s := axisElapsed (axisElapsed s 1 d1) 0 d0
  [2, 3, 4, 5, 6, 7].foldl (fun s n => if axisSrc s n == 5 && ! (s.axis n).lost && s.mtr.grid then phaseTo s n s.mtr.phase else s) s

/-- The axes A2 to A7 whose source satisfies `p` lose it (R176). -/
def sourcesLost (s : State) (p : State → Nat → Bool) : State :=
  [2, 3, 4, 5, 6, 7].foldl (fun s n => if p s n then axisLost s n else s) s

/-- The axes A2 to A7 whose source satisfies `p` have it back (R176). -/
def sourcesBack (s : State) (p : State → Nat → Bool) : State :=
  [2, 3, 4, 5, 6, 7].foldl (fun s n => if p s n then axisReturn s n else s) s

/-- Whether the source of axis `n` takes its count from switch input `i` (R175). -/
def usesInput (i : Nat) (s : State) (n : Nat) : Bool :=
  let k := axisSrc s n
  (k == 1 || k == 2 || k == 3) && s.get (TLN_AX_CFG_ina n) == i || (k == 1 || k == 2) && s.get (TLN_AX_CFG_inb n) == i

/-- Whether the source of axis `n` is the line counter of matrix port `m` (R175). -/
def usesMatrix (m : Nat) (s : State) (n : Nat) : Bool := axisSrc s n == 4 && s.get (TLN_AX_CFG_ina n) % 2 == m

/-- Whether the source of axis `n` is the meter's grid phase (R175). -/
def usesMeter (s : State) (n : Nat) : Bool := axisSrc s n == 5

end Sys2Proof.Machine
end

