-- ==== Sys2Proof/Machine/Led.lean ====
section
/-! DEFINITION. LED sinks, matrix ports, frame ports and stitch ports (R279 to R305). -/
namespace Sys2Proof.Machine
open Sys2Proof Reg

/-- The LED part of the state changed. -/
def State.modLed (s : State) (f : LedSt → LedSt) : State := { s with led := f s.led }
/-- A sink. -/
def State.sink (s : State) (k : Nat) : Sink := SMap.get Sink.init s.led.sinks k
/-- The state with a sink replaced. -/
def State.setSink (s : State) (k : Nat) (x : Sink) : State := s.modLed fun l => { l with sinks := SMap.set Sink.init l.sinks k x }
/-- A matrix port. -/
def State.mat (s : State) (m : Nat) : Mat := if m = 0 then s.led.mat0 else s.led.mat1
/-- The state with a matrix port changed. -/
def State.modMat (s : State) (m : Nat) (f : Mat → Mat) : State :=
  s.modLed fun l => if m = 0 then { l with mat0 := f l.mat0 } else { l with mat1 := f l.mat1 }
/-- A frame port. -/
def State.fport (s : State) (n : Nat) : FPort := if n = 0 then s.led.f0 else s.led.f1
/-- The state with a frame port changed. -/
def State.modF (s : State) (n : Nat) (f : FPort → FPort) : State :=
  s.modLed fun l => if n = 0 then { l with f0 := f l.f0 } else { l with f1 := f l.f1 }
/-- A stitch port. -/
def State.st (s : State) (k : Nat) : Stitch := SMap.get Stitch.init s.led.stitch k
/-- The state with a stitch port changed. -/
def State.modSt (s : State) (k : Nat) (f : Stitch → Stitch) : State :=
  s.modLed fun l => { l with stitch := SMap.set Stitch.init l.stitch k (f (SMap.get Stitch.init l.stitch k)) }

/-- An event of port `p`, if its code is enabled (R303). -/
def portEvent (s : State) (p code detail : Nat) : State :=
  if bitOf (s.rd (LED_P_EVEN p)) code then s.event (754 + p) (code + 256 * (detail % 64)) else s

/-! ## Sinks (R279 to R282, R300) -/

/-- The die of a sink. -/
def sinkDie (k : Nat) : Nat := k / 24
/-- Whether a sink serves as a matrix column (R292). -/
def isColumn (s : State) (k : Nat) : Bool := k % 24 < 12 && (s.mat (k / 24)).own
/-- The derating factor of a die. -/
def factorOf (s : State) (d : Nat) : ℚ := if d = 0 then s.led.factorA else s.led.factorB
/-- Whether a sink may conduct: the device not in Off (R302, R455), its die on and not in over-voltage shutdown, no thermal shutdown, not switched
off by a short (R55, R68, R282), not switched off by its class (R300). -/
def sinkFree (s : State) (k : Nat) : Bool :=
  s.pwr.phase != .off && (isColumn s k || (s.sink k).mode != .off) && (s.die (sinkDie k)).on && ! s.bit (PSW_DIE_STATE_ovshut (sinkDie k)) && ! s.bit (LED_K_STATUS_tsd k) && ! s.bit (LED_K_STATUS_shut k)
/-- The duty a sink conducts for, 0 where it may not conduct. -/
def sinkDuty (s : State) (k : Nat) : Nat := if sinkFree s k then (s.sink k).duty else 0

/-- A sink takes a current code and a duty; STATUS.ieff is floor(cur × f) (R280). -/
def sinkTake (s : State) (k cur duty : Nat) : State :=
  let c := min 240 cur
  (s.setSink k { s.sink k with cur := c, duty := min 4096 duty }).put (LED_K_STATUS_ieff k) ((c : ℚ) * factorOf s (sinkDie k)).floor.toNat

/-- A sink takes what it follows: SET, its limp duty at its current, or nothing; a column keeps its slot's duty and takes the factor. -/
def sinkRefresh (s : State) (k : Nat) : State :=
  let cur := s.get (LED_K_SET_cur k)
  if isColumn s k then sinkTake s k (s.sink k).cur (s.sink k).duty
  else
    match (s.sink k).mode with
    | .set => sinkTake s k cur (s.get (LED_K_SET_duty k))
    | .limp => sinkTake s k cur (s.get (LED_K_CFG_ldut k))
    | .off => sinkTake s k cur 0

/-- The mode of a sink set (R300): off at once, the limp duty from the next period start (R280); a column follows its port, and the mode
when it is none any more. -/
def sinkMode (s : State) (k : Nat) (m : SinkMode) : State :=
  (s.setSink k { s.sink k with mode := m }).putB (LED_K_STATUS_limp k) (m == .limp && ! isColumn s k)

/-- A write of LED_Kk_SET (R280, R282, R300): ignored while the die is Held or Expired; it ends a shut-off and the limp state. -/
def sinkSet (s : State) (k : Nat) (v : Word) : State :=
  if dieReached s (sinkDie k) ∧ dieState s (sinkDie k) = 0 then
    let s := s.wr (LED_K_SET k) (v &&& 0x00FF1FFF)
    ((s.putB (LED_K_STATUS_shut k) false).putB (LED_K_STATUS_limp k) false).setSink k { s.sink k with mode := .set }
  else s

/-- The PWM period of sink group `g` in ns (LED_DIEd_FREQ): frequencies outside 200 Hz to 25 kHz act as the nearer limit. -/
def groupPeriod (s : State) (g : Nat) : Nat :=
  1000000000 / max 200 (min 25000 (if g % 2 = 0 then s.get (LED_DIE_FREQ_f0 (g / 2)) else s.get (LED_DIE_FREQ_f1 (g / 2))))

/-- The on-time that the period now starting gives a direct sink is counted for its string check (R282); a column counts by its slots. -/
def countOn (s : State) (k : Nat) : State :=
  if isColumn s k then s
  else s.setSink k { s.sink k with onNs := (s.sink k).onNs + sinkDuty s k * groupPeriod s (k / 12) / 4096 }

/-- A PWM period of a sink group starts (R280, R281); none conducts in Off (R302). -/
def ledPeriod (s : State) (g : Nat) : State :=
  if (s.die (g / 2)).on ∧ s.pwr.phase ≠ .off then (List.range 12).foldl (fun s i => countOn (sinkRefresh s (12 * g + i)) (12 * g + i)) s else s

/-- A PWM period of a sink group starts (R280, R281). -/
def execLedPwmPeriod (g : Fin 4) (s : State) : Out := .next (ledPeriod s g)

/-- The derating factor at a sink-area temperature in 0.5 °C units (R281). -/
def deratingFactor (s : State) (d : Nat) (tj : Int) : ℚ :=
  let tk : ℚ := max 60 (min 150 (s.get (LED_DIE_DERATE_knee d)))
  let sp : ℚ := max 10 (min 60 (s.get (LED_DIE_DERATE_span d)))
  let dm : ℚ := (s.get (LED_DIE_DERATE_dmin d) : ℚ) / 16
  let t : ℚ := (tj : ℚ) / 2
  if t ≤ tk then 1 else if t < tk + sp then 1 - (1 - dm) * (t - tk) / sp else dm

/-- A die reads its sink-field temperature every 1 ms (R281). -/
def execLedDerateUpdate (d : Fin 2) (tj : BitVec 10) (s : State) : Out :=
  .next <| if (s.die d).on then
    let f := deratingFactor s d tj.toInt
    s.modLed fun l => if d = 0 then { l with factorA := f } else { l with factorB := f }
  else s

/-- A sink judges its string over a 1 ms interval with on-times of at least 20 µs in total (R282): below the open threshold, above the short
threshold; a sink that had less is not judged. -/
def stringCheck (s : State) (k : Nat) (low high : Bool) : State :=
  if ! sinkFree s k || decide ((s.sink k).onNs < 20000) then s.setSink k { s.sink k with onNs := 0 }
  else
    let s := s.setSink k { s.sink k with onNs := 0 }
    let open_ := low
    let short := high && s.get (LED_K_CFG_vsh k) != 0
    let newOpen := open_ && ! s.bit (LED_K_STATUS_open k)
    let newShort := short && ! s.bit (LED_K_STATUS_short k)
    let s := (s.putB (LED_K_STATUS_open k) open_).putB (LED_K_STATUS_short k) short
    let s := if open_ then s.putB (LED_K_STATUS_s_open k) true else s
    let s := if short then s.putB (LED_K_STATUS_s_short k) true else s
    let s := if short && s.bit (LED_K_CFG_shoff k) then s.putB (LED_K_STATUS_shut k) true else s
    if newOpen || newShort then s.raise (71 + sinkDie k) (BitVec.ofNat 32 k) else s

/-- A string check (R282). -/
def execSinkStringCheck (k : Fin 48) (low high : Bool) (s : State) : Out := .next (stringCheck s k low high)
/-- A sink reaches TSD (R282). -/
def execSinkTsd (k : Fin 48) (s : State) : Out :=
  .next (if (s.die (sinkDie k)).on && ! s.bit (LED_K_STATUS_tsd k) then
    (s.putB (LED_K_STATUS_tsd k) true).raise (71 + sinkDie k) (BitVec.ofNat 32 k) else s)
/-- A sink has cooled by the hysteresis (R282). -/
def execSinkThermalRestart (k : Fin 48) (s : State) : Out :=
  .next (if (s.die (sinkDie k)).on then s.putB (LED_K_STATUS_tsd k) false else s)

/-! ## Matrix ports (R292 to R294, R300) -/

/-- The first line channel of a matrix port. -/
def lineBase (m : Nat) : Nat := 40 + 24 * m
/-- The line channels opened and the columns off. -/
def matDark (s : State) (m : Nat) : State :=
  let s := (List.range 8).foldl (fun s i => setOut s (lineBase m + i) ⟨0, 0⟩) s
  (List.range 12).foldl (fun s i => s.setSink (24 * m + i) { s.sink (24 * m + i) with duty := 0 }) s

/-- BLANK (R284, R292): scanning stops, lines return to OFF; the columns conduct by their SET, or by their mode (R300), from their group's next
period start (R280). -/
def matBlank (s : State) (m : Nat) : State :=
  let s := if (s.mat m).own then matDark s m else s
  let had := (s.mat m).own
  let s := s.modMat m fun x => { x with own := false, scan := false, limp := false, line := none }
  if had then (List.range 12).foldl (fun s i => sinkMode s (24 * m + i) (s.sink (24 * m + i)).mode) s else s

/-- ENABLE (R292). -/
def matEnable (s : State) (m : Nat) : State :=
  s.modMat m fun x => { x with own := true, scan := true, limp := false, line := if x.scan then x.line else none }

/-- The dim in force: the port's own, or ldim × 256 in its limp state (R300). -/
def dimOf (s : State) (m : Nat) : Nat := if (s.mat m).limp then s.get (LED_M_CFG_ldim m) * 256 else (s.mat m).dim

/-- Whether a line's channel is tripped, in current limit or in siding (R293). -/
def lineFaulty (s : State) (c : Nat) : Bool :=
  s.bit (PSW_CH_STATUS_tsdwait c) || s.bit (PSW_CH_STATUS_ilim c) || s.bit (PSW_CH_STATUS_siding c)

/-- The line `l` of the running slot is found faulty (R293): it opens and the columns go off for the slot; a new fault is reported. -/
def lineBlank (s : State) (m l : Nat) : State :=
  let s := if (s.mat m).fault.contains l then s else (portEvent s m 7 l).raise (73 + m)
  let s := s.modMat m fun x => { x with slotBad := true, fault := if x.fault.contains l then x.fault else x.fault ++ [l] }
  let s := setOut s (lineBase m + l) ⟨0, 0⟩
  (List.range 12).foldl (fun s i => s.setSink (24 * m + i) { s.sink (24 * m + i) with duty := 0 }) s

/-- The running line of a port is blanked for its slot once its channel trips, limits its current or enters siding (R293). -/
def lineWatch (s : State) (m : Nat) : State :=
  let x := s.mat m
  match x.line with
  | some l => if x.scan && ! x.slotBad && lineFaulty s (lineBase m + l) then lineBlank s m l else s
  | none => s

/-- Both ports watch their running line. -/
def linesWatch (s : State) : State := lineWatch (lineWatch s 0) 1

/-- A closed switch enters current limit, or leaves it (R260); a line of a matrix port is blanked (R293). -/
def execCurrentLimit (c : Fin 104) (load : Nat) (s : State) : Out := .next (linesWatch (currentLimit s c load))
/-- The junction of a channel reaches TSD (R261); a line of a matrix port is blanked (R293). -/
def execJunctionTrip (c : Fin 104) (onTime : Bool) (s : State) : Out := .next (linesWatch (junctionTsd s c onTime))

/-- The on-time in ns of a column whose entry is `e` (R293): floor(e × dim / 4,096) / 4,096 × (TL − TB). -/
def columnNs (cfg : Word) (duty : Nat) : Nat :=
  let tl := max 40 (min 1000 (getBits cfg 25 16)) * 1000
  let tb := max 12 (getBits cfg 13 8) * 500
  duty * (tl - tb) / 4096

/-- The axes that count the lines of port `m` take a line start, while the timeline runs (R175, R293). -/
def linesCounted (s : State) (m : Nat) : State :=
  if ctlReached s && perRuns s then [2, 3, 4, 5, 6, 7].foldl (fun s n => if usesMatrix m s n then sourceUpdate s n else s) s else s

/-- A line slot starts (R293, R294): the previous line opens, the counter advances and with it the axes that count it, this line closes unless
it is faulty, the columns take their table entries; the slot of line 0 starts a frame with the copied table and the configuration. -/
def lineSlot (s : State) (m : Nat) : State :=
  let x := s.mat m
  if ! (s.die m).on || ! x.scan then s
  else
    let s := lineWatch s m
    let s := match x.line with
      | some l => (setOut s (lineBase m + l) ⟨0, 0⟩).modMat m fun x => { x with fault := if x.slotBad then x.fault else x.fault.filter (· ≠ l) }
      | none => s
    let l := match x.line with | some l => if l < getBits x.cfg 30 28 then l + 1 else 0 | none => 0
    let s := s.modMat m fun x => { x with line := some l, lineCtr := x.lineCtr + 1, slotBad := false }
    let s := linesCounted s m
    let s := if l = 0 then
      (s.wrap (LED_P_STATUS_count m)).modMat m fun x => { x with cfg := s.rd (LED_M_CFG m), tab := x.next.getD x.tab, next := none }
      else s
    let c := lineBase m + l
    if lineFaulty s c then lineBlank s m l
    else
      let s := setOut s c ⟨1, 0⟩
      let dim := dimOf s m
      let x := s.mat m
      (List.range 12).foldl (fun s i =>
        let k := 24 * m + i
        let duty := SMap.get 0 x.tab (12 * l + i) * dim / 4096
        s.setSink k { s.sink k with duty := duty, onNs := (s.sink k).onNs + columnNs x.cfg duty }) s

/-- A line slot of a matrix port starts (R293). -/
def execLineSlotStart (m : Fin 2) (s : State) : Out := .next (lineSlot s m)

/-! ## Frame ports (R288 to R291) -/

/-- The front buffer of frame port `n`. -/
def frontOf (s : State) (n : Nat) : Nat := s.get (LED_P_STATUS_front (2 + n))
/-- The key of a byte of frame memory. -/
def fkey (n b o : Nat) : Nat := n * 0x20000 + b * 0x10000 + o
/-- A byte of frame memory. -/
def State.fByte (s : State) (n b o : Nat) : Byte := SMap.get 0 s.led.fmem (fkey n b o)
/-- The state with a byte of frame memory written; a word written has no error any more. -/
def State.setFByte (s : State) (n b o : Nat) (v : Byte) : State :=
  s.modLed fun l => { l with fmem := SMap.set 0 l.fmem (fkey n b o) v, fbad := l.fbad.filter (· ≠ fkey n b o / 4 * 4) }

/-- A byte as a consumer reads it: a word with an uncorrectable error reads as 0 (R298). -/
def State.fRead (s : State) (n b o : Nat) : Byte := if s.led.fbad.contains (fkey n b o / 4 * 4) then 0 else s.fByte n b o

/-- Whether a consumer reads a buffer: a shift that started from it, or a table copy from it (R290). -/
def beingRead (s : State) (n b : Nat) : Bool :=
  (s.mat n).copies.contains b ||
    (List.range 4).any fun k => let x := s.st k; decide (x.phase = .shifting) && ! x.zero && x.src == n && x.buf == b
/-- Whether the back buffer is retiring (R290). -/
def retiring (s : State) (n : Nat) : Bool := beingRead s n (1 - frontOf s n)

/-- Whether a stitch port is a return port: its partner's chain returns on its DAT by the configuration in force there, which is that of the
partner's last shift start (R297, LED_Sk_CFG). -/
def isReturn (s : State) (k : Nat) : Bool := bitOf (s.st (k ^^^ 1)).cfg 27
/-- The length in force for the next shift. -/
def lenOf (s : State) (k : Nat) : Nat := min 49152 (s.get (LED_S_LEN_len k))

/-- The bits of a byte, bit 7 first. -/
def byteBits (b : Byte) : List Bool := (List.range 8).map fun i => b.getLsbD (7 - i)

/-- The bits a running shift sends, first bit first (R295, R297, R298): the marker where the chain returns, then the first `len` bits of the
out region of the buffer it reads, the byte at offset 0 first; zeros in siding, 32 more than the chain is long for the port itself. -/
def shiftBits (s : State) (k : Nat) : List Bool :=
  let x := s.st k
  if x.zero then List.replicate (x.len + if s.bit (LED_P_STATUS_siding (4 + k)) then 32 else 0) false
  else
    (if bitOf x.cfg 27 then (List.range 32).map fun i => bitOf x.marker (31 - i) else []) ++
      (((List.range ((x.len + 7) / 8)).map fun i => byteBits (s.fRead x.src x.buf (0x1000 + 0x3000 * k + i))).flatten).take x.len

/-- The latch mode in force: 0 automatic, 1 by action, 2 by timeline; 3 acts as 0. -/
def latchMode (cfg : Word) : Nat := let m := getBits cfg 29 28; if m = 3 then 0 else m

/-- A stitch port's lands held low (R297, R298). -/
def landsLow (s : State) (k : Nat) : State := s.modSt k fun x => { x with lat := false }

/-- A port becomes a return port: its CLK and LAT are driven low and its DAT is an input, so it shifts and latches nothing (R297). -/
def becomesReturn (s : State) (k : Nat) : State :=
  ((s.putB (LED_P_STATUS_active (4 + k)) false).putB (LED_P_STATUS_pend (4 + k)) false).modSt k fun x =>
    { x with phase := .idle, latchReq := false, lat := false }

/-- A shift starts (R295, R297): from the front buffer of the source, or zeros; LED_Sk_CFG and LED_Sk_LEN are in force from here. A return
port never shifts. -/
def startShift (s : State) (k : Nat) (zero rejoin again : Bool) : State :=
  if lenOf s k = 0 ∨ isReturn s k then s
  else
    let n := s.get (LED_S_CFG_src k)
    let x := s.st k
    let buf := if again then x.buf else frontOf s n
    let s := s.modSt k fun x => { x with
      phase := .shifting, src := if again then x.src else n, buf := buf, zero := zero, rejoin := rejoin, again := again,
      marker := 0xC35A0000 + BitVec.ofNat 32 (s.get (LED_P_STATUS_count (4 + k))), cfg := s.rd (LED_S_CFG k), len := lenOf s k, matched := false,
      lat := x.lat && latchMode (s.rd (LED_S_CFG k)) == 2 }
    let s := if s.bit (LED_S_CFG_ret k) then becomesReturn s (k ^^^ 1) else s
    s.putB (LED_P_STATUS_active (4 + k)) true

/-- A cause of a shift (R295): it starts, becomes pending, or is combined; without PLL1 none starts (R432, R437). -/
def shiftCause (s : State) (k : Nat) : State :=
  if lenOf s k = 0 then s
  else if (s.st k).phase = .idle ∧ perRuns s then startShift s k false false false
  else if s.bit (LED_P_STATUS_pend (4 + k)) then s.putB (LED_P_STATUS_s_comb (4 + k)) true
  else s.putB (LED_P_STATUS_pend (4 + k)) true

/-- A swap takes effect (R290, R294, R295, R303). -/
def swapEffect (s : State) (n : Nat) : State :=
  let f := 1 - frontOf s n
  let s := ((s.put (LED_P_STATUS_front (2 + n)) f).putB (LED_P_STATUS_pend (2 + n)) false).wrap (LED_P_STATUS_count (2 + n))
  let s := s.modF n fun x => { x with lostNoted := false }
  let s := portEvent s (2 + n) 1 f
  let s := s.modMat n fun x => { x with copies := x.copies ++ [f] }
  (List.range 4).foldl (fun s k =>
    if s.get (LED_S_CFG_src k) = n ∧ s.bit (LED_S_CFG_start k) ∧ ¬ isReturn s k ∧ ¬ s.bit (LED_P_STATUS_siding (4 + k)) then shiftCause s k
    else s) s

/-- SWAP arrives at frame port `n` (R290). -/
def swapArrive (s : State) (n : Nat) : State :=
  if s.bit (LED_P_STATUS_pend (2 + n)) then s.putB (LED_P_STATUS_s_comb (2 + n)) true
  else if s.bit (LED_F_CFG_sync n) || retiring s n then s.putB (LED_P_STATUS_pend (2 + n)) true
  else swapEffect s n

/-- A waiting swap takes effect when retiring has ended, without sync (R290). -/
def execSwapEffect (n : Fin 2) (s : State) : Out :=
  .next (if s.bit (LED_P_STATUS_pend (2 + n)) && ! s.bit (LED_F_CFG_sync n) && ! retiring s n then swapEffect s n else s)

/-- A table copy completes (R294): the table waits for the next frame start. -/
def tableCopied (s : State) (m : Nat) : State :=
  match (s.mat m).copies with
  | [] => s
  | b :: bs =>
    let entry (i : Nat) : Nat := (s.fRead m b (2 * i)).toNat + 256 * ((s.fRead m b (2 * i + 1)).toNat % 16)
    let t := (List.range 96).foldl (fun t i => SMap.set 0 t i (entry i)) []
    s.modMat m fun x => { x with copies := bs, next := some t }

/-- The matrix table copy completes (R294). -/
def execTableCopyDone (m : Fin 2) (s : State) : Out := .next (tableCopied s m)

/-- The byte address a word of the aperture shows: page LED_Fn_PAGE.page of the back buffer, or of the front buffer (R289). -/
def apertureAt (s : State) (n i : Nat) : Nat × Nat :=
  let b := if s.bit (LED_F_PAGE_front n) then frontOf s n else 1 - frontOf s n
  (b, 0x4000 * s.get (LED_F_PAGE_page n) + 4 * i)

/-- A word read through the aperture. -/
def apertureRead (s : State) (n i : Nat) : Word :=
  let (b, o) := apertureAt s n i
  wordOf (s.fByte n b o) (s.fByte n b (o + 1)) (s.fByte n b (o + 2)) (s.fByte n b (o + 3))

/-- A word written through the aperture: ignored on the front buffer and on a retiring one (R289). -/
def apertureWrite (s : State) (n i : Nat) (v : Word) : State :=
  let (b, o) := apertureAt s n i
  if s.bit (LED_F_PAGE_front n) then s.putB (LED_P_STATUS_s_lostw (2 + n)) true
  else if retiring s n then
    let s := s.putB (LED_P_STATUS_s_lostw (2 + n)) true
    if (s.fport n).lostNoted then s else portEvent (s.modF n fun x => { x with lostNoted := true }) (2 + n) 6 0
  else
    (((s.setFByte n b o (byteOf v 0)).setFByte n b (o + 1) (byteOf v 1)).setFByte n b (o + 2) (byteOf v 2)).setFByte n b (o + 3) (byteOf v 3)

/-- Whether context `w` reaches port `p` (R163, R305). -/
def ledPortOk (s : State) (w p : Nat) : Bool := s.blockOk w 11 && s.portOk w p

/-- A write through a frame-port aperture by context `w` (R289, R305). -/
def execApertureWrite (w : CtxId) (n : Fin 2) (k : Fin 4096) (v : Word) (s : State) : Out :=
  .next (s.granted w (ledPortOk s w (2 + n)) ⟨0x40148000 + 0x4000 * n + 4 * k, 0⟩ fun s => apertureWrite s n k v)

/-! ## Siding and rejoining (R298, R299) -/

/-- A stitch port shifts zeros and then latches (R298). -/
def zeroShift (s : State) (k : Nat) : State :=
  startShift (landsLow ((s.putB (LED_P_STATUS_pend (4 + k)) false).modSt k fun x => { x with latchReq := false }) k) k true false false

/-- Port `p` enters siding: 0 command, 1 broken chain, 2 frame memory, 3 class 2; a port in siding is not changed (R298, R465). -/
def portSiding (s : State) (p why : Nat) : State :=
  if s.bit (LED_P_STATUS_siding p) then s
  else
    let s := portEvent (s.putB (LED_P_STATUS_siding p) true) p 3 why
    if p < 2 then
      let s := (if (s.mat p).own then matDark s p else s).modMat p fun x => { x with scan := false, line := none, rejoin := false }
      sourcesLost s (usesMatrix p)
    else if p < 4 then
      let n := p - 2
      let s := (s.putB (LED_P_STATUS_pend p) false).modF n fun x => { x with rejoin := false }
      let s := matBlank s n
      (List.range 4).foldl (fun s k =>
        if s.get (LED_S_CFG_src k) = n ∧ ¬ isReturn s k ∧ ¬ s.bit (LED_P_STATUS_siding (4 + k)) then zeroShift s k else s) s
    else zeroShift s (p - 4)

/-- Port `p` leaves siding. -/
def portRejoined (s : State) (p : Nat) : State :=
  let s := portEvent (s.putB (LED_P_STATUS_siding p) false) p 4 0
  if p < 2 then sourcesBack s (usesMatrix p) else s

/-- A waiting REJOIN takes effect at the port's frame boundary (R299). -/
def rejoinEffect (s : State) (p : Nat) : State :=
  if ! s.bit (LED_P_STATUS_siding p) then s
  else if p < 2 then
    if ! (s.mat p).rejoin then s
    else
      let s := s.modMat p fun x => { x with rejoin := false }
      if (List.range 8).any fun i => s.bit (PSW_CH_STATUS_siding (lineBase p + i)) then s
      else (portRejoined s p).modMat p fun x => { x with scan := x.own }
  else if p < 4 then
    if (s.fport (p - 2)).rejoin then portRejoined (s.modF (p - 2) fun x => { x with rejoin := false }) p else s
  else s

/-- REJOIN is written (R299): a frame port without sync rejoins at once, a stitch port shifts at once, the others wait. -/
def portRejoin (s : State) (p : Nat) : State :=
  if ! s.bit (LED_P_STATUS_siding p) then s
  else if p < 2 then s.modMat p fun x => { x with rejoin := true }
  else if p < 4 then
    let s := s.modF (p - 2) fun x => { x with rejoin := true }
    if s.bit (LED_F_CFG_sync (p - 2)) then s else rejoinEffect s p
  else startShift s (p - 4) false true false

/-- At the port's frame boundary the rejoin takes effect (R299). -/
def execPortRejoinEffect (p : Fin 8) (s : State) : Out := .next (rejoinEffect s p)

/-- A filtered rising edge on FSYNCn (R290, R291, R299); without VIO2 the land reads 0 (R56). -/
def execFsyncEdge (n : Fin 2) (s : State) : Out :=
  .next <| if ! s.pwr.io2 || ! s.bit (LED_F_CFG_sync n) then s
  else
    let s := rejoinEffect s (2 + n)
    if s.bit (LED_P_STATUS_pend (2 + n)) && ! retiring s n then swapEffect s n else s

/-- A swap has waited fsto ms for an edge (R291). -/
def execFsyncTimeout (n : Fin 2) (s : State) : Out :=
  .next <| if s.bit (LED_F_CFG_sync n) && s.get (LED_F_CFG_fsto n) != 0 && s.bit (LED_P_STATUS_pend (2 + n)) && ! retiring s n then
    (portEvent ((swapEffect s n).putB (LED_P_STATUS_s_fsto (2 + n)) true) (2 + n) 5 0).raise (79 + n)
  else s

/-- Word `w` of buffer `b` has an uncorrectable error and a consumer reads it (R298): it reads as 0. -/
def frameError (s : State) (n b w : Nat) : State :=
  let key := fkey n b (4 * w)
  let s := s.modLed fun l => { l with fbad := if l.fbad.contains key then l.fbad else l.fbad ++ [key] }
  portSiding ((s.putB (LED_P_STATUS_s_ecc (2 + n)) true).raise 81) (2 + n) 2

/-- An uncorrectable frame-memory word is read by a consumer (R298). -/
def execFrameMemoryError (w : FrameWord) (s : State) : Out := .next (frameError s w.port w.buf w.word)

/-! ## Stitch ports (R295 to R297) -/

/-- What follows the last bit of a shift: the latch of R296; zeros and a rejoin latch once (R298, R299). -/
def afterShift (s : State) (k : Nat) : State :=
  let x := s.st k
  let latch := x.zero || x.rejoin || latchMode x.cfg == 0 || (latchMode x.cfg == 1 && x.latchReq)
  s.modSt k fun x => { x with phase := if latch then .latching else .idle, latchReq := false }

/-- The readback of a shift: the first `len` bits that return, in the readback region of the source buffer (R297). -/
def storeReadback (s : State) (k : Nat) (back : List Byte) : State :=
  let x := s.st k
  (List.range ((x.len + 7) / 8)).foldl (fun s i =>
    let o := 0x1000 + 0x3000 * k + 0x1800 + i
    let keep : Nat := if x.len < 8 * (i + 1) then 8 * (i + 1) - x.len else 0
    let m : Byte := BitVec.allOnes 8 <<< keep
    s.setFByte x.src x.buf o ((back.getD i 0 &&& m) ||| (s.fByte x.src x.buf o &&& ~~~ m))) s

/-- A shift sends its last bit (R297 to R299): what returned, and the 32 bits that followed it. -/
def shiftEnd (s : State) (k : Nat) (back : List Byte) (mark : Word) : State :=
  let x := s.st k
  if x.phase ≠ .shifting then s
  else
    let s := (s.modSt k fun x => { x with sent := shiftBits s k }).putB (LED_P_STATUS_active (4 + k)) false
    if x.zero then afterShift s k
    else if bitOf x.cfg 27 then
      let s := storeReadback s k back
      let ok := mark == x.marker
      let s := (s.putB (LED_S_RB_done k) true).putB (LED_S_RB_match k) ok
      if ok then
        let s := (s.put (LED_S_RB_misses k) 0).modSt k fun x => { x with matched := true }
        afterShift (if x.rejoin then portRejoined s (4 + k) else s) k
      else
        let s := s.putB (LED_P_STATUS_s_miss (4 + k)) true
        let misses := min 2 (s.get (LED_S_RB_misses k) + 1)
        let s := (s.put (LED_S_RB_misses k) misses).modSt k fun x => { x with phase := .idle }
        if x.rejoin then s
        else if 2 ≤ misses then portSiding (s.raise (75 + k)) (4 + k) 1
        else if latchMode x.cfg = 0 then startShift s k false false true
        else afterShift s k
    else afterShift (if x.rejoin then portRejoined s (4 + k) else s) k

/-- A shift ends (R297); without VIO2 the land that returns the chain reads 0 (R56). -/
def execShiftEnd (k : Fin 4) (back : List Byte) (mark : Word) (s : State) : Out :=
  .next (if ! perRuns s then s else if s.pwr.io2 then shiftEnd s k back mark else shiftEnd s k [] 0)

/-- STn_LAT is pulsed (R296, R303). -/
def execLatchPulse (k : Fin 4) (s : State) : Out :=
  .next <| if perRuns s && decide ((s.st k).phase = .latching) then
    portEvent ((s.modSt k fun x => { x with phase := .idle }).wrap (LED_P_STATUS_count (4 + k))) (4 + k) 2 (b2n (s.st k).matched)
  else s

/-- A pending shift starts (R295). -/
def execShiftStart (k : Fin 4) (s : State) : Out :=
  .next <| if perRuns s && s.bit (LED_P_STATUS_pend (4 + k)) && decide ((s.st k).phase = .idle) && ! s.bit (LED_P_STATUS_siding (4 + k)) then
    startShift (s.putB (LED_P_STATUS_pend (4 + k)) false) k false false false
  else s

/-- LATCH (R296). -/
def latchAct (s : State) (k : Nat) : State :=
  s.modSt k fun x => match x.phase with
    | .idle => { x with phase := .latching }
    | .shifting => { x with latchReq := true }
    | .latching => x

/-- A PIN item on STn_LAT (R180, R296): outcome 1, or 4 where the port has not given the land to the timeline by the configuration in force,
or where the op is the undefined 3, which does nothing (log entry 29). -/
def latPin (s : State) (k op : Nat) : State × Nat :=
  if latchMode (s.st k).cfg = 2 ∧ ¬ isReturn s k ∧ ¬ s.bit (LED_P_STATUS_siding (4 + k)) ∧ op < 3 then
    (s.modSt k fun x => { x with lat := if op = 0 then false else if op = 1 then true else ! x.lat }, 1)
  else (s, 4)

/-! ## Actions (R284 to R287) -/

/-- Whether an action is defined for port `p` (R285). -/
def portDefined (s : State) (p cmd : Nat) : Bool :=
  if p < 2 then
    cmd == 2 || cmd == 3 || (cmd == 1 &&
      (List.range 8).all fun i => s.get (PSW_CH_STATE_cmd (lineBase p + i)) == 0 && ! s.bit (PSW_CH_STATUS_siding (lineBase p + i)))
  else if p < 4 then cmd == 4
  else ! isReturn s (p - 4) && (cmd == 5 || (cmd == 6 && s.get (LED_S_CFG_latch (p - 4)) == 1))

/-- The effect of an action that is performed. -/
def portPerform (s : State) (p cmd val : Nat) : State :=
  match cmd with
  | 1 => matEnable s p
  | 2 => matBlank s p
  | 3 => s.modMat p fun x => { x with dim := min 4096 (val % 8192), limp := false }
  | 4 => swapArrive s (p - 2)
  | 5 => shiftCause s (p - 4)
  | 6 => latchAct s (p - 4)
  | _ => s

/-- ACK and ACKSEQ of a port after an action, and event 8 (R286, R303). -/
def ackPort (s : State) (p outcome : Nat) (bad : Bool) (tkt : Option (Nat × Word)) : State :=
  let s := (((s.put (LED_P_ACK_outcome p) outcome).putB (LED_P_ACK_badcmd p) bad).putB (LED_P_ACK_ticketed p) tkt.isSome).wrap (LED_P_ACK_count p)
  let s := match tkt with
    | some (t, q) => (s.put (LED_P_ACK_track p) t).wr (LED_P_ACKSEQ p) q
    | none => s
  portEvent s p 8 outcome

/-- An action of port `p` (R284 to R287); `w0`: written by context 0. -/
def portAction (s : State) (p cmd val : Nat) (tkt : Option (Nat × Word)) (w0 : Bool) : State × Nat :=
  let ret := decide (4 ≤ p) && isReturn s (p - 4)
  if w0 ∧ cmd = 0xE ∧ ! ret then (portSiding s p 0, 1)
  else if w0 ∧ cmd = 0xF ∧ ! ret then (portRejoin s p, 1)
  else
    let defined := portDefined s p cmd
    let (s, out) :=
      if s.bit (LED_P_STATUS_siding p) || (decide (p < 2) && (! dieReached s p || dieState s p != 0)) then (s, 3)
      else if ! defined then stageAct s (104 + p) tkt id
      else stageAct s (104 + p) tkt fun s => portPerform s p cmd val
    (ackPort s p out (! defined) tkt, out)

/-- A write of LED_Pp_CMD by context `w` (R284, R305). -/
def portWriteCmd (s : State) (w p cmd val : Nat) : State :=
  s.granted w (ledPortOk s w p) (LED_P_CMD p) fun s => (portAction s p cmd val (s.boundTkt w) (w == 0)).1

/-- ENABLE (R292). -/
def execMatrixEnable (w : CtxId) (m : Fin 2) (s : State) : Out := .next (portWriteCmd s w m 1 0)
/-- BLANK (R292). -/
def execMatrixBlank (w : CtxId) (m : Fin 2) (s : State) : Out := .next (portWriteCmd s w m 2 0)
/-- DIM (R284). -/
def execMatrixDim (w : CtxId) (m : Fin 2) (val : BitVec 16) (s : State) : Out := .next (portWriteCmd s w m 3 val.toNat)
/-- SWAP (R290). -/
def execFrameSwap (w : CtxId) (n : Fin 2) (s : State) : Out := .next (portWriteCmd s w (2 + n) 4 0)
/-- SHIFT (R295). -/
def execStitchShift (w : CtxId) (k : Fin 4) (s : State) : Out := .next (portWriteCmd s w (4 + k) 5 0)
/-- LATCH (R296). -/
def execStitchLatch (w : CtxId) (k : Fin 4) (s : State) : Out := .next (portWriteCmd s w (4 + k) 6 0)
/-- SIDING of a port (R298). -/
def execPortSiding (w : CtxId) (p : Fin 8) (s : State) : Out := .next (portWriteCmd s w p 0xE 0)
/-- REJOIN of a port (R299). -/
def execPortRejoin (w : CtxId) (p : Fin 8) (s : State) : Out := .next (portWriteCmd s w p 0xF 0)

/-! ## Die states, resets, handshake (R300 to R302) -/

/-- A matrix port takes its limp state: the last copied table at ldim × 256; a port that is not enabled holds no lines to scan and keeps as it is, as
one in siding does (DESIGN CHOICE, log entry 78). -/
def matLimp (s : State) (m : Nat) : State :=
  if (s.mat m).own && ! s.bit (LED_P_STATUS_siding m) then
    let x := s.mat m
    s.modMat m fun _ => { x with limp := true, scan := true, line := if x.scan then x.line else none }
  else s

/-- The sinks and the matrix port of die `d` react by class: `f` says what class 0, 1 or 2 does (R300). -/
def ledByClass (s : State) (d : Nat) (f : Nat → SinkMode) (act : Nat → Bool) : State :=
  let s := (List.range 24).foldl (fun s i =>
    let k := 24 * d + i
    let c := s.get (LED_K_CFG_class k)
    if act c then sinkMode s k (f c) else s) s
  let c := s.get (LED_M_CFG_class d)
  if act c then (match f c with | .limp => matLimp s d | _ => matBlank s d) else s

/-- At Held: class Off switches off, class Limp takes its limp state (R300). -/
def ledSilent (s : State) (d : Nat) : State := ledByClass s d (fun c => if c = 2 then .limp else .off) (fun c => c != 0)
/-- At expiry: class Hold takes its limp state (R300). -/
def ledExpire (s : State) (d : Nat) : State := ledByClass s d (fun _ => .limp) (fun c => c == 0)
/-- A safe frame: sinks and matrix port take their limp state, whatever their class (R300). -/
def ledSafe (s : State) (d : Nat) : State := ledByClass s d (fun _ => .limp) (fun _ => true)
/-- In Off every sink of a die opens (R302). -/
def ledOff (s : State) (d : Nat) : State :=
  matBlank ((List.range 24).foldl (fun s i => sinkMode s (24 * d + i) .off) s) d
/-- Every stitch latch land low: a reset, Park (R58, R301). -/
def stitchLow (m : SMap Stitch) : SMap Stitch := (m.map fun e => (e.1, { e.2 with lat := false })).filter fun e => decide (e.2 ≠ Stitch.init)

/-- The die part of the LED registers and sinks at reset: when the die's domain comes on (R279, R251). -/
def ledDieReset (s : State) (d : Nat) : State :=
  let s := { s with regs := SMap.clear (SMap.clear s.regs (LED_K_SET (24 * d)).addr (0x10 * 24)) (LED_DIE_FREQ d).addr 0x20 }
  let s := s.wr (LED_M_CFG d) (LED_M_CFG d).reset
  let s := s.modMat d fun x => { Mat.init with copies := x.copies }
  s.modLed fun l => { l with sinks := SMap.clear l.sinks (24 * d) 24,
                             factorA := if d = 0 then 1 else l.factorA, factorB := if d = 0 then l.factorB else 1 }

/-- Whether a shift runs or a swap waits (R302). -/
def ledBusy (s : State) : Bool :=
  ((List.range 4).any fun k => (s.st k).phase == .shifting || s.bit (LED_P_STATUS_pend (4 + k))) ||
    s.bit (LED_P_STATUS_pend 2) || s.bit (LED_P_STATUS_pend 3)

/-- The answer of LED in the entry handshake (R302). -/
def ledAnswer (s : State) (park : Bool) : HsAns :=
  if ! park then .ack
  else if [0, 1].any fun m => (s.mat m).own && ! s.bit (LED_P_STATUS_siding m) then .refuse 0x20
  else if (List.range 48).any fun k => ! isColumn s k && (s.die (sinkDie k)).on && dieState s (sinkDie k) != 1 &&
      (s.sink k).duty != 0 && (s.sink k).duty != 4096 then .refuse 0x21
  else if ledBusy s then (if s.pwr.expired.contains 3 then .refuse 0x22 else .delay)
  else .ack

end Sys2Proof.Machine
end

