-- ==== Sys2Proof/Machine/Tasks.lean ====
section
/-! DEFINITION. Contexts, frames, lanes and inputs (R115 to R123, R151 to R170): the shared operations of dispatching, stopping and
delivering events. -/
namespace Sys2Proof.Machine
open Sys2Proof Reg

/-! ## Core pairs and lanes -/

/-- TSK_PAIR_STATE of pair `p`: 0 Traffic; 1 Siding, testing; 2 Siding, test passed; 3 Siding, test failed. -/
def pairState (s : State) (p : Nat) : Nat := getBits (s.rd TSK_PAIR_STATE) (4 * p + 3) (4 * p)
/-- The state with a pair's state set. -/
def setPairState (s : State) (p v : Nat) : State := s.wr TSK_PAIR_STATE (setBits (s.rd TSK_PAIR_STATE) (4 * p + 3) (4 * p) v)
/-- Whether pair `p` is in traffic. -/
def pairUp (s : State) (p : Nat) : Bool := pairState s p == 0
/-- The pairs in traffic, ascending. -/
def pairsUp (s : State) : List Nat := (List.range 8).filter (pairUp s)

/-- The contexts Resident on pair `p`. -/
def residents (s : State) (p : Nat) : List Nat :=
  (s.cpu.ctxs.filter fun e => e.2.mode = .resident ∧ e.2.cur = p).map (·.1)
/-- The contexts Ready whose current pair is `p`. -/
def readies (s : State) (p : Nat) : List Nat := (s.cpu.ctxs.filter fun e => e.2.mode = .ready ∧ e.2.cur = p).map (·.1)
/-- The number of Resident contexts (TSK_STATUS.resident). -/
def residentCount (s : State) : Nat := (s.cpu.ctxs.filter fun e => e.2.mode = .resident).length

/-- The lowest free lane of a pair in traffic. -/
def freeLane (s : State) (p : Nat) : Option Nat :=
  if pairUp s p then (List.range 4).find? fun l => ((residents s p).all fun c => (s.ctx c).lane ≠ l) else none

/-- The best of a list under an order in which the earlier element wins a tie. -/
def best (better : Nat → Nat → Bool) : List Nat → Option Nat
  | [] => none
  | x :: xs =>
    match best better xs with
    | none => some x
    | some y => if better y x then some y else some x

/-- The Ready context of a pair that gets a freed lane: highest priority, then Ready longest, then lowest number (R155). -/
def nextReady (s : State) (p : Nat) : Option Nat :=
  best (fun a b => s.prio b < s.prio a || (s.prio a == s.prio b && (s.ctx a).readySince < (s.ctx b).readySince)) (readies s p)

/-- The resident an arriving context evicts: lowest priority, strictly below the arriving one's, then Resident longest, then lowest
number; never the stationmaster (R156). -/
def victim (s : State) (p prio : Nat) : Option Nat :=
  best (fun a b => s.prio a < s.prio b || (s.prio a == s.prio b && (s.ctx a).residentSince < (s.ctx b).residentSince))
    ((residents s p).filter fun c => c ≠ 0 ∧ s.prio c < prio)

/-! ## Landing results (R98 to R102) -/

/-- A result written into the registers. -/
def landReg (r : CRegs) : Target → CRegs
  | .g n v => if n = 0 then r else { r with g := SMap.set 0 r.g n v }
  | .pred m v => { r with p := ((r.p &&& ~~~ m) ||| (v &&& m)) ||| 1 }
  | .acc i v ov => if i = 0 then { r with a0 := v, ov0 := r.ov0 || ov } else { r with a1 := v, ov1 := r.ov1 || ov }
  | .csw a c0 c1 => { r with accsat := a, ov0 := r.ov0 && ! c0, ov1 := r.ov1 && ! c1 }
  | .rdyClear n => { r with qrdy := r.qrdy &&& ~~~ (1#4 <<< n) }

/-- Whether a target is a control move, which lands before the accumulator results of its issue (R114). -/
def Target.isCsw : Target → Bool
  | .csw _ _ _ => true
  | _ => false

/-- The results due now written, control moves first (R114), else in the order in which they were issued (R99). -/
def landAll (r : CRegs) (l : List Landing) : CRegs :=
  let l := l.map (·.tgt)
  ((l.filter Target.isCsw) ++ (l.filter fun t => ! t.isCsw)).foldl landReg r

/-- A store enters data SRAM (R93, R102): a whole word renews the check bits; a narrower store into a word with a correctable error
corrects it, and into a word with an uncorrectable error leaves it marked. -/
def enterStore (s : State) (c : Nat) (p : PendStore) : State :=
  let w := p.addr / 4
  let mark := SMap.get 0 s.cpu.dmemErr w
  if dSize ≤ p.addr then s
  else
    let s := s.setDBytes p.addr p.be p.data
    let setMark (s : State) (m : Nat) : State := { s with cpu := { s.cpu with dmemErr := SMap.set 0 s.cpu.dmemErr w m } }
    if p.be = 0xF then setMark s 0
    else if mark = 1 then (setMark s 0).raise 7
    else if mark = 2 then s.raise 8 (BitVec.ofNat 32 c)
    else s

/-- One own issue of context `c` begins: every result and store comes one issue nearer, and those at zero land (R98, R102). -/
def tick (s : State) (c : Nat) : State :=
  let x := s.ctx c
  let lands := x.regs.lands.map fun l => { l with rem := l.rem - 1, fresh := false }
  let stores := x.regs.stores.map fun p => { p with rem := p.rem - 1, fresh := false }
  let r := landAll x.regs (lands.filter fun l => l.rem = 0)
  let s := s.setCtx c { x with regs := { r with lands := lands.filter fun l => l.rem ≠ 0, stores := stores.filter fun p => p.rem ≠ 0 } }
  (stores.filter fun p => p.rem = 0).foldl (fun s p => enterStore s c p) s

/-- What would land at the next issue lands now (R116): at a swap-out or a commit. -/
def landNext (s : State) (c : Nat) : State :=
  let x := s.ctx c
  let r := landAll x.regs (x.regs.lands.filter fun l => l.rem ≤ 1)
  let s := s.setCtx c { x with regs :=
    { r with lands := x.regs.lands.filter fun l => 1 < l.rem, stores := x.regs.stores.filter fun p => 1 < p.rem } }
  (x.regs.stores.filter fun p => p.rem ≤ 1).foldl (fun s p => enterStore s c p) s

/-- Every packet already issued completes (R121, step 2): three issues' worth of landings. -/
def flush (s : State) (c : Nat) : State := tick (tick (tick s c) c) c

/-! ## Frames (R115 to R119) -/

/-- The CSW word of the registers, with the flags of a taken transfer (R122). -/
def cswWord (r : CRegs) : Word :=
  BitVec.ofNat 32 (b2n r.accsat * 2 + b2n r.ov0 * 4 + b2n r.ov1 * 8 + b2n r.branch.isSome * 256
    + (match r.branch with | some t => b2n t.wait * 512 | none => 0) + r.qrdy.toNat * 4096)

/-- The target code of a pending result (R117). -/
def Target.code : Target → Nat
  | .g n _ => n
  | .pred _ _ => 0x20
  | .acc i _ _ => 0x30 + i
  | .csw _ _ _ => 0xFF
  | .rdyClear _ => 0xFF

/-- The four words of a pending result entry (R117). -/
def entryWords (l : Landing) : List Word :=
  let w0 := BitVec.ofNat 32 (2 ^ 31 + (l.rem - 1) * 65536 + l.tgt.code)
  match l.tgt with
  | .g _ v => [w0, v, 0, 0]
  | .pred m v => [w0, BitVec.ofNat 32 (m.toNat / 2 * 512 + (v &&& m).toNat), 0, 0]
  | .acc _ v ov => [w0, v.setWidth 32, (v >>> 32).setWidth 32, BitVec.ofNat 32 ((v >>> 64).toNat + b2n ov * 256)]
  | _ => [0, 0, 0, 0]

/-- Words written to a frame from word `w` on. -/
def setFrames (s : State) (c w : Nat) : List Word → State
  | [] => s
  | v :: vs => setFrames (s.setFrame c w v) c (w + 1) vs

/-- The commit count of a frame (R170), one up. -/
def countCommit (s : State) (c : Nat) : State :=
  (s.setFrame c 0x3B (s.frame c 0x3B + 1)).modCtx c fun x => { x with committedAct := bitOf (s.frame c 0x3A) 31 }

/-- The frame of context `c` written from its registers (R115, R116); `exc` gives EXC_CAUSE, EXC_PC and EXC_ADDR.
A pending store shows its aligned word and its data in their lanes (DESIGN CHOICE, log entry 84). -/
def writeFrame (s : State) (c : Nat) (exc : Word × Word × Word) : State :=
  let r := (s.ctx c).regs
  let g (n : Nat) : Word := if n = 0 then 0 else SMap.get 0 r.g n
  let a (v : Acc) : List Word := [v.setWidth 32, (v >>> 32).setWidth 32, (v >>> 64).setWidth 32]
  let es := r.lands.map entryWords
  let e (i : Nat) : List Word := es.getD i [0, 0, 0, 0]
  let st : List Word :=
    match r.stores with
    | p :: _ => [BitVec.ofNat 32 (2 ^ 31 + (p.rem - 1) * 65536 + p.be.toNat), BitVec.ofNat 32 p.addr, p.data, 0]
    | [] => [0, 0, 0, 0]
  let s := setFrames s c 0 ((List.range 16).map g)
  let s := setFrames s c 0x10 (a r.a0 ++ a r.a1)
  let s := setFrames s c 0x16 ((List.range 4).map fun n => SMap.get 0 r.q n)
  let s := setFrames s c 0x1A [r.p.setWidth 32 ||| 1, BitVec.ofNat 32 r.pc, cswWord r, exc.1, exc.2.1, exc.2.2,
    BitVec.ofNat 32 (match r.branch with | some t => t.target | none => 0), 0, 0, 0]
  let s := setFrames s c 0x24 (e 0 ++ e 1 ++ e 2 ++ e 3 ++ st)
  countCommit s c

/-- The frame written with no stop in it (R120, cause 0x00). -/
def commitFrame (s : State) (c : Nat) : State := writeFrame (landNext s c) c (0, s.frame c 0x1E, 0)

/-- A pending result read from a frame (R117, R119): an entry with an unlisted target code is invalid. -/
def entryOf (w0 w1 w2 w3 : Word) : Option Landing :=
  let cnt := getBits w0 23 16
  let rem := (if cnt = 1 ∨ cnt = 2 then cnt else 1) + 1
  let code := getBits w0 7 0
  if bitOf w0 31 then
    if code < 16 then some ⟨rem, false, .g code w1⟩
    else if code = 0x20 then some ⟨rem, false, .pred (BitVec.ofNat 8 (getBits w1 15 9 * 2)) (w1.setWidth 8)⟩
    else if code = 0x30 ∨ code = 0x31 then
      some ⟨rem, false, .acc (code - 0x30) ((w3.setWidth 8) ++ w2 ++ w1) (bitOf w3 8)⟩
    else none
  else none

/-- The registers read from a frame at swap-in. -/
def readFrame (s : State) (c : Nat) : CRegs :=
  let f := s.frame c
  let acc (w : Nat) : Acc := ((f (w + 2)).setWidth 8) ++ f (w + 1) ++ f w
  let csw := f 0x1C
  let cnt := getBits (f 0x34) 23 16
  { g := (List.range 15).foldl (fun m i => SMap.set 0 m (i + 1) (f (i + 1))) [],
    p := (f 0x1A).setWidth 8 ||| 1, a0 := acc 0x10, a1 := acc 0x13,
    q := (List.range 4).foldl (fun m i => SMap.set 0 m i (f (0x16 + i))) [],
    qrdy := BitVec.ofNat 4 (getBits csw 15 12), accsat := bitOf csw 1, ov0 := bitOf csw 2, ov1 := bitOf csw 3,
    pc := getBits (f 0x1B) 20 1 * 2,
    branch := if bitOf csw 8 then some ⟨getBits (f 0x20) 20 1 * 2, bitOf csw 9⟩ else none,
    lands := (List.range 4).filterMap fun i => entryOf (f (0x24 + 4 * i)) (f (0x25 + 4 * i)) (f (0x26 + 4 * i)) (f (0x27 + 4 * i)),
    stores := if bitOf (f 0x34) 31 then
      [⟨(if cnt = 1 ∨ cnt = 2 then cnt else 1) + 1, false, (f 0x35).toNat / 4 * 4, (f 0x34).setWidth 4, f 0x36⟩] else [] }

/-- The creation state of R95 written into a frame, at the entry address of TSK_CTX_ENTRY (bit 0 ignored). -/
def createFrame (s : State) (c entry : Nat) : State :=
  let s := setFrames s c 0 (List.replicate 0x1A 0)
  let s := setFrames s c 0x1A [1, BitVec.ofNat 32 (entry / 2 * 2 % 2 ^ 21), 2, 0, 0, 0, 0]
  setFrames s c 0x21 (List.replicate 0x17 0)

/-- Whether the activation of context `c` is unfinished: bit 31 of frame word 0xE8 (R170). -/
def inact (s : State) (c : Nat) : Bool := bitOf (s.frame c 0x3A) 31

/-! ## Inputs (R158 to R162) -/

/-- Input `i` of a context. -/
def Ctx.inp (x : Ctx) (i : Nat) : Inp := match i with | 0 => x.in0 | 1 => x.in1 | 2 => x.in2 | _ => x.in3
/-- The context with input `i` replaced. -/
def Ctx.setInp (x : Ctx) (i : Nat) (v : Inp) : Ctx :=
  match i with
  | 0 => { x with in0 := v } | 1 => { x with in1 := v } | 2 => { x with in2 := v } | _ => { x with in3 := v }
/-- The lowest-numbered non-empty input. -/
def Ctx.firstInp (x : Ctx) : Option Nat := (List.range 4).find? fun i => ! (x.inp i).q.isEmpty
/-- Whether input `i` of context `c` is latest-only (R159). -/
def latest (s : State) (c i : Nat) : Bool := bitOf (s.rd (TSK_CTX_INMODE c)) i

/-- The event word (R161). -/
def evWord (i count : Nat) (e : Ev) : Word :=
  BitVec.ofNat 32 (i % 4 * 2 ^ 30 + count % 64 * 2 ^ 24 + e.src % 1024 * 2 ^ 14 + e.pay % 16384)

/-- The input that the next activation serves: the one whose event R167 delivers again, else the lowest-numbered non-empty one (R158). -/
def Ctx.nextInp (x : Ctx) : Option Nat := (x.again.filter fun i => ! (x.inp i).q.isEmpty).or x.firstInp

/-- The event word with which input `i` of context `c` is delivered (R161). An event delivered before (R167) has the word that its first
delivery left in frame word 0xE0 (DEDUCED, log entry 64). -/
def wordAt (s : State) (c i : Nat) : Word :=
  let inp := (s.ctx c).inp i
  if (s.ctx c).again = some i ∧ (inp.delivered ∨ latest s c i = false) then s.frame c 0x38
  else evWord i (if latest s c i && ! inp.delivered then inp.count else 0) (inp.q.headD ⟨0, 0⟩)

/-- An activation begins with the oldest event of the lowest-numbered non-empty input (R158), or with the event that R167 delivers again: q3,
its flag and frame word 0xE0 take the event word; a latest-only input's count returns to 0. -/
def startActivation (s : State) (c : Nat) : State :=
  let x := s.ctx c
  match x.nextInp with
  | none => s
  | some i =>
    let inp := x.inp i
    let w := wordAt s c i
    let r := { x.regs with q := SMap.set 0 x.regs.q 3 w, qrdy := x.regs.qrdy ||| 8,
                           lands := x.regs.lands.filter fun l => l.tgt ≠ .rdyClear 3 }
    let n := if inp.q.length < 2 then 0 else inp.count
    let s := s.setCtx c (({ x with regs := r, serving := some i, again := none }).setInp i { inp with count := n, delivered := true })
    let s := s.setFrame c 0x38 w
    let s := s.setFrame c 0x39 (s.frame c 0x39 + 1)
    s.setFrame c 0x3A (BitVec.ofNat 32 (2 ^ 31 + i))

/-- The event in service is retired by the WAIT that ends its activation (R158, R159): on a latest-only input only if no event has
arrived since it was delivered; a ledger event that is kept in service ahead of a later event goes (log entry 65). -/
def retire (s : State) (c : Nat) : State :=
  let x := s.ctx c
  let s := s.setFrame c 0x3A (setBits (s.frame c 0x3A) 31 31 0)
  match x.serving with
  | none => s
  | some i =>
    let inp := x.inp i
    let inp' := if latest s c i then (if inp.delivered then (if inp.q.length < 2 then Inp.none else ⟨inp.q.tail, inp.count, false⟩) else inp) else { inp with q := inp.q.tail, delivered := false }
    s.setCtx c ({ x with serving := none }.setInp i inp')

/-! ## Packets -/

/-- The open packet is issued whole: the program counter moves on (R84, R85, R88, R103), and a transfer taken earlier takes effect
after this delay packet. -/
def closePacket (s : State) (c : Nat) : State :=
  let x := s.ctx c
  match x.packet with
  | none => s
  | some k =>
    let r := x.regs
    match r.branch with
    | some t => s.setCtx c { x with packet := none, ended := t.wait, regs := { r with pc := t.target, branch := none } }
    | none =>
      if k.void then s.setCtx c { x with packet := none }
      else s.setCtx c { x with packet := none, regs := { r with pc := (r.pc + 2) % 2 ^ 21, branch := k.taken } }

/-! ## Lanes: swaps, eviction, dispatch (R152 to R157) -/

/-- A context takes a lane: its swap-in starts, and its frame is committed as it stands (R167). -/
def toResident (s : State) (c p lane : Nat) : State :=
  let s := countCommit s c
  s.modCtx c fun x => { x with mode := .resident, cur := p, lane := lane, swapping := true, ended := false, packet := none,
                               residentSince := s.cpu.stamp }

/-- A freed lane goes to the Ready context of R155. -/
def laneFree (s : State) (p : Nat) : State :=
  match freeLane s p, nextReady s p with
  | some l, some c => toResident s c p l
  | _, _ => s

/-- The pair that R167 chooses for a context: its alternate pair if that is in traffic, else the lowest in traffic. -/
def altPair (s : State) (c : Nat) : Nat :=
  let alt := s.get (TSK_CTX_CFG_alt c)
  if pairUp s alt then alt else (pairsUp s).headD (s.ctx c).cur

/-- The pair a context starts an activation on (R154, R169): its home pair while that is in traffic, else the pair chosen under R167. -/
def homeOr (s : State) (c : Nat) : Nat :=
  let h := s.get (TSK_CTX_CFG_pair c)
  if pairUp s h then h else if pairUp s (s.ctx c).cur then (s.ctx c).cur else altPair s c

/-- A swap-out (R116): the open packet is issued whole, an activation whose WAIT has completed ends, the frame is written unless the
context was still being swapped in, and the context takes its next state; where its activation has ended, its current pair becomes the one
on which the next starts (R169). In word 0xEC (R170) a WAIT with the swap-out that follows it counts
one commit, and an eviction from a swap-in none, since the frame stands as that swap-in committed it (DESIGN CHOICE, log entry 66). -/
def swapOut (s : State) (c : Nat) (m : CtxMode) : State :=
  let s := closePacket s c
  let fin := (s.ctx c).ended
  let s := if fin then retire s c else s
  let m := if fin && ((s.ctx c).firstInp).isNone then .waiting else m
  let s := if (s.ctx c).swapping then s else commitFrame s c
  let p := if fin then homeOr s c else (s.ctx c).cur
  s.modCtx c fun x => { x with mode := m, cur := p, swapping := false, ended := false, packet := none, regs := CRegs.init, readySince := s.cpu.stamp }

/-- A context that has no current pair yet, or whose configuration is written, takes the pair of R154. -/
def placeCtx (s : State) (c : Nat) : State :=
  let h := s.get (TSK_CTX_CFG_pair c)
  s.modCtx c fun x => { x with cur := if pairUp s h then h else altPair s c }

/-- A resident evicted, Ready, for a context that takes its lane (R156). An evicted context whose activation had ended may find a free lane on
the pair on which its next one starts (R155, R169). -/
def evict (s : State) (v c p : Nat) : State :=
  let s := toResident (swapOut s v .ready) c p (s.ctx v).lane
  if (s.ctx v).mode = .ready ∧ (s.ctx v).cur ≠ p then laneFree s (s.ctx v).cur else s

/-- A context with work to do arrives at a pair: a free lane, an eviction, or Ready (R152, R156). -/
def arrive (s : State) (c p : Nat) : State :=
  match freeLane s p with
  | some l => toResident s c p l
  | none =>
    match (if pairUp s p then victim s p (s.prio c) else none) with
    | some v => evict s v c p
    | none => s.modCtx c fun x => { x with mode := .ready, cur := p, readySince := s.cpu.stamp }

/-- An event enters input `i` of context `c` (R159, R162): dropped and counted at an Empty context or a full queue; coalesced on a
latest-only input, where a ledger event stays until its activation has ended (R220, log entry 65); a Waiting context is dispatched. -/
def deliver (s : State) (c i : Nat) (e : Ev) : State :=
  let x := s.ctx c
  if x.mode = .empty then s.count TSK_UNROUTED_count
  else
    let inp := x.inp i
    let dispatch (s : State) : State := if x.mode = .waiting then arrive s.stamped c (homeOr s c) else s
    if latest s c i then
      let up := if inp.count < 63 then inp.count + 1 else 63
      let ledger := inp.q.head?.filter fun x => decide (x.src < 512)
      let inp' : Inp := match inp.delivered, ledger with
        | true, some x => ⟨[x, e], if inp.q.length < 2 then 0 else up, true⟩
        | false, some x => ⟨[x], up, false⟩
        | true, none => ⟨[e], 0, false⟩
        | false, none => ⟨[e], if inp.q.isEmpty then 0 else up, false⟩
      dispatch (s.setCtx c (x.setInp i inp'))
    else if inp.q.length < 8 then dispatch (s.setCtx c (x.setInp i { inp with q := inp.q ++ [e] }))
    else
      let v := getBits (s.rd (TSK_CTX_INOVF c)) (8 * i + 7) (8 * i)
      s.wr (TSK_CTX_INOVF c) (setBits (s.rd (TSK_CTX_INOVF c)) (8 * i + 7) (8 * i) (satInc 8 v))

/-- Whether an event of this source would find a free entry at input `i` of context `c`. -/
def inputFree (s : State) (c i : Nat) : Bool :=
  let inp := (s.ctx c).inp i
  if latest s c i then inp.q.isEmpty else inp.q.length < 8

/-- An event reaches its input by its own naming or by its route (R162). -/
def routeEvent (s : State) (m : EvMsg) : State :=
  let e : Ev := ⟨m.src, m.pay⟩
  if m.src = 765 then deliver s 0 3 e
  else
    match m.dst with
    | some (c, i) => deliver s c i e
    | none =>
      if s.bit (TSK_ROUTE_valid m.src) then deliver s (s.get (TSK_ROUTE_ctx m.src)) (s.get (TSK_ROUTE_input m.src)) e
      else s.count TSK_UNROUTED_count

/-! ## Open packets -/

/-- The open packet discarded: neither slot has any effect (R121, step 1). -/
def dropPacket (s : State) (c : Nat) : State :=
  s.modCtx c fun x => { x with packet := none, regs := { x.regs with lands := x.regs.lands.filter (! ·.fresh),
                                                                     stores := x.regs.stores.filter (! ·.fresh) } }

/-! ## Stopping (R120 to R123) -/

/-- A Resident context that has begun to issue stops at the packet at its program counter, in the state `m`. -/
def stopRunning (s : State) (c cause : Nat) (addr : Word) (m : CtxMode) : State :=
  let s := if (s.ctx c).ended then retire s c else s
  let s := flush s c
  let x := s.ctx c
  let s := writeFrame s c (BitVec.ofNat 32 cause, BitVec.ofNat 32 x.regs.pc, addr)
  let s := s.setCtx c { x with mode := m, packet := none, ended := false, bound := none, regs := CRegs.init }
  laneFree s.stamped x.cur

/-- A context that holds no live registers stops: only the stop fields of its frame are written (R121). -/
def stopIdle (s : State) (c cause : Nat) (m : CtxMode) : State :=
  let x := s.ctx c
  let s := setFrames s c 0x1D [BitVec.ofNat 32 cause, s.frame c 0x1B, 0]
  let s := s.setCtx c { x with mode := m, swapping := false, ended := false, bound := none }
  s

/-- A stop commanded from outside the context (causes 0x05 and 0x06): the packet already begun is issued whole first; one still being
swapped in stops with the registers of its frame, what it had issued before completing (R121, R152). -/
def stopCtx (s : State) (c cause : Nat) (m : CtxMode) : State :=
  let x := s.ctx c
  match x.mode with
  | .resident =>
    if x.swapping then stopRunning (s.setCtx c { x with swapping := false, regs := readFrame s c }) c cause 0 m
    else stopRunning (closePacket s c) c cause 0 m
  | .waiting => stopIdle s c cause m
  | .ready => stopIdle s c cause m
  | .stopped => s.setCtx c { x with mode := m }
  | .siding => s
  | .empty => s

/-- A context's own stopping cause (R120, R121): the open packet has no effect in either slot. -/
def stopSelf (s : State) (c cause : Nat) (addr : Word) : State := stopRunning (dropPacket s c) c cause addr .stopped

/-! ## Creation, restart, siding of pairs -/

/-- A context in its creation state: Ready when an input holds an event, else Waiting (R152, RESTART). -/
def restartCtx (s : State) (c : Nat) : State :=
  let s := s.removeItemsOf c
  let s := createFrame s c (s.get (TSK_CTX_ENTRY_pc c))
  let s := s.setFrame c 0x3A 0
  let s := s.modCtx c fun x => { x with mode := .waiting, serving := none, again := none, bound := none, regs := CRegs.init, swapping := false, ended := false }
  if ((s.ctx c).firstInp).isSome then
    let s := s.stamped
    laneFree (s.modCtx c fun x => { x with mode := .ready, cur := homeOr s c, readySince := s.cpu.stamp }) (homeOr s c)
  else s

/-- A context created, Waiting (R95, R152), its dispatcher words 0 (DESIGN CHOICE, log entry 84). -/
def createCtx (s : State) (c : Nat) : State :=
  let s := createFrame s c (s.get (TSK_CTX_ENTRY_pc c))
  let s := setFrames s c 0x38 [0, 0, 0, 0]
  placeCtx (s.setCtx c { Ctx.init with mode := .waiting }) c

/-- One context of a failing pair: Ready from its last committed frame (an activation begun after that commit begins again, with the same
event), its uncommitted items removed, moved to its alternate pair or the lowest in traffic (R167, R186). -/
def moveOff (s : State) (c : Nat) : State :=
  let x := s.ctx c
  let dest := altPair s c
  let s := s.removeUncommitted c
  let res := x.mode = .resident
  let undo := res && inact s c && ! x.committedAct
  let s := if undo then s.setFrame c 0x3A (setBits (s.frame c 0x3A) 31 31 0) else s
  s.modCtx c fun y => { y with cur := dest, mode := if res then .ready else y.mode, swapping := false, ended := false, packet := none,
                               regs := CRegs.init, serving := if undo then none else y.serving,
                               again := if undo then x.serving else y.again,
                               readySince := if res then s.cpu.stamp else y.readySince }

/-- The contexts whose current pair is `p`, context 0 first. -/
def ctxsOn (s : State) (p : Nat) : List Nat := (s.cpu.ctxs.filter fun e => e.2.mode ≠ .empty ∧ e.2.cur = p).map (·.1)

/-- The moved contexts that are Ready, in the order in which they are given lanes: highest priority first, then Ready longest, then
lowest number (R155, R167). -/
def readyOrder (s : State) (cs : List Nat) : List Nat :=
  cs.foldl (fun l c => (l.takeWhile fun d => s.prio c < s.prio d || (s.prio c == s.prio d && (s.ctx d).readySince ≤ (s.ctx c).readySince))
    ++ [c] ++ (l.dropWhile fun d => s.prio c < s.prio d || (s.prio c == s.prio d && (s.ctx d).readySince ≤ (s.ctx c).readySince))) []

/-- A context that is Ready without a free lane evicts as an arriving event would (R156, R167). -/
def evictFor (s : State) (c : Nat) : State :=
  let p := (s.ctx c).cur
  match (s.ctx c).mode, (if pairUp s p then victim s p (s.prio c) else none) with
  | .ready, some v => evict s v c p
  | _, _ => s

/-- The free lanes of a pair given to its Ready contexts (R155). -/
def fillLanes (s : State) (p : Nat) : State := laneFree (laneFree (laneFree (laneFree s p) p) p) p

/-- Pair `p` enters siding: its contexts move, the Resident ones restart from their last committed frames (R167); lanes are given under
R155, and those that became Ready evict under R156, context 0 first; the pair self-test runs (R169). -/
def pairSiding (s : State) (p : Nat) : State :=
  let cs := ctxsOn s p
  let fresh := cs.filter fun c => (s.ctx c).mode = .resident
  let s := setPairState s.stamped p 1
  let s := cs.foldl (fun s c => moveOff s c) s
  let s := (List.range 8).foldl fillLanes s
  (readyOrder s fresh).foldl evictFor s

/-- The end of an activation after a WAIT's delay packet (R139, R152). A context that returns to its home pair (R169) and finds no free lane
there evicts a resident of lower priority, as an event that arrives at a Waiting context does (DESIGN CHOICE, log entry 67). -/
def endActivation (s : State) (c : Nat) : State :=
  let s := retire s.stamped c
  let s := s.modCtx c fun x => { x with ended := false }
  let p := (s.ctx c).cur
  if ((s.ctx c).firstInp).isSome then
    if homeOr s c ≠ p then
      laneFree (arrive (swapOut s c .ready) c (homeOr s c)) p
    else if (readies s p).any fun d => s.prio c < s.prio d then laneFree (swapOut s c .ready) p
    else startActivation (commitFrame s c) c
  else laneFree (swapOut s c .waiting) p

end Sys2Proof.Machine
end

