-- ==== Sys2Proof/Machine/Ledger.lean ====
section
/-! DEFINITION. The command ledger (R210 to R249, R545): ZLP frames, submissions, admission, the journal, presentation, completion and
recovery. -/
namespace Sys2Proof.Machine
open Sys2Proof Reg

/-- The ledger part of the state changed. -/
def State.modLdg (s : State) (f : LdgSt → LdgSt) : State := { s with ldg := f s.ldg }

/-! ## Tracks -/

/-- The handles of the tickets of track `n`, in handle order. -/
def heldOf (s : State) (n : Nat) : List Nat := (s.ldg.tickets.filter fun e => e.2.track = n).map (·.1)
/-- The admission queue of track `n`. -/
def queueOf (s : State) (n : Nat) : List Sub := SMap.get [] s.ldg.queues n
/-- The admission queue of a track replaced. -/
def setQueue (s : State) (n : Nat) (q : List Sub) : State := s.modLdg fun l => { l with queues := SMap.set [] l.queues n q }
/-- All submissions queued. -/
def queuedAll (s : State) : Nat := (s.ldg.queues.map fun e => e.2.length).sum
/-- The credit of a track: 0 acts as 1, values above 4,096 as 4,096. -/
def creditOf (s : State) (n : Nat) : Nat := max 1 (min 4096 (s.get (LDG_TRK_CFG_credit n)))
/-- The depth of a track: 0 acts as 1, values above 8 as 8. -/
def depthOf (s : State) (n : Nat) : Nat := max 1 (min 8 (s.get (LDG_TRK_CFG_depth n)))
/-- The judging sequence e (R212). -/
def judging (s : State) (n : Nat) : Word := s.expected n + BitVec.ofNat 32 (queueOf s n).length
/-- The free ticket slots. -/
def freeTickets (s : State) : Nat := 4096 - s.ldg.tickets.length
/-- Whether a session owns a track. -/
def owns (s : State) (k n : Nat) : Bool := bitOf (s.rd (LDG_TRK_OWNERS n)) k

/-! ## Frames and sessions (R233 to R236) -/

/-- Session `k`'s counters. -/
def State.sess (s : State) (k : Nat) : Sess := SMap.get Sess.init s.ldg.sessions k
/-- The session's counters replaced. -/
def State.setSess (s : State) (k : Nat) (x : Sess) : State := s.modLdg fun l => { l with sessions := SMap.set Sess.init l.sessions k x }

/-- The session that a frame names, if it is enabled on the arrival link (R234). -/
def sessionOf (s : State) (h : ZHdr) : Option Nat :=
  (List.range 16).find? fun k =>
    s.rd (LDG_SESS_ID k) == h.sid && s.bit (LDG_SESS_CFG_en k) &&
      (match h.link with | .bb0 => s.bit (LDG_SESS_CFG_bb0 k) | .bb1 => s.bit (LDG_SESS_CFG_bb1 k) | .spi => s.bit (LDG_SESS_CFG_spi k))

/-- Whether a counter is accepted (R236): above the receive floor, and above the highest accepted counter or unseen among the 64 below
it. -/
def ctrFresh (x : Sess) (c : Nat) : Bool :=
  x.floor < c && (! x.any || x.high < c || (x.high - c ≤ 64 && c < x.high && ! x.window.getLsbD (x.high - c - 1)))

/-- The counters after a frame is accepted. -/
def ctrTake (x : Sess) (c : Nat) : Sess :=
  if ! x.any then { x with high := c, any := true, window := 0 }
  else if x.high < c then { x with high := c, window := ((x.window <<< 1) ||| 1) <<< (c - x.high - 1) }
  else { x with window := x.window ||| (1#64 <<< (x.high - c - 1)) }

/-- Whether a link carries ZLP now: a backbone port that is Up (R374, R375); the SPI host port enabled, VIO1 in range, with a frame that a
write transaction has passed (R56, R386 to R388). -/
def linkServes (s : State) : ZLink → Bool
  | .bb0 => s.get (ETH_P_STATUS_state 0) == 2
  | .bb1 => s.get (ETH_P_STATUS_state 1) == 2
  | .spi => s.bit LCL_SPI_en && s.pwr.io1 && s.net.lcl.spiPend != 0

/-- One frame of the SPI host port is answered or dropped: it no longer counts as pending (R388). -/
def spiSettled (s : State) : State :=
  { s with net := { s.net with lcl := { s.net.lcl with spiPend := s.net.lcl.spiPend - 1 } } }

/-- The MAC address of Ethernet port `k`: BB0, BB1, TS0, TS1 (R369). -/
def macOf (k : Nat) : BitVec 48 := BitVec.ofNat 48 ((2 + 4 * k) * 2 ^ 40 + Config.serial.toNat)
/-- The IPv6 address of both ports. -/
def ethIp6 (s : State) : BitVec 128 := s.rd (ETH_IP6 3) ++ s.rd (ETH_IP6 2) ++ s.rd (ETH_IP6 1) ++ s.rd (ETH_IP6 0)

/-- An answer of backbone port `n` to a frame from `dst` with VID `vid` (R373): the same VID with the port's PCP; an IP answer carries the
device's address and a TTL or hop limit of 64. -/
def ethFrameTo (s : State) (n : Nat) (dst : BitVec 48) (vid : Option (BitVec 12)) (dest : Option IpAddr) (udp : Option (Nat × Nat)) (m : EthMsg) :
    EthOut :=
  let ip := dest.map fun a => ((match a with | .v4 _ => IpAddr.v4 (s.rd ETH_IP4) | .v6 _ => IpAddr.v6 (ethIp6 s)), a, 64)
  ⟨n, dst, macOf n, vid.map fun v => (v, s.get (ETH_P_CTRL_pcp n)), ip, udp, m⟩

/-- A frame queued for transmission behind those that wait (R373). -/
def ethQueue (s : State) (f : EthOut) : State := { s with net := { s.net with ethQ := s.net.ethQ ++ [f] } }

/-- Session `k`'s record is asked for, once (R219, R236). -/
def askRecord (s : State) (k : Nat) : State :=
  if s.ldg.sessQ.contains k then s else s.modLdg fun l => { l with sessQ := l.sessQ ++ [k] }

/-- The frame of a ledger answer, to the requester's addresses (R373). -/
def zlpFrame (s : State) (link : ZLink) (src : ZSrc) (m : EthMsg) : EthOut :=
  ethFrameTo s link.port src.mac src.vid (some src.ip) (some (s.get LDG_CTRL_port, src.port.toNat)) m

/-- A number for a request that waits. -/
def newReq (s : State) : Nat × State := (s.ldg.reqId, s.modLdg fun l => { l with reqId := l.reqId + 1 })

/-- An answer that is not complete takes its place in the queue of its port, so that it leaves in the order of the requests (R373). -/
def takePlace (s : State) (link : ZLink) (src : ZSrc) (i : Nat) : State :=
  match link with
  | .spi => s
  | _ => ethQueue s (zlpFrame s link src (.later i))

/-- An answer enters its port's queue: at place `i` if it has one, else last. An answer whose port is not Up, or whose place was discarded with
the port's queue, is discarded and counted (R374, R375). -/
def ethAnswerAt (s : State) (src : ZSrc) (place : Option Nat) (a : ZAns) : State :=
  let f := zlpFrame s a.link src (.zlp a)
  let lost := s.count (ETH_P_COUNT_drop a.link.port)
  let given := s.modLdg fun l => { l with sent := l.sent ++ [a] }
  match place with
  | none => if s.get (ETH_P_STATUS_state a.link.port) = 2 then ethQueue given f else lost
  | some i =>
    if s.net.ethQ.any fun g => g.msg == .later i then
      { given with net := { s.net with ethQ := s.net.ethQ.map fun g => if g.msg = .later i then f else g } }
    else lost

/-- An answer leaves on the link its request came on, with the next send counter (R233, R236, R389); entering a new block of 2^24 calls for a
session record, and an answer in a block that no record holds waits for it. At the SPI host port answers stand in the order in which they are
complete; `place` is the place that an answer of a backbone port holds already. -/
def sendAt (s : State) (link : ZLink) (src : ZSrc) (k : Nat) (body : ZBody) (place : Option Nat) : State :=
  let x := s.sess k
  if x.send / 2 ^ 24 ≠ x.blk then
    let (i, s) := match place with
      | some i => (i, s)
      | none => let (i, s) := newReq s; (i, takePlace s link src i)
    askRecord (s.modLdg fun l => { l with held := l.held ++ [(link, src, k, body, i)] }) k
  else
    let a : ZAns := ⟨link, src, k, s.rd (LDG_SESS_ID k), (keySlot s k).bytes, 2 ^ 63 + x.send, body⟩
    let s := s.setSess k { x with send := x.send + 1 }
    let s := if (x.send + 1) % 2 ^ 24 = 0 then askRecord s k else s
    match link with
    | .spi => spiSettled (s.modLdg fun l => { l with spiQ := l.spiQ ++ [a] })
    | _ => ethAnswerAt s src place a

/-- An answer to the request that is being served. -/
def sendAns (s : State) (link : ZLink) (src : ZSrc) (k : Nat) (body : ZBody) : State := sendAt s link src k body none

/-- Whether every session's start-up record has been written (R236, R246 step 3). -/
def sessionsReady (s : State) : Bool := (List.range 16).all fun k => (s.sess k).ready

/-- A frame is judged (R233, R236, R246 step 3): with LDG_CTRL.en = 0 dropped and not counted; else dropped and counted, or its session
accepts it and `f` serves it; during the journal scan it is answered with ERROR 0x06. -/
def zAccept (s : State) (h : ZHdr) (f : Nat → State → State) : State :=
  let gone := match h.link with | .spi => spiSettled s | _ => s
  if ! ctlReached s || ! linkServes s h.link then s
  else if ! s.bit LDG_CTRL_en then gone
  else
    let drop := gone.count LDG_COUNT_DROP_frames
    match sessionOf s h with
    | none => drop
    | some k =>
      let x := s.sess k
      if h.ver ≠ 1 ∨ ¬ h.lenOk ∨ h.ctr.msb ∨ ¬ h.tagOk ∨ ¬ sessionsReady s ∨ ¬ ctrFresh x h.ctr.toNat then drop
      else
        let s := s.setSess k (ctrTake x h.ctr.toNat)
        if s.bit LDG_STATUS_scanning then sendAns s h.link h.src k (.error 6) else f k s

/-- A frame of a type that is not an update type: the recovery ROM answers it with ERROR 0x05 (R240, R525). -/
def zServe (s : State) (h : ZHdr) (f : Nat → State → State) : State :=
  zAccept s h fun k s => if s.upd.rom then sendAns s h.link h.src k (.error 5) else f k s

/-! ## Submission (R215 to R217, R237) -/

/-- A refusal counted and answered. -/
def refuse (s : State) (e : SubEntry) (v : Nat) (d : Word) : State × Option SubVerdict :=
  (if v = 0x11 then s.count LDG_COUNT_REFUSE_busy else s.count LDG_COUNT_REFUSE_other, some ⟨e.track.toNat, v, 4, e.seq, d⟩)

/-- One submission judged in the order of R215; `none` as verdict means that it waits for an admission record. In the state Stop every
entry that is not Duplicate or Released is refused, fenced (R467). -/
def judgeSub (s : State) (k req idx : Nat) (e : SubEntry) : State × Option SubVerdict :=
  let n := e.track.toNat
  let stop := s.get FLT_STATUS_mode = 2
  let q := queueOf s n
  let tk := (heldOf s n).findSome? fun h => (s.ticket h).bind fun t => if t.seq = e.seq then some t else none
  let free := freeTickets s - queuedAll s
  if 512 ≤ n then refuse s e (if stop then 0x14 else 0x15) 0
  else if ! owns s k n then refuse s e (if stop then 0x14 else 0x12) 0
  else
    match tk with
    | some t => (s, some ⟨n, 0x02, t.st.code, e.seq, if t.st = .done ∨ t.st = .abandoned then BitVec.ofNat 32 t.result else 0⟩)
    | none =>
      if q.any fun u => u.seq = e.seq then
        (setQueue s n (q.map fun u => if u.seq = e.seq then { u with waiters := u.waiters ++ [(req, idx)] } else u), none)
      else if seqEarlier e.seq (s.expected n) then (s, some ⟨n, 0x03, 6, e.seq, 0⟩)
      else if stop || s.isFenced n then refuse s e 0x14 0
      else if ! s.bit (LDG_TRK_CFG_open n) then refuse s e 0x13 0
      else if e.seq ≠ judging s n then refuse s e 0x10 (judging s n)
      else if creditOf s n ≤ (heldOf s n).length + q.length then refuse s e 0x11 1
      else if free = 0 ∨ (free ≤ s.get LDG_CTRL_reserve ∧ ¬ s.bit (LDG_TRK_CFG_safety n)) then refuse s e 0x11 2
      else if 8 ≤ q.length ∨ 64 ≤ queuedAll s then refuse s e 0x11 3
      else if s.ldg.pfw then refuse s e 0x11 4
      else (setQueue s n (q ++ [⟨e.seq, e.pay, [(req, idx)]⟩]), none)

/-- The entries of a SUBMIT judged in order. -/
def judgeAll (s : State) (k req idx : Nat) : List SubEntry → State × List (Option SubVerdict)
  | [] => (s, [])
  | e :: es =>
    let (s, v) := judgeSub s k req idx e
    let (s, vs) := judgeAll s k req (idx + 1) es
    (s, v :: vs)

/-- A SUBMIT that waits is answered once every entry has its verdict (R237). -/
def answerReady (s : State) (r : SubReq) : State :=
  if r.verdicts.all Option.isSome then sendAt s r.link r.src r.sess (.submit (r.verdicts.filterMap id)) (some r.id)
  else s.modLdg fun l => { l with reqs := l.reqs ++ [r] }

/-- `n` entries of a SUBMIT body (R237): track, payload length, sequence, payload padded to a multiple of 4; none where a length is above
48 or the entries do not end with the body. -/
def subEntries : Nat → List Byte → Option (List SubEntry)
  | 0, l => if l.isEmpty then some [] else none
  | n + 1, l =>
    let m := beField l 2 1
    let size := 8 + (m + 3) / 4 * 4
    if 48 < m ∨ l.length < size then none
    else (subEntries n (l.drop size)).map fun es => ⟨BitVec.ofNat 16 (beField l 0 2), BitVec.ofNat 32 (beField l 4 4), (l.drop 8).take m⟩ :: es

/-- The entries of a SUBMIT body (R237): a count from 1 to 16, 3 zero bytes, the entries. -/
def subBody (l : List Byte) : Option (List SubEntry) :=
  let n := beField l 0 1
  if n < 1 ∨ 16 < n ∨ l.length < 4 then none else subEntries n (l.drop 4)

/-- A SUBMIT (R237): a malformed body is answered with ERROR 0x02 and none of its entries is judged. -/
def submit (s : State) (h : ZHdr) (body : List Byte) : State :=
  zServe s h fun k s =>
    match subBody body with
    | none => sendAns s h.link h.src k (.error 2)
    | some es =>
      let (i, s) := newReq s
      let (s, vs) := judgeAll s k i 0 es
      if vs.all Option.isSome then sendAns s h.link h.src k (.submit (vs.filterMap id))
      else answerReady (takePlace s h.link h.src i) ⟨i, h.link, h.src, k, vs⟩

/-- A verdict entered into the answers that wait for it. -/
def fillVerdict (s : State) (ws : List (Nat × Nat)) (v : SubVerdict) : State :=
  let rs := s.ldg.reqs.map fun r => { r with verdicts := r.verdicts.mapIdx fun i o => if ws.contains (r.id, i) then some v else o }
  let s := s.modLdg fun l => { l with reqs := [] }
  rs.foldl answerReady s

/-! ## The journal (R218, R219, R242 to R244) -/

/-- The record at a journal position. -/
def recAt (s : State) (p : Nat) : Option JRec := s.ldg.journal.find p

/-- The track and sequence of a ticket's record. -/
def JRec.ticket : JRec → Option (Nat × Word)
  | .admission t q _ => some (t, q)
  | .completion t q _ _ _ => some (t, q)
  | .session _ _ _ => none

/-- Whether a journal position cannot be read: an uncorrectable MRAM error in its 64 bytes (R246, step 3). -/
def recBad (s : State) (p : Nat) : Bool := mramLost s (0x100000 + 8 * p) 8

/-- The records of the journal that can be read, with their positions. -/
def readableRecs (s : State) : List (Nat × JRec) := s.ldg.journal.filter fun e => ! recBad s e.1

/-- Whether the record at a position is live (R243): what the journal itself shows, which a recovery has before it has rebuilt a ticket, and
what the held tickets show. A record with the latest sequence of its track is the completion record where there is one. A record that cannot be read
says nothing. -/
def recLive (s : State) (r : JRec) : Bool :=
  let rs := (readableRecs s).map (·.2)
  let held (t : Nat) (q : Word) : Bool := (heldOf s t).any fun h => match s.ticket h with | some x => x.seq == q | none => false
  let admitted (t : Nat) (q : Word) : Bool := rs.any fun r' => match r' with | .admission t' q' _ => t' == t && q' == q | _ => false
  let completed (t : Nat) (q : Word) : Bool := rs.any fun r' => match r' with | .completion t' q' _ _ _ => t' == t && q' == q | _ => false
  let last (t : Nat) (q : Word) : Bool := rs.all fun r' => match r'.ticket with | some (t', q') => t' != t || ! seqLater q' q | none => true
  let acked (t : Nat) (q : Word) : Bool := rs.any fun r' => match r' with | .completion t' _ _ _ f => t' == t && ! seqLater q f | _ => false
  match r with
  | .admission t q _ => ! completed t q
  | .completion t q _ _ _ => admitted t q || last t q || (if s.bit LDG_STATUS_scanning then ! acked t q else held t q)
  | .session k b _ => rs.all fun r' => match r' with | .session k' b' _ => k' ≠ k || b' ≤ b | _ => true

/-- The first position from `p` on that holds no live record (R243). -/
def nextPos (s : State) : Nat → Nat → Nat
  | 0, p => p
  | f + 1, p => match recAt s p with
    | some r => if ! recBad s p && recLive s r then nextPos s f ((p + 1) % 16384) else p
    | none => p

/-- A write of a record starts at the head (R243). -/
def startWrite (s : State) (f : Nat → JWrite) : State :=
  let p := nextPos s 16384 (s.get LDG_JOURNAL_head)
  s.modLdg fun l => { l with writing := some (f p) }

/-- The tracks with queued submissions, ascending. -/
def queuedTracks (s : State) : List Nat := s.ldg.queues.map (·.1)

/-- The track the journal takes the next admission from (R218): rounds in ascending track order, max(1, floor(credit / 32)) from each;
with the number taken in this round. -/
def nextAdmission (s : State) : Option (Nat × Nat) :=
  let ts := queuedTracks s
  let cur := s.ldg.rndTrack
  if ts.contains cur ∧ 0 < s.ldg.rndTaken ∧ s.ldg.rndTaken < max 1 (creditOf s cur / 32) then some (cur, s.ldg.rndTaken + 1)
  else
    match ts.find? fun t => cur < t ∨ (s.ldg.rndTaken = 0 ∧ t = cur) with
    | some t => some (t, 1)
    | none => match ts with | t :: _ => some (t, 1) | [] => none

/-- A journal write slot (R219): a session record first; else admissions and completions alternately, a completion first. -/
def journalSlot (s : State) : State :=
  if s.ldg.writing.isSome then s
  else
    match s.ldg.sessQ with
    | k :: ks => startWrite (s.modLdg fun l => { l with sessQ := ks }) (.sess k)
    | [] =>
      let adm := nextAdmission s
      let goComp (s : State) (h : Nat) : State :=
        startWrite (s.modLdg fun l => { l with compQ := l.compQ.tail, lastKind := some false }) (.comp h)
      let goAdm (s : State) (t k : Nat) : State :=
        match queueOf s t with
        | u :: _ => startWrite (s.modLdg fun l => { l with rndTrack := t, rndTaken := k, lastKind := some true }) (.adm t u)
        | [] => s
      match s.ldg.compQ, adm with
      | [], none => s
      | h :: _, none => goComp s h
      | [], some (t, k) => goAdm s t k
      | h :: _, some (t, k) => if s.ldg.lastKind = some false then goAdm s t k else goComp s h

/-- A record completed: it stands in the ring, with its check bits, and the head moves past it. -/
def putRecord (s : State) (p : Nat) (r : JRec) : State :=
  let s := mramFresh s (0x100000 + 8 * p) 8
  let s := s.modLdg fun l => { l with journal := l.journal.ins p r, writing := none, ringHead := (p + 1) % 16384 }
  s.put LDG_JOURNAL_head ((p + 1) % 16384)

/-- The next handle: never-used handles ascending, then freed ones in the order in which they were freed (R214). -/
def takeHandle (s : State) : Nat × State :=
  if s.ldg.fresh ≤ 4096 then (s.ldg.fresh, s.modLdg fun l => { l with fresh := l.fresh + 1 })
  else (s.ldg.freeQ.headD 1, s.modLdg fun l => { l with freeQ := l.freeQ.tail })

/-- The record of a write in progress. -/
def writeRecord (s : State) : JWrite → Nat × JRec
  | .adm t u p => (p, .admission t u.seq u.pay)
  | .comp h p =>
    match s.ticket h with
    | some t => (p, .completion t.track t.seq (t.st = .abandoned) t.result (s.rd (LDG_TRK_FLOOR t.track)))
    | none => (p, .completion 0 0 false 0 0)
  | .sess k p => (p, .session k ((s.sess k).send / 2 ^ 24) (if (s.sess k).ready && (s.sess k).any then (s.sess k).high else (s.sess k).floor))

/-- An admission record completes (R212, R213, R216, R218): the ticket is Accepted, the expected sequence advances, and every answer
that waits for it gets its verdict. -/
def admissionWritten (s : State) : State :=
  match s.ldg.writing with
  | some (.adm t u p) =>
    let s := putRecord s p (.admission t u.seq u.pay)
    let (h, s) := takeHandle s
    let s := s.setTicket h ⟨t, u.seq, u.pay, .accepted, 0, 0, false⟩
    let u := ((queueOf s t).find? fun v => v.seq = u.seq).getD u
    let s := setQueue s t ((queueOf s t).filter fun v => v.seq ≠ u.seq)
    let s := s.wr (LDG_TRK_NEXT t) (s.expected t + 1)
    let s := s.wrap LDG_COUNT_ADMIT_count
    fillVerdict s u.waiters ⟨t, 0x01, 1, u.seq, BitVec.ofNat 32 (creditOf s t - (heldOf s t).length)⟩
  | _ => s

/-- LDG_STATUS.recovering clears when no track is fenced (R246, step 7). -/
def checkRecovered (s : State) : State :=
  if (List.range 512).all fun n => ! s.isFenced n then s.putB LDG_STATUS_recovering false else s

/-- A track unfenced. -/
def unfence (s : State) (n : Nat) : State := checkRecovered (s.modLdg fun l => { l with fenced := SMap.set true l.fenced n false })

/-- A completion record completes (R224): POLL may report the ticket; a track whose abandonments of recovery are all written is
unfenced (R246, step 5). -/
def completionWritten (s : State) : State :=
  match s.ldg.writing with
  | some (.comp h p) =>
    let (_, r) := writeRecord s (.comp h p)
    let s := putRecord s p r
    match s.ticket h with
    | some t =>
      let s := s.setTicket h { t with recorded := true }
      if s.isFenced t.track ∧ ¬ s.bit LDG_STATUS_awaitreplay ∧ ¬ s.bit LDG_STATUS_badrec ∧ ¬ s.ldg.storesOk
          ∧ (heldOf s t.track).all (fun j => match s.ticket j with | some u => u.recorded | none => true) then unfence s t.track
      else s
    | none => s
  | _ => s

/-- A session record completes (R236): the session may send in its block, and what waited for it is sent. -/
def sessionWritten (s : State) : State :=
  match s.ldg.writing with
  | some (.sess k p) =>
    let (_, r) := writeRecord s (.sess k p)
    let x := s.sess k
    let s := (putRecord s p r).setSess k { x with ready := true, blk := x.send / 2 ^ 24 }
    let l := s.ldg.held.filter fun a => a.2.2.1 == k
    let s := s.modLdg fun y => { y with held := y.held.filter fun a => a.2.2.1 != k }
    l.foldl (fun s a => sendAt s a.1 a.2.1 k a.2.2.2.1 (some a.2.2.2.2)) s
  | _ => s

/-! ## Presentation and completion (R220 to R225) -/

/-- The oldest Accepted ticket of a track, by sequence. -/
def oldestAccepted (s : State) (n : Nat) : Option Nat :=
  best (fun a b => match s.ticket a, s.ticket b with | some x, some y => seqEarlier x.seq y.seq | _, _ => false)
    ((heldOf s n).filter fun h => match s.ticket h with | some t => t.st = .accepted | none => false)

/-- The oldest unfinished ticket of a track, by sequence. -/
def oldestUnfinished (s : State) (n : Nat) : Option Ticket :=
  (best (fun a b => match s.ticket a, s.ticket b with | some x, some y => seqEarlier x.seq y.seq | _, _ => false)
    ((heldOf s n).filter fun h => match s.ticket h with | some t => t.st = .accepted || t.st = .dispatched | none => false)).bind s.ticket

/-- The ticket of a track that R220 allows to be presented now: its oldest Accepted one, where the routed input of a context that is not Empty
has room for it. -/
def presentable (s : State) (n : Nat) : Option (Nat × Ticket) :=
  let c := s.get (TSK_ROUTE_ctx n)
  let i := s.get (TSK_ROUTE_input n)
  let present := (((s.ctx c).inp i).q.filter fun e => e.src = n).length
  if s.bit (TSK_ROUTE_valid n) && (s.ctx c).mode ≠ .empty && inputFree s c i && present < depthOf s n
      && ! s.bit LDG_STATUS_awaitreplay && ! s.bit LDG_STATUS_badrec && ! s.bit LDG_STATUS_scanning then
    (oldestAccepted s n).bind fun h => (s.ticket h).map fun t => (h, t)
  else none

/-- The next ticket of a track presented to its routed input, where R220 allows it: the event enters the input and the ticket is
Dispatched; during a replay the track is unfenced with its last ticket (R246, step 6). -/
def present (s : State) (n : Nat) : State :=
  match presentable s n with
  | none => s
  | some (h, t) =>
    let c := s.get (TSK_ROUTE_ctx n)
    let s := deliver s c (s.get (TSK_ROUTE_input n)) ⟨n, h⟩
    let s := s.setTicket h { t with st := .dispatched, ctx := c }
    if s.isFenced n ∧ (oldestAccepted s n).isNone then unfence s n else s

/-- Whether a value names a ticket held (R147). -/
def namesTicket (s : State) (h : Word) : Option Ticket := if 1 ≤ h.toNat ∧ h.toNat ≤ 4096 then s.ticket h.toNat else none

/-- The bindings to a handle end in every context (R148). -/
def unbindAll (s : State) (h : Nat) : State :=
  (s.liveCtxs.filter fun c => match (s.ctx c).bound with | some b => b.1 == h | none => false).foldl
    (fun s c => s.modCtx c fun x => { x with bound := none }) s

/-- LDONE (R222, R148): the answer word. A Done ticket of another context answers 0x8000_0003 (DESIGN CHOICE, log entry 83). -/
def ldone (s : State) (c : Nat) (h : Word) (code : Nat) : State × Word :=
  match namesTicket s h with
  | none => (s, 0x80000003)
  | some t =>
    if ! s.trackOk c t.track then (s.violateCap c, 0)
    else if t.st = .dispatched ∧ (t.ctx = c ∨ c = 0) then
      let s := s.setTicket h.toNat { t with st := .done, result := code, recorded := false }
      (unbindAll (s.modLdg fun l => { l with compQ := l.compQ ++ [h.toNat] }) h.toNat, 0x80000001)
    else if t.st = .done ∧ (t.ctx = c ∨ c = 0) then (unbindAll s h.toNat, 0x80000002)
    else (s, 0x80000003)

/-- LBIND (R148, R165). -/
def lbind (s : State) (c : Nat) (h : Word) : State :=
  match namesTicket s h with
  | none => s.modCtx c fun x => { x with bound := none }
  | some t => if s.trackOk c t.track then s.modCtx c fun x => { x with bound := some (h.toNat, t.track, t.seq) } else s.violateCap c

/-- The ticket of the current activation of a context (R221): the handle that its event word names, and the ticket;
none, or the slot's new one, once it has been released (DESIGN CHOICE, log entry 83). -/
def currentTicket (s : State) (c : Nat) : Option (Nat × Ticket) :=
  let e := s.frame c 0x38
  let h := getBits e 13 0
  if inact s c && getBits e 23 14 < 512 then (s.ticket h).map fun t => (h, t) else none

/-! ## POLL (R238) -/

/-- A ticket released: its slot and credit freed (R213, R214). -/
def releaseTicket (s : State) (h : Nat) : State :=
  s.modLdg fun l => { l with tickets := l.tickets.erase h, freeQ := l.freeQ ++ [h] }

/-- An acknowledgement applied. -/
def applyAck (s : State) (n : Nat) (a : Word) : State :=
  let a := if seqEarlier a (s.expected n) then a else s.expected n - 1
  let s := ((heldOf s n).filter fun h => match s.ticket h with
    | some t => (t.st = .done || t.st = .abandoned) && t.recorded && ! seqLater t.seq a
    | none => false).foldl releaseTicket s
  if seqLater a (s.rd (LDG_TRK_FLOOR n)) then s.wr (LDG_TRK_FLOOR n) a else s

/-- The state and the result a POLL reports (R224): a ticket whose completion record is not written shows its state before. -/
def reported (t : Ticket) : Nat × Nat :=
  if t.recorded then (t.st.code, t.result)
  else match t.st with
    | .done => (2, 0)
    | .abandoned => (if t.result = 2 then 2 else 1, 0)
    | st => (st.code, 0)

/-- The handles of a track in sequence order. -/
def inSeqOrder (s : State) (hs : List Nat) : List Nat :=
  let q (h : Nat) : Word := ((s.ticket h).map (·.seq)).getD 0
  hs.foldl (fun l h => l.takeWhile (fun j => seqEarlier (q j) (q h)) ++ [h] ++ l.dropWhile (fun j => seqEarlier (q j) (q h))) []

/-- A POLL (R238): the body is 12 bytes; a maximum above 64 acts as 64 (DESIGN CHOICE, log entry 83). -/
def poll (s : State) (h : ZHdr) (body : List Byte) : State :=
  let track := beField body 0 2
  let ackValid := bitOf (BitVec.ofNat 32 (beField body 2 1)) 0
  let maxN := beField body 3 1
  let ack : Word := BitVec.ofNat 32 (beField body 4 4)
  let first : Word := BitVec.ofNat 32 (beField body 8 4)
  zServe s h fun k s =>
    if body.length ≠ 12 then sendAns s h.link h.src k (.error 2)
    else if 512 ≤ track || ! owns s k track then sendAns s h.link h.src k (.error 4)
    else
      let s := if ackValid then applyAck s track ack else s
      let lim := if maxN = 0 ∨ 64 < maxN then 64 else maxN
      let hs := (inSeqOrder s ((heldOf s track).filter fun j => match s.ticket j with | some t => ! seqEarlier t.seq first | none => false)).take lim
      let es := hs.filterMap fun j => (s.ticket j).map fun t => (t.seq, (reported t).1, (reported t).2)
      let flags := b2n (s.bit (LDG_TRK_CFG_open track)) + 2 * b2n (s.isFenced track) + 4 * b2n (s.bit (LDG_TRK_CFG_safety track))
      sendAns s h.link h.src k (.poll track flags (s.expected track) (s.rd (LDG_TRK_FLOOR track)) (creditOf s track - (heldOf s track).length) es)

/-! ## Commands of LDG_CMD (R229, R225, R246, R545) -/

/-- Whether the track that stage `k` is bound to has an unfinished ticket (R229). -/
def stageBusy (s : State) (k : Nat) : Bool :=
  match s.wm.marks.find k with
  | none => false
  | some (t, _) => (oldestUnfinished s t).isSome

/-- The tracks with nothing left to present are unfenced (R246, steps 5 and 6). -/
def unfenceIdle (s : State) (waiting : State → Nat → Bool) : State :=
  checkRecovered (((List.range 512).filter fun n => s.isFenced n && ! waiting s n).foldl
    (fun s n => s.modLdg fun l => { l with fenced := SMap.set true l.fenced n false }) s)

/-- Recovery goes on at step 5 or step 6 (R246). -/
def continueRecovery (s : State) : State :=
  let open_ (s : State) (n : Nat) : Bool := (oldestUnfinished s n).isSome
  if s.ldg.storesOk then s.putB LDG_STATUS_awaitreplay true
  else
    let hs := (s.ldg.tickets.filter fun e => e.2.st = .accepted ∨ e.2.st = .dispatched).map (·.1)
    let s' := hs.foldl (fun s h => abandonTicket s h 1) s
    unfenceIdle s' (fun _ n => open_ s n)

/-- Whether the store that holds stage `k` is supplied and reached: the control die's is, a power die's while the die is (R232, R251). -/
def stageReached (s : State) (k : Nat) : Bool :=
  stageOnDie k == 2 || (s.die (stageOnDie k)).on && ! (s.die (stageOnDie k)).away

/-- A stage takes a watermark, or gives up its own (R229). -/
def takeMark (s : State) (k : Nat) (m : Option (Nat × Word)) : State :=
  match m with
  | some m => ({ s with wm := { s.wm with marks := s.wm.marks.ins k m } }).setStoreValid (stageOnDie k) true
  | none => { s with wm := { s.wm with marks := s.wm.marks.erase k } }

/-- A watermark goes to its stage: over the die links to one on a power die, which takes none while it is off (R16, R17, R251). -/
def sendMark (s : State) (k : Nat) (m : Option (Nat × Word)) : State :=
  if ! stageReached s k then s else if stageOnDie k = 2 then takeMark s k m else viaDie s (stageOnDie k) (.bind k m) fun s => takeMark s k m

/-- Whether a watermark is on its way to a power die (R545). -/
def marksUnderWay (s : State) : Bool := [0, 1].any fun d => (underWay s d).any fun b => match b with | .bind _ _ => true | _ => false

/-- What an LDG command does and the code it ends with. -/
def ldgEffect (s : State) (op track stage : Nat) : State × Nat :=
  match op with
  | 0x1 =>
    if 124 ≤ stage then (s, 1) else if stageBusy s stage then (s, 2)
    else (sendMark s stage (some (track, (match oldestUnfinished s track with | some t => t.seq | none => s.expected track) - 1)), 0)
  | 0x2 =>
    if 124 ≤ stage then (s, 1) else if stageBusy s stage then (s, 2)
    else (sendMark s stage none, 0)
  | 0x3 =>
    if s.bit LDG_STATUS_awaitreplay then
      (unfenceIdle (s.putB LDG_STATUS_awaitreplay false) (fun s n => (oldestAccepted s n).isSome), 0)
    else (s, 3)
  | 0x4 => if s.bit LDG_STATUS_badrec then (continueRecovery (s.putB LDG_STATUS_badrec false), 0) else (s, 3)
  | 0x5 =>
    let hs := (heldOf s track).filter fun h => match s.ticket h with | some t => t.st = .accepted | none => false
    ((hs.foldl (fun s h => abandonTicket s h 3) s).modLdg fun l => { l with abandoned := hs }, 0)
  | _ => (s, 4)

/-- A write of LDG_CMD by context 0 (R249, R545). -/
def ldgCommand (s : State) (w op track stage : Nat) : State :=
  if ! ctlReached s then s
  else if w ≠ 0 then s.violate w 3 (BitVec.ofNat 32 LDG_CMD.addr)
  else if s.bit LDG_CMD_RESULT_busy then s
  else
    let (s, code) := ldgEffect (s.modLdg fun l => { l with abandoned := [] }) op track stage
    (s.putB LDG_CMD_RESULT_busy true).modLdg fun l => { l with code := code }

/-- A ledger command ends (R545): a BIND or UNBIND only when the power die has taken the watermark, an ABANDON only when the completion
record of every ticket it abandoned has been written. -/
def ldgComplete (s : State) : State :=
  let waits := s.ldg.abandoned.any fun h => match s.ticket h with | some x => x.st = .abandoned && ! x.recorded | none => false
  if s.bit LDG_CMD_RESULT_busy && ! waits && ! marksUnderWay s then
    ((s.putB LDG_CMD_RESULT_busy false).wrap LDG_CMD_RESULT_seq).put LDG_CMD_RESULT_code s.ldg.code
  else s

/-! ## Recovery (R246) -/

/-- The scan has found each session's newest record and the write head: the start-up session records wait to be written (R236). -/
def scanHead (s : State) : State :=
  if s.bit LDG_STATUS_scanning ∧ ¬ s.ldg.headKnown then
    let newest (k : Nat) : Option (Nat × Nat) :=
      ((readableRecs s).filterMap fun e => match e.2 with | .session j b f => if j = k then some (b, f) else none | _ => none).foldl
        (fun o x => match o with | none => some x | some y => if y.1 < x.1 then some x else o) none
    let s := (List.range 16).foldl (fun s k =>
      let (b, f) := match newest k with | some (b, f) => (b + 1, f) | none => (0, 0)
      s.setSess k { send := b * 2 ^ 24, high := f, any := false, window := 0, floor := f, ready := false, blk := b }) s
    let s := s.put LDG_JOURNAL_head s.ldg.ringHead
    s.modLdg fun l => { l with headKnown := true, sessQ := List.range 16 }
  else s

/-- The latest of the sequences that records give for each track (R211). -/
def latestBy (f : JRec → Option (Nat × Word)) (rs : List JRec) : SMap Word :=
  rs.foldl (fun m r => match f r with
    | none => m
    | some (t, q) => match m.find t with
      | some w => if seqLater q w then m.ins t q else m
      | none => m.ins t q) []

/-- The tickets rebuilt from the readable records, in ring order (R246, step 4). -/
def rebuild (s : State) (rs : List JRec) : State :=
  let last := latestBy (fun | .admission t q _ => some (t, q) | .completion t q _ _ _ => some (t, q) | _ => none) rs
  let s := last.foldl (fun s e => s.wr (LDG_TRK_NEXT e.1) (e.2 + 1)) s
  let floors := latestBy (fun | .completion t _ _ _ f => some (t, f) | _ => none) rs
  let s := floors.foldl (fun s e => s.wr (LDG_TRK_FLOOR e.1) e.2) s
  let comp (t : Nat) (q : Word) : Option (Bool × Nat) :=
    rs.findSome? fun r => match r with | .completion t' q' a c _ => if t' = t ∧ q' = q then some (a, c) else none | _ => none
  let add (s : State) (t : Nat) (q : Word) (pay : List Byte) : State :=
    match comp t q with
    | none => let (h, s) := takeHandle s; s.setTicket h ⟨t, q, pay, .accepted, 0, 0, false⟩
    | some (a, c) =>
      if seqLater q (s.rd (LDG_TRK_FLOOR t)) then
        let (h, s) := takeHandle s
        s.setTicket h ⟨t, q, pay, if a then .abandoned else .done, 0, c, true⟩
      else s
  rs.foldl (fun s r => match r with
    | .admission t q pay => add s t q pay
    | .completion t q _ _ _ =>
      if rs.any (fun r' => match r' with | .admission t' q' _ => t' == t && q' == q | _ => false) then s else add s t q []
    | _ => s) s

/-- The journal scan ends (R246, steps 3 to 6): the reads correct and raise under R25, and every bad record raises the journal-record
source. -/
def scanEnd (s : State) : State :=
  if s.bit LDG_STATUS_scanning ∧ s.ldg.headKnown then
    let s := s.putB LDG_STATUS_scanning false
    let bad := (s.ldg.journal.filter fun e => recBad s e.1).length
    let s := mramSweep s 0x100000 0x20000
    let s := rebuild s ((readableRecs s).map (·.2))
    if bad = 0 then continueRecovery s
    else
      let s := s.put LDG_JOURNAL_badrec (min 255 (s.get LDG_JOURNAL_badrec + bad))
      (List.range bad).foldl (fun s _ => s.raise 62) (s.putB LDG_STATUS_badrec true)
  else s

/-- Recovery begins after a control-die reset (R246, steps 1 to 3): every track fenced, the store-valid flags read, the scan started. A
record write that had started has completed (R243). -/
def startRecovery (s : State) : State :=
  let s := (s.putB LDG_STATUS_recovering true).putB LDG_STATUS_scanning true
  s.modLdg fun l => { l with fenced := [], storesOk := s.wm.validA && s.wm.validB && s.wm.validC, headKnown := false }

/-! ## The meanings -/

/-- The bytes of an answer's body (R237 to R240, R515), big-endian. -/
def ZBody.bytes : ZBody → List Byte
  | .submit es => beBytes 1 es.length ++ [0, 0, 0] ++
      es.flatMap fun e => beBytes 2 e.track ++ beBytes 1 e.verdict ++ beBytes 1 e.state ++ beWord e.seq ++ beWord e.detail
  | .poll t fl ex fo cr es => beBytes 2 t ++ beBytes 1 fl ++ beBytes 1 es.length ++ beWord ex ++ beWord fo ++ beBytes 2 cr ++ [0, 0] ++
      es.flatMap fun e => beWord e.1 ++ beBytes 1 e.2.1 ++ beBytes 1 e.2.2 ++ [0, 0]
  | .query c st nx d => beBytes 1 c ++ beBytes 1 st ++ [0, 0] ++ beWord nx ++ d
  | .error c => beBytes 1 c ++ [0, 0, 0]
  | .update _ c st a f d => beBytes 1 c ++ beBytes 1 st ++ beBytes 1 a ++ beBytes 1 f ++ beWord d

/-- The message type of an answer (R237). -/
def ZBody.type : ZBody → Nat
  | .submit _ => 0x81
  | .poll _ _ _ _ _ _ => 0x82
  | .query _ _ _ _ => 0x83
  | .error _ => 0x7F
  | .update t _ _ _ _ _ => t + 0x80

/-- Bytes 0 to 15 of an answer's frame (R235). -/
def ZAns.head (a : ZAns) : List Byte :=
  [1] ++ beBytes 1 a.body.type ++ beBytes 2 a.body.bytes.length ++ beWord a.sid ++ beBytes 8 a.ctr

/-- The length of an answer's frame (R235). -/
def ZAns.size (a : ZAns) : Nat := 32 + a.body.bytes.length

/-- The frame of an answer (R235): bytes 0 to 15, then the body encrypted and the tag under the session's key, with bytes 4 to 15 as the nonce
and bytes 0 to 15 as the additional data. -/
def ZAns.frame (a : ZAns) : List Byte :=
  a.head ++ Config.gcmSeal a.key (BitVec.ofNat 96 (beVal (a.head.drop 4))) a.head a.body.bytes

/-- SUBMIT (R215, R237): the count, the 3 zero bytes and the entries make the body. -/
def execSubmit (h : ZHdr) (n zeros entries : List Byte) (s : State) : Out := .next (submit s h (n ++ zeros ++ entries))
/-- POLL (R238): the fields and what follows them make the body. -/
def execPoll (h : ZHdr) (track flags maxN ack first rest : List Byte) (s : State) : Out :=
  .next (poll s h (track ++ flags ++ maxN ++ ack ++ first ++ rest))
/-- A frame that passes the tests of R236 and is of an unknown type is answered with ERROR 0x01. -/
def execZlpUnknownType (h : ZHdr) (s : State) : Out := .next (zServe s h fun k s => sendAns s h.link h.src k (.error 1))
/-- A journal write slot opens (R219): none later than 1.0 ms after the power-fail warning (R244). -/
def execJournalSlot (s : State) : Out := .next (if warnedFor s 500000 then s else journalSlot s)
/-- An admission record completes (R218). -/
def execAdmissionRecordWritten (s : State) : Out := .next (admissionWritten s)
/-- A completion record completes (R224). -/
def execCompletionRecordWritten (s : State) : Out := .next (completionWritten s)
/-- A session record completes (R236). -/
def execSessionRecordWritten (s : State) : Out := .next (sessionWritten s)
/-- BIND (R229). -/
def execBind (w : CtxId) (track : Fin 512) (stage : Fin 128) (s : State) : Out := .next (ldgCommand s w 0x1 track stage)
/-- UNBIND (R229). -/
def execUnbind (w : CtxId) (stage : Fin 128) (s : State) : Out := .next (ldgCommand s w 0x2 0 stage)
/-- REPLAY (R246). -/
def execReplay (w : CtxId) (s : State) : Out := .next (ldgCommand s w 0x3 0 0)
/-- UNFENCE (R246). -/
def execUnfence (w : CtxId) (s : State) : Out := .next (ldgCommand s w 0x4 0 0)
/-- ABANDON (R225). -/
def execAbandon (w : CtxId) (track : Fin 512) (s : State) : Out := .next (ldgCommand s w 0x5 track 0)
/-- A ledger command ends (R545). -/
def execLdgCmdComplete (s : State) : Out := .next (ldgComplete s)
/-- The scan has found the session records and the head (R236). -/
def execScanHeadFound (s : State) : Out := .next (scanHead s)
/-- The journal scan ends (R246). -/
def execJournalScanEnd (s : State) : Out := .next (scanEnd s)

end Sys2Proof.Machine
end

