-- ==== Sys2Proof/Machine/Net.lean ====
section
/-! DEFINITION. Backbone Ethernet, 10BASE-T1S, LIN, the SPI host port and I²C (R369 to R392). -/
namespace Sys2Proof.Machine
open Sys2Proof Reg

/-! ## Backbone ports (R369 to R375) -/

/-- The state of backbone port `n`: 0 Disabled, 1 Training, 2 Up, 3 Siding (R374). -/
def ethState (s : State) (n : Nat) : Nat := s.get (ETH_P_STATUS_state n)

/-- Whether a destination address is one the port takes (R372, row 2): its own, broadcast, the 802.1AS group, the solicited-node group of
ETH_IP6. -/
def ethDst (s : State) (n : Nat) (d : BitVec 48) : Bool :=
  d == macOf n || d == 0xFFFFFFFFFFFF || d == 0x0180C200000E || d == BitVec.ofNat 48 (0x3333FF000000 + (ethIp6 s).toNat % 2 ^ 24)

/-- Whether a tag is accepted (R372, row 3). -/
def ethTag (s : State) (n : Nat) : Option (BitVec 12) → Bool
  | some v => v.toNat == s.get (ETH_P_CTRL_vid n) && s.get (ETH_P_CTRL_vid n) != 0
  | none => s.bit (ETH_P_CTRL_untag n)

/-- An answer of the port (R373): an ARP reply, or a neighbour advertisement to the sender. -/
def ethAnswer (s : State) (n : Nat) (f : EthFrame) (dest : Option IpAddr) (m : EthMsg) : State :=
  ethQueue s (ethFrameTo s n f.src f.vid dest none m)

/-- The queued frames of a port are discarded (R374), and the places of answers that are not complete with them; the answers among them are
counted (R375, log entry 68). -/
def ethDiscard (s : State) (n : Nat) : State :=
  let lost := s.net.ethQ.filter fun f => f.port == n && f.msg != .ptp && ! f.msg.waits
  (lost.foldl (fun s _ => s.count (ETH_P_COUNT_drop n)) s).modNet fun x => { x with ethQ := x.ethQ.filter fun f => f.port != n }

/-- The frame that a port sends next: 802.1AS messages before every queued answer, the answers in the order of their requests, none before an
answer that is not complete (R373). -/
def ethNext (s : State) (n : Nat) : Option EthOut :=
  let mine := s.net.ethQ.filter fun f => f.port == n
  (mine.find? fun f => f.msg == .ptp).or (mine.head?.filter fun f => ! f.msg.waits)

/-- A port sends. -/
def ethLeave (s : State) (n : Nat) : State :=
  match ethNext s n with
  | some f => s.modNet fun x => { x with ethQ := x.ethQ.erase f, ethSent := x.ethSent ++ [f] }
  | none => s

/-- Whether a port has a frame to send (R374). -/
def ethSends (s : State) (n : Nat) : Bool := ethState s n == 2 && (ethNext s n).isSome

/-- A frame received on an Up port (R371, R372): dropped with source 132 for an uncorrectable word of its buffer (R392), dropped and counted, answered, or handed on; the command of the message that row 4 or row 7
hands on then arrives on its own. -/
def ethReceive (s : State) (n : Nat) (f : EthFrame) : State :=
  let drop := s.count (ETH_P_COUNT_drop n)
  if ethState s n ≠ 2 then s
  else if f.bad then s.raise 132
  else if ! f.fcsOk then s.count (ETH_P_COUNT_fcs n)
  else if 1522 < f.len ∨ ¬ ethDst s n f.dst ∨ ¬ ethTag s n f.vid then drop
  else
    match f.kind with
    | .ptp => s
    | .arp t _ => if s.bit ETH_CFG_ip4 && t == s.rd ETH_IP4 then ethAnswer s n f none .arp else drop
    | .ns t a => if s.bit ETH_CFG_ip6 && t == ethIp6 s then ethAnswer s n f (some (.v6 a)) .na else drop
    | .udp4 d p ok => if ok && s.bit ETH_CFG_ip4 && d == s.rd ETH_IP4 && p == s.get LDG_CTRL_port then s else drop
    | .udp6 d p ok => if ok && s.bit ETH_CFG_ip6 && d == ethIp6 s && p == s.get LDG_CTRL_port then s else drop
    | .other => drop

/-- A backbone frame is received (R372). -/
def execEthFrameReceive (n : Fin 2) (f : EthFrame) (s : State) : Out := .next (ethReceive s n f)

/-- 802.3bp link status OK (R374), which the PHY reaches on the XTAL reference alone (R438). -/
def execEthLinkUp (n : Fin 2) (s : State) : Out :=
  .next (if (ethState s n = 1 ∨ ethState s n = 3) ∧ s.bit CLK_STATUS_xsel = true then s.put (ETH_P_STATUS_state n) 2 else s)
/-- Link status FAIL (R374). -/
def ethFail (s : State) (n : Nat) : State :=
  if ethState s n = 2 then (((ethDiscard s n).put (ETH_P_STATUS_state n) 3).count (ETH_P_STATUS_downs n)).raise (133 + n) else s
/-- Link status FAIL (R374). -/
def execEthLinkFail (n : Fin 2) (s : State) : Out := .next (ethFail s n)

/-- A write of ETH_Pn_CTRL (R374): en starts training or turns the PHY off; master changes only while en = 0. -/
def ethCtrlWrite (s : State) (n : Nat) (v : Word) : State :=
  let was := s.bit (ETH_P_CTRL_en n)
  let m := s.get (ETH_P_CTRL_master n)
  let s := s.wr (ETH_P_CTRL n) (v &&& 0xFC000FFF)
  let s := if was then s.put (ETH_P_CTRL_master n) m else s
  if s.bit (ETH_P_CTRL_en n) then (if was then s else s.put (ETH_P_STATUS_state n) 1) else (ethDiscard s n).put (ETH_P_STATUS_state n) 0

/-- A write of ETH_Pn_CTRL by context `w`: context 0 only (R370). -/
def ethCtrl (s : State) (w n : Nat) (v : Word) : State := s.granted w (w == 0) (ETH_P_CTRL n) fun s => ethCtrlWrite s n v

/-- en set: the port trains (R374). -/
def execEthPortEnable (w : CtxId) (n : Fin 2) (s : State) : Out := .next (ethCtrl s w n (s.rd (ETH_P_CTRL n) ||| 0x80000000))
/-- en cleared: the port is Disabled (R374). -/
def execEthPortDisable (w : CtxId) (n : Fin 2) (s : State) : Out := .next (ethCtrl s w n (s.rd (ETH_P_CTRL n) &&& 0x7FFFFFFF))

/-! ## 10BASE-T1S (R376 to R380) -/

/-- The state of segment `n`: 0 Off, 1 Running, 2 Asleep, 3 Siding. -/
def t1sState (s : State) (n : Nat) : Nat := s.get (T1S_S_STATUS_state n)
/-- A word of a ring or buffer, by its byte offset in the block. -/
def t1sWord (s : State) (o : Nat) : Word := SMap.get 0 s.net.t1s.mem (o / 4)
/-- A word of a ring or buffer written. -/
def setT1sWord (s : State) (o : Nat) (v : Word) : State :=
  s.modNet fun x => { x with t1s := { x.t1s with mem := SMap.set 0 x.t1s.mem (o / 4) v } }
/-- A segment beside its registers. -/
def State.t1seg (s : State) (n : Nat) : T1sSeg := if n = 0 then s.net.t1s.seg0 else s.net.t1s.seg1
/-- The state with a segment changed. -/
def State.modT1s (s : State) (n : Nat) (f : T1sSeg → T1sSeg) : State :=
  s.modNet fun x => { x with t1s := if n = 0 then { x.t1s with seg0 := f x.t1s.seg0 } else { x.t1s with seg1 := f x.t1s.seg1 } }
/-- The pending buffers of a segment, in the order of their requests. -/
def t1sPend (s : State) (n : Nat) : List Nat := (s.t1seg n).pend
/-- The pending buffers replaced; STATUS.pend shows them. -/
def setT1sPend (s : State) (n : Nat) (l : List Nat) : State :=
  let s := s.modT1s n fun g => { g with pend := l }
  s.put (T1S_S_STATUS_pend n) ((l.map fun b => 2 ^ b).sum)
/-- The offset of transmit buffer `b` (R378). -/
def t1sBuf (n b : Nat) : Nat := 0xD000 + 0x1800 * n + 0x600 * b

/-- A pending request ends with a result (R378, R380). -/
def t1sEnd (s : State) (n b result : Nat) : State :=
  let o := t1sBuf n b
  let s := setT1sWord s o (setBits (t1sWord s o) 19 16 result)
  let s := setT1sPend s n ((t1sPend s n).filter (· ≠ b))
  if s.bit (T1S_S_CTRL_txev n) then s.event (552 + n) (8192 + b) else s

/-- Every pending request of a segment ends with result 3, and what network management had to send is dropped. -/
def t1sDropAll (s : State) (n : Nat) : State := ((t1sPend s n).foldl (fun s b => t1sEnd s n b 3) s).modT1s n fun g => { g with ka := false }

/-- The local node of PLCA: 255 acts as 254 (R376). -/
def t1sNode (s : State) (n : Nat) : Nat := min 254 (s.get (T1S_S_CTRL_nodeid n))
/-- Whether the segment is the PLCA coordinator: node 0 (R376). -/
def t1sCoordinator (s : State) (n : Nat) : Bool := s.bit (T1S_S_CTRL_plca n) && t1sNode s n == 0
/-- Whether the MAC uses PLCA: enabled, with status OK; else it uses CSMA/CD (R376). -/
def t1sPlca (s : State) (n : Nat) : Bool := s.bit (T1S_S_CTRL_plca n) && s.bit (T1S_S_STATUS_plcaok n)

/-- Whether the PLL references are on FIRC / 4 (R433, R437): without XTAL the PHYs have no link (R438). -/
def onFirc (s : State) : Bool := ! s.bit CLK_STATUS_xsel && (s.get CLK_STATUS_xtal == 1 || s.get CLK_STATUS_xtal == 2)

/-- The PHY of a segment is turned on and PLCA starts again (R360, R376, R379): the coordinator sends a BEACON at once; a follower waits for
one before it transmits. On the FIRC reference the segment is in siding instead (R438). -/
def t1sRestart (s : State) (n : Nat) : State :=
  let b := ! s.bit (T1S_S_CTRL_plca n) || t1sCoordinator s n
  (s.put (T1S_S_STATUS_state n) (if onFirc s then 3 else 1)).modT1s n fun g => { g with beacon := b }

/-- A segment leaves siding by the stationmaster's REJOIN (R35, R379): it runs, or is off with en = 0, or sleeps with its bus (log entry
70). -/
def t1sRejoin (s : State) (n : Nat) : State :=
  if ! s.bit (T1S_S_CTRL_en n) then s.put (T1S_S_STATUS_state n) 0
  else if busState s (20 + n) = 1 then s.put (T1S_S_STATUS_state n) 2
  else (t1sRestart s n).modT1s n fun g => { g with since := some (BitVec.ofNat 32 (s.axis 0).pos) }

/-- Whether a segment may transmit now: Running on the bus clocks (R432, R437, R454), and not a follower that waits for
a BEACON (R379). -/
def t1sMaySend (s : State) (n : Nat) : Bool := perRuns s && t1sState s n == 1 && (s.t1seg n).beacon

/-- A frame as the MAC sends it (R378): its own address in bytes 6 to 11, padding to 60 bytes, the FCS. -/
def t1sFrame (n : Nat) (data : List Byte) : List Byte :=
  let l := data.take 6 ++ beBytes 6 (macOf (2 + n)).toNat ++ data.drop 12
  let l := l ++ List.replicate (60 - l.length) 0
  l ++ ethFcs l

/-- A frame has been sent. -/
def t1sSends (s : State) (n : Nat) (data : List Byte) : State := s.modT1s n fun g => { g with sent := g.sent ++ [t1sFrame n data] }

/-- The keep-alive frame of network management on a segment (R357): to 01-00-5E-7F-FF-FA, its EtherType, 46 bytes of zeros. -/
def keepAliveFrame (s : State) (n : Nat) : List Byte :=
  [0x01, 0x00, 0x5E, 0x7F, 0xFF, 0xFA] ++ List.replicate 6 0 ++ beBytes 2 (s.get (NMG_BUS_KAID_id (20 + n))) ++ List.replicate 46 0

/-- A frame is received (R377): `data` runs from the destination address to the end of the payload, `sfd` is A0 bits 31:0 at its SFD; none
whose SFD precedes the last rejoin (R379). -/
def t1sReceive (s : State) (n : Nat) (fcsOk : Bool) (data : List Byte) (sfd : Word) : State :=
  let byte (i : Nat) : Nat := (data.getD i 0).toNat
  let dst : BitVec 48 := BitVec.ofNat 48 ((List.range 6).foldl (fun a i => a * 256 + byte i) 0)
  let etype := byte 12 * 256 + byte 13
  let early : Bool := match (s.t1seg n).since with | some q => seqEarlier sfd q | none => false
  if t1sState s n ≠ 1 ∨ ¬ perRuns s ∨ ¬ fcsOk ∨ 1518 < data.length ∨ data.length < 14 ∨ early then s
  else
    let s := s.modT1s n fun g => { g with since := none }
    let keep := etype == s.get (NMG_BUS_KAID_id (20 + n)) % 65536
    let s := if keep then keepAliveSeen s (20 + n) false else s
    if ¬ (dst = macOf (2 + n) ∨ dst = 0xFFFFFFFFFFFF ∨ dst = 0x01005E7FFFFA) ∨ (busState s (20 + n) ≠ 0 ∧ keep) then s
    else
      let fill := s.get (T1S_S_STATUS_fill n)
      if 16 ≤ fill then s.count (T1S_S_STATUS_drop n)
      else
        let e := (s.get (T1S_S_STATUS_get n) + fill) % 16
        let o := 0x1000 + 0x6000 * n + 0x600 * e
        let s := setT1sWord (setT1sWord s o (BitVec.ofNat 32 data.length)) (o + 4) sfd
        let s := (List.range ((data.length + 3) / 4)).foldl (fun s i => setT1sWord s (o + 8 + 4 * i) (leWord data (4 * i))) s
        let s := s.put (T1S_S_STATUS_fill n) (fill + 1)
        if s.bit (T1S_S_CTRL_rxev n) then s.event (552 + n) e else s

/-- A 10BASE-T1S frame is received (R377). -/
def execT1sFrameReceive (n : Fin 2) (fcsOk : Bool) (data : List Byte) (sfd : Word) (s : State) : Out := .next (t1sReceive s n fcsOk data sfd)

/-- Whether context `w` reaches segment `n` (R370). -/
def t1sGrant (s : State) (w n : Nat) : Bool := s.blockOk w 18 && s.t1sOk w n

/-- A segment enters siding (R379). -/
def t1sSide (s : State) (n : Nat) : State :=
  if t1sState s n = 3 then s else ((t1sDropAll s n).put (T1S_S_STATUS_state n) 3).putB (T1S_S_STATUS_plcaok n) false

/-- A command written to T1S_Sn_CMD (R370, R377 to R379). -/
def t1sCommand (s : State) (w n op arg : Nat) : State :=
  s.granted w (if op = 3 ∨ op = 4 then w == 0 else t1sGrant s w n) (T1S_S_CMD n) fun s =>
    match op with
    | 1 =>
      let k := min arg (s.get (T1S_S_STATUS_fill n))
      (s.put (T1S_S_STATUS_fill n) (s.get (T1S_S_STATUS_fill n) - k)).put (T1S_S_STATUS_get n) ((s.get (T1S_S_STATUS_get n) + k) % 16)
    | 2 =>
      if 4 ≤ arg ∨ (t1sPend s n).contains arg then s
      else if t1sState s n = 1 then setT1sPend s n (t1sPend s n ++ [arg])
      else t1sEnd s n arg 3
    | 3 => t1sSide s n
    | 4 => if t1sState s n = 3 ∧ onFirc s = false then t1sRejoin s n else s
    | _ => s

/-- RXACK (R377). -/
def execRxack (w : CtxId) (n : Fin 2) (k : Fin 32) (s : State) : Out := .next (t1sCommand s w n 1 k)
/-- TXREQ (R378). -/
def execTxreq (w : CtxId) (n : Fin 2) (b : Fin 32) (s : State) : Out := .next (t1sCommand s w n 2 b)
/-- SIDING of a segment (R379). -/
def execT1sSiding (w : CtxId) (n : Fin 2) (s : State) : Out := .next (t1sCommand s w n 3 0)
/-- REJOIN of a segment (R379). -/
def execT1sRejoin (w : CtxId) (n : Fin 2) (s : State) : Out := .next (t1sCommand s w n 4 0)

/-- The bytes of a transmit buffer, byte 0 in bits 7:0 of word 2 (R377, R378). -/
def t1sBytes (s : State) (o len : Nat) : List Byte := (List.range len).map fun i => byteOf (t1sWord s (o + 8 + i / 4 * 4)) (i % 4)

/-- A transmission ends (R378): of a keep-alive frame of network management that is to be sent, else of the oldest pending request (log entry
69): sent, or sixteen collisions, which CSMA/CD alone meets (R376); a bad length is never sent. A segment that may not transmit ends
none. -/
def t1sTxEnd (s : State) (n : Nat) (sent : Bool) (sfd : Word) : State :=
  if ! t1sMaySend s n || (! sent && t1sPlca s n) then s
  else if (s.t1seg n).ka then
    let s' := s.modT1s n fun g => { g with ka := false }
    if sent then keepAliveSeen (t1sSends s' n (keepAliveFrame s n)) (20 + n) true else s'
  else
    match t1sPend s n with
    | [] => s
    | b :: _ =>
      let o := t1sBuf n b
      let len := getBits (t1sWord s o) 10 0
      if len < 14 ∨ 1518 < len then t1sEnd s n b 4
      else if sent then
        let d := t1sBytes s o len
        let s := t1sSends s n d
        let s := if beField d 12 2 = s.get (NMG_BUS_KAID_id (20 + n)) % 65536 then keepAliveSeen s (20 + n) true else s
        t1sEnd (setT1sWord s (o + 4) sfd) n b 1
      else t1sEnd s n b 2

/-- A transmission ends (R378). -/
def execT1sTxEnd (n : Fin 2) (sent : Bool) (sfd : Word) (s : State) : Out := .next (t1sTxEnd s n sent sfd)
/-- Own transmission active beyond 2 ms (R379). -/
def execT1sJabber (n : Fin 2) (s : State) : Out := .next (if t1sState s n = 1 then (t1sSide s n).raise (135 + n) else s)
/-- The PLCA status changes (R376): a follower whose status becomes OK has received a BEACON (R379). -/
def execPlcaStatusChange (n : Fin 2) (ok : Bool) (s : State) : Out :=
  .next (if t1sState s n = 1 ∧ s.bit (T1S_S_CTRL_plca n) then
    (s.putB (T1S_S_STATUS_plcaok n) ok).modT1s n fun g => { g with beacon := g.beacon || ok }
  else s)

/-- A write of T1S_Sn_CTRL: en runs the segment, or turns it off (R376, R378); a managed bus that sleeps stays asleep (R360). Without plca the
MAC uses CSMA/CD and there is no PLCA status (R376). In siding the segment stays until its REJOIN (R35, log entry 70). -/
def t1sCtrlWrite (s : State) (n : Nat) (v : Word) : State :=
  let was := s.bit (T1S_S_CTRL_en n)
  let s := s.wr (T1S_S_CTRL n) (v &&& 0xF0FFFFFF)
  let s := if s.bit (T1S_S_CTRL_plca n) then s else (s.putB (T1S_S_STATUS_plcaok n) false).modT1s n fun g => { g with beacon := true }
  if s.bit (T1S_S_CTRL_en n) = was ∨ t1sState s n = 3 then s
  else if was then ((t1sDropAll s n).put (T1S_S_STATUS_state n) 0).putB (T1S_S_STATUS_plcaok n) false
  else if busState s (20 + n) = 1 then s.put (T1S_S_STATUS_state n) 2
  else (s.put (T1S_S_STATUS_state n) (if onFirc s then 3 else 1)).modT1s n fun g => { g with beacon := true }

/-- The PHYs of the backbone ports and the segments lose their links as the references leave XTAL (R438): they enter siding until
XTALSEL. -/
def phyFail (s : State) : State :=
  let side (s : State) (n : Nat) : State := if t1sState s n = 1 then t1sSide s n else s
  side (side (ethFail (ethFail s 0) 1) 0) 1

/-- A port write of a transmit buffer word: ignored while the buffer is pending (R378). -/
def t1sMemWrite (s : State) (o : Nat) (v : Word) : State :=
  if o < 0xD000 then s
  else
    let n := (o - 0xD000) / 0x1800
    let b := (o - 0xD000) % 0x1800 / 0x600
    if (t1sPend s n).contains b then s else setT1sWord s o v

/-! ## LIN (R381 to R385) -/

/-- Channel `u` beside its registers. -/
def State.linc (s : State) (u : Nat) : LinCh := SMap.get LinCh.init s.net.lin u
/-- The state with a channel changed. -/
def State.modLin (s : State) (u : Nat) (f : LinCh → LinCh) : State := s.modNet fun n => { n with lin := SMap.set LinCh.init n.lin u (f (s.linc u)) }
/-- The state of channel `u`: 0 Off, 1 Running, 2 Asleep, 3 Siding. -/
def linState (s : State) (u : Nat) : Nat := s.get (LIN_STATUS_state u)

/-- An event of channel `u`, if its code is enabled (R384). -/
def linEvent (s : State) (u code detail : Nat) : State :=
  if bitOf (s.rd (LIN_CTRL u)) (19 + code) then s.event (544 + u) (code + 256 * detail) else s

/-- An error (R383): lerr, the count, event 2; the frame in progress is given up. -/
def linError (s : State) (u e : Nat) : State :=
  linEvent (((s.put (LIN_STATUS_lerr u) e).count (LIN_STATUS_errors u)).modLin u fun c => { c with cur := none }) u 2 e

/-- A channel enters siding (R384). -/
def linSide (s : State) (u : Nat) : State :=
  if linState s u = 3 then s
  else linEvent ((s.put (LIN_STATUS_state u) 3).modLin u fun c => { c with cur := none, hdr := none, started := false }) u 3 0

/-- Bus `b` has an effective need (R355). -/
def busNeed (s : State) (b : Nat) : Bool := s.get (NMG_BUS_CFG_pin b) == 1 || (s.get (NMG_BUS_CFG_pin b) == 0 && s.get (NMG_BUS_NEED_votes b) != 0)

/-- Whether a commander's schedule runs: Running, and a managed bus with an effective need (R357, R361). -/
def linScheduled (s : State) (u : Nat) : Bool :=
  linState s u == 1 && s.bit (LIN_CTRL_cmdr u) && (busState s (12 + u) == 0 || busNeed s (12 + u))

/-- A commander's slot starts (R382): from entry 0 to the entry with last = 1, then from 0 again; an invalid frame leaves the slot silent. -/
def linSlot (s : State) (u : Nat) : State :=
  if ! linScheduled s u || ! perRuns s then s
  else
    let e := s.get (LIN_STATUS_entry u)
    let e := if ! (s.linc u).started ∨ s.bit (LIN_SCH_last u e) ∨ 31 ≤ e then 0 else e + 1
    let f := s.get (LIN_SCH_frame u e)
    let h := if s.bit (LIN_FR_valid u f) then some (f, s.rd (LIN_FR u f)) else none
    (s.put (LIN_STATUS_entry u) e).modLin u fun c => { c with started := true, hdr := h, cur := none }

/-- A slot starts (R382). -/
def execLinSlotStart (u : Fin 8) (s : State) : Out := .next (linSlot s u)

/-- The entry that a header names, with its fields as they act: for a commander the entry of its slot as it stood when the slot began, for a
responder the lowest valid entry of that identifier (R382). -/
def linEntry (s : State) (u id : Nat) : Option (Nat × Word) :=
  if s.bit (LIN_CTRL_cmdr u) then (s.linc u).hdr
  else ((List.range 64).find? fun f => s.bit (LIN_FR_valid u f) && s.get (LIN_FR_id u f) == id).map fun f => (f, s.rd (LIN_FR u f))

/-- A header ends (R382, R358): received by a responder, or the own header of a commander's slot. -/
def linHeader (s : State) (u id : Nat) (parityOk : Bool) : State :=
  if linState s u ≠ 1 ∨ ¬ perRuns s then s
  else if s.bit (LIN_CTRL_cmdr u) ∧ (s.linc u).hdr.map (fun h => getBits h.2 5 0) ≠ some id then s
  else
    let own := s.bit (LIN_CTRL_cmdr u)
    let e := linEntry s u id
    let s := s.modLin u fun c => { c with hdr := none, cur := none, wakeup := false }
    if ! parityOk then linError s u 5
    else
      let s := keepAliveSeen s (12 + u) own
      match e with
      | none => s
      | some (f, v) =>
        let cur (p : Bool) : LinCur := ⟨f, id, bitOf v 28, p, max 1 (min 8 (getBits v 27 24)), s.rd (LIN_FR_D u f 0), s.rd (LIN_FR_D u f 1)⟩
        match getBits v 30 29 with
        | 1 => s.modLin u fun c => { c with cur := some (cur true) }
        | 2 => s.modLin u fun c => { c with cur := some (cur false) }
        | _ => s

/-- The checksum of a LIN frame (R381): the inverted sum with carry of the data, and in the enhanced form of the protected identifier before
them. -/
def linSum (l : List Byte) : Byte :=
  ~~~ (BitVec.ofNat 8 (l.foldl (fun a b => let t := a + b.toNat; if 256 ≤ t then t - 255 else t) 0))
/-- The protected identifier: parity bits P0 and P1 above the identifier. -/
def linPid (id : Nat) : Byte :=
  let b (i : Nat) : Bool := id.testBit i
  BitVec.ofNat 8 (id % 64 + 64 * b2n (b 0 ^^ b 1 ^^ b 2 ^^ b 4) + 128 * b2n (! (b 1 ^^ b 3 ^^ b 4 ^^ b 5)))
/-- A frame that a channel has sent: its identifier, its data, its checksum. -/
def linSends (s : State) (u id : Nat) (enh : Bool) (data : List Byte) : State :=
  s.modLin u fun c => { c with sent := c.sent ++ [(id, data, linSum (if enh then linPid id :: data else data))] }

/-- A LIN header (R382). -/
def execLinHeader (u : Fin 8) (id : Fin 64) (parityOk : Bool) (s : State) : Out := .next (linHeader s u id parityOk)

/-- A frame ends (R382, R383): subscribed data are written on a valid checksum; a bit error on a commander's own header gives its frame
up. -/
def linResponse (s : State) (u : Nat) (data : List Byte) (how : LinEnd) : State :=
  if ! perRuns s then s
  else match (s.linc u).cur with
  | none => if how = .bitError ∧ (s.linc u).hdr.isSome then linError (s.modLin u fun c => { c with hdr := none }) u 1 else s
  | some c =>
    match how with
    | .bitError => if c.publish then linError s u 1 else s
    | .checksum => if c.publish then s else linError s u 2
    | .framing => linError s u 4
    | .complete =>
      let s := s.modLin u fun x => { x with cur := none }
      let s := if c.publish then
          linSends s u c.id c.enh ((List.range c.len).map fun i => byteOf (if i < 4 then c.d0 else c.d1) (i % 4))
        else
          let wordAt (j : Nat) (old : Word) : Word :=
            (List.range 4).foldl (fun w i => if 4 * j + i < c.len then setBits w (8 * i + 7) (8 * i) (data.getD (4 * j + i) 0).toNat else w) old
          let s := s.wr (LIN_FR_D u c.frame 0) (wordAt 0 (s.rd (LIN_FR_D u c.frame 0)))
          let s := s.wr (LIN_FR_D u c.frame 1) (wordAt 1 (s.rd (LIN_FR_D u c.frame 1)))
          s.putB (LIN_FR_fresh u c.frame) true
      linEvent s u 1 c.frame

/-- A response ends (R382). -/
def execLinResponseEnd (u : Fin 8) (data : List Byte) (how : LinEnd) (s : State) : Out := .next (linResponse s u data how)
/-- No response arrives within its time (R383). -/
def execLinNoResponse (u : Fin 8) (s : State) : Out :=
  .next (match (s.linc u).cur with | some c => if c.publish ∨ ¬ perRuns s then s else linError s u 3 | none => s)
/-- The bus is dominant for 20 ms (R383). -/
def execLinBusFault (u : Fin 8) (s : State) : Out :=
  .next (if linState s u = 1 ∧ perRuns s then (linSide (linError s u 6) u).raise (137 + u) else s)

/-- A command written to LIN_CMD: SIDING and REJOIN by context 0 only; the other values do nothing (R370, R384). -/
def linCommand (s : State) (w u op : Nat) : State :=
  s.granted w (if op = 1 ∨ op = 2 then w == 0 else s.blockOk w 16 && s.linOk w u) (LIN_CMD u) fun s =>
    match op with
    | 1 => if linState s u = 0 then s else linSide s u
    | 2 => if linState s u = 3 then s.modLin u fun c => { c with rejoin := true } else s
    | _ => s

/-- SIDING of a channel (R384). -/
def execLinSiding (w : CtxId) (u : Fin 8) (s : State) : Out := .next (linCommand s w u 1)
/-- REJOIN of a channel (R384). -/
def execLinRejoin (w : CtxId) (u : Fin 8) (s : State) : Out := .next (linCommand s w u 2)
/-- The state of a channel that its bus and en leave it (R360). -/
def linOn (s : State) (u : Nat) : Nat := if ! s.bit (LIN_CTRL_en u) then 0 else if busState s (12 + u) = 1 then 2 else 1

/-- The bus has been recessive for 10 bit times (R384): a waiting REJOIN takes effect; the channel runs, or is off with en = 0, or sleeps with
its bus (log entry 70). -/
def execLinRejoinEffect (u : Fin 8) (s : State) : Out :=
  .next (if linState s u = 3 ∧ (s.linc u).rejoin ∧ perRuns s then
    linEvent (((s.put (LIN_STATUS_state u) (linOn s u)).put (LIN_STATUS_entry u) 0).modLin u fun c => { c with rejoin := false, started := false })
      u 4 0
    else s)

/-- A write of LIN_CTRL: en runs the channel or turns it off; a managed bus that sleeps stays asleep (R360). In siding the channel stays until
its REJOIN (R35, log entry 70). -/
def linCtrlWrite (s : State) (u : Nat) (v : Word) : State :=
  let was := s.bit (LIN_CTRL_en u)
  let s := s.wr (LIN_CTRL u) (v &&& 0xC0F0FFFF)
  if s.bit (LIN_CTRL_en u) = was ∨ linState s u = 3 then s
  else if was then (s.put (LIN_STATUS_state u) 0).modLin u fun _ => LinCh.init
  else s.put (LIN_STATUS_state u) (linOn s u)

/-! ## SPI host port (R386 to R389) -/

/-- The local links changed. -/
def State.modLcl (s : State) (f : LclSt → LclSt) : State := s.modNet fun n => { n with lcl := f n.lcl }
/-- Answers waiting or pending (R387). -/
def spiWaiting (s : State) : Nat := s.ldg.spiQ.length + s.net.lcl.spiPend

/-- Lq: the length of the oldest answer waiting, or 0 (R387). -/
def spiLq (s : State) : Nat := match s.ldg.spiQ with | a :: _ => a.size | [] => 0
/-- The status byte (R387): bit 7 the recovery ROM serves, bit 3 the last write was discarded, bits 2:0 the answers waiting or pending. -/
def spiStatus (s : State) : Nat := 128 * b2n s.upd.rom + 8 * b2n s.net.lcl.lastDiscard + min 4 (spiWaiting s)
/-- What every transaction starts with (R387): the status byte, 0x00, Lq. -/
def spiHead (s : State) : List Byte := beBytes 1 (spiStatus s) ++ [0] ++ beBytes 2 (spiLq s)
/-- What a read returns (R389): the oldest answer, then its CRC-32C over bytes 2 to 3 + Lq; nothing with Lq = 0. -/
def spiAnswer (s : State) : List Byte :=
  match s.ldg.spiQ with
  | a :: _ => a.frame ++ beWord (crc32c (beBytes 2 a.size ++ a.frame))
  | [] => []
/-- Whether the port takes part in a transaction (R56, R386). -/
def spiServes (s : State) : Bool := ctlReached s && s.bit LCL_SPI_en && s.pwr.io1
/-- The port has sent the bytes of a transaction of `n` bytes, 0x00 after what it has to send. -/
def spiSent (s : State) (l : List Byte) (n : Nat) : State := s.modLcl fun x => { x with miso := (l ++ List.replicate (n - l.length) 0).take n }

/-- A write transaction of the host's bytes ends (R387, R388): a frame that passes then reaches the ledger as the command it spells. A
transaction with another byte 0 or type is ignored and counts as a discard. -/
def spiWrite (s : State) (mosi : List Byte) : State :=
  let header := beField mosi 0 2 == 0xA501
  let len := beField mosi 2 2
  let bad (f : Fd) : State := (s.count f).modLcl fun l => { l with lastDiscard := header || l.lastDiscard }
  if ! header || decide (len < 32 ∨ 1056 < len) || decide (mosi.length < 8 + len) then bad LCL_SPI_discards
  else if crc32c (mosi.take (4 + len)) ≠ BitVec.ofNat 32 (beField mosi (4 + len) 4) then bad LCL_SPI_crcerr
  else if 4 ≤ spiWaiting s then bad LCL_SPI_discards
  else s.modLcl fun l => { l with lastDiscard := false, spiPend := l.spiPend + 1 }

/-- A transaction of the SPI host port (R387 to R389): a read sends the oldest answer, which is removed when CS_N rises after its last CRC
byte; any other is a write or a discard. -/
def spiTransact (s : State) (mosi : List Byte) : State :=
  if ! spiServes s then s
  else if beField mosi 0 2 = 0xA502 then
    let t := spiSent s (spiHead s ++ spiAnswer s) mosi.length
    if 8 + spiLq s ≤ mosi.length then { t with ldg := { t.ldg with spiQ := t.ldg.spiQ.tail } } else t
  else spiSent (spiWrite s mosi) (spiHead s) mosi.length

/-- An SPI write (R387, R388): the bytes the host sends while CS_N is low, the two of the start, L, the frame and the CRC. -/
def execSpiWrite (start len frame crc : List Byte) (s : State) : Out := .next (spiTransact s (start ++ len ++ frame ++ crc))
/-- An SPI read (R389) of `n` bytes: the host sends 0xA5, 0x02 and `n − 2` bytes that the port ignores. -/
def execSpiRead (n : Nat) (s : State) : Out := .next (spiTransact s ([0xA5, 0x02] ++ List.replicate (n - 2) 0))

/-! ## I²C (R390) -/

/-- The transfer of a controller. -/
def i2cOf (s : State) (n : Nat) : Option I2cXfer := if n = 0 then s.net.lcl.i2c0 else s.net.lcl.i2c1
/-- The transfer of a controller replaced. -/
def setI2c (s : State) (n : Nat) (x : Option I2cXfer) : State := s.modLcl fun l => if n = 0 then { l with i2c0 := x } else { l with i2c1 := x }

/-- The transfer that go starts (R390): the address with write and the bytes of the data words, byte 0 first; then, with bytes to read, the
address with read. -/
def i2cXfer (s : State) (n addr wlen rlen : Nat) : I2cXfer :=
  { addr := addr, rlen := rlen, clear := ! s.pwr.io1 || Config.sdaLow s.freeCtr,
    out := (List.range wlen).map fun i => byteOf (s.rd (LCL_I2C_DATA n (i / 4))) (i % 4) }

/-- A write of LCL_I2Cn_CMD (R390): ignored while busy, and while the controller is not enabled. With VIO1 out of range SDA reads
0 (R56), and the transfer that starts ends with SDA low. Where SDA is low as go is written, which nothing else tells, 9 clocks and a STOP go
first. -/
def i2cCommand (s : State) (w n addr wlen rlen : Nat) : State :=
  s.granted w (s.blockOk w 20) (LCL_I2C_CMD n) fun s =>
    if s.bit (LCL_I2C_STATUS_busy n) || ! s.bit (LCL_I2C_CFG_en n) then s
    else (setI2c (s.putB (LCL_I2C_STATUS_busy n) true) n (some (i2cXfer s n addr (min 32 wlen) (min 32 rlen)))).drawn

/-- A transfer starts (R390). -/
def execI2cTransfer (w : CtxId) (n : Fin 2) (addr : BitVec 7) (wlen rlen : BitVec 6) (s : State) : Out :=
  .next (i2cCommand s w n addr.toNat wlen.toNat rlen.toNat)

/-- What a transfer has put on its bus (R390): the address bytes and the data bytes that it reached, all of them when it is done, up to the byte
NACKed with result 3. How far the others came R390 does not say, so they are not recorded (log entry 80). -/
def i2cSaw (s : State) (n : Nat) (x : I2cXfer) (result nbyte : Nat) : State :=
  let wr := BitVec.ofNat 8 (2 * x.addr) :: x.out
  let all := if x.rlen = 0 then wr else wr ++ [BitVec.ofNat 8 (2 * x.addr + 1)]
  match result with
  | 1 => s.modLcl fun l => { l with i2cSent := l.i2cSent ++ [(n, x.clear, all)] }
  | 3 => s.modLcl fun l => { l with i2cSent := l.i2cSent ++ [(n, x.clear, wr.take (nbyte + 2))] }
  | _ => s

/-- A transfer ends with a result (R390). -/
def i2cEnd (s : State) (n result nbyte : Nat) (data : List Byte) : State :=
  match i2cOf s n with
  | none => s
  | some x =>
    let s := i2cSaw s n x result nbyte
    let s := setI2c (((s.putB (LCL_I2C_STATUS_busy n) false).put (LCL_I2C_STATUS_result n) result).wrap (LCL_I2C_STATUS_count n)) n none
    let s := if result = 3 then s.put (LCL_I2C_STATUS_nbyte n) nbyte else s
    if result = 1 then
      (List.range x.rlen).foldl (fun s i =>
        let r := LCL_I2C_DATA n (i / 4)
        s.wr r (setBits (s.rd r) (8 * (i % 4) + 7) (8 * (i % 4)) (data.getD i 0).toNat)) s
    else s

/-- A transfer ends (R390): 1 done with the bytes read, 2 address NACK, 3 data NACK at byte `nbyte`, 5 SDA held low, as SDA reads with
VIO1 out of range (R56). -/
def execI2cTransferEnd (n : Fin 2) (result : Fin 4) (nbyte : Fin 64) (data : List Byte) (s : State) : Out :=
  .next (i2cEnd s n (if ! s.pwr.io1 then 5 else match result with | 0 => 1 | 1 => 2 | 2 => 3 | _ => 5) nbyte data)
/-- Clock stretching exceeds tmo ms (R390). -/
def execI2cStretchTimeout (n : Fin 2) (s : State) : Out := .next (i2cEnd s n 4 0 [])

/-! ## Handshake and Park (R391) -/

/-- The answer of ETH (R391): Delay while a frame is queued for transmission. -/
def ethAnswerHs (s : State) (park : Bool) : HsAns := if park && s.net.ethQ.any (fun f => ! f.msg.waits) then .delay else .ack
/-- The answer of T1S (R391). -/
def t1sAnswer (s : State) (park : Bool) : HsAns :=
  if ! park then .ack
  else if [0, 1].any fun n => t1sState s n == 1 && busState s (20 + n) == 0 then .refuse 0x60
  else if (t1sPend s 0).isEmpty && (t1sPend s 1).isEmpty then .ack else .delay
/-- The answer of LIN (R391): a frame is in progress from its header to the end of its response. -/
def linAnswer (s : State) (park : Bool) : HsAns :=
  if ! park then .ack
  else if (List.range 8).any fun u => linState s u == 1 && busState s (12 + u) == 0 then .refuse 0x50
  else if (List.range 8).any fun u => (s.linc u).cur.isSome || (s.linc u).hdr.isSome then .delay else .ack
/-- The answer of LCL (R391): an SPI transaction is one command, so CS_N is high whenever the answer is judged (log entry 80). -/
def lclAnswer (s : State) (park : Bool) : HsAns :=
  if park && (s.net.lcl.i2c0.isSome || s.net.lcl.i2c1.isSome) then .delay else .ack

/-- Entry to Park: the backbone ports are Disabled (R391). -/
def ethPark (s : State) : State := ((ethDiscard (ethDiscard s 0) 1).put (ETH_P_STATUS_state 0) 0).put (ETH_P_STATUS_state 1) 0
/-- The return to Run: ports with en = 1 train again (R391). -/
def ethResume (s : State) : State :=
  [0, 1].foldl (fun s n => if s.bit (ETH_P_CTRL_en n) then s.put (ETH_P_STATUS_state n) 1 else s) s

end Sys2Proof.Machine
end

