-- ==== Sys2Proof/Machine/Nmg.lean ====
section
/-! DEFINITION. Network management: sleep and wake of the CAN, LIN and 10BASE-T1S buses (R354 to R368). -/
namespace Sys2Proof.Machine
open Sys2Proof Reg

/-- The NMG part of the state changed. -/
def State.modNmg (s : State) (f : NmgSt → NmgSt) : State := s.modNet fun n => { n with nmg := f n.nmg }

/-- Putting a bus to sleep (R360). A LIN channel or 10BASE-T1S segment in siding stays there: R35 gives it no way out but REJOIN, after which it
sleeps (DESIGN CHOICE, log entry 70: R360 speaks of siding only for CAN). -/
def busSleepHw (s : State) (b : Nat) : State :=
  if b < 12 then
    if canState s b = 0 then s
    else if (s.canc b).cur.isSome then s.modCan b fun c => { c with after := some (c.after.getD .quiet) }
    else canStop s b
  else if b < 20 then
    let u := b - 12
    if linState s u = 0 ∨ linState s u = 3 then s
    else (s.put (LIN_STATUS_state u) 2).modLin u fun c => { c with cur := none, hdr := none, started := false, rejoin := false }
  else
    let n := b - 20
    if t1sState s n = 0 ∨ t1sState s n = 3 then s else ((t1sDropAll s n).put (T1S_S_STATUS_state n) 2).putB (T1S_S_STATUS_plcaok n) false

/-- Waking a bus (R360): a CAN controller that still ends an own frame goes on running. -/
def busWakeHw (s : State) (b : Nat) : State :=
  if b < 12 then
    let s := s.modCan b fun c => { c with after := c.after.filter fun a => a != .quiet }
    if canState s b = 0 ∧ canConfigOk s b then canIntegrate s b false else s
  else if b < 20 then
    let u := b - 12
    if linState s u = 2 then s.put (LIN_STATUS_state u) 1 else s
  else
    let n := b - 20
    if t1sState s n = 2 then t1sRestart s n else s

/-- A bus takes a state; NMG_AWAKE shows it. -/
def setBus (s : State) (b st : Nat) : State :=
  let s := s.put (NMG_BUS_STATE_state b) st
  s.wr NMG_AWAKE (setBits (s.rd NMG_AWAKE) b b (b2n (st == 2)))

/-- A keep-alive of bus `b` (R357, R361, R362): a CAN request without a ticket unless the buffer is still pending; a LIN responder has a
wake-up signal to send instead; a Running 10BASE-T1S segment has the frame to send, which counts as it is sent (R358). -/
def keepAliveSend (s : State) (b : Nat) (waking : Bool) : State :=
  if b < 12 then
    let k := s.get (NMG_BUS_KATX_buf b)
    if isPend s b k then s else txRequest s b k none
  else if b < 20 then
    if waking ∧ ¬ s.bit (LIN_CTRL_cmdr (b - 12)) then s.modLin (b - 12) fun c => { c with wakeup := true } else s
  else if t1sState s (b - 20) = 1 then s.modT1s (b - 20) fun g => { g with ka := true } else s

/-- A bus becomes Awake by own need or by a remote wake (R356). -/
def busAwake (s : State) (b : Nat) (own : Bool) : State :=
  let s := busTimer ((setBus (busWakeHw s b) b 2).putB (NMG_BUS_STATE_seen b) false) b
  if own then keepAliveSend s b true else s.count (NMG_BUS_STATE_wakes b)

/-- A bus falls Asleep (R356). -/
def busAsleep (s : State) (b : Nat) : State := setBus (busSleepHw s b) b 1

/-- Whether network management runs: in Run and Doze; between the commit to Park or Off and the return every managed bus stays Asleep (R366). -/
def nmgRuns (s : State) : Bool := match s.pwr.phase with | .run | .doze => true | _ => false

/-- An Asleep bus with an effective need wakes (R356). -/
def needCheck (s : State) (b : Nat) : State := if nmgRuns s ∧ busState s b = 1 ∧ busNeed s b then busAwake s b true else s

/-- en set (R356): the bus is Asleep, and wakes at once where it has a need. -/
def busEnable (s : State) (b : Nat) : State :=
  let s := s.putB (NMG_BUS_CFG_en b) true
  if busState s b = 0 then needCheck (busAsleep s b) b else s

/-- en cleared (R356): the hardware is left as it stands. -/
def busDisable (s : State) (b : Nat) : State := setBus (s.putB (NMG_BUS_CFG_en b) false) b 0

/-- pin written (R355, R356). -/
def busPin (s : State) (b pin : Nat) : State :=
  let s := s.put (NMG_BUS_CFG_pin b) pin
  if pin = 3 ∧ busState s b = 2 then busAsleep s b else needCheck s b

/-- A write of NMG_BUSb_CFG (R354, R356): en cleared leaves the hardware as it stands, whatever else the write changes. -/
def busCfgWrite (s : State) (b : Nat) (v : Word) : State :=
  let s := s.wr (NMG_BUS_CFG b) (setBits (v &&& 0x0CFF0000) 31 28 (getBits (s.rd (NMG_BUS_CFG b)) 31 28))
  if bitOf v 31 then busEnable (busPin s b (getBits v 29 28)) b
  else (busDisable s b).put (NMG_BUS_CFG_pin b) (getBits v 29 28)

/-- A vote of the writer's tenant (R355, R368). -/
def busVote (s : State) (w b : Nat) (on : Bool) : State :=
  s.granted w (s.blockOk w 19 && s.capBit w 7 b) (NMG_BUS_NEED b) fun s =>
    let r := NMG_BUS_NEED b
    needCheck (s.wr r (setBits (s.rd r) (s.tenant w) (s.tenant w) (b2n on))) b

/-- en set by context 0 (R356). -/
def execBusManageEnable (w : CtxId) (b : Fin 22) (s : State) : Out := .next (s.granted w (w == 0) (NMG_BUS_CFG b) fun s => busEnable s b)
/-- en cleared by context 0 (R356). -/
def execBusManageDisable (w : CtxId) (b : Fin 22) (s : State) : Out := .next (s.granted w (w == 0) (NMG_BUS_CFG b) fun s => busDisable s b)
/-- A vote (R355). -/
def execBusVote (w : CtxId) (b : Fin 22) (on : Bool) (s : State) : Out := .next (busVote s w b on)
/-- pin written by context 0 (R355). -/
def execBusPinWrite (w : CtxId) (b : Fin 22) (pin : Fin 4) (s : State) : Out := .next (s.granted w (w == 0) (NMG_BUS_CFG b) fun s => outDirty (busPin s b pin))

/-- The keep-alive period of a bus expires (R357). -/
def execKeepaliveSend (b : Fin 22) (s : State) : Out := .next (if busState s b = 2 ∧ busNeed s b then keepAliveSend s b false else s)

/-- The go-to-sleep command that a commander sends as its bus is to sleep (R361): identifier 0x3C, data 0x00 and 0xFF seven times. -/
def goToSleep (s : State) (b : Nat) : State :=
  if 12 ≤ b ∧ b < 20 ∧ s.bit (LIN_CTRL_cmdr (b - 12)) ∧ linState s (b - 12) = 1 then
    linSends s (b - 12) 0x3C false (0 :: List.replicate 7 0xFF)
  else s

/-- A bus timer expires (R356, R360, R361). -/
def busExpire (s : State) (b : Nat) : State :=
  if busState s b ≠ 2 then s
  else if busNeed s b then busTimer (s.count (NMG_BUS_STATE_lonely b)) b
  else if b < 12 ∧ canState s b = 4 then busTimer s b
  else busAsleep (goToSleep (if s.bit (NMG_BUS_STATE_seen b) then s else s.count (NMG_BUS_STATE_falsewake b)) b) b

/-- A bus timer expires (R356). -/
def execBusSleepTimer (b : Fin 22) (s : State) : Out := .next (busExpire s b)

/-- The filter time tf of a bus in ns (R363): values below the range act as its minimum. -/
def filterNs (s : State) (b : Nat) : Nat :=
  let f := s.get (NMG_BUS_CFG_filt b)
  if b < 12 then 250 * max 2 f else if b < 20 then 10000 * max 5 f else 1000 * max 1 f

/-- Whether activity passes the filter of its bus (R363), by the lengths of its first three phases in ns: on CAN0 to CAN7 dominant, recessive
and dominant, each at least tf, all within 1 ms; on CAN8 to CAN11 RXD low; on LIN dominant, then recessive; on 10BASE-T1S activity. -/
def wakePasses (s : State) (b d1 d2 d3 : Nat) : Bool :=
  let tf := filterNs s b
  if b < 8 then decide (tf ≤ d1 ∧ tf ≤ d2 ∧ tf ≤ d3 ∧ d1 + d2 + tf ≤ 1000000)
  else if 12 ≤ b ∧ b < 20 then decide (tf ≤ d1 ∧ 0 < d2)
  else decide (tf ≤ d1)

/-- A remote wake of an Asleep bus is asked of the device in Park, and the bus is to be Awake on the return to Run (R364). -/
def busWakesInPark (s : State) (b : Nat) : State :=
  if busState s b = 1 then s.modNmg fun n => { n with parkWake := if n.parkWake.contains b then n.parkWake else n.parkWake ++ [b] } else s

/-- Activity on an Asleep bus (R363, R364, R366). -/
def remoteWake (s : State) (b : Nat) (passes : Bool) : State :=
  if busState s b ≠ 1 then s
  else if ! passes then s.count (NMG_BUS_STATE_rejects b)
  else
    let s := if s.pwr.target.isSome then s.modNmg fun n => { n with woke := true } else s
    let wake := s.bit (NMG_BUS_CFG_wake b)
    match s.pwr.phase with
    | .run | .doze =>
      if ! wake then s.count (NMG_BUS_STATE_rejects b) else if s.get (NMG_BUS_CFG_pin b) = 3 then s else busAwake s b false
    | .parking | .park =>
      if ! wake then s.count (NMG_BUS_STATE_rejects b)
      else busWakesInPark (wakeRequest s 4 b) b
    | _ => s

/-- Activity on an Asleep bus (R363). -/
def execRemoteWake (b : Fin 22) (d : BusActivity) (s : State) : Out := .next (remoteWake s b (wakePasses s b d.d1 d.d2 d.d3))

/-- A responder receives the go-to-sleep command (R361); with an effective need it has a wake-up signal to send later. -/
def execLinGotosleepReceive (u : Fin 8) (s : State) : Out :=
  .next <| if busState s (12 + u) = 2 ∧ ¬ s.bit (LIN_CTRL_cmdr u) then
    let s := busAsleep s (12 + u)
    if busNeed s (12 + u) then s.modLin u fun c => { c with wakeup := true } else s
  else s

/-- A responder with need sends the wake-up signal (R361): an Asleep bus wakes; it repeats until a header is received. In Park every managed bus is Asleep (R366). -/
def execLinWakeupSignal (u : Fin 8) (s : State) : Out :=
  .next (if nmgRuns s && linState s u != 3 && (s.linc u).wakeup && ! s.bit (LIN_CTRL_cmdr u) && busState s (12 + u) == 1 && busNeed s (12 + u) then busAwake s (12 + u) true
    else s)

/-- A commander that waits out tsleep receives a wake-up signal (R361): its timer restarts. -/
def execLinWakeupReceive (u : Fin 8) (s : State) : Out :=
  .next (if busState s (12 + u) = 2 ∧ s.bit (LIN_CTRL_cmdr u) ∧ ¬ busNeed s (12 + u) then busTimer s (12 + u) else s)

/-- The answer of NMG in the entry handshake (R366). -/
def nmgAnswer (s : State) (park : Bool) : HsAns :=
  if ! park then .ack
  else if s.net.nmg.woke then .refuse 0x41
  else if (List.range 22).any fun b => busState s b == 2 then .refuse 0x40
  else .ack

/-- Whether a bus has a need that wakes it as Park ends (R356): a LIN responder put to sleep against its need sends its wake-up signal
instead (R361). -/
def needLeft (s : State) (b : Nat) : Bool := decide (b < 12 ∨ 20 ≤ b) || ! (s.linc (b - 12)).wakeup

/-- The return to Run (R364): buses that a remote wake in Park has chosen become Awake, unless pin = 3; then buses with a need that arose after
the commit (R356). -/
def nmgResume (s : State) : State :=
  let s' := s.modNmg fun n => { n with parkWake := [] }
  let s' := s.net.nmg.parkWake.foldl (fun s b => if busState s b = 1 ∧ s.get (NMG_BUS_CFG_pin b) ≠ 3 then busAwake s b false else s) s'
  (List.range 22).foldl (fun s b => if needLeft s b then needCheck s b else s) s'

end Sys2Proof.Machine
end

