-- ==== Sys2Proof/Machine/Clk.lean ====
section
/-! DEFINITION. Clocks: the switch of the core, operating points, failures and the gate tree (R430 to R443). -/
namespace Sys2Proof.Machine
open Sys2Proof Reg

/-- The clock part of the state changed. -/
def State.modClk (s : State) (f : ClkSt → ClkSt) : State := { s with clk := f s.clk }

/-- A write of a CLK register by context `w`: context 0 only (R443). -/
def clkOnly (s : State) (w : Nat) (r : Rg) (f : State → State) : State := s.granted w (w == 0) r f

/-- The clock-failure event: context 0, input 3, code in bits 3:0 (R437). -/
def clockEvent (s : State) (code : Nat) : State := s.event 765 code

/-- The quality of A1 (R178). -/
def setQual1 (s : State) (q : Nat) : State := s.setAxis 1 { s.axis 1 with qual := q }

/-! ## CKOUT (R443) -/

/-- The frequency in kHz of the clock that a value of CLK_CKOUT selects. -/
def ckFreq (s : State) (v : Word) : Nat :=
  match getBits v 26 24 with
  | 1 => 100000 | 2 => 25000 | 3 => 33 | 4 => 500000 | 5 => 100000 | 6 => 80000
  | _ => if s.bit CLK_STATUS_src then (match s.get CLK_STATUS_op with | 0 => 400000 | 1 => 300000 | 2 => 150000 | _ => 50000) else 100000

/-- The divisor of a value of CLK_CKOUT. -/
def ckDiv (v : Word) : Nat := getBits v 11 0 + 1

/-- Whether the result of a value of CLK_CKOUT lies above 50 MHz. -/
def ckHigh (s : State) (v : Word) : Bool := decide (50000 * ckDiv v < ckFreq s v)

/-- A result above 50 MHz is not produced: s_ckhi is set. -/
def ckoutCheck (s : State) : State :=
  if s.get CLK_CKOUT_mode = 1 ∧ ckHigh s (s.rd CLK_CKOUT) then s.putB CLK_STATUS_s_ckhi true else s

/-- Whether CKOUT puts out a clock: in mode 1, with a result of at most 50 MHz. -/
def ckRuns (s : State) : Bool := s.get CLK_CKOUT_mode == 1 && ! ckHigh s s.clk.ckout

/-- The selection and the divisor of CLK_CKOUT come into force: at the end of the low phase, at once where no clock is put out. -/
def ckoutTaken (s : State) : State := s.modClk fun c => { c with ckout := s.rd CLK_CKOUT }

/-- Whether the low phase of CKOUT, at whose end a change is taken, is still to end. -/
def ckoutDue (s : State) : Bool := s.clk.ckout != s.rd CLK_CKOUT

/-- A write of CLK_CKOUT. -/
def ckoutWrite (s : State) (v : Word) : State :=
  let r := ckRuns s
  let s := ckoutCheck (s.wr CLK_CKOUT (v &&& 0xC7000FFF))
  if r then s else ckoutTaken s

/-- The high time of the clock at CKOUT in input cycles, and its divisor: half of an even divisor, half of an odd one rounded up. -/
def ckShape (s : State) : Nat × Nat := ((ckDiv s.clk.ckout + 1) / 2, ckDiv s.clk.ckout)

/-! ## Operating points (R434, R435) -/

/-- The OP the core is to have: OP3 in Doze, else CLK_CORE.op (R446). -/
def opWanted (s : State) : Nat := if s.pwr.phase = .doze then 3 else s.get CLK_CORE_op

/-- The sequencer is given a target: it starts, or takes the target when its running change ends. -/
def seqTo (s : State) (op : Nat) : State :=
  if s.bit CLK_STATUS_opbusy then s.modClk fun c => { c with queued := some op }
  else if s.bit CLK_STATUS_src ∧ s.get CLK_STATUS_op = op then s
  else (s.putB CLK_STATUS_opbusy true).modClk fun c => { c with target := op, queued := none }

/-- The core moves to FIRC at once (R435). -/
def toFirc (s : State) : State :=
  ckoutCheck ((((s.putB CLK_CORE_src false).putB CLK_STATUS_src false).putB CLK_STATUS_opbusy false).modClk fun c => { c with queued := none })

/-- A write of CLK_CORE.src (R432, R435): 1 while PLL0 is not locked is ignored with cmdres 1. -/
def srcWrite (s : State) (src : Bool) : State :=
  if src then
    if ! s.bit CLK_STATUS_pll0 then s.put CLK_STATUS_cmdres 1
    else
      let s := s.put CLK_STATUS_cmdres 0
      if s.bit CLK_CORE_src then s else seqTo (s.putB CLK_CORE_src true) (opWanted s)
  else
    let s := s.put CLK_STATUS_cmdres 0
    if s.bit CLK_CORE_src then toFirc s else s

/-- A write of CLK_CORE.op (R435). -/
def opWrite (s : State) (op : Nat) : State :=
  let s := s.put CLK_CORE_op op
  if s.bit CLK_CORE_src then seqTo s (opWanted s) else s

/-- A write of CLK_CORE: both fields. -/
def coreWrite (s : State) (v : Word) : State := srcWrite (opWrite s (getBits v 1 0)) (bitOf v 31)

/-- CLK_CORE.src written by context `w` (R432). -/
def execCoreSrcSelect (w : CtxId) (src : Bool) (s : State) : Out := .next (clkOnly s w CLK_CORE fun s => srcWrite s src)
/-- CLK_CORE.op written by context `w` (R435). -/
def execOpChange (w : CtxId) (op : Fin 4) (s : State) : Out := .next (clkOnly s w CLK_CORE fun s => opWrite s op)

/-- A change of the sequencer ends (R435): a target that waits starts. -/
def opDone (s : State) : State :=
  if s.bit CLK_STATUS_opbusy then
    let s := ((s.putB CLK_STATUS_opbusy false).putB CLK_STATUS_src true).put CLK_STATUS_op s.clk.target
    let q := s.clk.queued
    let s := ckoutCheck (s.modClk fun c => { c with queued := none })
    match q with
    | some op => seqTo s op
    | none => s
  else s

/-- A sequencer change ends (R435). -/
def execOpChangeDone (s : State) : Out := .next (opDone s)

/-! ## Sources and failures (R432, R433, R437) -/

/-- Whether the clocks run: not in Park, Off or a reset (R441). -/
def clkRuns (s : State) : Bool := match s.pwr.phase with | .park | .off | .inReset => false | _ => true

/-- XTAL is stable (R432, R433): at a start the PLLs lock on it; after a failure event code 6 is raised. -/
def xtalStable (s : State) : State :=
  match s.get CLK_STATUS_xtal with
  | 0 => setQual1 ((s.put CLK_STATUS_xtal 1).putB CLK_STATUS_xsel true) 0
  | 2 => clockEvent (s.put CLK_STATUS_xtal 1) 6
  | _ => s

/-- The amplitude detector declares XTAL stable (R432). -/
def execXtalStable (s : State) : Out := .next (if clkRuns s then xtalStable s else s)

/-- PLL0 or PLL1 locks (R432, R454): with PLL1 the timeline counter takes over and its late items fall due. -/
def pllLock (s : State) (one : Bool) : State :=
  if s.get CLK_STATUS_xtal = 0 ∨ s.get CLK_STATUS_xtal = 3 then s
  else if one then
    if s.bit CLK_STATUS_pll1 then s else takeOver ((s.putB CLK_STATUS_pll1 true).putB PWR_STATUS_pllwait false)
  else s.putB CLK_STATUS_pll0 true

/-- XTAL has not become stable within 20 ms (R433, R437). -/
def xtalStartFail (s : State) : State :=
  if s.get CLK_STATUS_xtal = 0 then
    let s := ((s.put CLK_STATUS_xtal 2).putB CLK_STATUS_xsel false).putB CLK_STATUS_s_xfail true
    phyFail ((clockEvent (setQual1 s 2) 2).raise 11)
  else s

/-- The crystal has failed to start (R433). -/
def execXtalStartFail (s : State) : Out := .next (if clkRuns s then xtalStartFail s else s)

/-- A crystal failure (R437): both references switch to FIRC / 4, A1 becomes Free-run. -/
def xtalFail (s : State) : State :=
  if s.get CLK_STATUS_xtal = 1 then
    let s := if s.bit CLK_STATUS_xsel then s.modClk fun c => { c with switching := true } else s
    let s := ((s.put CLK_STATUS_xtal 2).putB CLK_STATUS_xsel false).putB CLK_STATUS_s_xfail true
    phyFail ((clockEvent (setQual1 s 2) 1).raise 11)
  else s

/-- A crystal failure (R437). -/
def execXtalFail (s : State) : Out := .next (if clkRuns s then xtalFail s else s)

/-- PLL0 loses lock (R437, R446): the core moves to FIRC, and a device in Doze returns to Run. -/
def pll0Fail (s : State) : State :=
  if s.bit CLK_STATUS_pll0 then
    let s := (s.putB CLK_STATUS_pll0 false).putB CLK_STATUS_s_pll0 true
    let s := if s.pwr.phase = .doze then (s.put PWR_STATUS_state 0).modPwr fun p => { p with phase := .run } else s
    (clockEvent (toFirc s) 3).raise 12
  else s

/-- PLL0 loses lock (R437). -/
def execPll0Fail (s : State) : Out := .next (if clkRuns s then pll0Fail s else s)

/-- PLL1 loses lock (R437): the blocks it clocks stop until it relocks. -/
def pll1Fail (s : State) : State :=
  if s.bit CLK_STATUS_pll1 then (clockEvent ((s.putB CLK_STATUS_pll1 false).putB CLK_STATUS_s_pll1 true) 4).raise 13 else s

/-- PLL1 loses lock (R437). -/
def execPll1Fail (s : State) : Out := .next (if clkRuns s then pll1Fail s else s)

/-- An LPO failure (R437). -/
def lpoFail (s : State) : State :=
  if s.clk.lpoBad then s
  else
    let s := ((s.putB CLK_STATUS_lpo false).putB CLK_STATUS_s_lpo true).modClk fun c => { c with lpoBad := true }
    (clockEvent s 5).raise 14

/-- An LPO failure (R437). -/
def execLpoFail (s : State) : Out := .next (if clkRuns s then lpoFail s else s)

/-- A FIRC failure (R437, R439): with XTAL stable the device runs on it and event code 7 is raised; else only the failure is judged, and
CLOCK_LOSS follows. -/
def fircFail (s : State) : State :=
  if s.clk.fircBad then s
  else
    let s := ((s.putB CLK_STATUS_firc false).putB CLK_STATUS_s_firc true).modClk fun c => { c with fircBad := true }
    if s.get CLK_STATUS_xtal = 1 then (clockEvent s 7).raise 15 else s

/-- A FIRC failure (R437). -/
def execFircFail (s : State) : Out := .next (if clkRuns s then fircFail s else s)

/-- CLK_CMD XTALSEL (R437): refused with cmdres 2 unless XTAL has been stable for at least 1 ms (`aged`). -/
def xtalsel (s : State) (aged : Bool) : State :=
  if s.get CLK_STATUS_xtal = 1 ∧ aged then
    let s := if s.bit CLK_STATUS_xsel then s else (s.putB CLK_STATUS_xsel true).modClk fun c => { c with switching := true }
    (setQual1 s 0).put CLK_STATUS_cmdres 0
  else s.put CLK_STATUS_cmdres 2

/-- A write of CLK_CMD; how long XTAL has been stable is not measured by the model, so at the 1 ms limit it is a free value. -/
def clkCmd (s : State) (op : Nat) : State := if op = 1 then xtalsel s.drawn (bitOf s.freeW 0) else s.put CLK_STATUS_cmdres 3

/-- CLK_CMD XTALSEL by context `w` (R437). -/
def execXtalsel (w : CtxId) (aged : Bool) (s : State) : Out := .next (clkOnly s w CLK_CMD fun s => xtalsel s aged)
/-- A reference switch is complete (R437). -/
def execReferenceSwitchDone (s : State) : Out := .next (s.modClk fun c => { c with switching := false })

/-! ## The gate tree (R440) -/

/-- The parent of a gate: the root has none. -/
def gateParent (b : Nat) : Option Nat :=
  if b = 0 then none
  else if b ≤ 5 then some 0
  else if b < 20 then some 1
  else if b < 28 then some 2
  else if b ≤ 29 then some 3
  else some 4

/-- The gates: bits 7:6 are reserved. -/
def gateBits : List Nat := (List.range 32).filter fun b => b ≠ 6 ∧ b ≠ 7

/-- Whether the block of a leaf is in use. -/
def leafInUse (s : State) (b : Nat) : Bool :=
  if 8 ≤ b ∧ b < 20 then canState s (b - 8) != 0
  else if 20 ≤ b ∧ b < 28 then s.bit (LIN_CTRL_en (b - 20))
  else
    match b with
    | 5 => s.bit LCL_SPI_en || s.bit (LCL_I2C_STATUS_busy 0) || s.bit (LCL_I2C_STATUS_busy 1)
    | 28 => s.bit (ETH_P_CTRL_en 0) || s.bit (ETH_P_CTRL_en 1)
    | 29 => s.bit (T1S_S_CTRL_en 0) || s.bit (T1S_S_CTRL_en 1)
    | 30 =>
      ((List.range 4).any fun k => (s.st k).phase != .idle) || s.bit (LED_P_STATUS_pend 2) || s.bit (LED_P_STATUS_pend 3)
        || (s.mat 0).own || (s.mat 1).own
    | 31 => s.bit ACC_CFG_en || exchanging s || s.bit (ACC_SESS_active 0) || s.bit (ACC_SESS_active 1)
    | _ => false

/-- Whether a gate is a group or the root. -/
def isGroup (b : Nat) : Bool := b ≤ 4

/-- Why a change of gate `b` to `on` is refused: 0 not, 1 child on, 2 parent off, 3 block in use. -/
def gateRefusal (s : State) (b : Nat) (on : Bool) : Nat :=
  if on == gateOn s b then 0
  else if on then (match gateParent b with | some p => if gateOn s p then 0 else 2 | none => 0)
  else if isGroup b then (if gateBits.any fun k => gateParent k == some b && gateOn s k then 1 else 0)
  else if leafInUse s b then 3
  else 0

/-- A write of CLK_GATE (R440): judged gate by gate from bit 0 upwards; writes to the leaf of a managed bus are ignored. -/
def gateWrite (s : State) (v : Word) : State :=
  let r := gateBits.foldl (fun (r : State × Option (Nat × Nat)) b =>
    let (s, bad) := r
    if leafManaged s b then r
    else
      match gateRefusal s b (bitOf v b) with
      | 0 => (s.wr CLK_GATE (setBits (s.rd CLK_GATE) b b (b2n (bitOf v b))), bad)
      | why => (s, bad <|> some (b, why))) (s, none)
  match r.2 with
  | none => r.1.wr CLK_GATE_RESULT 0
  | some (b, why) => ((r.1.putB CLK_GATE_RESULT_refused true).put CLK_GATE_RESULT_why why).put CLK_GATE_RESULT_bit b

/-- CLK_GATE written by context `w` (R440). -/
def execGateWrite (w : CtxId) (v : Word) (s : State) : Out := .next (clkOnly s w CLK_GATE fun s => gateWrite s v)

/-! ## Power states and reset (R439, R441, R442) -/

/-- The answer of CLK in the entry handshake (R441). -/
def clkAnswer (s : State) : HsAns :=
  if s.bit CLK_STATUS_opbusy || s.clk.switching then .delay else if s.clk.lpoBad then .refuse 0x80 else .ack

/-- Park stops XTAL, FIRC and both PLLs (R441, R450). -/
def clkPark (s : State) : State :=
  let s := ((s.put CLK_STATUS_xtal 3).putB CLK_STATUS_pll0 false).putB CLK_STATUS_pll1 false
  (toFirc s).modClk fun c => { c with switching := false }

/-- A wake (R432, R441): the core runs on FIRC, and the crystal starts. -/
def clkWake (s : State) : State := toFirc (s.put CLK_STATUS_xtal 0)

/-- A reset of the control die (R442, R458): registers at reset; `restart` says whether the crystal and the PLLs start again, else they run
on, locked; stopped by Park, they start again as at every start (R432). -/
def clkReset (s : State) (restart : Bool) : State :=
  let st := if s.get CLK_STATUS_xtal = 3 then 0 else s.rd CLK_STATUS &&& 0xF8000000
  let s := { s with regs := SMap.clear s.regs CLK_STATUS.addr 0x40 }
  let s := s.modClk fun c => { ClkSt.init with fircBad := c.fircBad && ! restart, lpoBad := c.lpoBad && ! restart }
  if restart then s else s.wr CLK_STATUS st

/-- The quality of A1 after a reset that leaves the clocks running (R178, R207): Free-run for as long as the crystal is not selected again. -/
def a1AfterReset (s : State) : State :=
  if (s.get CLK_STATUS_xtal = 1 ∨ s.get CLK_STATUS_xtal = 2) ∧ ! s.bit CLK_STATUS_xsel then setQual1 s 2 else s

/-- At start-up the monitors judge FIRC and the LPO. -/
def clkStart (s : State) : State := (s.putB CLK_STATUS_firc (! s.clk.fircBad)).putB CLK_STATUS_lpo (! s.clk.lpoBad)

end Sys2Proof.Machine
end

