-- ==== Sys2Proof/Machine/Din.lean ====
section
/-! DEFINITION. Switch inputs (R306 to R321). -/
namespace Sys2Proof.Machine
open Sys2Proof Reg

/-- An input beside its registers. -/
def State.din1 (s : State) (i : Nat) : DinIn := SMap.get DinIn.init s.din.ins i
/-- The state with an input changed. -/
def State.modDin (s : State) (i : Nat) (f : DinIn → DinIn) : State :=
  { s with din := { s.din with ins := SMap.set DinIn.init s.din.ins i (f (s.din1 i)) } }
/-- The die of an input (R306). -/
def dinDie (i : Nat) : Nat := i / 48

/-- The flag of DIN_STATUS that says whether a die's mirrors have been refreshed. -/
def mirrorFlag (d : Nat) : Fd := if d = 0 then DIN_STATUS_mira else DIN_STATUS_mirb

/-- A bit of one of the mirror registers set. -/
def setMirror (s : State) (r : Nat → Rg) (i : Nat) (b : Bool) : State :=
  s.wr (r (i / 32)) (setBits (s.rd (r (i / 32))) (i % 32) (i % 32) (b2n b))

/-- A level reaches its mirror on the control die, once that has been refreshed (R306, R311, DIN_STATUS): the axes that count the input see the
change (R175), and a change of level may end the entry session (R403). -/
def landLevel (s : State) (i : Nat) (b change : Bool) : State :=
  let t := if s.bit (mirrorFlag (dinDie i)) then setMirror s DIN_LEVEL i b else s
  let t := if dinLevel s i == dinLevel t i then t else axisLevel t i b
  if change then doorChange t i b else t

/-- A line fault reaches its mirror (R306). -/
def landFault (s : State) (i : Nat) (b : Bool) : State := if s.bit (mirrorFlag (dinDie i)) then setMirror s DIN_FAULT i b else s

/-- The die of an input tells the control die its level. -/
def tellLevel (s : State) (i : Nat) (b change : Bool) : State := dieTells s (dinDie i) (.mirror false i b change) fun s => landLevel s i b change
/-- The die of an input tells the control die whether its line has a fault. -/
def tellFault (s : State) (i : Nat) (b : Bool) : State := dieTells s (dinDie i) (.mirror true i b false) fun s => landFault s i b

/-- An event of an input, if its code is enabled: code, level, bits 7:0 of chg (R317). -/
def dinEvent (s : State) (i code : Nat) : State :=
  if bitOf (s.rd (DIN_IN_CFG i)) (15 + code) then
    dieEvent s (dinDie i) (554 + i) (code + 16 * s.get (DIN_IN_STATUS_level i) + 64 * (s.get (DIN_IN_STATUS_chg i) % 256))
  else s

/-- The mean number of samples a change needs (R311): d in mode 0, max(1, ceil(d / P)) in mode 1. -/
def debounceCount (s : State) (i : Nat) : Nat :=
  let d := max 2 (min 64000 (s.get (DIN_IN_DB_db i)))
  if s.bit (DIN_IN_WET_mode i) then
    let p := 500 * max 1 (min 128 (s.get (DIN_IN_WET_per i)))
    max 1 ((d + p - 1) / p)
  else d

/-- Whether an input is sampled: its die on, not in Off (R58), enabled, and in Park only a wake source (R320). -/
def sampled (s : State) (i : Nat) : Bool :=
  (s.die (dinDie i)).on && s.pwr.phase != .off && s.bit (DIN_IN_CFG_en i) && (! inPark s || s.bit (DIN_IN_CFG_wake i))

/-- The level of an input set, and its mirror told. -/
def setLevel (s : State) (i : Nat) (b change : Bool) : State := tellLevel (s.putB (DIN_IN_STATUS_level i) b) i b change

/-- A sample of the comparator (R309, R311, R312, R320). -/
def inputSample (s : State) (i : Nat) (v : Bool) : State :=
  if ! sampled s i then s
  else
    let s := (s.putB (DIN_IN_STATUS_raw i) v).modDin i fun x => { x with pulse := false }
    let x := s.din1 i
    let lvl := s.bit (DIN_IN_STATUS_level i)
    if inPark s then
      let w := s.get (DIN_IN_CFG_wedge i)
      let wanted := v != lvl && (w == 0 || w == 3 || (w == 1 && v) || (w == 2 && ! v))
      s.modDin i fun x => { x with parkCnt := if wanted then x.parkCnt + 1 else 0 }
    else if ! x.started then setLevel (s.modDin i fun x => { x with started := true, count := 0 }) i v false
    else s.modDin i fun x => { x with count := if v = lvl then 0 else x.count + 1 }

/-- A comparator sample (R309). -/
def execInputSample (i : Fin 96) (v : Bool) (s : State) : Out := .next (inputSample s i v)

/-- A pulsed wetting current starts (R309); none flows with cur = 0. -/
def execWettingPulse (i : Fin 96) (s : State) : Out :=
  .next <|
    let cur := if inPark s then s.get (DIN_IN_PARK_cur i) else s.get (DIN_IN_WET_cur i)
    if sampled s i && (inPark s || s.bit (DIN_IN_WET_mode i)) && cur != 0 then s.modDin i fun x => { x with pulse := true } else s

/-- The debounce count is reached (R311): the level takes the raw value. -/
def levelChange (s : State) (i : Nat) : State :=
  let lvl := s.bit (DIN_IN_STATUS_level i)
  if sampled s i && ! inPark s && (s.din1 i).started && decide (debounceCount s i ≤ (s.din1 i).count) then
    let s := (s.wrap (DIN_IN_STATUS_chg i)).modDin i fun x => { x with count := 0 }
    dinEvent (setLevel s i (! lvl) true) i (if lvl then 2 else 1)
  else s

/-- A level change (R311, R317). -/
def execLevelChange (i : Fin 96) (s : State) : Out := .next (levelChange s i)

/-! ## Line diagnosis (R314 to R316) -/

/-- Whether the line of an input is judged: diag = 1, pol = 0, mode = 0, cur ≠ 0 (R314). -/
def lineJudged (s : State) (i : Nat) : Bool :=
  s.bit (DIN_IN_CFG_en i) && s.bit (DIN_IN_CFG_diag i) && ! s.bit (DIN_IN_CFG_pol i) && ! s.bit (DIN_IN_WET_mode i) && s.get (DIN_IN_WET_cur i) != 0

/-- Whether the line state is frozen: VBATx3 below 9 V (R314). -/
def lineFrozen (s : State) (i : Nat) : Bool := s.get (PSW_DIE_VBAT_v3 (dinDie i)) < 180

/-- A line fault has persisted for 1 ms (R314, R316, R317): 1 high, 2 low. A level change that is due comes first (R318); in Park the
pulsed samples of R320 judge no line. -/
def lineFault (s : State) (i kind : Nat) : State :=
  let s := levelChange s i
  if sampled s i && ! inPark s && lineJudged s i && ! lineFrozen s i && s.get (DIN_IN_STATUS_line i) != kind then
    let s := ((s.put (DIN_IN_STATUS_line i) kind).putB (DIN_IN_STATUS_s_fault i) true)
    let s := dinEvent (tellFault s i true) i 3
    sourcesLost (s.raise (82 + dinDie i) (BitVec.ofNat 32 i)) (usesInput i)
  else s

/-- The line state of an input returns to ok, and axes that use it have their source back. -/
def lineOk (s : State) (i : Nat) : State :=
  let s := tellFault (s.put (DIN_IN_STATUS_line i) 0) i false
  sourcesBack s (usesInput i)

/-- A line has been back within both levels for 1 ms (R314); a level change that is due comes first (R318). -/
def lineClear (s : State) (i : Nat) : State :=
  let s := levelChange s i
  if sampled s i && ! inPark s && lineJudged s i && ! lineFrozen s i && s.get (DIN_IN_STATUS_line i) != 0 then dinEvent (lineOk s i) i 4 else s

/-- A line fault is declared: high or low (R314). -/
def execLineFaultDeclare (i : Fin 96) (high : Bool) (s : State) : Out := .next (lineFault s i (if high then 1 else 2))
/-- A line fault is cleared (R314). -/
def execLineFaultClear (i : Fin 96) (s : State) : Out := .next (lineClear s i)

/-- A configuration without line judgement has no line fault (R314): the fault that stood is gone, and an axis has its source back. -/
def lineRejudged (s : State) (i : Nat) : State :=
  if lineJudged s i ∨ s.get (DIN_IN_STATUS_line i) = 0 then s else lineOk s i

/-- A write of DIN_INi_CFG (R312, R314): clearing en ends the level without a change; a configuration without line judgement has no line
fault. -/
def dinCfgWrite (s : State) (i : Nat) (v : Word) : State :=
  let s := s.wr (DIN_IN_CFG i) (v &&& 0xFF1FFF00)
  let s := if s.bit (DIN_IN_CFG_en i) then s
    else (setLevel (s.putB (DIN_IN_STATUS_raw i) false) i false false).modDin i fun _ => DinIn.init
  lineRejudged s i

/-- A write of DIN_INi_WET (`wet`) or DIN_INi_DB restarts the debounce (R311); new wetting settings end a pulse of the old ones. -/
def debounceSet (s : State) (i : Nat) (wet : Bool) (v : Word) : State :=
  let r := if wet then DIN_IN_WET i else DIN_IN_DB i
  let s := (s.wr r (v &&& (if wet then 0x8F0F00FF else 0x0000FFFF))).modDin i fun x => { x with count := 0, pulse := x.pulse && ! wet }
  lineRejudged s i

/-- A write of DIN_INi_WET or DIN_INi_DB by context `w`: context 0 only (R307). -/
def debounceWrite (s : State) (w i : Nat) (wet : Bool) (v : Word) : State :=
  let r := if wet then DIN_IN_WET i else DIN_IN_DB i
  s.granted w (w == 0) r fun s => viaDie s (dinDie i) (.write w r.addr v) fun s => debounceSet s i wet v

/-- A write of DIN_INi_WET (`wet`) or DIN_INi_DB by context `w` (R311). -/
def execDebounceRestart (w : CtxId) (i : Fin 96) (wet : Bool) (v : Word) (s : State) : Out := .next (debounceWrite s w i wet v)

/-! ## Analogue readings (R319) -/

/-- The readings queued on a die. -/
def adcQueue (s : State) (d : Nat) : List Nat := if d = 0 then s.din.queueA else s.din.queueB
/-- The readings queued on a die replaced. -/
def setAdcQueue (s : State) (d : Nat) (q : List Nat) : State :=
  { s with din := if d = 0 then { s.din with queueA := q } else { s.din with queueB := q } }

/-- A trigger of a reading; one for an input whose reading is queued is combined with it (R319). -/
def adcTrigger (s : State) (i : Nat) : State :=
  let d := dinDie i
  if ! (s.die d).on || (adcQueue s d).contains i then s else setAdcQueue s d (adcQueue s d ++ [i])

/-- The trigger of a sample on its die (R180, R259, R319): a channel in siding gives outcome 3. -/
def senseAction (s : State) (target : Nat) : State × Nat :=
  if target < 0x60 then (adcTrigger s target, 1)
  else
    let c := target - 0x100
    if s.bit (PSW_CH_STATUS_siding c) then (s, 3) else (s.modChan c fun x => { x with sampleDue := true }, 1)

/-- A write of DIN_ADCGO (R319): values above 95 are ignored. -/
def adcGo (s : State) (w i : Nat) : State :=
  s.granted w (s.blockOk w 12) DIN_ADCGO fun s =>
    if i < 96 then viaDie s (dinDie i) (.write w DIN_ADCGO.addr (BitVec.ofNat 32 i)) fun s => adcTrigger s i else s

/-- DIN_ADCGO (R319). -/
def execAdcGo (w : CtxId) (i : BitVec 7) (s : State) : Out := .next (adcGo s w i.toNat)
/-- The aper period of an input expires (R319). -/
def execAdcPeriodicTrigger (i : Fin 96) (s : State) : Out :=
  .next (if s.get (DIN_IN_CFG_aper i) ≠ 0 ∧ ¬ inPark s then adcTrigger s i else s)

/-- The oldest reading of a die completes (R319, R317). -/
def adcDone (s : State) (d : Nat) (code : BitVec 12) : State :=
  match adcQueue s d with
  | [] => s
  | i :: q =>
    let s := setAdcQueue s d q
    let wet := (sampled s i && ! inPark s && ! s.bit (DIN_IN_WET_mode i) && s.get (DIN_IN_WET_cur i) != 0) || (s.din1 i).pulse
    let s := (((s.putB (DIN_IN_ADC_valid i) true).putB (DIN_IN_ADC_wet i) wet).wrap (DIN_IN_ADC_seq i)).put (DIN_IN_ADC_code i) code.toNat
    dinEvent s i 5

/-- A reading of a die completes (R319). -/
def execAdcReadingDone (d : Fin 2) (code : BitVec 12) (s : State) : Out := .next (if (s.die d).on then adcDone s d code else s)

/-! ## Park (R320, R321) and resets -/

/-- Whether n consecutive Park samples of an input have differed from its held level (R320). -/
def inputAsks (s : State) (i : Nat) : Bool := inPark s && sampled s i && decide (max 1 (s.get (DIN_IN_PARK_n i)) ≤ (s.din1 i).parkCnt)

/-- n consecutive Park samples differ from the held level (R320): a wake is requested with code 3. -/
def execInputWakeRequest (i : Fin 96) (s : State) : Out := .next (if inputAsks s i then wakeRequest s 3 i else s)

/-- Every count and pulse forgotten. -/
def dinClean (m : SMap DinIn) : SMap DinIn :=
  (m.map fun e => (e.1, { e.2 with count := 0, pulse := false, parkCnt := 0 })).filter fun e => decide (e.2 ≠ DinIn.init)

/-- The return to Run: every input resumes, its debounce starts from the held level (R320). -/
def dinResume (s : State) : State :=
  { s with din := { s.din with ins := dinClean s.din.ins } }

/-- Entry to Park: the count of differing samples starts anew (R320). -/
def dinPark (s : State) : State := dinResume s

/-- A reset of the control die: a die in Park mode leaves it; outside Park sampling and wetting go on as they are (R58, R320). -/
def dinHold (s : State) : State := if inPark s then dinResume s else s

/-- Wetting is off while a die's domain is off and in Off (R55, R58). -/
def dinDieOff (s : State) (d : Nat) : State :=
  let off (e : Nat × DinIn) : Nat × DinIn := if dinDie e.1 = d then (e.1, { e.2 with pulse := false }) else e
  { s with din := { s.din with ins := (s.din.ins.map off).filter fun e => decide (e.2 ≠ DinIn.init) } }

/-- The answer of DIN in the entry handshake (R321). -/
def dinAnswer (s : State) : HsAns := if s.din.queueA.isEmpty && s.din.queueB.isEmpty then .ack else .delay

/-- The inputs of a die at reset: when its domain comes on (R306, R251); their mirror bits follow. -/
def dinDieReset (s : State) (d : Nat) : State :=
  let s := { s with regs := SMap.clear s.regs (DIN_IN_CFG (48 * d)).addr (0x20 * 48) }
  let s := setAdcQueue { s with din := { s.din with ins := SMap.clear s.din.ins (48 * d) 48 } } d []
  (List.range 48).foldl (fun s j => landFault (landLevel s (48 * d + j) false false) (48 * d + j) false) s

/-- The mirrors of a die refreshed (DIN_STATUS.mira, mirb). -/
def mirrorRefresh (s : State) (d : Nat) : State :=
  (List.range 48).foldl (fun s j =>
    let i := 48 * d + j
    landFault (landLevel s i (s.bit (DIN_IN_STATUS_level i)) false) i (s.get (DIN_IN_STATUS_line i) != 0)) (s.putB (mirrorFlag d) true)

/-- The readings queued on a die as DIN_STATUS shows them (R306): 0 until the mirror has been refreshed, and while the die is not heard. -/
def readingsShown (s : State) (d : Nat) : Nat := if s.bit (mirrorFlag d) && dieReached s d then (adcQueue s d).length else 0

end Sys2Proof.Machine
end

