-- ==== Sys2Proof/Machine/Evr.lean ====
section
/-! DEFINITION. The event recorder: posts, flushes, the calendar, the start-up scan and reading over ZLP (R486 to R499). -/
namespace Sys2Proof.Machine
open Sys2Proof Reg

/-! ## Firmware posts (R498) -/

/-- The result of a context's post. -/
def postResult (s : State) (c result : Nat) (seq : Option Word) : State :=
  let s := s.wr (own c EVR_PRES) (BitVec.ofNat 32 (result * 2 ^ 30))
  match seq with
  | some q => s.wr (own c EVR_PSEQ) q
  | none => s

/-- The first address of `[a, a + n)` that a block may not read for context `c`: outside data SRAM or the context's data windows. -/
def firstUncovered (s : State) (c a n : Nat) : Option Nat :=
  ((List.range n).map fun i => a + i).find? fun x => ! (decide (x < dSize) && s.covered c x 1 false)

/-- The data that a block reads for a context from data SRAM (R12, R498, R522): a range not wholly inside the windows reads as zero and
counts one violation. -/
def readFor (s : State) (c a n : Nat) : State × List Byte :=
  match firstUncovered s c a n with
  | none => (s, s.dBytes a n)
  | some x => (s.violate c 1 (BitVec.ofNat 32 x), List.replicate n 0)

/-- The payload of a firmware post: context, data length, data, zero-padded to a multiple of 8 (R484). -/
def postPay (c : Nat) (d : List Byte) : List Byte :=
  leBytes 2 c ++ leBytes 2 d.length ++ d ++ List.replicate ((4 + (8 - d.length % 8)) % 8) 0

/-- A post entered, with its result. -/
def enterPost (s : State) (c code : Nat) (pay : List Byte) : State :=
  match makeRec s code pay with
  | (s, true) => postResult s c 1 s.evr.seq
  | (s, false) => postResult s c 2 none

/-- A write of EVR_POST by context `w` (R498). -/
def evrPost (s : State) (w code len : Nat) : State :=
  s.granted w (s.blockOk w 7) EVR_POST fun s =>
    if code < 0x80 then postResult s w 3 none
    else
      let (s, d) := readFor s w ((s.rd (own w EVR_PADDR)).toNat / 4 * 4) (min 244 len)
      let pay := postPay w d
      if s.evr.scanning then s.modEvr fun e => { e with waiting := e.waiting ++ [⟨code, pay, some w⟩] } else enterPost s w code pay

/-- EVR_POST (R498). -/
def execPost (w : CtxId) (code len : Byte) (s : State) : Out := .next (evrPost s w code.toNat len.toNat)

/-! ## Flush and calendar -/

/-- A write of EVR_CMD by context `w` (R489, R499): other ops are ignored. -/
def evrCmd (s : State) (w op : Nat) : State :=
  s.granted w (w == 0) EVR_CMD fun s => if op = 1 then startFlush s true else s

/-- EVR_CMD FLUSH (R489). -/
def execFlush (w : CtxId) (s : State) : Out := .next (evrCmd s w 1)
/-- A flush has copied every unflushed byte (R489): not in Park, nor later than 1.2 ms after the power-fail warning (R491). -/
def execFlushDone (s : State) : Out := .next (if s.evr.flushing && ctlReached s && ! warnedFor s 600000 then flushDone s else s)

/-- A write of EVR_CAL_HI by context `w` (R486, R487): with go = 1 the calendar is set and a page starts. -/
def calSet (s : State) (w : Nat) (go : Bool) (hi : Nat) : State :=
  s.granted w (w == 0) EVR_CAL_HI fun s =>
    if go then startPage (s.modEvr fun e => { e with cal := some (hi * 2 ^ 32 + (s.rd EVR_CAL_LO).toNat, a1Now s) }) else s

/-- EVR_CAL_HI with go = 1 (R487). -/
def execCalendarSet (w : CtxId) (hi : BitVec 16) (s : State) : Out := .next (calSet s w true hi.toNat)

/-- Operating seconds saved to the System region (R486). -/
def opSave (s : State) : State := s.modEvr fun e => { e with opSaved := opSeconds s }
/-- Operating seconds are saved every 360 s while the control die is powered (R486); nothing is written while it is held in reset (R439). -/
def execOpsecSave (s : State) : Out := .next (if dieRuns s then opSave s else s)

/-! ## The ring and the start-up scan (R488, R493, R495, R496) -/

/-- Whether an MRAM word of the range holds an uncorrectable error. -/
def mramBad (s : State) (a n : Nat) : Bool := mramLost s (a / 8) (n / 8)

/-- A record as it stands in the ring: its page, its sequence number, its bytes, whether it holds an uncorrectable word, and its place in
the MRAM window; none where it stands in the buffer. -/
structure RingRec where
  page : Nat
  seq : Word
  bytes : List Byte
  bad : Bool
  place : Option Nat
deriving DecidableEq, Repr

/-- The records of page `n` from an offset on (R493): they end at a length-0 header, at a broken sequence, or at the end of the slot. -/
def walkPage (s : State) (n : Nat) : Nat → Nat → Word → List RingRec
  | 0, _, _ => []
  | fuel + 1, off, e =>
    let a := ringAt n + off
    let len := 8 * ((s.mByte a).toNat % 64)
    if 4096 ≤ off then []
    else if len = 0 ∨ 4096 < off + len then []
    else if (s.mByte (a + 2)).toNat + 256 * (s.mByte (a + 3)).toNat ≠ e.toNat % 65536 then []
    else ⟨n, e, s.mBytes a len, mramBad s a len, some a⟩ :: walkPage s n fuel (off + len) (e + 1)

/-- A page as stored: none where the slot holds another page or a broken anchor. -/
def ringPage (s : State) (n : Nat) : List RingRec :=
  let a := ringAt n
  if (leWord (s.mBytes a 12) 8).toNat = n ∧ ¬ mramBad s a 40 then walkPage s n 512 0 (leWord (s.mBytes a 16) 12) else []

/-- Page `a` is later than page `b` (R487). -/
def pageLater (a b : Nat) : Bool := let d := (a + pageCount - b) % pageCount; 1 ≤ d && d ≤ 2147483519

/-- The newest page among the anchors (R495). -/
def newestPage (s : State) : Option Nat :=
  (List.range 384).foldl (fun best k =>
    let n := (leWord (s.mBytes (0x900000 + 4096 * k) 12) 8).toNat
    if n = 0xFFFFFFFF ∨ mramBad s (0x900000 + 4096 * k) 40 then best
    else match best with
      | none => some n
      | some b => if pageLater n b then some n else best) none

/-- The start-up record (R484). -/
def startRec (s : State) : State :=
  blockRec s 0x05 (leBytes 4 (s.rd PWR_RSTCAUSE).toNat ++ leBytes 4 (s.rd PWR_WAKESRC).toNat ++ leBytes 4 (s.rd PWR_WAKETS_LO).toNat
    ++ leBytes 4 (s.rd PWR_WAKETS_HI).toNat)

/-- The recorder reads the anchor of every slot (R25). -/
def sweepAnchors (s : State) : State := (List.range 384).foldl (fun s k => mramSweep s ((0x900000 + 4096 * k) / 8) 5) s

/-- What the start-up scan reads (R25, R495): the anchor of every slot and the newest page. -/
def scanSweep (s : State) (n : Option Nat) : State :=
  let s := sweepAnchors s
  match n with
  | some n => mramSweep s (ringAt n / 8 + 5) 507
  | none => s

/-- The start-up scan ends (R495): the newest sequence number is known, a new page starts, and what waited enters. -/
def scanDone (s : State) : State :=
  let n := newestPage s
  let last := match n with
    | some n => (ringPage s n).getLast?.map (·.seq)
    | none => none
  let s := (scanSweep s n).modEvr fun e => { e with page := n, seq := last, scanning := false, waiting := [] }
  let s := s.wr EVR_FLUSHED (last.getD 0)
  startRec (startPage s)

/-- What waited during the scan enters, in order. -/
def enterWaiting (s : State) (l : List EvrWait) : State :=
  l.foldl (fun s r => match r.ctx with | some c => enterPost s c r.code r.pay | none => (makeRec s r.code r.pay).1) s

/-- A flush asked for during the scan starts (R465, R489). -/
def startAsked (s : State) : State :=
  match s.evr.asked with
  | some c => startFlush (s.modEvr fun e => { e with asked := none }) c
  | none => s

/-- The start-up scan of the anchors ends (R495), while the control die runs (R48). -/
def execRecorderScanEnd (s : State) : Out :=
  .next (if s.evr.scanning && ctlReached s then startAsked (enterWaiting (scanDone s) s.evr.waiting) else s)

/-! ## Reading over ZLP (R494, R496) -/

/-- Every record kept, oldest first, of the 384 pages up to the current one, modulo the count of page numbers (R487, R493): the ring's records
of a page, then the buffer's; of a page never written, and of one whose slot holds another, the ring has none. -/
def allRecs (s : State) : List RingRec :=
  match s.evr.page with
  | none => []
  | some n =>
    ((List.range 384).flatMap fun i =>
      let p := (n + pageCount - (383 - i)) % pageCount
      ringPage s p ++ (s.evr.buf.filter fun r => r.page = p).map fun r => ⟨p, r.seq, r.bytes, false, none⟩)

/-- A page is delivered up to its first record with an uncorrectable word (R496). -/
def readable (l : List RingRec) : List RingRec :=
  l.filter fun r => ! r.bad && ! (l.any fun x => x.page == r.page && x.bad && seqLater r.seq x.seq)

/-- The longest run of whole records within a number of bytes. -/
def takeBytes : Nat → List RingRec → List RingRec
  | _, [] => []
  | room, r :: rs => if r.bytes.length ≤ room then r :: takeBytes (room - r.bytes.length) rs else []

/-- Whether a record is an anchor. -/
def isAnchor (r : RingRec) : Bool := r.bytes.getD 1 0 == 1

/-- A query of class 0x02 (R494): status, next cursor, data. -/
def evrQuery (s : State) (cursor : Word) (maxBytes : Nat) : Nat × Word × List Byte :=
  let all := allRecs s
  let good := readable all
  if seqLater cursor (s.rd EVR_NEWEST) ∨ s.evr.seq.isNone then (1, cursor, [])
  else
    let (status, rest) : Nat × List RingRec :=
      if all.any fun r => r.seq = cursor then (0, good.filter fun r => r.seq = cursor ∨ seqLater r.seq cursor)
      else (2, good.dropWhile fun r => ! isAnchor r)
    let anchor := match rest with
      | r :: _ => if isAnchor r then [] else (good.filter fun x => x.page == r.page && isAnchor x).take 1
      | [] => []
    let room := maxBytes - (anchor.map fun r => r.bytes.length).sum
    let got := takeBytes room rest
    (status, match got.getLast? with | some r => r.seq + 1 | none => cursor, (if got.isEmpty then [] else anchor ++ got).flatMap (·.bytes))

/-- A query has read the ring (R25, R496): the anchor of every slot, by which it finds its pages, and the records from the cursor on up to the
one at which it ends. Correctable words are corrected and raised, uncorrectable ones raised, source 147 with them. -/
def evrRead (s : State) (cursor next : Word) : State :=
  let l := (allRecs s).filter fun r => ! seqLater cursor r.seq && ! seqLater r.seq next
  let bad := (l.any (·.bad)) || (List.range 384).any fun k => mramBad s (0x900000 + 4096 * k) 40
  let s := sweepAnchors s
  let s := l.foldl (fun s r => match r.place with | some a => if isAnchor r then s else mramSweep s (a / 8) (r.bytes.length / 8) | none => s) s
  if bad then s.raise 147 else s

/-! ## Power states and reset (R459, R497) -/

/-- The answer of EVR in the entry handshake (R497). -/
def evrAnswer (s : State) : HsAns := if s.evr.buf.isEmpty then .ack else .delay

/-- A reset of the control die, which cuts off a flush that runs: the buffer is kept, but by a cold or supply reset, after which the anchors are scanned (R459, R495). -/
def evrReset (s : State) (supply : Bool) : State :=
  let s := flushCut s
  let regs := s.regs.filter fun e => ! (EVR_STATUS.addr ≤ e.1 % 2 ^ 32 && e.1 % 2 ^ 32 < EVR_STATUS.addr + 0x200)
  let e := s.evr
  let n := a1Now s
  { s with regs := regs,
           evr := if supply then { EvrSt.init with opBase := e.opSaved * 500000000, opSaved := e.opSaved }
                  else { e with fresh := true, flushing := false, charged := false, budget := fullBudget, budgetAt := 0, lost := 0, cal := none, opBase := e.opBase + n, base := 0, src := 0 } }

/-- Start-up of the recorder after a reset that kept the buffer (R487, R489, R495): a new page, the start-up record and a charged flush. After
another the end of the scan starts the page. -/
def evrStart (s : State) : State :=
  if s.evr.scanning || s.pwr.supply then s
  else
    let s := s.wr EVR_NEWEST (s.evr.seq.getD 0)
    let s := s.wr EVR_FLUSHED (match s.evr.buf with | r :: _ => r.seq - 1 | [] => s.evr.seq.getD 0)
    startFlush (startRec (startPage s)) true

end Sys2Proof.Machine
end

