-- ==== Sys2Proof/Machine/Flt.lean ====
section
/-! DEFINITION. The signal box: raises, records and reactions; ALIVE and SAFE_N; the monitors (R462 to R481). -/
namespace Sys2Proof.Machine
open Sys2Proof Reg

/-! ## Records (R468 to R470) -/

/-- The slot of the newest record. -/
def newestSlot (s : State) : Nat := s.get FLT_NEWEST_seq % 32

/-- Word `w` of the record in slot `k`. -/
def recWord (s : State) (k w : Nat) : Word := s.rd (FLT_REC_W k w)

/-- Whether a record is open. -/
def recOpen (s : State) : Bool := s.bit FLT_STATUS_open

/-- The record's 16 words go to the recorder (R469). -/
def recordOut (s : State) (code : Nat) : State :=
  blockRec s code ((List.range 16).flatMap fun w => leBytes 4 (recWord s (newestSlot s) w).toNat)

/-- The mask bit of a source set in the record of a slot. -/
def maskSource (s : State) (k src : Nat) : State :=
  let r := FLT_REC_W k (8 + src / 32)
  s.wr r (s.rd r ||| (1#32 <<< (src % 32)))

/-- The detail a record keeps of its first raise. -/
def recDetail (src : Nat) (detail : Word) : Nat :=
  if [4, 6, 8, 64, 65, 71, 72, 82, 83].contains src then getBits detail 15 0 else 0

/-- A record opens with its first source (R468, R470). -/
def openRecord (s : State) (src cls : Nat) (wire : Bool) (detail : Word) : State :=
  let q := if s.get FLT_NEWEST_seq = 0xFFFFFFFF then 1 else s.get FLT_NEWEST_seq + 1
  let k := q % 32
  let s := s.put FLT_NEWEST_seq q
  let w1 := 2 ^ 31 + b2n wire * 2 ^ 30 + cls * 2 ^ 24 + cls * 2 ^ 16 + src
  let ws : List Word := [BitVec.ofNat 32 q, BitVec.ofNat 32 w1, BitVec.ofNat 32 (recDetail src detail), BitVec.ofNat 32 (a0Now s),
    BitVec.ofNat 32 ((s.axis 0).qual * 2 ^ 30 + a0Now s / 2 ^ 32 % 65536), s.rd PWR_CYCLES]
  let s := (List.range 16).foldl (fun s w => s.wr (FLT_REC_W k w) (ws.getD w 0)) s
  let s := maskSource s k src
  recordOut ((s.putB FLT_STATUS_open true).put FLT_STATUS_hcls cls) 0x03

/-- A raise is merged into the open record (R468). -/
def mergeRecord (s : State) (src cls : Nat) (wire : Bool) : State :=
  let k := newestSlot s
  let w1 := recWord s k 1
  let h := max (getBits w1 26 24) cls
  let w1 := setBits (setBits w1 26 24 h) 30 30 (if wire then 1 else getBits w1 30 30)
  let s := s.wr (FLT_REC_W k 1) w1
  let w2 := recWord s k 2
  let s := s.wr (FLT_REC_W k 2) (setBits w2 31 16 (satInc 16 (getBits w2 31 16)))
  (maskSource s k src).put FLT_STATUS_hcls h

/-- The highest class of the open record becomes at least `cls` (R465). -/
def raiseHighest (s : State) (cls : Nat) : State :=
  let k := newestSlot s
  let h := max (getBits (recWord s k 1) 26 24) cls
  (s.wr (FLT_REC_W k 1) (setBits (recWord s k 1) 26 24 h)).put FLT_STATUS_hcls h

/-- The open record closes (R469). -/
def closeRecord (s : State) : State :=
  let k := newestSlot s
  let s := s.wr (FLT_REC_W k 1) (setBits (recWord s k 1) 31 31 0)
  recordOut ((s.putB FLT_STATUS_open false).put FLT_STATUS_hcls 0) 0x04

/-! ## Reactions (R465 to R467) -/

/-- Whether a class 2 reaction names context 0, the last pair in traffic, or the last link in traffic of a power die (R465). -/
def namesLast (s : State) (src : Nat) (detail : Word) : Bool :=
  if [4, 6, 8].contains src then getBits detail 15 0 == 0
  else if 16 ≤ src && src < 24 then pairsUp s == [src - 16]
  else if 24 ≤ src && src < 28 then linkState s (src - 24) == 0 && linkState s (otherLink (src - 24)) != 0
  else false

/-- The unit that a source names enters siding (R464, R465); a unit in siding already, and a source without a unit, change nothing. -/
def unitReaction (s : State) (src : Nat) (detail : Word) : State :=
  if [4, 6, 8].contains src then stopCtx s (getBits detail 15 0 % 512) 6 .siding
  else if 16 ≤ src && src < 24 then (if pairUp s (src - 16) then pairSiding s (src - 16) else s)
  else if 24 ≤ src && src < 28 then (if linkState s (src - 24) = 0 then setLink s (src - 24) 1 else s)
  else if 133 ≤ src && src < 135 then (if ethState s (src - 133) = 2 then (ethDiscard s (src - 133)).put (ETH_P_STATUS_state (src - 133)) 3 else s)
  else if 73 ≤ src && src < 75 then portSiding s (src - 73) 3
  else if 75 ≤ src && src < 79 then portSiding s (src - 75 + 4) 3
  else if 79 ≤ src && src < 81 then portSiding s (src - 79 + 2) 3
  else if 84 ≤ src && src < 132 then canClass2 s ((src - 84) / 4)
  else if 135 ≤ src && src < 137 then t1sSide s (src - 135)
  else if 137 ≤ src && src < 145 then linSide s (src - 137)
  else s

/-- ALIVE is driven low. -/
def aliveLow (s : State) : State := (s.putB FLT_STATUS_alive false).modPwr fun p => { p with alivePin := false }

/-- The contexts that Safe stops: all but context 0 that are Waiting, Ready or Resident. -/
def safeStops (s : State) : List Nat :=
  s.liveCtxs.filter fun c => c ≠ 0 && ((s.ctx c).mode == .waiting || (s.ctx c).mode == .ready || (s.ctx c).mode == .resident)

/-- The contexts that Safe stops, and their items (R466). -/
def stopAll (s : State) : State := (safeStops s).foldl (fun s c => (stopCtx s c 5 .stopped).removeItemsOf c) s

/-- A safe frame goes to a power die (R270, R300, R466). -/
def safeFrame (s : State) (d : Nat) : State := viaDie s d .safe fun s => ledSafe (pswSafe s d) d

/-- The actions of an entry to Safe (R466). -/
def safeActions (s : State) : State := aliveLow ([0, 1].foldl safeFrame (stopAll s))

/-- Entry to Safe: in Safe and in Stop nothing changes (R466). -/
def enterSafe (s : State) : State :=
  if s.get FLT_STATUS_mode = 0 then (safeActions s).put FLT_STATUS_mode 1 else s

/-- Entry to Stop (R467), after R466: a safe frame beyond the first changes nothing, and context 0 is stopped as well. -/
def enterStop (s : State) : State :=
  if s.get FLT_STATUS_mode = 2 then s else (stopCtx (aliveLow (stopAll s)) 0 5 .stopped).put FLT_STATUS_mode 2

/-- The reaction of a raise of a class (R465); each class includes those below it. A raise of class 2 or higher ends the entry handshake
(R448). -/
def react (s : State) (src cls : Nat) (detail : Word) : State :=
  if cls < 2 then s
  else
    let last := namesLast s src detail
    let cls := if last && cls == 2 then 3 else cls
    let s := if last then raiseHighest s cls else unitReaction s src detail
    let s := hsEnd (startFlush s true) 0 0xFC
    let s := if 3 ≤ cls then enterSafe s else s
    if cls = 4 then enterStop s else s

/-- The class with which a raise of a source is judged (R462, R464): codes 5 to 7 act as 4. -/
def raiseClass (s : State) (src : Nat) (wire : Bool) : Nat := if wire then 3 else min 4 (s.get (FLT_SRC_class src))

/-- A raise (R463, R465, R468): counted; from class 1 on in a record, with its reaction. -/
def raiseNow (s : State) (src : Nat) (wire : Bool) (detail : Word) : State :=
  let cls := raiseClass s src wire
  let s := s.count (FLT_SRC_count src)
  if cls = 0 then s
  else
    let s := if recOpen s then mergeRecord s src cls wire else openRecord s src cls wire detail
    react s src cls detail

/-- The rails of a source's pair as they read now (R462). -/
def setRails (s : State) (src : Nat) (raised wire : Bool) : State := (s.putB (FLT_SRC_raised src) raised).putB (FLT_SRC_wire src) wire

/-- Whether a source stands in a partition that the self-test tests (R501): those of the power dies, of the meter and of SAFE_N
do not. -/
def testedSource (src : Nat) : Bool :=
  ! ([1, 28, 29, 30, 31].contains src || (40 ≤ src && src < 46) || (64 ≤ src && src < 70) || src == 71 || src == 72 || src == 82 || src == 83)

/-- Whether the partition of a source is the one under test, which holds the source idle (R502). Which partition a running test has reached is
a free value (log entry 3). -/
def heldIdle (s : State) (src : Nat) : Bool := s.bist.running.isSome && testedSource src && bitOf s.freeW 0

/-- A source's rails become raised or a wire fault (R463): the change from idle, and from raised to a wire fault, is a raise; `hold` says
whether the pair then stays so. -/
def sourceRaise (s : State) (src : Nat) (wire hold : Bool) (detail : Word) : State :=
  if srcReserved src then s
  else if heldIdle s src then s.drawn
  else if s.bit (FLT_SRC_wire src) then (if wire then s else setRails s src hold false)
  else if s.bit (FLT_SRC_raised src) && ! wire then s
  else setRails (raiseNow s src wire detail) src (hold && ! wire) (hold && wire)

/-- A source's rails return to idle (R463): a raise of it still on its way stays a raise, after which the pair is idle; one that a reset found
raised does not raise at release. -/
def railsIdle (s : State) (src : Nat) : State :=
  let s := s.modPwr fun p => { p with rails := p.rails.filter fun e => e.1 ≠ src }
  setRails { s with raiseQ := s.raiseQ.map fun r => if r.src = src then { r with hold := false } else r } src false false

/-- A source's rails return to idle (R463). -/
def execSourceReturnToIdle (src : Fin 256) (s : State) : Out := .next (railsIdle s src)

/-- The condition behind a source ends while its pair is well (R463): the pair reads idle again, and a raise on its way stays one. A wire fault
stays for as long as the rails agree (R462). -/
def quiet (s : State) (src : Nat) : State :=
  let s := s.modPwr fun p => { p with rails := p.rails.filter (· ≠ (src, false)) }
  ({ s with raiseQ := s.raiseQ.map fun (r : Raise) => if r.src = src ∧ r.wire = false then { r with hold := false } else r }).putB (FLT_SRC_raised src) false

/-- A raise of one of the device's own blocks reaches the box; over a pair with a wire fault it is not seen. -/
def takeRaise (s : State) (r : Raise) : State := if s.bit (FLT_SRC_wire r.src) then s else sourceRaise s r.src r.wire r.hold r.detail

/-- The raise that reaches the box first of those that wait, which are of one cycle (R468): with no record open the one of highest class, and
among equals, or with a record open, the one with the lowest source; of one source the oldest. -/
def firstRaise (s : State) : List Raise → Option Raise
  | [] => none
  | r :: rs =>
    match firstRaise s rs with
    | none => some r
    | some x =>
      let a := if recOpen s then 0 else raiseClass s r.src r.wire
      let b := if recOpen s then 0 else raiseClass s x.src x.wire
      if a < b ∨ (a = b ∧ x.src < r.src) then some x else some r

/-- The next raise on its way reaches the box. -/
def nextRaise (s : State) : State :=
  match firstRaise s s.raiseQ with
  | none => s
  | some r => takeRaise { s with raiseQ := s.raiseQ.erase r } r

/-- The raises of a source that are on their way reach the box, and with them those that come before (R463, R468): at most as many as wait. -/
def settleSource (src : Nat) : Nat → State → State
  | 0, s => s
  | n + 1, s => if clkRuns s && s.raiseQ.any (fun r => r.src == src) then settleSource src n (nextRaise s) else s

/-- The raises on their way reach the box (R463): at most `n` of them. -/
def settleAll : Nat → State → State
  | 0, s => s
  | n + 1, s => if clkRuns s then settleAll n (nextRaise s) else s

/-- The raises that waited in Park, in ascending source order (R480). -/
def orderRaises (l : List Raise) : List Raise :=
  l.foldl (fun acc r => acc.takeWhile (fun x => x.src ≤ r.src) ++ [r] ++ acc.dropWhile (fun x => x.src ≤ r.src)) []

/-- The raises latched in Park are processed at the return to Run (R480). -/
def takeLatched (s : State) : State := (orderRaises s.raiseQ).foldl takeRaise { s with raiseQ := [] }

/-! ## Commands of the box (R469, R473, R474, R481) -/

/-- What the box or a monitor does itself, which it does while FIRC runs: not in Park, Off or a reset (R441, R476). -/
def boxRuns (s : State) (f : State → State) : State := if clkRuns s then f s else s

/-- A record of class 0 or 1 closes of itself (R469). -/
def execRecordAutoclose (s : State) : Out :=
  .next (boxRuns s fun s => if recOpen s ∧ s.get FLT_STATUS_hcls ≤ 1 ∧ s.get FLT_CFG_autoclose ≠ 0 then closeRecord s else s)

/-- Whether CLEARSAFE may end Safe (R473). -/
def mayClearSafe (s : State) : Bool :=
  ! recOpen s && ! s.bit FLT_STATUS_safen &&
    (List.range 256).all fun k => ! s.bit (FLT_SRC_wire k) && (! s.bit (FLT_SRC_raised k) || raiseClass s k false < 3)

/-- The effect of FLT_CMD and its code: as Safe ends ALIVE resumes (R473), but after a failed self-test and under the recovery ROM, which keep
it low (R508, R525). -/
def fltEffect (s : State) (op : Nat) : State × Nat :=
  match op with
  | 1 => if recOpen s then (closeRecord s, 0) else (s, 1)
  | 2 =>
    if s.get FLT_STATUS_mode ≠ 1 then (s, 3)
    else if mayClearSafe s then ((s.put FLT_STATUS_mode 0).putB FLT_STATUS_alive (! s.bist.unfit && ! s.upd.rom && ! s.pwr.first), 0)
    else (s, 2)
  | _ => (s, 4)

/-- A write of FLT_CMD by context `w`. -/
def fltCommand (s : State) (w op : Nat) : State :=
  s.granted w (w == 0) FLT_CMD fun s =>
    let (s, code) := fltEffect s op
    (s.wrap FLT_CMD_RESULT_seq).put FLT_CMD_RESULT_code code

/-- FLT_CMD CLOSE (R469). -/
def execClose (w : CtxId) (s : State) : Out := .next (fltCommand s w 1)
/-- FLT_CMD CLEARSAFE (R473). -/
def execClearsafe (w : CtxId) (s : State) : Out := .next (fltCommand s w 2)

/-- ALIVE toggles while it is driven (R474), not in Park (R58). -/
def execAliveToggle (s : State) : Out :=
  .next (boxRuns s fun s => if s.bit FLT_STATUS_alive then s.modPwr fun p => { p with alivePin := ! p.alivePin } else s)

/-- Whether the watchdog's window of FLT_ALIVE.win ms has run since the last kick or raise (R474): by A1 while it counts, with the ±1 % of FIRC
that R474 allows the box; without A1 the command says so. -/
def windowOver (s : State) : Bool := ! perRuns s || decide (s.pwr.kickAt + 495000 * max 1 (s.get FLT_ALIVE_win) ≤ a1Now s)

/-- The watchdog window runs out (R474): source 3, as a raise followed by a return to idle. -/
def execWatchdogExpire (s : State) : Out :=
  .next (boxRuns s fun s => if s.bit FLT_ALIVE_kick && windowOver s then (s.raise 3).modPwr fun p => { p with kickAt := a1Now s } else s)

/-- A write of FLT_KICK by context `w` (R474): key 0xA5 starts the window again; any other is ignored. -/
def fltKick (s : State) (w key : Nat) : State :=
  s.granted w (w == 0) FLT_KICK fun s => if key = 0xA5 then s.modPwr fun p => { p with kickAt := a1Now s } else s

/-- FLT_KICK (R474). -/
def execAliveKick (w : CtxId) (s : State) : Out := .next (fltKick s w 0xA5)

/-- A write of FLT_SWRAISE by context `w` (R481). -/
def swRaise (s : State) (w i : Nat) : State := s.granted w (s.blockOk w 3) FLT_SWRAISE fun s => s.raise (192 + i)

/-- FLT_SWRAISE (R481). -/
def execSwraise (w : CtxId) (i : Fin 64) (s : State) : Out := .next (swRaise s w i)

/-- SAFE_N low through its filter (R475); in Park it is a wake source. -/
def execSafeNLow (s : State) : Out := .next (wakeRequest ((s.putB FLT_STATUS_safen true).raise 1) 9 0)

/-- SAFE_N high again (R475). -/
def execSafeNHigh (s : State) : Out := .next (quiet (s.putB FLT_STATUS_safen false) 1)

/-! ## Monitors (R476 to R479) -/

/-- A source follows a condition of a monitor: raised while it holds. -/
def follow (s : State) (src : Nat) (bad : Bool) : State :=
  if bad then (if s.bit (FLT_SRC_raised src) then s else s.raise src) else quiet s src

/-- A temperature reading in 0.5 °C units (R477): raised above hi, idle from 5 K below it. -/
def execTempSample (t : Fin 14) (temp : BitVec 10) (s : State) : Out :=
  .next (boxRuns s fun s =>
    let s := s.put (MON_TEMP_temp t) temp.toNat
    let hi := sgn 10 (s.get (MON_TEMP_hi t))
    if hi < temp.toInt then follow (s.putB (MON_TEMP_s_hi t) true) (32 + t) true
    else if temp.toInt ≤ hi - 10 then follow s (32 + t) false
    else s)

/-- The core supply in force in mV (R434, R435): that of the OP on PLL0, else 0.72 V. -/
def coreSupply (s : State) : Nat :=
  if s.bit CLK_STATUS_src then (match s.get CLK_STATUS_op with | 0 => 800 | 1 => 720 | 2 => 650 | _ => 600) else 720

/-- The band of a rail, its limits in 20 µV units (R478). -/
def railBand (s : State) (r : Nat) : Nat × Nat :=
  match r with
  | 0 | 1 => (210000, 280000)
  | 2 => (coreSupply s * 95 / 2, coreSupply s * 54)
  | 3 => (85500, 94500)
  | 4 => (57000, 63000)
  | 5 => (85500, 180000)
  | _ => (150000, 275000)

/-- A rail's reading in 2 mV units, and whether it has stayed under or over its band for 10 µs (R478). VCORE is not judged while the
sequencer changes; the 5 µs after a change belong to the judgement that the command carries. -/
def execRailFault (r : Fin 7) (v : BitVec 12) (below above : Bool) (s : State) : Out :=
  .next (boxRuns s fun s =>
    let s := s.put (MON_RAIL_v r) v.toNat
    if r.val = 2 ∧ s.bit CLK_STATUS_opbusy then s
    else
      let lo : Bool := decide (100 * v.toNat < (railBand s r).1)
      let hi : Bool := decide ((railBand s r).2 < 100 * v.toNat)
      let s := (s.putB (MON_RAIL_under r) lo).putB (MON_RAIL_over r) hi
      let s := if lo then s.putB (MON_RAIL_s_under r) true else s
      let s := if hi then s.putB (MON_RAIL_s_over r) true else s
      if (lo && below) || (hi && above) then follow s (46 + r) true
      else if lo || hi then s
      else follow s (46 + r) false)

/-- Whether a measurement lies below the minimum fused for the core supply in force, on FIRC that for 0.72 V (R434, R479). -/
def pmSlow (s : State) (m f : Nat) : Bool := decide (f < Config.pmMin m (coreSupply s))

/-- A process monitor's measurement in 0.1 MHz units (R479): the eighth in a row below the fused minimum raises. The monitor judges the
measurement itself; what the command says of it counts for nothing (DESIGN CHOICE, log entry 85). -/
def execPmMeasure (m : Fin 4) (f : BitVec 16) (_below : Bool) (s : State) : Out :=
  .next (boxRuns s fun s =>
    let slow := pmSlow s m f.toNat
    let s := (s.put (MON_PM_f m) f.toNat).putB (MON_PM_slow m) slow
    let s := if slow then s.putB (MON_PM_s_slow m) true else s
    let n := if slow then min 8 (SMap.get 0 s.pwr.slow m + 1) else 0
    let s := s.modPwr fun p => { p with slow := SMap.set 0 p.slow m n }
    follow s (53 + m) (n == 8))

/-! ## Reset (R459, R463, R467, R480) -/

/-- FLT and MON at reset; Stop stays but for cold and supply resets; every source is taken as idle, and one that was not raises again. -/
def fltReset (s : State) (supply : Bool) : State :=
  let stop := s.get FLT_STATUS_mode = 2 ∧ ¬ supply
  let held := (List.range 256).filterMap (fun k =>
    if s.bit (FLT_SRC_wire k) then some (k, true) else if s.bit (FLT_SRC_raised k) then some (k, false) else none) ++
      (s.raiseQ.filter (·.hold)).map fun r => (r.src, r.wire)
  let s := { s with regs := SMap.clear (SMap.clear s.regs FLT_STATUS.addr 0x10000) (MON_TEMP 0).addr 0x10000 }
  let s := if stop then s.put FLT_STATUS_mode 2 else s
  s.modPwr fun p => { p with rails := (held ++ p.rails).eraseDups, alivePin := false, slow := [] }

/-- At release, the sources whose rails are not idle raise (R463); their pairs stay as they are until they return to idle. -/
def fltStart (s : State) : State :=
  let l := s.pwr.rails
  let s := s.modPwr fun p => { p with rails := [] }
  let s := if l.contains (1, false) then s.putB FLT_STATUS_safen true else s
  { s with raiseQ := s.raiseQ ++ l.map fun e => ⟨e.1, e.2, true, 0⟩ }

end Sys2Proof.Machine
end

