-- ==== Sys2Proof/Machine/Die.lean ====
section
/-! DEFINITION. Die links, the domains of the power dies and the I/O supplies (R16 to R20, R28, R54 to R56, R68, R251). -/
namespace Sys2Proof.Machine
open Sys2Proof Reg

/-! ## Link commands (R28) -/

/-- The power die of a link. -/
def linkDie (k : Nat) : Nat := k / 2

/-- The end of a link command. -/
def linkDone (s : State) (code : Nat) : State := (s.putB SYS_LINK_STATUS_busy false).put SYS_LINK_STATUS_code code

/-- The effect of SYS_LINK_CMD. -/
def linkEffect (s : State) (op k : Nat) : State :=
  match op with
  | 1 =>
    if linkState s k = 1 then linkDone s 0
    else if linkState s (otherLink k) ≠ 0 then linkDone s 1
    else linkDone (setLink s k 1) 0
  | 2 =>
    if linkState s k = 1 then ((setLink s k 2).putB SYS_LINK_STATUS_busy true).modLnk fun l => { l with rejoin := some k }
    else linkDone s 0
  | _ => linkDone s 3

/-- A write of SYS_LINK_CMD by context `w`: context 0 only; ignored while a command is in progress. -/
def linkCommand (s : State) (w op k : Nat) : State :=
  s.granted w (w == 0) SYS_LINK_CMD fun s => if s.bit SYS_LINK_STATUS_busy then s else linkEffect s op k

/-- SYS_LINK_CMD SIDING. -/
def execLinkSiding (w : CtxId) (k : Fin 4) (s : State) : Out := .next (linkCommand s w 1 k)
/-- SYS_LINK_CMD REJOIN. -/
def execLinkRejoin (w : CtxId) (k : Fin 4) (s : State) : Out := .next (linkCommand s w 2 k)

/-- The retraining of a link ends: by command its code stands in the status; at a reset a link that has not passed raises its source. No
retraining ends while the control die is held in reset. -/
def trainEnd (s : State) (k : Nat) (pass : Bool) : State :=
  if linkState s k ≠ 2 ∨ ! dieRuns s then s
  else
    let s := setLink s k (if pass then 0 else 1)
    let s := s.modLnk fun l => { l with runs := SMap.set 0 (SMap.set 0 l.runs (2 * k) 0) (2 * k + 1) 0 }
    let s := if pass then fillDir (fillDir s (linkDie k) false) (linkDie k) true else s
    if s.lnk.rejoin = some k then (linkDone s (if pass then 0 else 2)).modLnk fun l => { l with rejoin := none }
    else if pass then s else s.raise (24 + k)

/-- 64 consecutive good frames in each direction. -/
def execLinkRetrainPass (k : Fin 4) (s : State) : Out := .next (trainEnd s k true)
/-- 50 µs have passed without them. -/
def execLinkRetrainFail (k : Fin 4) (s : State) : Out := .next (trainEnd s k false)

/-! ## Frames (R16 to R20) -/

/-- An end puts one new idle frame on each link in traffic (R16, R20): none while 8 are unacknowledged (R17). -/
def frameSend (s : State) (d : Nat) (up : Bool) : State :=
  let x := s.dir d up
  if ! dieLinked s d || ! x.room then s else s.setDir d up (x.push .idle)

/-- An idle frame (R20). -/
def execIdleFrameSend (d : Fin 2) (up : Bool) (s : State) : Out := .next (frameSend s d up)

/-- A frame without acknowledgement for 4 µs is sent again (R17): the same number and content, kept as the newest sent. -/
def frameResend (s : State) (d : Nat) (up : Bool) (num : Nat) : State :=
  let x := s.dir d up
  if dieLinked s d then
    s.setDir d up { x with unacked := x.unacked.filter (fun e => e.1 ≠ num) ++ x.unacked.filter (fun e => e.1 = num) }
  else s

/-- FRAME_RESEND (R17). -/
def execFrameResend (d : Fin 2) (up : Bool) (num : Nat) (s : State) : Out := .next (frameResend s d up num)

/-- The 16th consecutive frame with a failed CRC on a link in traffic (R18). -/
def crcFault (s : State) (k : Nat) (up : Bool) : State :=
  (s.modLnk fun l => { l with runs := SMap.set 0 l.runs (2 * k + b2n up) 0 }).raise (24 + k)

/-- A frame whose CRC fails: in siding and in retraining it raises nothing (R28). -/
def crcBad (s : State) (k : Nat) (up : Bool) : State :=
  if linkState s k ≠ 0 then s
  else
    let n := SMap.get 0 s.lnk.runs (2 * k + b2n up)
    if n = 15 then crcFault s k up else s.modLnk fun l => { l with runs := SMap.set 0 l.runs (2 * k + b2n up) (n + 1) }

/-- The link has delivered its 16th consecutive frame with a failed CRC (R18). -/
def execDieLinkCrcFault (k : Fin 4) (up : Bool) (s : State) : Out :=
  .next (if linkState s k = 0 ∧ SMap.get 0 s.lnk.runs (2 * k + b2n up) = 15 then crcFault s k up else s)

/-- A valid frame from a power die: a die taken as off is on again (R251), and its input mirrors are refreshed where they have not been since
the control die or the die came back (R306, DIN_STATUS). -/
def dieHeard (s : State) (d : Nat) : State :=
  if ! (s.die d).on then s
  else
    let stale := (s.die d).away || ! s.bit (mirrorFlag d)
    let s := s.setDie d { s.die d with away := false }
    if stale then mirrorRefresh s d else s

/-- The dual-rail pair of a link shows one level on both rails (R18): in every state of the link. -/
def execRailAgreement (k : Fin 4) (s : State) : Out := .next (s.raiseWire (24 + k))

/-- A power die declares the control die silent (R20, R267, R300). -/
def execControlDieSilent (d : Fin 2) (s : State) : Out :=
  .next (if (s.die d).on ∧ dieState s d = 0 then ledSilent (dieSilent s d) d else s)

/-- The hold window of a die expires (R267, R300). -/
def execHoldExpire (d : Fin 2) (s : State) : Out :=
  .next (if (s.die d).on ∧ dieState s d = 1 then ledExpire (holdExpire s d) d else s)

/-- The outcome of a SETCH reaches the item that sent it, while its slot has not been used again (R190, R256). -/
def reportOutcome (s : State) (slot : Option (Nat × Nat)) (o : Nat) : State :=
  match slot with
  | some (k, gen) => if (s.item k).gen = gen then s.setItem k { s.item k with outcome := o } else s
  | none => s

/-- An action that has not reached its die when the die is taken as off is answered with outcome 3 (R251). -/
def answerOff (s : State) (b : FrameBody) : State := 
  match b with
  | .action _ _ _ _ _ slot => reportOutcome s slot 3
  | .sense _ k => reportOutcome s (some k) 3
  | _ => s

/-- The control die takes a die as off (R251): what has not been received is answered in its place and dropped. -/
def dieTakenAsOff (s : State) (d : Nat) : State :=
  let x := s.dir d false
  let s := s.setDie d { s.die d with away := true }
  let lost := underWay s d
  let s := s.setDir d false { x with unacked := x.unacked.map fun e => if x.expect ≤ e.1 then (e.1, .idle) else e, waiting := [] }
  lost.foldl answerOff s

/-- The control die has had no valid frame from a power die for 100 µs and answers in its place (R251). -/
def execPowerDieTakenAsOff (d : Fin 2) (s : State) : Out := .next (dieTakenAsOff s d)

/-! ## Domains and supplies (R54 to R56, R68) -/

/-- A power die's domain comes on (R54, R251, R264, R267): what the die holds takes its reset values, on die A PWR_CFG.offign and offin too.
The frame numbers and the frames kept on its links stay (DESIGN CHOICE, log entry 10). -/
def domainOn (s : State) (d : Nat) : State :=
  if (s.die d).on then s
  else
    let s := dinDieReset (ledDieReset (pswReset s d) d) d
    let s := if d = 0 then (s.putB PWR_CFG_offign true).putB PWR_CFG_offin true else s
    s.setDie d { DieSt.init with away := (s.die d).away }

/-- A power die's domain goes off (R54, R55, R229, R232): every output open, sinks open, retained logic lost. -/
def domainOff (s : State) (d : Nat) : State :=
  if ! (s.die d).on then s
  else
    let s := s.setDie d { s.die d with on := false }
    let s := setAdcQueue (dinDieOff ((dieChans d).foldl settleOut s) d) d []
    (s.loseStore d).modOut fun o => { o with onDie := o.onDie.erase d }

/-- A power die's domain comes on. -/
def execDomainOn (d : Fin 2) (s : State) : Out := .next (domainOn s d)
/-- A power die's domain goes off. -/
def execDomainOff (d : Fin 2) (s : State) : Out := .next (domainOff s d)

/-- Whether the control die is powered. -/
def powered (s : State) : Bool := s.pwr.phase != .off
/-- Whether the CTL domain is on (R54): not in Off, and not held in reset with VSUP_C below 3.2 V; a clock loss leaves the supply on. -/
def ctlOn (s : State) : Bool := powered s && (s.pwr.phase != .inReset || s.clk.lost)

/-- The state with an I/O supply in or out of range: 0 is VIO1, 1 is VIO2. -/
def setIo (s : State) (n : Nat) (ok : Bool) : State := s.modPwr fun p => if n = 0 then { p with io1 := ok } else { p with io2 := ok }

/-- An I/O supply leaves its range (R56): the source is raised while CTL is on, and the lands of the domain go to high impedance. -/
def ioFault (s : State) (n : Nat) : State :=
  let s := setIo s n false
  if ctlOn s then s.raise (51 + n) else s

/-- IO_SUPPLY_FAULT (R56). -/
def execIoSupplyFault (n : Fin 2) (s : State) : Out := .next (ioFault s n)
/-- An I/O supply comes back (R56). -/
def execIoSupplyReturn (n : Fin 2) (s : State) : Out := .next (quiet (setIo s n true) (51 + n))

/-- Over-voltage shutdown of a die (R68): every output off, and no sink conducts. -/
def execOvervoltageShutdown (d : Fin 2) (s : State) : Out := .next (overVoltage s d)
/-- Release of the shutdown (R68, R69). -/
def execOvervoltageRelease (d : Fin 2) (s : State) : Out := .next (overVoltageEnd s d)

end Sys2Proof.Machine
end

