-- ==== Sys2Proof/Machine/Bist.lean ====
section
/-! DEFINITION. The built-in self-test (R500 to R509). -/
namespace Sys2Proof.Machine
open Sys2Proof Reg

/-- The self-test part of the state changed. -/
def State.modBist (s : State) (f : BistSt → BistSt) : State := { s with bist := f s.bist }

/-! ## Repair (R506, R507) -/

/-- The 64 KiB bank of a failing word: a packet of instruction SRAM is 3.5 bytes, every other protected word 4 bytes. -/
def bankOfFail (f : MemFail) : Nat := (if f.mem = 0 then 7 * f.addr / 2 else 4 * f.addr) / 65536

/-- Whether two failures lie in one bank. -/
def sameBank (a b : MemFail) : Bool := a.mem == b.mem && a.inst == b.inst && bankOfFail a == bankOfFail b

/-- Whether a repair entry covers a failure. -/
def Repair.covers (r : Repair) (f : MemFail) : Bool :=
  r.mem == f.mem && r.inst == f.inst && r.bank == bankOfFail f && r.line == (if r.isRow then f.row else f.col)

/-- The repair of a failure: a spare row when its row has more than one failing bit, else a spare column; 4 rows and 2 columns a bank, 256
entries in all. The answer says whether a spare covers it. An MRAM word is never repaired. -/
def repairOne (l : List MemFail) (t : List Repair) (f : MemFail) : List Repair × Bool :=
  if f.mem = 8 then (t, false)
  else if t.any (·.covers f) then (t, true)
  else
    let row := decide (1 < (l.filter fun g => sameBank f g && g.row == f.row).length)
    let used := (t.filter fun r => r.mem == f.mem && r.inst == f.inst && r.bank == bankOfFail f && r.isRow == row).length
    if 256 ≤ t.length ∨ (if row then 4 else 2) ≤ used then (t, false)
    else (t ++ [⟨f.mem, f.inst, bankOfFail f, row, if row then f.row else f.col⟩], true)

/-- Every failure repaired in the order found, with the marks of what is covered. -/
def repairAll (l : List MemFail) (t : List Repair) : List Repair × List (MemFail × Bool) :=
  l.foldl (fun r f => let (t, ok) := repairOne l r.1 f; (t, r.2 ++ [(f, ok)])) (t, [])

/-! ## The verdict (R504, R506) -/

/-- The failure list of the registers: the first 16. -/
def putFails (s : State) (l : List (MemFail × Bool)) : State :=
  (List.range 16).foldl (fun s k =>
    match l[k]? with
    | some (f, ok) =>
      let s := (s.wr (BIST_FAIL_ADDR k) (BitVec.ofNat 32 f.addr)).wr (BIST_FAIL_INFO k) 0x80000000
      (((s.putB (BIST_FAIL_INFO_repaired k) ok).put (BIST_FAIL_INFO_mem k) f.mem).put (BIST_FAIL_INFO_inst k) f.inst).put (BIST_FAIL_INFO_bit k) f.bit
    | none => (s.wr (BIST_FAIL_ADDR k) 0).wr (BIST_FAIL_INFO k) 0) s

/-- The result of a test: logic failure, memory unrepairable, memory repaired, pass. -/
def testVerdict (lfail : Nat) (l : List (MemFail × Bool)) : Nat :=
  if lfail ≠ 0 then 2
  else if l.any fun e => e.1.mem != 8 && ! e.2 then 3
  else if l.any fun e => e.1.mem != 8 then 1
  else 0

/-- A verdict written to the System region with the power-cycle count (R504). -/
def writeVerdict (s : State) (full start : Bool) (result nfail lfail : Nat) : State :=
  let s := ((s.wr BIST_VERDICT 0).put BIST_VERDICT_kind (if full then 2 else 1)).put BIST_VERDICT_result result
  let s := ((s.putB BIST_VERDICT_origin start).put BIST_VERDICT_nfail (min 255 nfail)).put BIST_VERDICT_lfail lfail
  s.wr BIST_VCYCLES (s.rd PWR_CYCLES)

/-- The MRAM words with an uncorrectable error, as the read scan of a full test lists them (R502): the failing bit is a free value. -/
def scanFails (s : State) : List MemFail :=
  (s.cpu.mramErr.filter fun e => e.2 == 2).map fun e => ⟨8, 0, e.1, s.freeW.toNat % 72, 0, 0⟩

/-- The failures that a test finds (R500, R502): a short test reads instruction SRAM, data SRAM, context memory and the item store alone; the
uncorrectable words of MRAM that the state holds are listed after the failures of the SRAMs. -/
def testFails (s : State) (full : Bool) (fails : List MemFail) : List MemFail :=
  if full then (fails.filter fun f => f.mem < 8) ++ scanFails s else fails.filter fun f => f.mem < 3 || f.mem == 6

/-- The read scan of the whole MRAM by a full test (R25, R502): every correctable word is rewritten. -/
def mramScan (s : State) : State := (mramSweep s 0 0x180000).drawn

/-- A full test destroys what the recorder's buffer holds (R502): what waits for the end of the scan stands there too (R495). Of the other memories
that a test destroys, step 4 of R460 or the supply's end gives every one its contents before anything reads it. -/
def bufferLost (s : State) : State := s.modEvr fun e => { e with buf := [], waiting := [] }

/-- A test ends (R502, R504, R506): the MRAM read scan of a full test has rewritten every correctable word; the verdict, the failure list,
the repair table; a test at a start clears nextfull. -/
def testEnds (s : State) (lfail : Nat) (fails : List MemFail) : State :=
  match s.bist.running with
  | none => s
  | some (full, start) =>
    let fails := testFails s full fails
    let (t, l) := repairAll fails s.bist.repairs
    let s := s.modBist fun b => { b with running := none, repairs := t }
    let s := if full then mramScan (bufferLost s) else s
    let s := (putFails (writeVerdict s full start (testVerdict lfail l) fails.length lfail) l).put BIST_REPAIR_entries t.length
    if start then s.putB BIST_CFG_nextfull false else s

/-- A test stops early (R503): result aborted. -/
def testAborts (s : State) : State :=
  match s.bist.running with
  | some (full, false) => (putFails (writeVerdict s full false 4 0 0) []).modBist fun b => { b with running := none }
  | _ => s

/-! ## Starts (R504, R505, R508) -/

/-- The MRAM words of the stored verdict with an error of a kind: 1 correctable, 2 uncorrectable (R504). -/
def verdictErrs (s : State) (kind : Nat) : List Nat := (s.cpu.mramErr.filter fun e => e.2 == kind && Config.inVerdict e.1).map (·.1)

/-- The stored verdict is read (R25). -/
def readVerdict (s : State) : State := (verdictErrs s 1 ++ verdictErrs s 2).foldl (fun s w => mramSweep s w 1) s

/-- The test that a cold or supply start runs: none, or whether it is full; a verdict with an uncorrectable error says nothing. -/
def testAtStart (s : State) : Option Bool :=
  let r := s.get BIST_VERDICT_result
  let k := s.get BIST_VERDICT_kind
  let lost := ! (verdictErrs s 2).isEmpty
  if (k ≠ 0 ∧ (r = 2 ∨ r = 3) ∧ ! lost) ∨ s.bit BIST_CFG_nextfull then some true
  else if lost then some false
  else if k = 2 ∧ (r = 0 ∨ r = 1) ∧ s.rd BIST_VCYCLES + 1 = s.rd PWR_CYCLES then none
  else some false

/-- Whether the verdict in force keeps a code bank from being loaded (R508). -/
def verdictBad (s : State) : Bool := s.get BIST_VERDICT_kind != 0 && (s.get BIST_VERDICT_result == 2 || s.get BIST_VERDICT_result == 3)

/-- The recorder's record and source 149 of a start (R505). -/
def startVerdict (s : State) : State :=
  let listed := (List.range 16).any fun k => s.bit (BIST_FAIL_INFO_valid k)
  let s := if s.get BIST_VERDICT_result ≠ 0 ∨ listed then s.raise 149 else s
  blockRec s 0x10 (leBytes 4 (s.rd BIST_VERDICT).toNat ++ leBytes 4 (s.rd BIST_VCYCLES).toNat)

/-- The core pair that the recovery ROM runs on after a failed test: the lowest whose partition passed; none when partition 11 failed. -/
def romPair (s : State) : Option Nat :=
  let l := s.get BIST_VERDICT_lfail
  if l.testBit 11 then none else (List.range 8).find? fun p => ! l.testBit p

/-- The repair table is applied (R507). -/
def applyRepairs (s : State) : State := s.modBist fun b => { b with applied := b.repairs }

/-- Every pair but one in siding (R508): a pair whose partition failed shows a failed test. -/
def sidePairs (s : State) (keep : Option Nat) : State :=
  (List.range 8).foldl (fun s p =>
    if keep = some p then s else setPairState s p (if (s.get BIST_VERDICT_lfail).testBit p then 3 else 2)) s

end Sys2Proof.Machine
end

