-- ==== Sys2Proof/Machine/Mtr.lean ====
section
/-! DEFINITION. The sealed meter (R413 to R429). -/
namespace Sys2Proof.Machine
open Sys2Proof Reg

/-- The meter part of the state changed. -/
def State.modMtr (s : State) (f : MtrSt → MtrSt) : State := { s with mtr := f s.mtr }

/-- What happens on the ZN9640-A1 alone (R429). -/
def onMeter (s : State) (f : State → State) : State := if Config.meterFitted then f s else s

/-- Whether the MTR domain is on (R54): VMTR has not fallen since the meter last started. -/
def mtrOn (s : State) : Bool := s.mtr.supplyLost.isNone

/-- What the meter does itself: on the ZN9640-A1, while its domain is on (R54, R417). -/
def meterActs (s : State) (f : State → State) : State := onMeter s fun s => if mtrOn s then f s else s

/-- Whether the meter link runs: it is idle in Park (R428), and nothing of the block runs while the control die is in reset or Off. -/
def mtrRuns (s : State) : Bool := match s.pwr.phase with | .run | .doze | .parking | .offing | .starting => true | _ => false

/-- An event of the block, if its code is enabled (R427). -/
def mtrEvent (s : State) (code : Nat) : State := if bitOf (s.rd MTR_EVEN) code then s.event 763 code else s

/-! ## The log (R425) -/

/-- A record entered: with 4,096 records kept, index 0 among them, the oldest other is overwritten; when the log wraps, a record says so. -/
def mtrLog (m : MtrSt) (time code value : Nat) : MtrSt :=
  let add (m : MtrSt) (code value : Nat) : MtrSt :=
    { m with log := m.log.drop (m.log.length - 4094) ++ [⟨m.next, time, code, value⟩], next := m.next + 1,
             overwritten := m.overwritten + (if m.log.length < 4095 then 0 else 1) }
  let m' := add m code value
  if m'.overwritten ≠ m.overwritten ∧ m'.overwritten % 4095 = 1 then add m' 0x07 m'.overwritten else m'

/-- The 24 bytes of a record. -/
def MtrRec.bytes (r : MtrRec) : List Byte := leBytes 4 r.index ++ leBytes 8 r.time ++ leBytes 1 r.code ++ [0, 0, 0] ++ leBytes 8 r.value

/-- The records kept, oldest first, index 0 with them, for those from index 1 on. -/
def mtrRecords (log : List MtrRec) : List MtrRec := ⟨0, 0, 0x01, Config.meterParamCrc.toNat⟩ :: log

/-- The channels beyond their range (R414, R425): each episode that begins writes a record with its channel, 0 to 3 for MV0 to MV3 and 4 to 7
for MI0 to MI3. -/
def mtrOver (m : MtrSt) (time flags : Nat) : MtrSt :=
  let m' := ((List.range 8).filter fun i => flags.testBit i && ! m.overs.testBit i).foldl (fun m i => mtrLog m time 0x05 i) m
  { m' with overs := flags % 256 }

/-- MTR_STATUS shows what the meter reports where its link is live (R421, R425, R427): the grid's loss or return, a failed self-check. -/
def mtrReport (s : State) : State :=
  if ! (mtrRuns s && s.bit MTR_STATUS_link) then s
  else
    let s :=
      if s.bit MTR_STATUS_grid == s.mtr.grid then s
      else mtrEvent (s.putB MTR_STATUS_grid s.mtr.grid) (if s.mtr.grid then 3 else 2)
    if s.mtr.failed && ! s.bit MTR_STATUS_fault then (s.putB MTR_STATUS_fault true).raise 29 else s

/-! ## The mailbox (R422 to R424) -/

/-- A request ends (MTR_RESULT). -/
def mtrEnd (s : State) (code len : Nat) : State :=
  let s := (s.putB MTR_RESULT_busy false).put MTR_RESULT_code code
  ((s.wrap MTR_RESULT_seq).put MTR_RESULT_length len).modMtr fun m => { m with req := none }

/-- A request as it reaches the meter, which takes its snapshot then (R424). -/
def mtrTakes (m : MtrSt) (op arg : Nat) : MtrReq := ⟨op, arg, m.imp, m.exp, m.grid, m.overs, m.log⟩

/-- A write of MTR_REQ by context `w` (R422): ignored while a request is in progress; with the meter silent it ends with code 3; without a meter
it starts nothing and is no violation (R429). -/
def mtrRequest (s : State) (w op arg : Nat) : State :=
  onMeter s fun s => s.granted w (s.blockOk w 14) MTR_REQ fun s =>
    if s.bit MTR_RESULT_busy then s.putB MTR_STATUS_s_lostreq true
    else
      let s := { s with regs := SMap.clear s.regs (MTR_RESP 0).addr (4 * 73) }
      let s := ((s.putB MTR_RESULT_busy true).put MTR_RESULT_length 0).modMtr fun m => { m with req := some (mtrTakes m op arg) }
      if s.bit MTR_STATUS_link then s else mtrEnd s 3 0

/-- MTR_REQ ENERGY (R424). -/
def execMtrEnergy (w : CtxId) (s : State) : Out := .next (mtrRequest s w 1 0)
/-- MTR_REQ INSTANT (R424). -/
def execMtrInstant (w : CtxId) (s : State) : Out := .next (mtrRequest s w 2 0)
/-- MTR_REQ LOG from a record index on (R424). -/
def execMtrLog (w : CtxId) (first : BitVec 16) (s : State) : Out := .next (mtrRequest s w 3 first.toNat)
/-- MTR_REQ SEAL (R424). -/
def execMtrSeal (w : CtxId) (s : State) : Out := .next (mtrRequest s w 4 0)
/-- MTR_REQ KEY (R424). -/
def execMtrKey (w : CtxId) (s : State) : Out := .next (mtrRequest s w 5 0)

/-- The data of a request at its snapshot (R424): none for an unknown operation (code 1) or a log index not kept (code 2). The energy registers
stand at least where the meter last reported them (R416); `inst` holds the 12 words of the instantaneous readings before their flags: bit n
for a channel beyond its range, bit 8 for the grid. -/
def mtrData (q : MtrReq) (imp exp : Nat) (inst : List Word) : Nat × List Byte :=
  match q.op with
  | 1 => (0, leBytes 8 (max q.imp imp) ++ leBytes 8 (max q.exp exp))
  | 2 => (0, ((List.range 12).flatMap fun i => leBytes 4 (inst.getD i 0).toNat) ++ leBytes 4 (q.overs % 256 + 256 * b2n q.grid))
  | 3 =>
    let rs := mtrRecords q.log
    if rs.any fun r => r.index = q.arg then (0, ((rs.filter fun r => q.arg ≤ r.index).take 8).flatMap MtrRec.bytes) else (2, [])
  | 4 => (0, [1, Config.meterRom, 0, 0] ++ leBytes 4 Config.meterParamCrc.toNat ++ leBytes 4 2000 ++ leBytes 4 10000)
  | 5 => (0, (List.range 64).map Config.meterKey)
  | _ => (1, [])

/-- The response block of R423 for the data of an operation at a meter time, signed. -/
def mtrBlock (s : State) (op time : Nat) (data : List Byte) : List Byte :=
  let b := [1, BitVec.ofNat 8 op] ++ leBytes 2 data.length ++ leBytes 8 Config.meterSerial.toNat ++ leBytes 8 s.mtr.ctr
    ++ leBytes 4 (s.rd MTR_NONCE_LO).toNat ++ leBytes 4 (s.rd MTR_NONCE_HI).toNat ++ leBytes 8 time ++ data
  b ++ (List.range 64).map (Config.meterSign b)

/-- A block put into MTR_RESPw. -/
def putResp (s : State) (b : List Byte) : State :=
  (List.range 73).foldl (fun s w => s.wr (MTR_RESP w) (leWord b (4 * w))) s

/-- The meter answers (R422, R427): the energy registers only ever increase (R416). -/
def mtrRespond (s : State) (time imp exp : Nat) (inst : List Word) : State :=
  match s.mtr.req with
  | none => s
  | some q =>
    let s := s.modMtr fun m => { m with imp := max m.imp imp, exp := max m.exp exp }
    let (code, data) := mtrData q imp exp inst
    if code ≠ 0 then mtrEnd s code 0
    else
      let s := s.modMtr fun m => { m with ctr := m.ctr + 1 }
      let b := mtrBlock s q.op time data
      mtrEvent (mtrEnd (putResp s b) 0 b.length) 1

/-- The meter's answer, with the meter time, the energy registers in mWh and the instantaneous readings at its snapshot (R424). -/
def execMtrResponse (time imp exp : BitVec 64) (inst : List Word) (s : State) : Out :=
  .next (meterActs s fun s => if mtrRuns s ∧ s.bit MTR_STATUS_link then mtrRespond s time.toNat imp.toNat exp.toNat inst else s)

/-! ## Grid phase (R420, R421) -/

/-- The meter's count reaches every grid-phase axis that has its source. -/
def phaseAll (s : State) (c : Nat) : State :=
  [2, 3, 4, 5, 6, 7].foldl (fun s n => if usesMeter s n && ! (s.axis n).lost then phaseTo s n c else s) s

/-- Phase frames are taken while the link runs and the timeline counter with it. -/
def takesPhase (s : State) : Bool := mtrRuns s && s.bit MTR_STATUS_link && s.bit CLK_STATUS_pll1

/-- The meter counts on to 64 times the count of its update (R420): its phase frame, which it sends with the grid voltage alone (R421), reaches
the axes while the link runs. What its samples show beyond their range enters the log (R414). -/
def execGridPhaseUpdate (c : MeterTick) (s : State) : Out :=
  .next (meterActs s fun s =>
    let s := s.modMtr fun m => mtrOver m c.time.toNat c.overs.toNat
    if s.mtr.grid then
      let s := s.modMtr fun m => { m with phase := 64 * c.count }
      if takesPhase s then phaseAll s (64 * c.count) else s
    else s)

/-- The voltage of L2 or L3 is lost or back (R425): a record, once for each change. -/
def lineVoltage (m : MtrSt) (time line : Nat) (lost : Bool) : MtrSt :=
  if m.linesOut.contains line = lost then m
  else mtrLog { m with linesOut := if lost then line :: m.linesOut else m.linesOut.filter (· ≠ line) } time (if lost then 0x03 else 0x04) (line + 1)

/-- The voltage of a line is lost (R425): that of L1, on MV0, is the grid voltage (R421). -/
def execGridLost (time : MeterLine) (s : State) : Out :=
  .next (meterActs s fun s =>
    if time.line ≠ 0 then s.modMtr fun m => lineVoltage m time.time.toNat time.line true
    else if s.mtr.grid then mtrReport (s.modMtr fun m => mtrLog { m with grid := false } time.time.toNat 0x03 1) else s)

/-- The voltage of a line has returned (R425): with that of L1 the axes advance at once to the meter's count (R421). -/
def execGridReturn (time : MeterLine) (c : Fin 1024) (s : State) : Out :=
  .next (meterActs s fun s =>
    if time.line ≠ 0 then s.modMtr fun m => lineVoltage m time.time.toNat time.line false
    else if s.mtr.grid then s
    else
      let s := mtrReport (s.modMtr fun m => mtrLog { m with grid := true, phase := 64 * c } time.time.toNat 0x04 1)
      if takesPhase s then phaseAll s (64 * c) else s)

/-! ## The link and the meter's supply (R417, R419, R425) -/

/-- No valid frame for 1 ms (R419). -/
def meterSilent (s : State) : State :=
  if s.bit MTR_STATUS_link then
    let s := s.putB MTR_STATUS_link false
    let s := if s.bit MTR_RESULT_busy then mtrEnd s 3 0 else s
    mtrEvent (sourcesLost (s.raise 28) fun s n => usesMeter s n) 4
  else s

/-- The meter is declared silent (R419). -/
def execMeterSilent (s : State) : Out := .next (onMeter s fun s => if mtrRuns s then meterSilent s else s)

/-- A meter whose supply was lost starts again (R417): whatever the rest of the module does, it writes its record of the loss. -/
def meterStart (s : State) (time : Nat) : State :=
  match s.mtr.supplyLost with
  | some e => s.modMtr fun m => { mtrLog m time 0x02 e with supplyLost := none }
  | none => s

/-- The first valid frame after silence (R419). -/
def meterRestore (s : State) : State :=
  if s.bit MTR_STATUS_link then s
  else
    let s := (s.putB MTR_STATUS_link true).count MTR_STATUS_linkloss
    mtrReport (mtrEvent (sourcesBack s fun s n => usesMeter s n) 5)

/-- The meter's first frame after silence or after its supply was lost (R417, R419): it is taken where the link runs. -/
def execMeterLinkRestore (time : BitVec 64) (s : State) : Out :=
  .next (onMeter s fun s => let s := meterStart s time.toNat; if mtrRuns s then meterRestore s else s)

/-- VMTR falls through 2.9 V (R417): the energy registers are stored; the record of the loss is written at the next start. -/
def execMeterSupplyLoss (imp exp : BitVec 64) (s : State) : Out :=
  .next (meterActs s fun s => s.modMtr fun m =>
    let i := max m.imp imp.toNat
    { m with imp := i, exp := max m.exp exp.toNat, supplyLost := some i })

/-- The meter's self-check fails (R425): a log record, MTR_STATUS.fault, source 29. -/
def execMeterSelfCheckFail (time : BitVec 64) (check : Byte) (s : State) : Out :=
  .next (meterActs s fun s =>
    let again := s.bit MTR_STATUS_fault && mtrRuns s && s.bit MTR_STATUS_link
    let s := mtrReport (s.modMtr fun m => mtrLog { m with failed := true } time.toNat 0x06 check.toNat)
    if again then s.raise 29 else s)

/-- The answer of MTR in the entry handshake (R428). -/
def mtrAnswer (s : State) : HsAns := if s.bit MTR_RESULT_busy then .delay else .ack

/-- A reset of the control die (R418): the mailbox is reset and a request in progress lost, whose answer may have advanced the response
counter, a free value; the meter and what it reports stay. -/
def mtrReset (s : State) : State :=
  let st := s.rd MTR_STATUS &&& 0xF8000000
  let s := { s with regs := SMap.clear s.regs MTR_STATUS.addr 0x300 }
  let s := s.wr MTR_STATUS st
  if s.mtr.req.isSome && mtrOn s then (s.modMtr fun m => { m with req := none, ctr := m.ctr + s.freeW.toNat % 2 }).drawn
  else s.modMtr fun m => { m with req := none }

end Sys2Proof.Machine
end

