-- ==== Sys2Proof/Machine/Query.lean ====
section
/-! DEFINITION. ZLP QUERY: identity and counters, recorder records, signal-box records (R239, R472, R494). -/
namespace Sys2Proof.Machine
open Sys2Proof Reg

/-- LDG_STATUS as it reads: the number of tickets held and of tracks fenced. -/
def ldgStatus (s : State) : Word :=
  let f := ((List.range 512).filter s.isFenced).length
  setBits (setBits (s.rd LDG_STATUS) LDG_STATUS_fenced.hi LDG_STATUS_fenced.lo f) LDG_STATUS_held.hi LDG_STATUS_held.lo
    s.ldg.tickets.length

/-- The data of class 0x01. -/
def identityData (s : State) : List Byte :=
  let ws := [s.rd SYS_ID, s.rd SYS_REV, s.rd SYS_SERIAL_LO, s.rd SYS_SERIAL_HI, ldgStatus s, s.rd LDG_COUNT_ADMIT, s.rd LDG_COUNT_REFUSE,
    s.rd LDG_COUNT_DROP]
  ws.flatMap beWord

/-- The number of a signal-box record before `q` (R470). -/
def seqBefore (q : Nat) : Nat := if q = 1 then 0xFFFFFFFF else q - 1

/-- The signal-box records kept, oldest first: `n` of them at most, walking back from record `q`. -/
def keptFrom (s : State) : Nat → Nat → List Nat
  | 0, _ => []
  | n + 1, q => if q ≠ 0 ∧ (recWord s (q % 32) 0).toNat = q then keptFrom s n (seqBefore q) ++ [q] else []

/-- The answer of class 0x03 (R472): status, next cursor, data. -/
def fltQuery (s : State) (cursor : Word) (maxBytes : Nat) : Nat × Word × List Byte :=
  let newest := s.rd FLT_NEWEST
  let kept := keptFrom s 32 newest.toNat
  let c := if cursor = 0 then 1 else cursor
  if newest = 0 ∨ seqLater c newest then (1, cursor, [])
  else
    let found := kept.contains c.toNat
    let l := (if found then kept.dropWhile (· ≠ c.toNat) else kept).take (maxBytes / 64)
    let next : Word := match l.getLast? with
      | some q => if q = 0xFFFFFFFF then 1 else BitVec.ofNat 32 (q + 1)
      | none => if found then c else BitVec.ofNat 32 (kept.headD 0)
    (if found then 0 else 2, next, l.flatMap fun q => (List.range 16).flatMap fun w => leBytes 4 (recWord s (q % 32) w).toNat)

/-- A QUERY (R239, R240): the classes that LDG_SESSk_CFG.query enables; the data never exceed the maximum. The answer of class 1
echoes the cursor (DESIGN CHOICE, log entry 83). -/
def query (s : State) (h : ZHdr) (body : List Byte) : State :=
  let cls := beField body 0 1
  let cursor : Word := BitVec.ofNat 32 (beField body 4 4)
  let maxN := beField body 8 2
  zServe s h fun k s =>
    let ans (s : State) (b : ZBody) : State := sendAns s h.link h.src k b
    let n := min 1000 maxN
    if body.length ≠ 12 then ans s (.error 2)
    else if ¬ (1 ≤ cls ∧ cls ≤ 3) ∨ ¬ (s.get (LDG_SESS_CFG_query k)).testBit (cls - 1) then ans s (.error 3)
    else
      match cls with
      | 1 => ans s (.query 1 0 cursor ((identityData s).take (n / 4 * 4)))
      | 2 =>
        let (st, nx, d) := evrQuery s cursor n
        ans (if st = 1 then s else evrRead s cursor nx) (.query 2 st nx d)
      | _ =>
        let (st, nx, d) := fltQuery s cursor n
        ans s (.query 3 st nx d)

/-- QUERY (R239): the class with its 3 zero bytes, the cursor, the maximum and what follows make the body. -/
def execQuery (h : ZHdr) (cls cursor maxN rest : List Byte) (s : State) : Out := .next (query s h (cls ++ cursor ++ maxN ++ rest))

end Sys2Proof.Machine
end

