-- ==== Sys2Proof/Machine/TaskCmds.lean ====
section
/-! DEFINITION. The stationmaster's commands, the dispatcher's events and the core pairs (R29, R30, R152 to R169, R544). -/
namespace Sys2Proof.Machine
open Sys2Proof Reg

/-- A write of a TSK register outside the self region: context 0 alone reaches it; any other context's is a capability violation
(R164, R542). -/
def tskOnly (s : State) (w : Nat) (r : Rg) (f : State → State) : State :=
  s.granted w (w == 0) r f

/-- The contexts of tenant `t` that are not Empty. -/
def ctxsOfTenant (s : State) (t : Nat) : List Nat := s.liveCtxs.filter fun c => s.tenant c == t

/-- TENANT_SIDING: every non-Empty context of the tenant goes to Siding (R152, R166). -/
def tenantSiding (s : State) (t : Nat) : State := (ctxsOfTenant s t).foldl (fun s c => stopCtx s c 6 .siding) s
/-- The contexts of a tenant in Siding. -/
def sidingOf (s : State) (t : Nat) : List Nat := (ctxsOfTenant s t).filter fun c => (s.ctx c).mode = .siding
/-- TENANT_RESTART: every context of the tenant in Siding restarts (R152, R166). -/
def tenantRestart (s : State) (t : Nat) : State := (sidingOf s t).foldl restartCtx s

/-- Whether a valid route entry, an ignored one too, names the context (R166; DESIGN CHOICE, log entry 84). -/
def routed (s : State) (c : Nat) : Bool := (List.range 1024).any fun i => s.bit (TSK_ROUTE_valid i) && s.get (TSK_ROUTE_ctx i) == c

/-- RESUME: Ready when an activation is unfinished or an input holds an event, else Waiting (R152). -/
def resumeCtx (s : State) (c : Nat) : State :=
  let x := s.ctx c
  if inact s c || x.firstInp.isSome then
    let p := if inact s c then x.cur else homeOr s c
    let s := s.stamped
    laneFree (s.setCtx c { x with mode := .ready, cur := p, readySince := s.cpu.stamp }) p
  else s.setCtx c { x with mode := .waiting }

/-- DRAIN: the four inputs emptied, the ticket handles of discarded ledger events handed to the ledger (R166, R225). -/
def drainCtx (s : State) (c : Nat) : State :=
  let x := s.ctx c
  let evs := x.in0.q ++ x.in1.q ++ x.in2.q ++ x.in3.q
  let hs := (evs.filter fun e => e.src < 512).map (·.pay)
  let s := s.setCtx c { x with in0 := Inp.none, in1 := Inp.none, in2 := Inp.none, in3 := Inp.none, serving := none, again := none }
  { s with ldg := { s.ldg with drained := s.ldg.drained ++ hs } }

/-- RELEASE: the context is Empty and its items are removed (R152, R186). -/
def releaseCtx (s : State) (c : Nat) : State := (s.removeItemsOf c).setCtx c Ctx.init

/-- What a stationmaster command does and the code it ends with (R166): 0 done, 1 wrong state, 2 routes or events present, 3 target
not allowed, 4 unknown command. -/
def tskEffect (s : State) (op t : Nat) : State × Nat :=
  let x := s.ctx t
  let stopped := x.mode = .stopped
  let out := x.mode = .stopped ∨ x.mode = .siding
  let onCtx (ok : Bool) (f : State → State) : State × Nat := if t = 0 then (s, 3) else if ok then (f s, 0) else (s, 1)
  match op with
  | 0x1 => onCtx (x.mode = .empty) fun s => createCtx s t
  | 0x2 => onCtx (x.mode ≠ .empty ∧ ¬ out) fun s => stopCtx s t 5 .stopped
  | 0x3 => onCtx stopped fun s => resumeCtx s t
  | 0x4 => onCtx out fun s => restartCtx s t
  | 0x5 => onCtx (x.mode ≠ .empty ∧ x.mode ≠ .siding) fun s => stopCtx s t 6 .siding
  | 0x6 =>
    if t = 0 then (s, 3) else if ¬ out then (s, 1) else if routed s t || x.firstInp.isSome then (s, 2) else (releaseCtx s t, 0)
  | 0x7 => onCtx out fun s => drainCtx s t
  | 0x8 => if t = 0 ∨ 32 ≤ t then (s, 3) else (tenantSiding s t, 0)
  | 0x9 => if 32 ≤ t then (s, 3) else if (sidingOf s t).isEmpty then (s, 1) else (tenantRestart s t, 0)
  | 0xC =>
    if 8 ≤ t then (s, 3) else if ! pairUp s t then (s, 1) else if (pairsUp s).length ≤ 1 then (s, 3) else (pairSiding s t, 0)
  | 0xD =>
    if 8 ≤ t then (s, 3)
    else if pairState s t = 2 then
      let s := setPairState s t 0
      let s := (s.liveCtxs.filter fun c => (s.ctx c).mode ≠ .resident ∧ ! inact s c ∧ s.get (TSK_CTX_CFG_pair c) = t).foldl
        (fun s c => s.modCtx c fun y => { y with cur := t }) s
      (fillLanes s.stamped t, 0)
    else (s, 1)
  | 0xE => if 8 ≤ t then (s, 3) else if pairUp s t then (s, 1) else (setPairState s t 1, 0)
  | _ => (s, 4)

/-- A write of TSK_CMD by context 0: ignored while a command is in progress; else the command takes effect and busy reads 1 until it
ends with its code (R166, R544). -/
def tskCommand (s : State) (w op t : Nat) : State :=
  tskOnly s w TSK_CMD fun s =>
    if s.bit TSK_CMD_RESULT_busy then s
    else
      let (s, code) := tskEffect s op t
      let s := s.putB TSK_CMD_RESULT_busy true
      { s with cpu := { s.cpu with tskCode := code } }

/-- A write of TSK_POST by context 0 posts an event with source 1,023 (R162). -/
def tskPost (s : State) (w inp c pay : Nat) : State := tskOnly s w TSK_POST fun s => s.eventTo 1023 pay c inp

/-- A write of clr to TSK_CTX_VIOL clears count, kind and TSK_CTX_VADDR (R14). -/
def violClear (s : State) (w n : Nat) : State :=
  tskOnly s w (TSK_CTX_VIOL n) fun s => (s.wr (TSK_CTX_VIOL n) 0).wr (TSK_CTX_VADDR n) 0

/-- CREATE (R166). -/
def execCtxCreate (w : CtxId) (n : Fin 512) (s : State) : Out := .next (tskCommand s w 0x1 n)
/-- STOP (R166). -/
def execCtxStop (w : CtxId) (n : Fin 512) (s : State) : Out := .next (tskCommand s w 0x2 n)
/-- RESUME (R166). -/
def execCtxResume (w : CtxId) (n : Fin 512) (s : State) : Out := .next (tskCommand s w 0x3 n)
/-- RESTART (R166). -/
def execCtxRestart (w : CtxId) (n : Fin 512) (s : State) : Out := .next (tskCommand s w 0x4 n)
/-- SIDING of a context (R166). -/
def execCtxSiding (w : CtxId) (n : Fin 512) (s : State) : Out := .next (tskCommand s w 0x5 n)
/-- RELEASE (R166). -/
def execCtxRelease (w : CtxId) (n : Fin 512) (s : State) : Out := .next (tskCommand s w 0x6 n)
/-- DRAIN (R166). -/
def execCtxDrain (w : CtxId) (n : Fin 512) (s : State) : Out := .next (tskCommand s w 0x7 n)
/-- TENANT_SIDING (R166). -/
def execTenantSiding (w : CtxId) (t : Fin 512) (s : State) : Out := .next (tskCommand s w 0x8 t)
/-- TENANT_RESTART (R166). -/
def execTenantRestart (w : CtxId) (t : Fin 512) (s : State) : Out := .next (tskCommand s w 0x9 t)
/-- PAIR_SIDING (R166, R167). -/
def execPairSiding (w : CtxId) (p : Fin 512) (s : State) : Out := .next (tskCommand s w 0xC p)
/-- PAIR_REJOIN (R166, R169). -/
def execPairRejoin (w : CtxId) (p : Fin 512) (s : State) : Out := .next (tskCommand s w 0xD p)
/-- PAIR_TEST (R166, R169). -/
def execPairTest (w : CtxId) (p : Fin 512) (s : State) : Out := .next (tskCommand s w 0xE p)

/-- A TSK command ends (R544): busy clears, seq counts, code shows; the ledger then settles what a DRAIN discarded. -/
def execTskCmdComplete (s : State) : Out :=
  if s.bit TSK_CMD_RESULT_busy then
    .next (settleDrained (((s.putB TSK_CMD_RESULT_busy false).wrap TSK_CMD_RESULT_seq).put TSK_CMD_RESULT_code s.cpu.tskCode))
  else .next s

/-- TSK_POST (R162). -/
def execTskPost (w : CtxId) (inp : Fin 4) (ctx : CtxId) (pay : Fin 16384) (s : State) : Out := .next (tskPost s w inp ctx pay)
/-- A write of clr to TSK_CTX_VIOL (R14). -/
def execViolationClear (w : CtxId) (n : CtxId) (s : State) : Out := .next (violClear s w n)

/-- The pair self-test of a pair in siding ends (R169). -/
def execPairSelfTestEnd (p : Fin 8) (pass : Bool) (s : State) : Out :=
  if pairState s p = 1 then .next (setPairState s p (if pass then 2 else 3)) else .next s

/-- A compare mismatch (R29, R30, R167): the pair enters siding before the mismatching operation takes effect and raises its source;
the last pair in traffic stays and the class 2 reaction is applied as class 3 (R465). -/
def execPairCompareMismatch (p : Fin 8) (s : State) : Out :=
  if pairUp s p then
    .next ((if 1 < (pairsUp s).length then pairSiding s p else s).raise (16 + p) (BitVec.ofNat 32 p))
  else .next s

/-- The two dispatcher copies disagree (R30). -/
def execDispatcherMismatch (s : State) : Out := .next (s.raise 2)

/-- An event reaches its input (R162); the matching event on its way, if any, is the one delivered. The context and the input count only
for a source that names its own: a timeline post or TSK_POST. -/
def arriveEvent (s : State) (m : EvMsg) : State := routeEvent { s with evq := s.evq.erase m } m

/-- Whether a source names its context and input itself (R162). -/
def selfNaming (src : Nat) : Bool := (512 ≤ src && src < 520) || src == 1023

/-- A swap ends and the incoming context issues its first packet (R157), with an activation started if none is unfinished (R158); the
measured qualify-to-issue latency goes to TSK_DISP_MAX. -/
def execSwapComplete (c : CtxId) (cycles : Nat) (s : State) : Out :=
  let x := s.ctx c
  if ctlReached s && x.mode = .resident && x.swapping then
    let s := s.setCtx c { x with swapping := false, regs := readFrame s c }
    let s := s.putMax TSK_DISP_MAX_cycles (min cycles 255)
    .next (if inact s c then s else startActivation s c)
  else .next s

/-- The activation of a context ends after its WAIT's delay packet (R139, R152). -/
def execActivationEnd (c : CtxId) (s : State) : Out :=
  let s' := closePacket s c
  let x := s'.ctx c
  if ctlReached s && x.mode = .resident && x.ended then .next (endActivation s' c) else .next s

end Sys2Proof.Machine
end

