-- ==== Sys2Proof/Machine/Outfit.lean ====
section
/-! DEFINITION. Outfits and mode interplay (R528 to R541). -/
namespace Sys2Proof.Machine
open Sys2Proof Reg

/-! ## Descriptors (R528 to R530) -/

/-- Descriptor `j` as it stands in data SRAM; outside data SRAM it reads as 0 (R528, R538). -/
def descriptor (s : State) (j : Nat) : List Word :=
  let a := (s.rd SYS_WRD_BASE).toNat / 16384 * 16384 + 512 * j
  (List.range 128).map fun i => if a + 4 * i + 3 < dSize then s.dWord (a + 4 * i) else 0

/-- The word of a descriptor at a byte offset. -/
def dw (d : List Word) (off : Nat) : Word := d.getD (off / 4) 0
/-- Bit `i` of an array of bits that starts at a byte offset. -/
def dbit (d : List Word) (off i : Nat) : Bool := bitOf (dw d (off + 4 * (i / 32))) (i % 32)
/-- Entry `i` of an array of 2-bit values. -/
def dtwo (d : List Word) (off i : Nat) : Nat := getBits (dw d (off + 4 * (i / 16))) (2 * (i % 16) + 1) (2 * (i % 16))

/-- Whether outfit `j` permits Doze, Park and Off (R530: Drive never permits Park or Off). -/
def permitsDoze (d : List Word) : Bool := bitOf (dw d 0) 0
def permitsPark (j : Nat) (d : List Word) : Bool := bitOf (dw d 0) 1 && j != 4
def permitsOff (j : Nat) (d : List Word) : Bool := bitOf (dw d 0) 2 && j != 4
/-- Whether outfit `j` probes (R530: Transport never does). -/
def probes (j : Nat) (d : List Word) : Bool := bitOf (dw d 0) 3 && j != 7
/-- Whether outfit `j` permits changing to outfit `k`; every outfit permits changing to itself. -/
def permitsNext (j k : Nat) (d : List Word) : Bool := j == k || bitOf (dw d 4) k
/-- Whether a descriptor enables a roster; roster 0 is none. -/
def enablesRoster (d : List Word) (r : Nat) : Bool := r != 0 && dbit d 0x20 r

/-- Whether a change is Staging or Armed. -/
def outChanging (s : State) : Bool := s.get SYS_OUT_STATUS_state != 0
/-- The changing roster. -/
def outRoster (s : State) : Nat := s.get SYS_OUT_CFG_roster

/-- A record of code 0x20 or 0x21 (R539). -/
def outRec (s : State) (code before target res why : Nat) : State :=
  blockRec s code ([before, target, res, why].map (BitVec.ofNat 8) ++ leBytes 4 (s.rd SYS_OUT_STATUS).toNat)

/-! ## CHANGE and CANCEL (R531, R534, R538) -/

/-- Whether both dies are Served. -/
def bothServed (s : State) : Bool := dieState s 0 == 0 && dieState s 1 == 0

/-- The refusal code of a CHANGE, lowest first: 0 none (R538). Between the commit of a handshake and the end of the entry a CHANGE is refused
as during the handshake (DEDUCED, log entry 77). -/
def changeRefusal (s : State) (t : Nat) (now : Bool) (d : List Word) : Nat :=
  let r := outRoster s
  if outChanging s || s.bit PWR_STATUS_hs || s.pwr.phase == .parking || s.pwr.phase == .offing || s.get FLT_STATUS_mode == 2 then 1
  else if ! bitOf (dw d 0) 31 then 2
  else if outInForce s && ! permitsNext (outCur s) t (s.out.force.getD []) then 3
  else if r != 0 && ! enablesRoster d r then 4
  else if s.pwr.phase == .doze && ! permitsDoze d then 5
  else if now && outInForce s && t != outCur s then 6
  else if ! bothServed s then 7
  else if ! now && (r == 0 || ! rosOn s r || rosAxis s r != 1) then 8
  else 0

/-- A SYS_OUT command ends (SYS_OUT_CMD_RESULT). -/
def outEnd (s : State) (code : Nat) : State := (s.wrap SYS_OUT_CMD_RESULT_seq).put SYS_OUT_CMD_RESULT_code code

/-- A staging frame reaches power die `e`: it keeps the fields (R531). -/
def takeStaging (s : State) (e : Nat) (d : List Word) : State := s.modOut fun o => { o with onDie := o.onDie.ins e d }

/-- CHANGE (R531): refused with a record, or Staging with the descriptor copied and the fields of the power dies sent in staging frames. -/
def outChange (s : State) (t : Nat) (now : Bool) : State :=
  let d := descriptor s t
  match changeRefusal s t now d with
  | 0 =>
    let s := (s.put SYS_OUT_STATUS_state 1).put SYS_OUT_STATUS_target t
    let s := s.modOut fun o => { o with staged := some d, now := now }
    outEnd ([0, 1].foldl (fun s e => viaDie s e (.staging d) fun s => takeStaging s e d) s) 0
  | code => outRec (outEnd s code) 0x21 (outCur s) t code 0

/-- A change ends without a commit: what was staged is discarded. -/
def outDrop (s : State) (last : Nat) : State :=
  (((s.put SYS_OUT_STATUS_state 0).put SYS_OUT_STATUS_target 0x3F).put SYS_OUT_STATUS_last last).modOut fun o => { o with staged := none, now := false }

/-- A write of SYS_OUT_CMD by context `w` (R531, R541). -/
def outCommand (s : State) (w op t : Nat) (now : Bool) : State :=
  s.granted w (w == 0) SYS_OUT_CMD fun s =>
    match op with
    | 1 => outChange s t now
    | 2 => if outChanging s then outEnd (outDrop s 3) 0 else outEnd s 1
    | _ => outEnd s 4

/-- SYS_OUT_CMD CHANGE (R531). -/
def execChange (w : CtxId) (t : Fin 32) (now : Bool) (s : State) : Out := .next (outCommand s w 1 t now)
/-- SYS_OUT_CMD CANCEL (R531). -/
def execCancel (w : CtxId) (s : State) : Out := .next (outCommand s w 2 0 false)

/-! ## The commit (R532, R537) -/

/-- The check that fails at the commit: 0 none (R534). -/
def commitFailure (s : State) (d : List Word) : Nat :=
  if ! bothServed s then 1
  else if s.bit PWR_STATUS_hs then 2
  else if s.pwr.phase == .doze && ! permitsDoze d then 3
  else if ! s.out.now && (! rosOn s (outRoster s) || rosAxis s (outRoster s) != 1) then 4
  else if s.get FLT_STATUS_mode == 2 then 5
  else 0

/-- The fields of the control die but those of NMG and the rosters: the access unit, the budget, the tracks (R529). -/
def commitFields (s : State) (t : Nat) (d : List Word) : State :=
  let s := s.putB ACC_CFG_en (probes t d)
  let s := (s.put ACC_POLL_amask (getBits (dw d 8) 31 28)).put ACC_POLL_per (getBits (dw d 8) 15 0)
  let s := s.put PSW_BUD_CFG_ceiling (getBits (dw d 0x1C) 15 0)
  let s := (List.range 104).foldl (fun s c =>
    let b := getBits (dw d ((0xAC + c) / 4 * 4)) (8 * ((0xAC + c) % 4) + 7) (8 * ((0xAC + c) % 4))
    (s.put (PSW_BUD_prio c) (b / 64)).put (PSW_BUD_floor c) (b % 32)) s
  (List.range 512).foldl (fun s n => s.putB (LDG_TRK_CFG_open n) (dbit d 0x28 n)) s

/-- The fields of power die `e` (R529): its hold window, the classes of its channels, of its sinks and of its matrix port; a follower's class
is ignored. -/
def commitDie (s : State) (e : Nat) (d : List Word) : State :=
  let s := s.put (PSW_DIE_CFG_hold e) (if e = 0 then getBits (dw d 0xC) 9 0 else getBits (dw d 0xC) 25 16)
  let s := (dieChans e).foldl (fun s c => if isFollower s c then s else s.put (PSW_CH_SAFE_class c) (dtwo d 0x68 c)) s
  let s := ((List.range 48).filter fun k => sinkDie k == e).foldl (fun s k => s.put (LED_K_CFG_class k) (dtwo d 0x84 k)) s
  s.put (LED_M_CFG_class e) (getBits (dw d 0x90) (2 * e + 1) (2 * e))

/-- A commit frame reaches power die `e`: it applies what it has staged (R532). -/
def applyStaging (s : State) (e : Nat) : State :=
  match s.out.onDie.find e with
  | some d => (commitDie s e d).modOut fun o => { o with onDie := o.onDie.erase e }
  | none => s

/-- The commit frames of both dies, each ahead of every other frame (R532). -/
def commitFrames (s : State) : State := [0, 1].foldl (fun s e => viaDieFirst s e .commit fun s => applyStaging s e) s

/-- Remote wake and pin of every bus; pin acts as a write of it does (R537). -/
def commitBuses (s : State) (d : List Word) : State :=
  (List.range 22).foldl (fun s b => busPin (s.putB (NMG_BUS_CFG_wake b) (bitOf (dw d 0x10) b)) b (dtwo d 0x14 b)) s

/-- The position of axis `n` from which a roster that the commit enables is judged (R532): where the commit is made at `boundary` of A1, the
position before that update; a position axis moves by no update of its own then. -/
def judgedFrom (s : State) (n : Nat) (boundary : Option Nat) : Nat :=
  match boundary, n with
  | some p, 1 => p + 2 ^ 48 - 1
  | some _, 0 => s.tln.a0Before
  | _, _ => (s.axis n).pos

/-- The rosters (R532): enabled ones judged from the position before the update, the others disabled. -/
def commitRosters (s : State) (d : List Word) (boundary : Option Nat) : State :=
  ((List.range 63).map (· + 1)).foldl (fun s r =>
    if dbit d 0x20 r then rosterEnableFrom s r (judgedFrom s (rosAxis s r) boundary) else rosterDisable s r) s

/-- The commit (R532), or the change abandoned (R534). -/
def outCommit (s : State) (boundary : Option Nat) : State :=
  match s.out.staged with
  | none => s
  | some d =>
    let t := s.get SYS_OUT_STATUS_target
    let before := outCur s
    match commitFailure s d with
    | 0 =>
      let s := commitRosters (commitBuses (commitFrames (commitFields s t d)) d) d boundary
      let s := (outDrop s 1).wrap SYS_OUT_STATUS_count
      let s := ((s.putB SYS_OUT_STATUS_dirty false).put SYS_OUT_STATUS_cur t).modOut fun o => { o with force := some d }
      outRec s 0x20 before t 0 0
    | why => outRec ((outDrop s 2).put SYS_OUT_STATUS_why why) 0x21 before t 0 why

/-- Whether both dies have the staging frames of the change (R531). -/
def stagingTaken (s : State) : Bool := [0, 1].all fun e => (s.out.onDie.find e).isSome && s.out.onDie.find e == s.out.staged

/-- Both dies acknowledge the staging frames, which each does once it has them (R531, R535): Armed; with now = 1 the commit follows at once.
Nothing of it goes on in Park. -/
def stagingAck (s : State) : State :=
  if s.get SYS_OUT_STATUS_state = 1 ∧ stagingTaken s ∧ ctlReached s then
    let s := s.put SYS_OUT_STATUS_state 2
    if s.out.now then outCommit s none else s
  else s

/-- Both dies acknowledge the staging frames (R531). -/
def execStagingAck (s : State) : Out := .next (stagingAck s)


/-! ## Power states (R539) -/

/-- Whether a channel keeps the device from Park: commanded neither OFF nor to duty 0, outside the Park mask; a channel in siding counts as
OFF unless it is in its limp state. -/
def holdsPark (s : State) (c : Nat) (d : List Word) : Bool :=
  let cmd := s.get (PSW_CH_STATE_cmd c)
  let off := cmd == 0 || ((cmd == 2 || cmd == 3) && s.get (PSW_CH_STATE_value c) == 0)
    || (s.bit (PSW_CH_STATUS_siding c) && (s.chan c).limp.isNone)
  ! off && ! dbit d 0x94 c

/-- Whether the outfit rules forbid Doze. -/
def forbidsDoze (s : State) : Bool :=
  (outInForce s && ! permitsDoze (s.out.force.getD [])) || (outChanging s && ! permitsDoze (s.out.staged.getD []))
/-- Whether the outfit rules forbid Park. -/
def forbidsPark (s : State) : Bool :=
  outChanging s || (outInForce s &&
    let d := s.out.force.getD []
    ! permitsPark (outCur s) d || (List.range 104).any (fun c => holdsPark s c d)
      || (List.range 48).any fun k => s.get (LED_K_SET_duty k) != 0 && ! dbit d 0xA4 k)
/-- Whether the outfit rules forbid Off. -/
def forbidsOff (s : State) : Bool := outChanging s || (outInForce s && ! permitsOff (outCur s) (s.out.force.getD []))

/-- A reset of the control die leaves no outfit in force (R540). -/
def outReset (s : State) : State :=
  { s with regs := SMap.clear s.regs SYS_WRD_BASE.addr 0x14, out := OutSt.init }

end Sys2Proof.Machine
end

