-- ==== Sys2Proof/Machine/TimelineCmds.lean ====
section
/-! DEFINITION. The commands of the Eloasel timeline engine: firing of items, roster periods, axes, network time (R175 to R208). -/
namespace Sys2Proof.Machine
open Sys2Proof Reg

/-! ## Firing (R180, R187 to R190) -/

/-- A PIN item on CKOUT (R180, R443): outcome 1, or 4 where CLK has not given the land to the timeline. DESIGN CHOICE (log entry 29): the
undefined op 3 does nothing, so its outcome is that of an action that does nothing, dropped. -/
def ckoutPin (s : State) (op : Nat) : State × Nat :=
  if s.get CLK_CKOUT_mode = 2 ∧ op < 3 then
    (s.modClk fun c => { c with pin := if op = 0 then false else if op = 1 then true else ! c.pin }, 1)
  else (s, 4)

/-- The trigger of a sample (R180, R259, R319) goes to the die of its target over the links (R16, R17): outcome 3 for a die that is off
(R251), 0 while the report is still to come. -/
def fireSample (s : State) (k gen target : Nat) : State × Nat :=
  let d := if target < 0x60 then dinDie target else dieOf (target - 0x100)
  if ! dieReached s d then (s, 3)
  else if linkClear s d then let (s, o) := senseAction s target; (exchange s d, o)
  else (queueFrame s d false (.sense target (k, gen)), 0)

/-- A POST item (R180, R190): source 512 + axis; outcome 4 when the input's queue is full or the context is Empty. -/
def firePost (s : State) (i : Item) : State × Nat :=
  let c := getBits i.arg 24 16
  let n := getBits i.arg 31 30
  let x := s.ctx c
  (s.eventTo (512 + i.axis) (getBits i.arg 13 0) c n, if x.mode ≠ .empty ∧ (latest s c n ∨ (x.inp n).q.length < 8) then 1 else 4)

/-- The action of the item of slot `k` at its target, with its outcome (R180, R190); 0 while the report of a power die is under way. -/
def fireAction (s : State) (k : Nat) (i : Item) (late : Bool) : State × Nat :=
  let f (hi lo : Nat) : Nat := getBits i.arg hi lo
  match i.kind with
  | 0x1 => sendAction s (f 6 0) (f 15 8) (f 31 16) i.tkt (i.ctx == 0) (some (k, i.gen))
  | 0x2 => fireSample s k i.gen (f 8 0)
  | 0x3 => slotRelease s (f 3 0) (f 8 4) (f 14 9) i.tkt late
  | 0x4 => firePost s i
  | 0x5 => if f 2 0 = 0 then ckoutPin s (f 5 4) else latPin s (f 2 0 - 1) (f 5 4)
  | 0x6 => portAction s (4 + f 1 0) 6 0 i.tkt false
  | _ => portAction s (2 + f 0 0) 4 0 i.tkt false

/-- The item of a slot fires: its lag and lateness are recorded, and it keeps the outcome. -/
def fireSlot (s : State) (d : Due) (k : Nat) : State :=
  let s := s.putMax TLN_LAG_MAX_lag (min 65535 (engineCycle s - d.cyc))
  let s := if d.late then s.count (TLN_AX_LATE_count d.axis) else s
  let (s, o) := fireAction { s with tln := { s.tln with fired := true } } k (s.item k) d.late
  s.setItem k { s.item k with outcome := o }

/-- The period of roster `r` at the head of the queue starts (R191); on the roster of an Armed outfit change the commit comes first (R532). -/
def fireStart (s : State) (d : Due) (r n : Nat) : State :=
  let s := if changing s r then outCommit s (some (rosStart s r n)) else s
  if rosOn s r then startPeriod s d r n else s

/-- The head of the due queue is served (R188, R189). -/
def serveDue (s : State) : State :=
  match s.tln.due with
  | [] => s
  | d :: ds =>
    let s := { s with tln := { s.tln with due := ds } }
    match d.kind with
    | .single k => (fireSlot s d k).freeSlot k .fired
    | .inst r _ k => settleRoster (fireSlot s d k) r
    | .period r n => fireStart s d r n

/-- Whether the engine runs: clocked by PLL1, outside Park and Off (R205, R432, R454). -/
def tlnRuns (s : State) : Bool := clkRuns s && s.bit CLK_STATUS_pll1

/-- Whether an entry is a period start. -/
def Due.isStart (d : Due) : Bool := match d.kind with | .period _ _ => true | _ => false

/-- The period starts in the due queue take place; no item fires (R189). -/
def serveStarts (s : State) : State :=
  (s.tln.due.filter Due.isStart).foldl (fun s d =>
    match d.kind with
    | .period r n => fireStart { s with tln := { s.tln with due := s.tln.due.filter (· ≠ d) } } d r n
    | _ => s) s

/-- Whether the engine can serve the head of the due queue in the present cycle: a period start, or the one item of the cycle (R189). -/
def canServe (s : State) : Bool :=
  match s.tln.due with
  | [] => false
  | d :: _ => tlnRuns s && (d.isStart || ! s.tln.fired)

/-- Whether the head of the due queue is a period start, and of which roster. -/
def headStart (s : State) : Option Nat :=
  match s.tln.due with
  | d :: _ => match d.kind with | .period r _ => some r | _ => none
  | [] => none

/-- The item at the head of the due queue fires (R187), if none has fired in this cycle (R189). -/
def execItemFire (s : State) : Out := .next (if canServe s && (headStart s).isNone then serveDue s else s)
/-- The period at the head of the due queue starts (R191). -/
def execRosterPeriodStart (r : Fin 64) (s : State) : Out := .next (if tlnRuns s && headStart s == some r.val then serveDue s else s)

/-- The period starts at the head of the due queue served, ahead of the item of this cycle. -/
def startsServed (s : State) : State :=
  (List.range s.tln.due.length).foldl (fun s _ => if canServe s && (headStart s).isSome then serveDue s else s) s

/-- Whether the item of slot `k` is the one that fires in this cycle. -/
def firesNow (s : State) (k : Nat) : Bool := canServe s && (s.tln.due.head?.map (·.kind)) == some (.single k)

/-- TCANCEL (R185). A single item that fires in the cycle in which its TCANCEL arrives fires. -/
def tcancel (s : State) (c : Nat) (h : Word) : State × Word :=
  let k := getBits h 11 0
  let i := s.item k
  if ¬ bitOf h 31 ∨ getBits h 30 28 ≠ 0 ∨ getBits h 15 12 ≠ 0 ∨ i.st = .free ∨ i.gen ≠ getBits h 27 16 ∨ (i.ctx ≠ c ∧ c ≠ 0) then
    (s, 0x80000003)
  else if ! s.axisOk c i.axis then (s.violateCap c, 0)
  else
    match i.st with
    | .armed =>
      if i.roster = 0 then
        if firesNow (startsServed s) k then
          let s := serveDue (startsServed s)
          (s, 0x80000002 + BitVec.ofNat 32 ((s.item k).outcome * 16))
        else (s.removeItem k, 0x80000001)
      else
        let s := s.setItem k { i with stagedCancel := true }
        (if rosOn s i.roster then s else settleRoster s i.roster, 0x80000004)
    | .fired => (s, 0x80000002 + BitVec.ofNat 32 (i.outcome * 16))
    | _ => (s, 0x80000003)

/-! ## Axes (R175 to R177) -/

/-- A position source delivers a count or a reading (R175). -/
def execAxisSourceUpdate (n : Fin 8) (s : State) : Out := .next (if clkRuns s then sourceUpdate s n else s)
/-- An axis loses its source (R176). -/
def execAxisSourceLost (n : Fin 8) (s : State) : Out := .next (axisLost s n)
/-- A lost source returns (R176). -/
def execAxisSourceReturn (n : Fin 8) (s : State) : Out := .next (axisReturn s n)

/-- A write of TLN_AXn_SETH by context `w` (R177, R209). -/
def axisSetH (s : State) (w n hi : Nat) (go : Bool) : State :=
  s.granted w (w == 0) (TLN_AX_SETH n) fun s => if go then axisLoad s n hi else s

/-- TLN_AXn_SETH with go = 1 (R177). -/
def execAxisLoad (w : CtxId) (n : Fin 8) (hi : BitVec 30) (s : State) : Out := .next (axisSetH s w n hi.toNat true)

/-! ## Rosters (R191, R195) -/

/-- A write of TLN_ROSr_CFG by context `w`: the axis may change only while the roster is disabled; roster 0 does not exist. -/
def rosterWrite (s : State) (w r axis : Nat) (en : Bool) : State :=
  s.granted w (w == 0) (TLN_ROS_CFG r) fun s =>
    if r = 0 then s
    else
      let s := outDirty s
      let s := if rosOn s r then s else s.put (TLN_ROS_CFG_axis r) axis
      if en then rosterEnable s r else rosterDisable s r

/-- TLN_ROSr_CFG.en set (R191). -/
def execRosterEnable (w : CtxId) (r : Fin 64) (axis : Fin 8) (s : State) : Out := .next (rosterWrite s w r axis true)
/-- TLN_ROSr_CFG.en cleared (R195). -/
def execRosterDisable (w : CtxId) (r : Fin 64) (s : State) : Out := .next (rosterWrite s w r (rosAxis s r) false)

/-! ## Network time (R197 to R204) -/

/-- A Sync received on a port that is Up (R197, R374); `slave` is the role BMCA gives the port. -/
def syncReceived (s : State) (port net : Nat) (slave : Bool) (rate : Int) : State :=
  if ! tlnRuns s || ethState s port ≠ 2 then s
  else
    let s := syncNoted s port slave
    if syncTaken s port then syncUsed s port net rate else s

/-- Network time as an axis position (R172, R202): counts of 2 ns from the PTP epoch. -/
def netCount (sec : BitVec 48) (ns : BitVec 32) : Nat := (500000000 * sec.toNat + ns.toNat / 2) % 2 ^ 62

/-- An 802.1AS Sync is received on a port (R197, R198), with network time in seconds and nanoseconds. -/
def execSyncReceive (port : Fin 2) (slave : Bool) (sec : BitVec 48) (ns : BitVec 32) (rate : Int) (s : State) : Out :=
  .next (syncReceived s port (netCount sec ns) slave rate)

/-- The request of a peer-delay measurement: a message to the 802.1AS group, untagged, from the port's own address, ahead of every queued
answer (R197, R373). -/
def pdelayRequest (s : State) (port : Nat) : State :=
  s.modNet fun x => { x with ethSent := x.ethSent ++ [⟨port, 0x0180C200000E, macOf port, none, none, none, .ptp⟩] }

/-- A peer-delay measurement is made on a port that is Up (R197, R374): its request has left, and the delay is taken. -/
def pdelayTaken (s : State) (port ns : Nat) : State :=
  if ethState s port ≠ 2 then s
  else
    let s := pdelayRequest s port
    { s with tln := if port = 0 then { s.tln with pdelay0 := ns } else { s.tln with pdelay1 := ns } }

/-- A peer-delay measurement (R197). -/
def execPdelayExchange (port : Fin 2) (ns : Nat) (s : State) : Out := .next (pdelayTaken s port ns)

/-- An Announce is received on a port that is Up (R374, R486): EVR_UTCOFF takes its currentUtcOffset. -/
def execAnnounceReceive (port : Fin 2) (utc : BitVec 16) (s : State) : Out :=
  .next (if ethState s port = 2 then s.put EVR_UTCOFF_sec utc.toNat else s)

/-- No Sync for 3 intervals (R198). -/
def execA0Holdover (s : State) : Out := .next (a0Holdover s)
/-- The holdover timer expires (R198). -/
def execA0FreeRun (s : State) : Out := .next (a0FreeRun s)

/-- A write of TLN_A0_CMD by context `w` (R201). DESIGN CHOICE (log entry 63): with both bits set the step is asked for first and then
withdrawn. -/
def a0Command (s : State) (w : Nat) (step cancel : Bool) : State :=
  s.granted w (w == 0) TLN_A0_CMD fun s =>
    let s := if step then a0Step s else s
    if cancel then a0StepCancel s else s

/-- TLN_A0_CMD.step (R201). -/
def execA0Step (w : CtxId) (s : State) : Out := .next (a0Command s w true false)
/-- TLN_A0_CMD.cancel (R201). -/
def execA0StepCancel (w : CtxId) (s : State) : Out := .next (a0Command s w false true)
/-- A pending step takes effect at a pulse boundary (R201): the periods that start there start; A0 jumps n whole periods; items and started
instances passed fall due late; period starts passed are skipped; a start exactly at the end starts; the pulse of the last boundary is
emitted. Where A0's last update took it by two counts across the boundary, it ends as far beyond the boundary at the end. -/
def stepApply (s : State) : State :=
  let s := serveStarts s
  let per := pulseP s
  let n := (s.tln.off / 1000000000).toNat / per
  let x := (s.axis 0).pos
  let tr := (s.axis 0).travel
  let e := x % per
  let jump (s : State) (x m : Nat) (late starts : Bool) : State := moveAxis s 0 (x + m) m true late starts
  let s := if n = 0 then s else
    let s := jump s x (n * per - e) true false
    let s := (rosOf s 0).foldl (fun s r => jumpStarts s 0 r x (n * per - e) false tr false) s
    jump s (s.axis 0).pos e false true
  let s := { s with tln := { s.tln with off := s.tln.off - (n * per : Nat) * 1000000000 } }
  let s := ((s.putB TLN_A0_STATUS_steppend false).put TLN_A0_STEP_result 2).put TLN_A0_STEP_n n
  let s := if 0 < n then startPage s else s
  if pulsing s then pulseRise s else s

/-- A0 has reached a boundary of TPULSE (R201, R202): a pending step takes effect, else the pulse is given; a boundary is dealt with once
(R203). -/
def boundary (s : State) : State :=
  if tlnRuns s && s.tln.atBound then
    let s := { s with tln := { s.tln with atBound := false } }
    if s.bit TLN_A0_STATUS_steppend then stepApply s else if pulsing s then pulseRise s else s
  else s

/-- A pending step takes effect at a pulse boundary (R201). -/
def execA0StepApply (s : State) : Out := .next (if s.bit TLN_A0_STATUS_steppend then boundary s else s)

/-- A0 reaches a pulse boundary (R202). -/
def execTpulseRise (s : State) : Out := .next (boundary s)
/-- The width of a pulse expires (R202). -/
def execTpulseFall (s : State) : Out := .next (pulseFall s)

/-! ## Park and errors (R206, R208) -/

/-- The wake lead in counts of 2 ns; 0 ms acts as 1 (R206). -/
def leadCounts (s : State) : Nat := max 1 (s.get TLN_WAKE_LEAD_ms) * 500000

/-- The positions at which the item of slot `k` is to fire next: its own, or those of its instances in the started periods and in the next
one (R206). -/
def firePositions (s : State) (k : Nat) : List Nat :=
  let i := s.item k
  if i.roster = 0 then [i.pos]
  else
    let ros := s.ros i.roster
    ((ros.periods.filter fun p => p.pending.contains k).map fun p => p.start + i.pos) ++
      (if rosOn s i.roster && ! i.leaving && ! i.stagedCancel then [rosStart s i.roster ros.nextN + i.pos] else [])

/-- Whether a position less the wake lead is reached (R172, R206). -/
def leadReached (s : State) (n p : Nat) : Bool := ! ahead (s.axis n).pos p || decide (fwdDist (s.axis n).pos p ≤ leadCounts s)

/-- Whether the item of slot `k` is to wake the device now: in Park, and from the commit to it on (R206, R453). -/
def wakesNow (s : State) (k : Nat) : Bool :=
  let i := s.item k
  wakeable s && i.st == .armed && i.wake && i.axis < 2 && ! i.wakeDone && (firePositions s k).any (leadReached s i.axis)

/-- The position of a wake item less the wake lead is reached in Park (R206). -/
def wakeLead (s : State) (k : Nat) : State :=
  let i := s.item k
  if wakesNow s k then wakeRequest (s.setItem k { i with wakeDone := true }) 7 i.axis else s

/-- The first item that is to wake the device now. -/
def nextWake (s : State) : Option Nat := (s.tln.items.find? fun e => wakesNow s e.1).map (·.1)

/-- ITEM_WAKE_LEAD (R206). -/
def execItemWakeLead (k : Fin 4096) (s : State) : Out := .next (wakeLead s k)

/-- An uncorrectable error of the item store (R208): the item goes without firing. -/
def execItemStoreError (k : Fin 4096) (s : State) : Out :=
  .next (if (s.item k).st = .armed then (s.removeItem k).raise 60 else s)

end Sys2Proof.Machine
end

