-- ==== Sys2Proof/Machine/Operands.lean ====
section
/-! DEFINITION. Reading operands, guards and immediates at issue, and the issue of one syllable of a packet (R84 to R106, R126 to R130). -/
namespace Sys2Proof.Machine
open Sys2Proof Reg

/-- General register `n` as visible at issue; g0 reads 0 (R94). -/
def CRegs.rg (r : CRegs) (n : Nat) : Word := if n = 0 then 0 else SMap.get 0 r.g n
/-- Port register `n` as visible at issue (R106). -/
def CRegs.rq (r : CRegs) (n : Nat) : Word := SMap.get 0 r.q n
/-- Accumulator `i`. -/
def CRegs.acc (r : CRegs) (i : Nat) : Acc := if i = 0 then r.a0 else r.a1
/-- Predicate `n`; p0 is always true (R94). -/
def CRegs.pr (r : CRegs) (n : Nat) : Bool := n == 0 || r.p.getLsbD n

/-- The guard of a syllable, read at issue (R96, R97, R130): its own field, or the WIDEN's selector and negation. -/
def guardHolds (r : CRegs) (gd : Nat) : Option Widen → Bool
  | none => r.pr gd
  | some w => r.pr w.ps != w.neg

/-- The 4-bit immediate, or with a WIDEN the 12-bit immediate, sign-extended (R130, R131). -/
def immS (imm : Nat) : Option Widen → Word
  | none => (BitVec.ofNat 4 imm).signExtend 32
  | some w => (w.imm ++ BitVec.ofNat 4 imm).signExtend 32
/-- The same, not extended (INS). -/
def immU (imm : Nat) : Option Widen → Word
  | none => (BitVec.ofNat 4 imm).setWidth 32
  | some w => (w.imm ++ BitVec.ofNat 4 imm).setWidth 32

/-- Bits `hi` to `lo` of a WIDEN's imm8. -/
def Widen.bits (w : Widen) (hi lo : Nat) : Nat := getBits (w.imm.setWidth 32) hi lo

/-- Whether a context can issue: Resident, swapped in, and not past the end of its activation. -/
def canIssue (s : State) (c : Nat) : Bool :=
  let x := s.ctx c
  x.mode == .resident && ! x.swapping && ! x.ended && (s.pwr.phase == .run || s.pwr.phase == .doze || s.pwr.phase == .parking)

/-- The update part of the state changed. -/
def State.modUpd (s : State) (f : UpdSt → UpdSt) : State := { s with upd := f s.upd }
/-- The active bank. -/
def activeBank (s : State) : Nat := s.get UPD_STATUS_active
/-- The state of a bank (R512). -/
def bankState (s : State) (b : Nat) : Nat := s.get (if b = 0 then UPD_STATUS_bank0 else UPD_STATUS_bank1)

/-- The trial timer starts (R520). -/
def trialStart (s : State) : State :=
  (s.putB UPD_STATUS_trial true).modUpd fun u => { u with trialStarted := true, trialAt := (s.axis 1).pos }

/-- Context 0 of an image issues its first packet (R460): ALIVE starts, but not in Safe or Stop (R474), and so does the trial timer of a bank on
trial (R520). -/
def firstPacket (s : State) : State :=
  let s := { s with pwr := { s.pwr with first := false } }
  let s := if s.get FLT_STATUS_mode = 0 then s.putB FLT_STATUS_alive true else s
  if bankState s (activeBank s) = 3 then trialStart s else s

/-- A packet is fetched and its issue begins (R88, R90, R98): the packet before is issued whole, results land, a packet outside the
code window is fetched as two no-operations and counted, an uncorrectable fetch stops the context with cause 0x02. -/
def openPacket (s : State) (c : Nat) : State :=
  let s := closePacket s c
  if canIssue s c then
    let s := tick s c
    let x := s.ctx c
    let pc := x.regs.pc
    let s := if c = 0 ∧ s.pwr.first then firstPacket s else s
    if s.codeCovered c pc then
      let mark := SMap.get 0 s.cpu.imemErr (pc / 2)
      if mark = 2 then (stopSelf s c 2 (BitVec.ofNat 32 pc)).raise 6 (BitVec.ofNat 32 c)
      else (s.setCtx c { x with packet := some ⟨false, none, none⟩ }).iff (mark = 1) fun s => s.raise 5
    else (s.violate c 4 (BitVec.ofNat 32 pc)).setCtx c { x with packet := some ⟨true, none, none⟩ }
  else s

/-- One syllable is issued. `spell` says whether the open packet's WIDEN makes the syllable the one named (a syllable that no
encoding of the packet spells is not issued at all); `f` is its effect when its guard holds. A slot-B syllable ends its packet. -/
def issue (c : Nat) (sl : Slot) (spell : Option Widen → Bool) (gd : Nat) (f : Option Widen → State → State) (s : State) : State :=
  let s1 := if sl = .B && (s.ctx c).packet.isSome then s else openPacket s c
  match (s1.ctx c).packet with
  | none => s1
  | some k =>
    let w := if sl = .B then k.widen else none
    if spell w then
      let s2 := if k.void then s1 else if guardHolds (s1.ctx c).regs gd w then f w s1 else s1
      if sl = .B then closePacket s2 c else s2
    else s

/-- What is left of the slot-A result `l` of the open packet beside its slot-B result `t` (R100): nothing where both write the same general
or control register (R94, R133), the other predicates where both write predicates, else all of it. -/
def besideB (t : Target) (l : Landing) : Option Landing :=
  if ! l.fresh then some l
  else
    match l.tgt, t with
    | .g a _, .g b _ => if a = b then none else some l
    | .csw _ _ _, .csw _ _ _ => none
    | .pred m v, .pred m' _ => if m &&& ~~~ m' = 0 then none else some { l with tgt := .pred (m &&& ~~~ m') v }
    | _, _ => some l

/-- A result produced by the open packet, to land `d` issues on (R98). A slot-B result discards the slot-A result for the same register
entirely (R100). -/
def produce (s : State) (c d : Nat) (t : Target) : State :=
  s.modCtx c fun x => { x with regs := { x.regs with lands := x.regs.lands.filterMap (besideB t) ++ [⟨d, true, t⟩] } }

/-- A general-register result at distance `d`. -/
def result (s : State) (c d rd : Nat) (v : Word) : State := produce s c d (.g rd v)

/-- No WIDEN, or any (a syllable whose meaning a WIDEN does not change). -/
def anyWiden : Option Widen → Bool := fun _ => true
/-- Only without a WIDEN. -/
def noWiden : Option Widen → Bool := Option.isNone
/-- Only with a WIDEN whose imm8 satisfies `p`. -/
def withWiden (p : Widen → Bool) : Option Widen → Bool
  | none => false
  | some w => p w

/-- A two-operand ALU result of rd and g(rs), at distance 1 (R131). -/
def alu2 (c : Nat) (sl : Slot) (spell : Option Widen → Bool) (gd rd rs : Nat) (op : Word → Word → Word) (s : State) : State :=
  issue c sl spell gd (fun _ s => let r := (s.ctx c).regs; result s c 1 rd (op (r.rg rd) (r.rg rs))) s

/-- A LOG operation under a WIDEN: imm8[3:0] selects it, imm8[7:4] is 0 (R132). -/
def logOp (c rd rs sel : Nat) (op : Word → Word → Word) (s : State) : State :=
  alu2 c .B (withWiden fun w => w.imm.toNat == sel) 0 rd rs op s

/-- An immediate shift under a WIDEN: the amount is {imm8[4], bits 3:0} (R132). -/
def shiftImm (c rd imm sel : Nat) (op : Word → Nat → Word) (s : State) : State :=
  issue c .B (withWiden fun w => w.bits 3 0 == sel && w.bits 7 5 == 0) 0
    (fun w s => result s c 1 rd (op ((s.ctx c).regs.rg rd) ((match w with | some w => w.bits 4 4 | none => 0) * 16 + imm))) s

/-- An XOP on register r, at distance 1 (R133). -/
def xop (c : Nat) (sl : Slot) (gd r : Nat) (op : CRegs → Word → Word) (s : State) : State :=
  issue c sl anyWiden gd (fun _ s => let x := (s.ctx c).regs; result s c 1 r (op x (x.rg r))) s

end Sys2Proof.Machine
end

