-- ==== Sys2Proof/Machine/UpdBase.lean ====
section
/-! DEFINITION. Firmware update: banks, staging, checking, activation and its failure (R510 to R521). -/
namespace Sys2Proof.Machine
open Sys2Proof Reg

/-- The bank that staging targets: the one that is not active (R513). -/
def stagingBank (s : State) : Nat := 1 - activeBank s
/-- A bank takes a state. -/
def setBank (s : State) (b st : Nat) : State := s.put (if b = 0 then UPD_STATUS_bank0 else UPD_STATUS_bank1) st
/-- What a bank holds. -/
def bankOf (s : State) (b : Nat) : Bank := if b = 0 then s.upd.bank0 else s.upd.bank1
/-- A bank's content replaced. -/
def setBankOf (s : State) (b : Nat) (x : Bank) : State := s.modUpd fun u => if b = 0 then { u with bank0 := x } else { u with bank1 := x }
/-- The bank in a state, if there is one. -/
def bankIn (s : State) (st : Nat) : Option Nat := [0, 1].find? fun b => bankState s b == st

/-! ## Staging (R513, R514) -/

/-- Whether a block has been received whole. -/
def blockHave (s : State) (k : Nat) : Bool := (List.range 256).all fun u => SMap.get false s.upd.units (256 * k + u)
/-- The blocks announced. -/
def blocksTotal (s : State) : Nat := s.get UPD_STAGE_total
/-- The blocks still missing. -/
def missing (s : State) : List Nat := (List.range (blocksTotal s)).filter fun k => ! blockHave s k

/-- Bytes of a block entered from an offset that is a multiple of 16. -/
def enterBlock (s : State) (k off : Nat) (d : List Byte) : State :=
  let by_ := (d.zipIdx).foldl (fun m e => SMap.set 0 m (4096 * k + off + e.2) e.1) s.upd.bytes
  let us := (List.range (d.length / 16)).foldl (fun m u => SMap.set false m (256 * k + off / 16 + u) true) s.upd.units
  let s := s.modUpd fun u => { u with bytes := by_, units := us }
  s.put UPD_STAGE_have (blocksTotal s - (missing s).length)

/-- Whether an update command is in progress. -/
def updBusy (s : State) : Bool := s.upd.job.isSome

/-- BEGIN (R513): the code it ends with. -/
def updBegin (s : State) (kind n : Nat) : State × Nat :=
  if updBusy s then (s, 2)
  else if (bankIn s 3).isSome ∨ (bankIn s 5).isSome then (s, 1)
  else if ¬ (kind = 1 ∨ kind = 2) ∨ n = 0 ∨ 1023 < n then (s, 3)
  else
    let s := setBankOf (setBank s (stagingBank s) 1) (stagingBank s) Bank.init
    let s := s.modUpd fun u => { u with kind := kind, bytes := [], units := [] }
    ((s.put UPD_STAGE_total n).put UPD_STAGE_have 0, 0)

/-- DATA (R514). -/
def updData (s : State) (k off : Nat) (d : List Byte) : State × Nat :=
  let m := d.length
  if updBusy s then (s, 2)
  else if bankState s (stagingBank s) ≠ 1 then (s, 1)
  else if off % 16 ≠ 0 ∨ m % 16 ≠ 0 ∨ m < 16 ∨ 1008 < m ∨ 4096 < off + m ∨ blocksTotal s ≤ k then (s, 3)
  else (enterBlock s k off d, 0)

/-! ## Checking (R516, R518) -/

/-- The first and one past the last word of a segment. -/
def segEnd (g : Seg) : Nat := g.load + 2048 * g.blocks
/-- Whether two segments overlap. -/
def segOverlap (a b : Seg) : Bool := decide (a.load < segEnd b ∧ b.load < segEnd a)
/-- Whether no two segments of a list overlap. -/
def disjoint : List Seg → Bool
  | [] => true
  | g :: gs => gs.all (fun h => ! segOverlap g h) && disjoint gs
/-- Step 6 of R516: the segments lie within instruction SRAM, do not overlap, and the bank holds at most 991 code blocks. -/
def layoutOk (l : List Seg) : Bool := l.all (fun g => decide (segEnd g ≤ 2097152)) && disjoint l && decide ((l.map (·.blocks)).sum ≤ 991)

/-- The counts of step 1 of R516: kind, tenants, block counts, load addresses, the segments and the identifier that every header names, and context
0 in a device package. -/
def headersOk (kind total : Nat) (l : List Seg) : Bool :=
  l.all (fun g => decide (g.kind = kind ∧ g.count = l.length ∧ some g.pkg = l.head?.map (·.pkg) ∧ g.tenant < 32 ∧ 1 ≤ g.blocks ∧ g.blocks ≤ 912 ∧ g.load % 2048 = 0))
    && decide ((l.map fun g => g.tenant).Nodup) && decide ((l.map fun g => 1 + g.blocks).sum = total)
    && (if kind = 1 then l.any fun g => g.tenant == 0 && g.table.any fun e => e.1 == 0
        else decide (l.length = 1) && l.all fun g => g.tenant != 0)

/-- The block position of code block `i` of a package's code blocks, and of a header (R512). -/
def positionOf (l : List Seg) (k : Nat) : Nat :=
  if k < l.length then 1 + ((l[k]?).map (·.tenant)).getD 0 else 33 + (k - l.length)

/-- The first byte of a bank in the MRAM window. -/
def bankAt (b : Nat) : Nat := 0x400000 * b

/-- The blocks of a checked package put to their positions in the bank. -/
def storeBank (s : State) (b : Nat) (l : List Seg) : State :=
  let clean := s.cpu.mram.filter fun e => ! decide (bankAt b ≤ e.1 ∧ e.1 < bankAt (b + 1))
  let s := { s with cpu := { s.cpu with mram := clean } }
  s.upd.bytes.foldl (fun s e => s.setMByte (bankAt b + 4096 * positionOf l (e.1 / 4096) + e.1 % 4096) e.2) s

/-- The first code position of segment `i` of a bank. -/
def codeStart (l : List Seg) (i : Nat) : Nat := 33 + ((l.take i).map (·.blocks)).sum

/-- One 4 KiB block copied between positions. -/
def copyBlock (s : State) (src dst : Nat) : State :=
  (s.cpu.mram.filter fun e => decide (src ≤ e.1 ∧ e.1 < src + 4096)).foldl (fun s e => s.setMByte (dst + (e.1 - src)) e.2) s

/-- The blocks of a bank that a load or a build reads: the headers and the code blocks of its segments. -/
def bankBlocks (l : List Seg) : List Nat := l.map (fun g => 1 + g.tenant) ++ (List.range ((l.map (·.blocks)).sum)).map (33 + ·)
/-- The blocks of a bank are read (R25). -/
def bankSweep (s : State) (b : Nat) (l : List Seg) : State :=
  (bankBlocks l).foldl (fun s k => mramSweep s ((bankAt b + 4096 * k) / 8) 512) s
/-- Whether a block of a bank holds an uncorrectable word (R519). -/
def bankLost (s : State) (b : Nat) (l : List Seg) : Bool := (bankBlocks l).any fun k => mramLost s ((bankAt b + 4096 * k) / 8) 512

/-- The other segments of the Confirmed bank built into the staging bank beside the new one (R516). -/
def buildBank (s : State) (old new : Nat) (olds : List Seg) (news : List Seg) (t : Nat) : State :=
  (olds.zipIdx).foldl (fun s e =>
    let (g, i) := e
    if g.tenant = t then s
    else
      let s := copyBlock s (bankAt old + 4096 * (1 + g.tenant)) (bankAt new + 4096 * (1 + g.tenant))
      let j := (news.findIdx? fun h => h.tenant == g.tenant).getD 0
      (List.range g.blocks).foldl (fun s b =>
        copyBlock s (bankAt old + 4096 * (codeStart olds i + b)) (bankAt new + 4096 * (codeStart news j + b))) s) s

/-- What a check reads beside the blocks: whether every header decrypts with the right magic, whether the signatures hold, the first code
block whose CRC fails, whether the digests hold, whether a block copied for a tenant package fails its CRC, the headers. -/
structure CheckRead where
  hdr : Bool
  sig : Bool
  bad : Option Nat
  dig : Bool
  copied : Bool
  segs : List Seg
deriving DecidableEq, Repr

/-- The check of R516 in its order, over the words of the staging bank, which it reads (R25): the state, its code and its detail. -/
def checkResult (s : State) (r : CheckRead) : State × Nat × Nat :=
  let b := stagingBank s
  let kind := s.upd.kind
  let s := mramSweep s (bankAt b / 8) 0x80000
  let roll (g : Seg) : Bool := decide (s.get (UPD_ROLL_version g.tenant) ≤ g.version)
  if ¬ r.hdr ∨ ¬ headersOk kind (blocksTotal s) r.segs then (s, 3, 0)
  else if ¬ r.sig then (s, 4, 0)
  else if r.bad.isSome then (s, 6, r.bad.getD 0)
  else if ¬ r.dig then (s, 5, 0)
  else if ¬ r.segs.all roll then (s, 7, 0)
  else if ¬ layoutOk r.segs then (s, 8, 0)
  else
    let done (s : State) (l : List Seg) : State :=
      setBank (setBankOf s b ⟨kind, l⟩) b 2
    if kind = 1 then (done (storeBank s b r.segs) r.segs, 0, 0)
    else
      match bankIn s 4, r.segs with
      | some c, g :: _ =>
        let olds := (bankOf s c).segs
        let all := r.segs ++ olds.filter fun h => h.tenant ≠ g.tenant
        let lost := bankLost s c olds
        let s := bankSweep s c olds
        if r.copied || lost then (s, 6, 0)
        else if ¬ layoutOk all then (s, 8, 0)
        else (done (buildBank (storeBank s b r.segs) c b olds all g.tenant) all, 0, 0)
      | _, _ => (s, 1, 0)

/-! ## Answers and results (R515) -/

/-- The body of an update answer: code, state of the staging bank, active bank, failure count, detail. -/
def updBody (s : State) (type code : Nat) (detail : Word) : ZBody :=
  .update type code (bankState s (stagingBank s)) (activeBank s) (s.get UPD_STATUS_fail) detail
/-- The answer of an update message. -/
def updAnswer (s : State) (r : ZReply) (type code : Nat) (detail : Word) : State := sendAns s r.link r.src r.sess (updBody s type code detail)

/-- A command of context 0 ends (UPD_CMD_RESULT). -/
def updEnd (s : State) (code : Nat) : State :=
  ((s.putB UPD_CMD_RESULT_busy false).wrap UPD_CMD_RESULT_seq).put UPD_CMD_RESULT_code code

/-- A recorder record of codes 0x18, 0x19 and 0x1B (R526): UPD_STATUS and the package identifier of a bank. -/
def updRec (s : State) (code b : Nat) : State :=
  let pkg := match (bankOf s b).segs with | g :: _ => g.pkg | [] => 0
  blockRec s code (leBytes 4 (s.rd UPD_STATUS).toNat ++ leBytes 4 pkg)

/-! ## Settings across activations (R522) -/

/-- The first byte of a tenant's settings area in the MRAM window. -/
def settingsAt (t : Nat) : Nat := 0xA80000 + 0x8000 * t
/-- The schema of a tenant's live half. -/
def schemaOf (s : State) (t : Nat) : Nat := (s.mByte (settingsAt t)).toNat + 256 * (s.mByte (settingsAt t + 1)).toNat

/-- 16 KiB copied within a settings area. -/
def copyHalf (s : State) (src dst : Nat) : State :=
  let s := mramFresh (mramSweep s (src / 8) 0x800) (dst / 8) 0x800
  let old := s.cpu.mram.filter fun e => decide (src ≤ e.1 ∧ e.1 < src + 0x4000)
  let s := { s with cpu := { s.cpu with mram := SMap.clear s.cpu.mram dst 0x4000 } }
  old.foldl (fun s e => s.setMByte (dst + (e.1 - src)) e.2) s

/-- The settings at an activation: an area whose schema differs from its tenant's new segment is kept and cleared. -/
def settingsActivate (s : State) (l : List Seg) : State :=
  l.foldl (fun s g =>
    let a := settingsAt g.tenant
    let s := mramSweep s (a / 8) 1
    let old := schemaOf s g.tenant
    if old = g.schema then s
    else
      let s := copyHalf s a (a + 0x4000)
      let s := { s with cpu := { s.cpu with mram := SMap.clear s.cpu.mram a 0x4000 } }
      let s := (s.setMBytes a (leBytes 2 g.schema)).modUpd fun u => { u with kept := u.kept ++ [g.tenant] }
      blockRec s 0x1A (leBytes 2 g.tenant ++ leBytes 2 old ++ leBytes 2 g.schema ++ [0, 0])) s

/-- A failed activation copies every kept half back. -/
def settingsRestore (s : State) : State :=
  let s := s.upd.kept.foldl (fun s t => copyHalf s (settingsAt t + 0x4000) (settingsAt t)) s
  s.modUpd fun u => { u with kept := [] }

/-! ## Activation (R520, R521) -/

/-- The set of contexts that a tenant has. -/
def tenantCtxs (s : State) (t : Nat) : List Nat := s.liveCtxs.filter fun c => s.tenant c == t

/-- Whether a word range meets the code window of a context that is not Empty; a window whose limit lies below its base covers nothing. -/
def meetsCode (s : State) (g : Seg) : Bool :=
  s.liveCtxs.any fun c => c != 0 && decide (s.get (TSK_CTX_CODEWIN_base c) ≤ s.get (TSK_CTX_CODEWIN_limit c) ∧ g.load < 32 * (s.get (TSK_CTX_CODEWIN_limit c) + 1) ∧ 32 * s.get (TSK_CTX_CODEWIN_base c) < segEnd g)

/-- The refusal of ACTIVATE, in the order of R520: 0 none. -/
def activateRefusal (s : State) : Nat :=
  let b := bankOf s (stagingBank s)
  if bankState s (stagingBank s) ≠ 2 ∨ s.bit PWR_STATUS_hs ∨ s.get FLT_STATUS_mode ≠ 0 then 1
  else if updBusy s then 2
  else if b.kind = 1 ∨ s.upd.rom then
    (if [0, 1].any fun d => decide (clampTo 50 1000 (s.get (PSW_DIE_CFG_hold d)) < 160) then 9 else 0)
  else
    match b.segs with
    | g :: _ =>
      let want := g.table.map (·.1)
      let have_ := tenantCtxs s g.tenant
      if ¬ (want.all have_.contains ∧ have_.all want.contains) then 10 else if meetsCode s g then 8 else 0
    | [] => 1

/-- The bank states of an activation: the staging bank is Trial and active, the bank that was active is Fallback. -/
def bankSwitch (s : State) : State :=
  let n := stagingBank s
  let o := activeBank s
  let s := (setBank (setBank s n 3) o 5).put UPD_STATUS_active n
  updRec (s.modUpd fun u => { u with trialStarted := false }) 0x18 n

/-- A whole-device activation: bank states, settings, and an activation reset to follow. -/
def deviceActivate (s : State) : State :=
  let s := bankSwitch s
  (settingsActivate s (bankOf s (activeBank s)).segs).modUpd fun u => { u with resetDue := true }

/-- A segment whose first code block stands at position `pos` of a bank, as the engine loads it (R510, R519): under the key of slot 24. -/
def loadSeg (s : State) (b pos : Nat) (g : Seg) : LoadedSeg :=
  let a := bankAt b + 4096 * pos
  let code := s.cpu.mram.filterMap fun e => if a ≤ e.1 ∧ e.1 < a + 4096 * g.blocks then some (e.1 - a, e.2) else none
  ⟨g.load, 2048 * g.blocks, g.pkg, g.tenant, (keySlot s 24).bytes, code⟩

/-- The segments of a bank as the engine loads them. -/
def loadSegs (s : State) (b : Nat) (l : List Seg) : List LoadedSeg := l.zipIdx.map fun e => loadSeg s b (codeStart l e.2) e.1

/-- The new segment of a tenant activation is in its range (R521, steps 2 to 5). -/
def tenantLoaded (s : State) : State :=
  let b := stagingBank s
  match (bankOf s b).segs with
  | [] => s
  | g :: _ =>
    let s := { s with cpu := { s.cpu with loaded := s.cpu.loaded ++ [loadSeg s b 33 g] } }
    let s := (settingsActivate (bankSwitch s) [g]).put UPD_STATUS_tenant g.tenant
    let s := tenantSiding s g.tenant
    let s := g.table.foldl (fun s e =>
      let (c, o) := e
      let s := (s.put (TSK_CTX_CODEWIN_base c) (g.load / 32)).put (TSK_CTX_CODEWIN_limit c) (segEnd g / 32 - 1)
      s.put (TSK_CTX_ENTRY_pc c) (g.load + o)) s
    trialStart (tenantRestart s g.tenant)

/-- A failed activation (R521); found during a start it takes no reset. -/
def activationFails (s : State) (atStart : Bool) : State :=
  match bankIn s 3 with
  | none => s
  | some t =>
    let s := setBank s t 7
    let s := match bankIn s 5 with | some f => (setBank s f 4).put UPD_STATUS_active f | none => s
    let s := (settingsRestore s).put UPD_STATUS_fail (min 3 (s.get UPD_STATUS_fail + 1))
    let s := (s.putB UPD_STATUS_trial false).modUpd fun u => { u with trialStarted := false, resetDue := u.resetDue || ! atStart }
    updRec (s.raise 148) 0x19 t

/-- CONFIRM (R520). -/
def updConfirm (s : State) : State × Nat :=
  if updBusy s then (s, 2)
  else
    match bankIn s 3 with
    | none => (s, 1)
    | some t =>
      let s := setBank s t 4
      let s := match bankIn s 5 with | some f => setBank s f 6 | none => s
      let s := (bankOf s t).segs.foldl (fun s g => s.putMax (UPD_ROLL_version g.tenant) g.version) s
      let s := (s.put UPD_STATUS_fail 0).putB UPD_STATUS_trial false
      (s.modUpd fun u => { u with kept := [], trialStarted := false }, 0)

end Sys2Proof.Machine
end

