-- ==== Sys2Proof/Machine/Upd.lean ====
section
/-! DEFINITION. Firmware update: messages and commands, keys, settings, loading and the recovery ROM (R515 to R527). -/
namespace Sys2Proof.Machine
open Sys2Proof Reg

/-! ## ZLP messages (R515) -/

/-- The first missing block, or 0xFFFF_FFFF (R515). -/
def firstMissing (s : State) : Word :=
  match (missing s).head? with
  | some k => if bankState s (stagingBank s) = 1 then BitVec.ofNat 32 k else 0xFFFFFFFF
  | none => 0xFFFFFFFF

/-- The detail in the answer of a message that goes no further (R515). -/
def updDetail (s : State) (type : Nat) (body : List Byte) : Word :=
  match type with
  | 0x31 => BitVec.ofNat 32 (missing s).length
  | 0x33 => firstMissing s
  | 0x35 => BitVec.ofNat 32 (beField body 0 1)
  | _ => 0

/-- An update message (R515): a session without its bit in UPD_CFG.zlp is answered with code 11; the recovery ROM serves its one session. -/
def zUpdate (s : State) (h : ZHdr) (type : Nat) (body : List Byte) (f : ZReply → State → State) : State :=
  zAccept s h fun k s =>
    let r : ZReply := ⟨h.link, h.src, k⟩
    if s.upd.rom || (s.get UPD_CFG_zlp).testBit k then f r s else updAnswer s r type 11 (updDetail s type body)

/-- A body that does not have its form gives code 3 (UPD_CMD_RESULT.code, malformed). -/
def zSized (s : State) (h : ZHdr) (type : Nat) (body : List Byte) (sized : Bool) (f : ZReply → State → State) : State :=
  zUpdate s h type body fun r s => if sized then f r s else updAnswer s r type 3 (updDetail s type body)

/-- A BEGIN (R513). -/
def zBegin (s : State) (h : ZHdr) (body : List Byte) : State :=
  zSized s h 0x30 body (body.length == 4) fun r s =>
    let (s, code) := updBegin s (beField body 0 1) (beField body 2 2)
    updAnswer s r 0x30 code 0

/-- ZLP BEGIN (R513): kind, a byte and blocks make the body. -/
def execBegin (h : ZHdr) (kind zero blocks : List Byte) (s : State) : Out := .next (zBegin s h (kind ++ zero ++ blocks))

/-- A DATA (R514): the detail is the blocks still missing. -/
def zData (s : State) (h : ZHdr) (body : List Byte) : State :=
  zSized s h 0x31 body (body.length == 8 + beField body 4 2 && decide (8 ≤ body.length)) fun r s =>
    let (s, code) := updData s (beField body 0 2) (beField body 2 2) (body.drop 8)
    updAnswer s r 0x31 code (BitVec.ofNat 32 (missing s).length)

/-- ZLP DATA (R514): block, offset, length with its 2 bytes, and data make the body. -/
def execData (h : ZHdr) (block off len d : List Byte) (s : State) : Out := .next (zData s h (block ++ off ++ len ++ d))

/-- CHECK (R516): accepted only with the staging bank Staging and every block received; it then runs. -/
def startCheck (s : State) (reply : Option (ZReply × Nat)) : State × Option Nat :=
  if updBusy s then (s, some 2)
  else if bankState s (stagingBank s) ≠ 1 ∨ ¬ (missing s).isEmpty then (s, some 1)
  else (s.modUpd fun u => { u with job := some (.check reply) }, none)

/-- ZLP CHECK (R516): answered when the check ends, in its place among the answers (R373). -/
def execCheck (h : ZHdr) (body : List Byte) (s : State) : Out :=
  .next (zSized s h 0x32 body body.isEmpty fun r s =>
    match startCheck s (some (r, s.ldg.reqId)) with
    | (s, some code) => updAnswer s r 0x32 code 0
    | (s, none) => let (i, s) := newReq s; takePlace s r.link r.src i)

/-- ZLP STATUS (R515): the detail is the first missing block, or 0xFFFF_FFFF. -/
def execStatus (h : ZHdr) (body : List Byte) (s : State) : Out :=
  .next (zSized s h 0x33 body body.isEmpty fun r s =>
    updAnswer s r 0x33 0 (firstMissing s))

/-- ACTIVATE (R520, R521, R525): the refusal, or the activation under way; the answer leaves before any reset. -/
def updActivate (s : State) (reply : Option ZReply) (ans : State → Nat → State) : State :=
  match activateRefusal s with
  | 0 =>
    if (bankOf s (stagingBank s)).kind = 1 ∨ s.upd.rom then deviceActivate (ans s 0)
    else
      let s := s.modUpd fun u => { u with job := some (.load reply) }
      match reply with
      | some _ => ans s 0
      | none => s
  | code => ans s code

/-- An activation reset that a message causes waits for the message's answer to leave (R515); on the SPI host port the host reads it (log entry
82). -/
def answerFirst (r : ZReply) (s : State) : State := if s.upd.resetDue ∧ r.link = .spi then s.modUpd fun u => { u with resetWaits := true } else s

/-- ZLP ACTIVATE (R520). -/
def execActivate (h : ZHdr) (body : List Byte) (s : State) : Out :=
  .next (zSized s h 0x34 body body.isEmpty fun r s => answerFirst r (updActivate s (some r) fun s code => updAnswer s r 0x34 code 0))

/-! ## Keys (R523, R524) -/

/-- The size of the key that a slot takes. -/
def keySize (k : Nat) : Nat := if k < 24 then 16 else if k = 24 then 32 else 64

/-- KEYSET (R524): `wrapOk` says that the key unwraps under its wrapping key, `sigOk` that the signature holds, `key` is what unwraps. -/
def keyset (s : State) (k ctr : Nat) (key : List Byte) (wrapOk sigOk : Bool) : State × Nat :=
  let first := (k = 24 ∨ k = 25) ∧ (keySlot s k).bytes.isEmpty
  if updBusy s then (s, 2)
  else if 16 ≤ k ∧ k < 24 ∧ s.bit (ACC_KEY_CTL_en (k - 16)) then (s, 1)
  else if 26 ≤ k ∨ key.length ≠ keySize k ∨ ¬ wrapOk then (s, 12)
  else if ¬ first ∧ (ctr ≤ (keySlot s k).ctr ∨ ¬ sigOk ∨ (keySlot s 24).bytes.isEmpty ∨ (keySlot s 25).bytes.isEmpty) then (s, 12)
  else (s.modUpd fun u => { u with keys := u.keys.ins k ⟨key, ctr⟩ }, 0)

/-- Whether a KEYSET body has the size of its slot (R524): 8 bytes, the wrapped key, the signature. -/
def keysetSized (body : List Byte) : Bool :=
  decide (8 ≤ body.length) && (decide (26 ≤ beField body 0 1) || body.length == 80 + keySize (beField body 0 1))

/-- A KEYSET (R524). -/
def zKeyset (s : State) (h : ZHdr) (body key : List Byte) (wrapOk sigOk : Bool) : State :=
  zSized s h 0x35 body (keysetSized body) fun r s =>
    let k := beField body 0 1
    let (s, code) := keyset s k (beField body 4 4) key wrapOk sigOk
    updAnswer s r 0x35 code (BitVec.ofNat 32 k)

/-- ZLP KEYSET (R524): the slot with its 3 bytes, the counter, and the wrapped key and signature make the body. -/
def execKeyset (h : ZHdr) (slot ctr rest key : List Byte) (wrapOk sigOk : Bool) (s : State) : Out :=
  .next (zKeyset s h (slot ++ ctr ++ rest) key wrapOk sigOk)

/-- REVERT (R525): served by the recovery ROM only; a Confirmed bank starts again. -/
def updRevert (s : State) : State × Nat :=
  match bankIn s 4 with
  | some b =>
    if s.upd.rom then (((s.put UPD_STATUS_active b).put UPD_STATUS_fail 0).modUpd fun u => { u with resetDue := true }, 0) else (s, 1)
  | none => (s, 1)

/-- ZLP REVERT (R525). -/
def execRevert (h : ZHdr) (body : List Byte) (s : State) : Out :=
  .next (zSized s h 0x36 body body.isEmpty fun r s => let (s, code) := updRevert s; answerFirst r (updAnswer s r 0x36 code 0))

/-! ## Commands of context 0 (R513, R520, R527) -/

/-- The registers that the recovery record holds (R525): session 0, the port, addresses and VLANs. -/
def recoveryRegs : List Rg :=
  [LDG_SESS_ID 0, LDG_SESS_CFG 0, LDG_CTRL, ETH_CFG, ETH_IP4, ETH_P_CTRL 0, ETH_P_CTRL 1, LCL_SPI] ++ (List.range 4).map ETH_IP6

/-- What a UPD command does: the state, and its code if it ends at once. -/
def updEffect (s : State) (op kind arg : Nat) : State × Option Nat :=
  match op with
  | 0x1 => let (s, c) := updBegin s kind arg; (s, some c)
  | 0x2 =>
    if updBusy s then (s, some 2)
    else if bankState s (stagingBank s) ≠ 1 then (s, some 1)
    else if blocksTotal s ≤ arg then (s, some 3)
    else
      let a := (s.rd UPD_ARG).toNat / 4 * 4
      let d := (List.range 4096).map fun i => if a + i < dSize then s.dByte (a + i) else 0
      (s.modUpd fun u => { u with job := some (.write arg d) }, none)
  | 0x3 => startCheck s none
  | 0x4 =>
    match activateRefusal s with
    | 0 =>
      if (bankOf s (stagingBank s)).kind = 1 ∨ s.upd.rom then (deviceActivate s, some 0)
      else (s.modUpd fun u => { u with job := some (.load none) }, none)
    | c => (s, some c)
  | 0x5 => let (s, c) := updConfirm s; (s, some c)
  | 0x6 =>
    if updBusy s then (s, some 2)
    else (s.modUpd fun u => { u with record := some (recoveryRegs.map s.rd) }, some 0)
  | _ => (s, some 3)

/-- A write of UPD_CMD by context `w`: ignored while a command is in progress. -/
def updCommand (s : State) (w op kind arg : Nat) : State :=
  s.granted w (w == 0) UPD_CMD fun s =>
    if s.bit UPD_CMD_RESULT_busy then s
    else
      match updEffect s op kind arg with
      | (s, some code) => updEnd s code
      | (s, none) => s.putB UPD_CMD_RESULT_busy true

/-- UPD_CMD BEGIN (R513). -/
def execUpdBegin (w : CtxId) (kind : Fin 4) (blocks : BitVec 10) (s : State) : Out := .next (updCommand s w 1 kind blocks.toNat)
/-- UPD_CMD WRITE (R513). -/
def execUpdWrite (w : CtxId) (block : BitVec 10) (s : State) : Out := .next (updCommand s w 2 0 block.toNat)
/-- UPD_CMD CHECK (R516). -/
def execUpdCheck (w : CtxId) (s : State) : Out := .next (updCommand s w 3 0 0)
/-- UPD_CMD ACTIVATE (R520). -/
def execUpdActivate (w : CtxId) (s : State) : Out := .next (updCommand s w 4 0 0)
/-- UPD_CMD CONFIRM (R520). -/
def execConfirm (w : CtxId) (s : State) : Out := .next (updCommand s w 5 0 0)
/-- UPD_CMD SAVEREC (R525). -/
def execSaverec (w : CtxId) (s : State) : Out := .next (updCommand s w 6 0 0)

/-- The engine is idle again. -/
def jobDone (s : State) : State := s.modUpd fun u => { u with job := none }

/-- A block write completes (R513). -/
def blockWriteDone (s : State) : State :=
  match s.upd.job with
  | some (.write k d) => updEnd (enterBlock (jobDone s) k 0 d) 0
  | _ => s

/-- A 4 KiB block write completes (R513). -/
def execBlockWriteDone (s : State) : Out := .next (blockWriteDone s)

/-- A check ends (R516). -/
def checkDone (s : State) (r : CheckRead) : State :=
  match s.upd.job with
  | some (.check reply) =>
    let (s, code, detail) := checkResult (jobDone s) r
    match reply with
    | some (z, i) => sendAt s z.link z.src z.sess (updBody s 0x32 code (BitVec.ofNat 32 detail)) (some i)
    | none => updEnd s code
  | _ => s

/-- A check or a build ends: what the engine read of the blocks (R516). -/
def execCheckDone (hdr sig : Bool) (bad : Option (Fin 1024)) (dig copied : Bool) (segs : List Seg) (s : State) : Out :=
  .next (checkDone s ⟨hdr, sig, bad.map (·.val), dig, copied, segs⟩)

/-- The new segment of a single-tenant activation is loaded (R521): the engine has read its blocks (R25), and an uncorrectable word fails the
load, which makes the bank Invalid (R519, log entry 82). -/
def segmentLoaded (s : State) : State :=
  match s.upd.job with
  | some (.load reply) =>
    let b := stagingBank s
    let g := (bankOf s b).segs.take 1
    let lost := bankLost s b g
    let s := bankSweep (jobDone s) b g
    let s := if lost then setBank s b 7 else tenantLoaded s
    (match reply with | none => updEnd s (if lost then 6 else 0) | some _ => s)
  | _ => s

/-- The new segment of a single-tenant activation is loaded (R521). -/
def execTenantSegmentLoaded (s : State) : Out := .next (segmentLoaded s)

/-- The trial timer expires (R521). -/
def execTrialExpire (s : State) : Out := .next (if s.bit UPD_STATUS_trial then activationFails s false else s)

/-! ## Settings (R522) -/

/-- A settings write of context `w`. -/
def settingsWrite (s : State) (w off len : Nat) : State :=
  s.granted w (s.blockOk w 8) UPD_SETCMD fun s =>
    let res (s : State) (n : Nat) : State := s.wr (own w UPD_SETRES) (BitVec.ofNat 32 (n * 2 ^ 30))
    if s.upd.sets.isSome then res s 3
    else if off < 2 ∨ len = 0 ∨ 256 < len ∨ 0x4000 < off + len then res s 2
    else
      let (s, d) := readFor s w (s.rd (own w UPD_SETADDR)).toNat len
      s.modUpd fun u => { u with sets := some ⟨w, s.tenant w, off, d⟩ }

/-- UPD_SETCMD (R522). -/
def execSettingsWrite (w : CtxId) (off : BitVec 14) (len : BitVec 9) (s : State) : Out := .next (settingsWrite s w off.toNat len.toNat)

/-- The copy into the live half is complete. -/
def settingsDone (s : State) : State :=
  match s.upd.sets with
  | none => s
  | some j =>
    let s := (s.setMBytes (settingsAt j.tenant + j.off) j.bytes).modUpd fun u => { u with sets := none }
    s.wr (own j.ctx UPD_SETRES) (BitVec.ofNat 32 (1 * 2 ^ 30))

/-- A settings copy completes (R522); one that a reset cuts off is completed at start-up. -/
def execSettingsWriteDone (s : State) : Out := .next (if dieRuns s then settingsDone s else s)

/-! ## Loading and the recovery ROM (R519, R523, R525) -/

/-- The recovery ROM runs: session 0 under the recovery record, or identifier 0 on the SPI host port alone. -/
def romStart (s : State) : State :=
  let s := s.modUpd fun u => { u with rom := true, romNote := true }
  match s.upd.record with
  | some l =>
    let s := (recoveryRegs.zip l).foldl (fun s e => s.wr e.1 e.2) s
    let port (s : State) (n : Nat) : State := ethCtrlWrite (s.putB (ETH_P_CTRL_en n) false) n (s.rd (ETH_P_CTRL n))
    (port (port s 0) 1).putB LDG_CTRL_en true
  | none => ((((s.wr (LDG_SESS_ID 0) 0).putB (LDG_SESS_CFG_en 0) true).putB (LDG_SESS_CFG_spi 0) true).putB LDG_CTRL_en true).putB LCL_SPI_en true

/-- The image in the active bank starts: its segments stand in instruction SRAM; source 148 and a record follow a run of the ROM (R525). -/
def imageStart (s : State) : State :=
  let b := bankOf s (activeBank s)
  let s := { s with cpu := { s.cpu with loaded := loadSegs s (activeBank s) b.segs, imemErr := [] } }
  let s := s.modUpd fun u => { u with rom := false }
  if s.upd.romNote then updRec ((s.modUpd fun u => { u with romNote := false }).raise 148) 0x1B (activeBank s) else s

/-- The entry address of context 0 that the image header gives (R460). -/
def imageEntry (s : State) : Nat :=
  match (bankOf s (activeBank s)).segs.find? fun g => g.tenant = 0 with
  | some g => match g.table.find? fun e => e.1 = 0 with | some (_, o) => g.load + o | none => g.load
  | none => 0

/-- The engine reads a bank to load it (R25, R519): the state, and whether no word of it is uncorrectable. -/
def bankRead (s : State) (b : Nat) : State × Bool :=
  let l := (bankOf s b).segs
  (bankSweep s b l, ! bankLost s b l)

/-- Step 4 of R460 (R519, R521): `good` says of each bank whether it decrypts and matches, and an uncorrectable word fails the load too. A
failure count of 3 runs the recovery ROM, but for a bank that
the ROM's ACTIVATE made Trial (R525). The answer says whether an image stands in instruction SRAM. -/
def loadImage (s : State) (good : Nat → Bool) : State × Bool :=
  let s := if bankState s (activeBank s) = 3 ∧ s.upd.trialStarted then activationFails s true else s
  if s.get UPD_STATUS_fail = 3 ∧ bankState s (activeBank s) ≠ 3 then (s, false)
  else
    let a := activeBank s
    let st := bankState s a
    let runnable := st = 3 ∨ st = 4 ∨ st = 5
    let (s, whole) := if runnable then bankRead s a else (s, true)
    if runnable ∧ good a ∧ whole then (imageStart s, true)
    else
      let s := if st = 3 then activationFails s true
        else
          let s := if runnable then setBank s a 7 else s
          let o := 1 - a
          if runnable ∧ (bankState s o = 4 ∨ bankState s o = 5) then (setBank s o 4).put UPD_STATUS_active o else s
      let b := activeBank s
      let second := runnable ∧ b ≠ a ∧ s.get UPD_STATUS_fail ≠ 3
      let (s, whole) := if second then bankRead s b else (s, true)
      if s.get UPD_STATUS_fail = 3 then (s, false)
      else if second ∧ good b ∧ whole then (imageStart s, true)
      else (if runnable ∧ b ≠ a then setBank s b 7 else s, false)

/-- The answer of UPD in the entry handshake (R526). -/
def updAnswerHs (s : State) : HsAns :=
  match s.upd.job with
  | some (.write _ _) => .delay
  | j =>
    let checks : Bool := match j with | some (.check _) => true | _ => false
    if (bankIn s 3).isSome then .refuse 0x90 else if checks ∨ s.upd.sets.isSome then .refuse 0x91 else .ack

/-- A reset of the control die: a block write that has started completes (R513); the System region stays (R459, R512). -/
def updReset (s : State) : State :=
  let s := match s.upd.job with | some (.write k d) => enterBlock s k 0 d | _ => s
  let keep := [UPD_CFG, UPD_STAGE] ++ (List.range 32).map UPD_ROLL
  let vals := keep.map fun r => (r, s.rd r)
  let st := s.rd UPD_STATUS &&& 0xFF800000
  let regs := s.regs.filter fun e => ! (UPD_STATUS.addr ≤ e.1 % 2 ^ 32 && e.1 % 2 ^ 32 < UPD_STATUS.addr + 0x300)
  let s := vals.foldl (fun s e => s.wr e.1 e.2) { s with regs := regs }
  (s.wr UPD_STATUS st).modUpd fun u => { u with job := none, rom := false, resetDue := false, resetWaits := false }

end Sys2Proof.Machine
end

