-- ==== Sys2Proof/Machine/Pwr.lean ====
section
/-! DEFINITION. Power states, the entry handshake, resets and start-up (R439, R444 to R461). -/
namespace Sys2Proof.Machine
open Sys2Proof Reg

/-- The controller's place set. -/
def setPhase (s : State) (p : PwrPhase) : State := s.modPwr fun x => { x with phase := p }

/-! ## Doze (R446) -/

/-- DOZE: from Run, with the core on PLL0, where the outfit permits it. -/
def dozeEnter (s : State) : State :=
  if s.pwr.phase ≠ .run then pwrDone s 1
  else if ! s.bit CLK_CORE_src then pwrDone s 5
  else if forbidsDoze s then pwrDone s 3
  else pwrDone (seqTo (setPhase (s.put PWR_STATUS_state 1) .doze) 3) 0

/-- The return from Doze to the OP in CLK_CORE.op. -/
def dozeLeave (s : State) : State :=
  let s := setPhase (s.put PWR_STATUS_state 0) .run
  seqTo s (opWanted s)

/-- RUN. -/
def runEnter (s : State) : State := if s.pwr.phase = .doze then pwrDone (dozeLeave s) 0 else pwrDone s 1

/-- The context whose input an event on its way reaches, by its own naming or by its route (R162). -/
def eventTarget (s : State) (m : EvMsg) : Option Nat :=
  if m.src = 765 then some 0
  else
    match m.dst with
    | some (c, _) => some c
    | none => if s.bit (TSK_ROUTE_valid m.src) then some (s.get (TSK_ROUTE_ctx m.src)) else none

/-- Whether an event for context `c` ends Doze (R446): the context is not Empty and of enough priority. -/
def endsDoze (s : State) (c : Nat) : Bool := s.pwr.phase == .doze && (s.ctx c).mode != .empty && decide (s.get PWR_CFG_wprio ≤ s.prio c)

/-- An event reaches its input (R162); in Doze one for a context of enough priority ends Doze (R446). -/
def eventArrives (s : State) (m : EvMsg) : State :=
  let ends := match eventTarget s m with | some c => endsDoze s c | none => false
  let s := arriveEvent s m
  if ends then dozeLeave s else s

/-- TICKET_PRESENT (R220): nothing is presented while the clocks stand (R450); in Doze a ticket event for a context of enough priority ends Doze
(R446). -/
def execTicketPresent (n : Fin 512) (s : State) : Out :=
  let ends := (presentable s n).isSome && endsDoze s (s.get (TSK_ROUTE_ctx n))
  .next (if ! clkRuns s then s else if ends then dozeLeave (present s n) else present s n)

/-- EVENT_ARRIVAL (R162): `ctx` and `inp` count for the sources that name their own input. In Park the event is on its way until the return to
Run (R450, R454). -/
def execEventArrival (src : Fin 1024) (pay : Fin 16384) (ctx : CtxId) (inp : Fin 4) (s : State) : Out :=
  let m : EvMsg := ⟨src, pay, if selfNaming src then some (ctx.val, inp.val) else none⟩
  .next (if clkRuns s then eventArrives s m else if dieRuns s then { s with evq := s.evq ++ [m] } else s)

/-! ## The entry handshake (R447 to R449) -/

/-- The answer of the ledger (R227). -/
def ldgAnswer (s : State) : HsAns :=
  if (s.ldg.tickets.all fun e => e.2.st ≠ .accepted ∧ e.2.st ≠ .dispatched) && queuedAll s == 0 then .ack
  else if s.pwr.expired.contains 1 then .refuse 1 else .delay

/-- The answer of block `c` of R449 to a request for Park or Off. -/
def answerOf (s : State) (park : Bool) (c : Nat) : HsAns :=
  match c with
  | 1 => ldgAnswer s
  | 2 => pswAnswer s park
  | 3 => ledAnswer s park
  | 4 => dinAnswer s
  | 5 => canAnswer s park
  | 6 => nmgAnswer s park
  | 7 => ethAnswerHs s park
  | 8 => t1sAnswer s park
  | 9 => linAnswer s park
  | 10 => lclAnswer s park
  | 11 => accAnswer s park
  | 12 => mtrAnswer s
  | 13 => clkAnswer s
  | 14 => evrAnswer s
  | 15 => updAnswerHs s
  | _ => .ack

/-- The blocks that answer, in the order of their codes. -/
def hsBlocks : List Nat := (List.range 15).map (· + 1)

/-- The first block that refuses, with its reason. -/
def hsRefusal (s : State) (park : Bool) : Option (Nat × Nat) :=
  hsBlocks.findSome? fun c => match answerOf s park c with | .refuse r => some (c, r) | _ => none

/-- The blocks at Delay. -/
def hsDelays (s : State) : List Nat :=
  match s.pwr.target with
  | some park => hsBlocks.filter fun c => answerOf s park c = .delay
  | none => []

/-- PWR_HS as it reads: bit c while block c is at Delay. -/
def hsView (s : State) : Word := (hsDelays s).foldl (fun w c => setBits w c c 1) (s.rd PWR_HS)

/-- The answers are judged again (R447): a refusal ends the handshake. -/
def hsJudge (s : State) : State :=
  match s.pwr.target with
  | some park => match hsRefusal s park with | some (c, r) => hsEnd s c r | none => s
  | none => s

/-- PARK and OFF (R447). The recorder starts its flush at the request (R497). -/
def hsStart (s : State) (park : Bool) : State :=
  if s.pwr.phase ≠ .run ∧ s.pwr.phase ≠ .doze then pwrDone s 1
  else if (if park then forbidsPark s else forbidsOff s) then pwrDone s 3
  else
    let s := (s.putB PWR_STATUS_hs true).putB PWR_CMD_RESULT_busy true
    let s := (s.modPwr fun p => { p with target := some park, expired := [] }).modNmg fun n => { n with woke := false }
    hsJudge (startFlush s false)

/-- The effect of a PWR_CMD op (R446, R447, R448, R458); RESET is `softReset`. -/
def pwrEffect (s : State) (op key : Nat) (softReset : State → State) : State :=
  match op with
  | 1 => dozeEnter s
  | 2 => runEnter s
  | 3 => hsStart s true
  | 4 => hsStart s false
  | 5 => pwrDone s 1
  | 6 => if key = 0x5A then softReset s else pwrDone s 4
  | _ => pwrDone s 4

/-- A frame to each power die: the Park frame, and each beat (R450, R451). -/
def parkFrames (s : State) : State := frameSend (frameSend s 0 false) 1 false

/-- The commit (R448, R450, R455): to Park, where each power die receives its Park frame, or to Off. -/
def hsCommit (s : State) : State :=
  match s.pwr.target with
  | none => s
  | some park =>
    if (hsRefusal s park).isSome then hsJudge s
    else if ! (hsDelays s).isEmpty then s
    else
      let s := (s.putB PWR_STATUS_hs false).modPwr fun p => { p with target := none, expired := [], wake := false }
      if park then parkFrames (dinPark (setPhase ((s.put PWR_STATUS_state 2).wr PWR_WAKEMASK 0) .parking))
      else canOff (setPhase (s.put PWR_STATUS_state 3) .offing)

/-- HANDSHAKE_COMMIT (R448). -/
def execHandshakeCommit (s : State) : Out := .next (hsCommit s)

/-- The own limit of a block at Delay runs out (R227, R302, R351). -/
def delayExpires (s : State) (l : List Nat) : State :=
  if s.bit PWR_STATUS_hs then hsJudge (s.modPwr fun p => { p with expired := l ++ p.expired }) else s

/-- DELAY_REFUSE_EXPIRE: LED, CAN or the ledger. -/
def execDelayRefuseExpire (b : Fin 16) (s : State) : Out := .next (if [1, 3, 5].contains b.val then delayExpires s [b.val] else s)

/-- 50 ms after the request (R448): a block at Delay ends the handshake, with its own refusal where its chapter gives one. -/
def execHandshakeTimeout (s : State) : Out :=
  let s := delayExpires s [1, 3, 5]
  .next (match hsDelays s with | c :: _ => hsEnd s c 0xFF | [] => s)

/-! ## Park and wake (R450 to R454) -/

/-- The lands that the Park column of R58 drives low: ALIVE, CKOUT, TPULSE and the latches of the stitch ports. -/
def pinsLow (s : State) : State :=
  let s := (s.modPwr fun p => { p with alivePin := false }).modClk fun c => { c with pin := false }
  let s := { s with tln := { s.tln with pulseHigh := false } }
  s.modLed fun l => { l with stitch := stitchLow l.stitch }

/-- Whether a raise of class 2 or higher from power die `d` is latched (R452, R480): its over-voltage, latch-off, feed-group, sink and
input-line sources and its temperature sensors. -/
def dieFault (s : State) (d : Nat) : Bool :=
  s.raiseQ.any fun r => decide (2 ≤ raiseClass s r.src r.wire) &&
    ([30 + d, 64 + d, 66 + d, 68 + d, 71 + d, 82 + d, 40 + 2 * d, 41 + 2 * d, 24 + 2 * d, 25 + 2 * d].contains r.src)

/-- A latched raise of class 2 or higher of a power die requests a wake where PWR_CFG.pdfault asks for it (R452, R480), once. -/
def faultWakes (s : State) : State :=
  if wakeable s && s.bit PWR_CFG_pdfault && ! bitOf (s.rd PWR_WAKEMASK) 8 then
    match [0, 1].find? (dieFault s) with
    | some d => wakeRequest s 8 d
    | none => s
  else s

/-- SOURCE_RAISE (R463): a refusal that stands in the entry handshake comes before what the raise does to it (R448); while the box has no clock,
in Park and while the die is held or without power, the raise is latched, and one of a power die may request a wake (R480). Without a meter
its two sources never raise (R429). -/
def execSourceRaise (src : Fin 256) (wire hold : Bool) (detail : Word) (s : State) : Out :=
  let latched := faultWakes { s with raiseQ := s.raiseQ ++ [⟨src, wire, hold, detail⟩] }
  .next (if srcReserved src ∨ ((src = 28 ∨ src = 29) ∧ ! Config.meterFitted) then s
    else if ! clkRuns s then latched
    else sourceRaise (hsJudge (if wakeable s then { latched with raiseQ := s.raiseQ } else s)) src wire hold detail)

/-- Whether a wake source is armed (R452). -/
def wakeArmed (s : State) (code detail : Nat) : Bool :=
  match code with
  | 1 => s.bit PWR_CFG_ignrise
  | 2 => s.bit PWR_CFG_ignfall
  | 3 => decide (detail < 96) && inputAsks s detail
  | 4 => decide (detail < 22) && s.bit (NMG_BUS_CFG_wake detail) && busState s detail == 1
  | 5 => decide (detail < 4) && s.bit ACC_CFG_en
  | 6 => s.bit ACC_CFG_btnwake
  | 7 => s.tln.items.any fun e => e.2.st == .armed && e.2.wake && e.2.axis == detail && decide (detail < 2)
  | 8 => decide (detail < 2) && s.bit PWR_CFG_pdfault && dieFault s detail
  | 9 => true
  | _ => false

/-- A wake request of a source (R452, R453): one of a bus makes the bus Awake on the return to Run (R364). -/
def sourceWakes (s : State) (code detail : Nat) (same : Bool) : State :=
  if ! wakeArmed s code detail then s
  else
    let s := if code = 4 ∧ wakeable s then busWakesInPark s detail else s
    wakeRequest s code detail same

/-- WAKE_REQUEST (R453): `same` says that it falls in the LPO cycle of the first. -/
def execWakeRequest (code : Fin 16) (detail : BitVec 7) (same : Bool) (s : State) : Out := .next (sourceWakes s code detail.toNat same)

/-- The device leaves Park (R454, R480): the blocks return to their Run behaviour. -/
def wake (s : State) : State :=
  if s.pwr.phase = .park ∧ s.pwr.wake then
    let s := setPhase (s.put PWR_STATUS_state 0) .run
    let s := (s.count PWR_WAKESRC_wakes).putB PWR_STATUS_pllwait true
    let s := clkWake (pwrDone s 0)
    let s := mtrReport (accRunResume (ethResume (nmgResume (canResume (dinResume s)))))
    takeLatched (s.modPwr fun p => { p with wake := false })
  else s

/-- Entry to Park is complete (R450); a request latched since the commit wakes the device at once (R453). -/
def parkEntry (s : State) : State :=
  if s.pwr.phase = .parking then
    let s := pinsLow (ethPark (clkPark s))
    wake (setPhase (s.wrap PWR_STATUS_parks) .park)
  else s

/-- PARK_ENTRY (R450). -/
def execParkEntry (s : State) : Out := .next (parkEntry s)

/-- The beat of the LPO timer (R451): a frame to each power die. -/
def execParkBeat (s : State) : Out := .next (if s.pwr.phase = .park then parkFrames s else s)

/-- WAKE (R454). -/
def execWake (s : State) : Out := .next (wake s)

/-! ## IGN (R407, R452, R456) -/

/-- IGN rises: the parked timer restarts; a wake from Park, a start from Off. The land is die A's (R54): with its domain off nothing is
seen. -/
def ignRise (s : State) : State :=
  if ! (s.die 0).on then s
  else
    let s := s.putB PWR_STATUS_ign true
    let s := parkedZero s
    match s.pwr.phase with
    | .off | .offing => if s.bit PWR_CFG_offign then s.modPwr fun p => { p with offWake := some (p.offWake.getD (1, 0)) } else s
    | .inReset => s
    | _ => if s.bit PWR_CFG_ignrise then wakeRequest s 1 0 else s

/-- IGN_RISE (R407). -/
def execIgnRise (s : State) : Out := .next (ignRise s)

/-- IGN falls (R452): a wake from Park where armed. -/
def ignFall (s : State) : State :=
  if ! (s.die 0).on then s
  else
    let s := s.putB PWR_STATUS_ign false
    if s.bit PWR_CFG_ignfall then wakeRequest s 2 0 else s

/-- IGN_FALL (R452). -/
def execIgnFall (s : State) : Out := .next (ignFall s)

/-! ## Resets (R458, R459) -/

/-- The register windows of the control die that a reset gives their reset values, beside those that the blocks' own resets handle: the
port and channel registers of a power die stay. -/
def clearRegs (s : State) : State :=
  let wins : List (Nat × Nat) := [
    (TSK_STATUS.addr, 0x10000), (TLN_STATUS.addr, 0x10000), (LDG_STATUS.addr, 0x10000), (PSW_BUD_CFG.addr, 0x10000),
    ((LED_P_CMD 0).addr, 0x10), ((LED_P_EVEN 0).addr, 4), ((LED_P_CMD 1).addr, 0x10), ((LED_P_EVEN 1).addr, 4),
    ((LED_P_CMD 2).addr, 0xE00), (DIN_LEVEL 0 |>.addr, 0x100),
    ((CAN_CTRL 0).addr, 0xC0000), ((LIN_CTRL 0).addr, 0x80000), (ETH_CFG.addr, 0x10000), ((T1S_S_CTRL 0).addr, 0x10000),
    (NMG_AWAKE.addr, 0x10000), (LCL_SPI.addr, 0x10000), (SYS_LINK_CMD.addr, 8)]
  { s with regs := wins.foldl (fun m w => SMap.clear m w.1 w.2) s.regs }

/-- PWR while a reset holds the control die (R459): its registers at reset, but for the kept ones, IGN's level, and offign and offin, which
die A holds. -/
def pwrClear (s : State) : State :=
  let ign := s.bit PWR_STATUS_ign
  let offign := s.bit PWR_CFG_offign
  let offin := s.bit PWR_CFG_offin
  let s := { s with regs := SMap.clear s.regs PWR_STATUS.addr 0x14 }
  let s := ((s.putB PWR_STATUS_ign ign).putB PWR_CFG_offign offign).putB PWR_CFG_offin offin
  s.modPwr fun p => { p with target := none, expired := [], wake := false, alivePin := false, kickAt := 0, first := false }

/-- The ledger at a reset: MRAM stays, and a record write that had started completes (R243). -/
def ldgReset (s : State) : State :=
  let s := match s.ldg.writing with | some w => let (p, r) := writeRecord s w; putRecord s p r | none => s
  { s with ldg := { LdgSt.init with journal := s.ldg.journal, ringHead := s.ldg.ringHead } }

/-- LED at a reset of the control die (R301): stitch lands low, frame memories cleared; sinks and matrix ports of the dies stay. -/
def ledReset (s : State) : State :=
  s.modLed fun l => { l with f0 := ⟨false, false⟩, f1 := ⟨false, false⟩, stitch := [], fmem := [], fbad := [],
                             mat0 := { l.mat0 with copies := [] }, mat1 := { l.mat1 with copies := [] } }

/-- The cores and SRAMs at a reset (R459). -/
def cpuReset (s : State) : State :=
  { s with cpu := { CpuSt.init with mram := s.cpu.mram, mramErr := s.cpu.mramErr }, evq := [], raiseQ := [] }

/-- What a reset does to the control die while it holds it (R459): `supply` for a cold or supply reset, `restart` where the crystal and
the PLLs start again, `cold` where the retained logic of the control die loses its supply. -/
def ctlClear (s : State) (supply restart cold : Bool) : State :=
  let s := fltReset s supply
  let s := outReset (clkReset (mtrReset (accReset (updReset (evrReset s supply)))) restart)
  let s := ledReset (ldgReset (canReset s))
  let s := cpuReset (clearRegs s)
  let s := dinHold { s with tln := TlnSt.init, net := NetSt.init, lnk := LnkSt.init }
  let s := s.modBist fun b => { b with running := none }
  let s := a1AfterReset s
  pwrClear (if cold then s.loseStore 2 else s)

/-! ## Off (R455, R456) -/

/-- The power dies open every switch and every sink, and the control die loses its supply (R455, steps 4 and 5): each output stays OFF until
an action commands it (log entry 56). What the control die held is lost, but for MRAM (R444). -/
def offFinal (s : State) : State :=
  let s := [0, 1].foldl (fun s d =>
    if (s.die d).on then
      let s := (dieChans d).foldl (fun s c => setOut (s.modChan c fun x => { x with limp := some ⟨0, 0⟩ }) c ⟨0, 0⟩) s
      dinDieOff (ledOff s d) d
    else s) s
  setPhase (ctlClear (aliveLow s) true true false) .off

/-- Entry to Off after the commit (R455): the recorder's bytes are flushed, the operating seconds are saved; the full test runs if
BIST_CFG.offtest asks for it, and the rest follows its end. -/
def offEntry (s : State) : State :=
  if s.pwr.phase = .offing ∧ s.bist.running.isNone then
    let s := opSave (if warnedFor s 600000 then s else flushDone s)
    if s.bit BIST_CFG_offtest then (aliveLow s).modBist fun b => { b with running := some (true, false) } else offFinal s
  else s

/-- OFF_ENTRY (R455). -/
def execOffEntry (s : State) : Out := .next (offEntry s)

/-- A shutdown test over, entry to Off goes on. -/
def afterTest (s : State) : State := if s.pwr.phase = .offing ∧ s.bist.running.isNone then offFinal s else s

/-- SELF_TEST_END (R504, R506). -/
def execSelfTestEnd (lfail : BitVec 13) (fails : List MemFail) (s : State) : Out :=
  .next (if s.bist.running.isSome then afterTest (testEnds s lfail.toNat fails) else s)
/-- SELF_TEST_ABORT: a shutdown test stops on a wake request that R456 latches (R503); the power-fail warning stops it itself. -/
def execSelfTestAbort (s : State) : Out :=
  .next (if s.bist.running = some (true, false) ∧ s.pwr.offWake.isSome then afterTest (testAborts s) else s)

/-- Whether a rise in Off starts a cold start (R456): die A, which starts the pre-regulator, and the die of the input have to be on. -/
def offWakeArmed (s : State) (input : Option (Fin 96)) : Bool :=
  (s.die 0).on && match input with
    | none => s.bit PWR_CFG_offign
    | some i => (s.die (dinDie i)).on && s.bit PWR_CFG_offin && s.bit (DIN_IN_CFG_wake i) && s.bit (DIN_IN_CFG_pol i)

/-- IGN (code 1), or an input that rises (code 3), while entering Off or in Off: the first is kept. -/
def offRise (s : State) (input : Option (Fin 96)) : State :=
  let src : Nat × Nat := match input with | none => (1, 0) | some i => (3, i.val)
  if offWakeArmed s input ∧ (s.pwr.phase = .off ∨ s.pwr.phase = .offing) then
    s.modPwr fun p => { p with offWake := some (p.offWake.getD src) }
  else s

/-- OFF_WAKE (R456). -/
def execOffWake (input : Option (Fin 96)) (s : State) : Out := .next (offRise s input)

/-! ## Power failure (R457) -/

/-- The power-fail warning (R48, R244, R448, R457, R491, R503); a refusal that stands in the handshake comes before it. -/
def powerFail (s : State) : State :=
  if s.bit PWR_STATUS_pfw ∨ s.pwr.phase = .off ∨ s.pwr.phase = .inReset then s
  else
    let s := (hsEnd ((hsJudge s).putB PWR_STATUS_pfw true) 0 0xFD).modPwr fun p => { p with pfwAt := a1Now s }
    let s := s.modLdg fun l => { l with pfw := true }
    let s := opSave (startFlush (blockRec s 0x06 []) false)
    let s := if s.bist.running = some (true, false) then afterTest (testAborts s) else s
    s.raise 63

/-- POWER_FAIL_WARNING. -/
def execPowerFailWarning (s : State) : Out := .next (powerFail s)
/-- POWER_FAIL_CLEAR: VSUP_C above 4.2 V for 1 ms. -/
def execPowerFailClear (s : State) : Out := .next ((s.putB PWR_STATUS_pfw false).modLdg fun l => { l with pfw := false })

/-! ## The release from a reset (R458, R459) -/

/-- PWR as a reset releases the control die: PWR_RSTCAUSE with its new bit, the power-cycle count (R458, R459). -/
def pwrReset (s : State) (cause : Nat) : State :=
  let supply := decide (cause < 2)
  let c := setBits (if supply then 0 else s.rd PWR_RSTCAUSE) cause cause 1
  let cyc := s.rd PWR_CYCLES
  let s := ((pwrClear s).wr PWR_RSTCAUSE c).wr PWR_CYCLES (if supply then cyc + 1 else cyc)
  s.modPwr fun p => { p with phase := .starting, supply := supply, tested := false }

/-- A reset of the control die (R458, R459): 0 cold, 1 supply, 2 RESET_N, 3 software, 4 clock loss, 5 activation. -/
def ctlReset (s : State) (cause : Nat) : State :=
  let supply := decide (cause < 2)
  pwrReset (ctlClear s supply (supply || cause == 4) (cause == 0)) cause

/-- The control die is held in reset: nothing of it acts until the release (R48, R439, R457, R458). -/
def ctlHold (s : State) (supply : Bool) : State := setPhase (ctlClear s supply supply false) .inReset

/-- RESET_N low through its filter (R82, R458): in any power state in which the control die is powered. -/
def execResetNAssert (s : State) : Out := .next (if powered s && s.pwr.phase != .inReset then ctlReset s 2 else s)

/-- A cold start (R456, R458): PWR_WAKESRC takes the source that die A keeps, 0 on the first connection of the battery. -/
def coldReset (s : State) : State :=
  let (code, detail) := s.pwr.offWake.getD (0, 0)
  let s := ctlReset s 0
  let s := (s.wr PWR_WAKESRC 0).put PWR_WAKESRC_code code
  let s := ((s.put PWR_WAKESRC_detail detail).wr PWR_WAKETS_LO 0).wr PWR_WAKETS_HI 0xC0000000
  (s.wr PWR_WAKEMASK 0).modPwr fun p => { p with offWake := none }

/-- COLD_RESET (R458). -/
def execColdReset (s : State) : Out := .next (coldReset s)

/-- VSUP_C below 3.2 V (R457): the control die is held in reset; its frames stop. -/
def execSupplyResetAssert (s : State) : Out :=
  .next (if powered s then (ctlHold s true).modClk fun c => { c with lost := false } else s)
/-- VSUP_C above 3.3 V again (R458). -/
def execSupplyReset (s : State) : Out := .next (if s.pwr.phase = .inReset ∧ ¬ s.clk.lost then ctlReset s 1 else s)

/-- FIRC has failed and XTAL is not stable (R439): lands as in reset; a record write that has started completes, and nothing else is written. -/
def execClockLoss (s : State) : Out :=
  .next (if s.clk.fircBad ∧ s.get CLK_STATUS_xtal ≠ 1 ∧ clkRuns s then
    (ctlHold s false).modClk fun c => { c with lost := true } else s)
/-- FIRC has run for 1 ms (R439): a clock-loss reset. -/
def execClockLossRelease (s : State) : Out :=
  .next (if s.pwr.phase = .inReset ∧ s.clk.lost then ctlReset (s.modClk fun c => { c with fircBad := false, lost := false }) 4 else s)

/-- The frames queued on the backbone ports leave, at most `n` of them. -/
def ethDrain : Nat → State → State
  | 0, s => s
  | n + 1, s => ethDrain n (if ethSends s 0 then ethLeave s 0 else ethLeave s 1)

/-- Whether an update answer waits for the SPI host. -/
def spiUpdateWaits (s : State) : Bool := s.ldg.spiQ.any fun a => match a.body with | .update .. => true | _ => false

/-- A whole-device activation resets the control die (R458, R521): what raised before it has reached the signal box, and the answer to the
message that caused it has left (R515). -/
def activationReset (s : State) : State :=
  if ! s.upd.resetDue ∨ (s.upd.resetWaits ∧ spiUpdateWaits s) then s
  else
    let s := settleAll s.raiseQ.length s
    ctlReset (ethDrain s.net.ethQ.length s) 5

/-- ACTIVATION_RESET (R458, R521). -/
def execActivationReset (s : State) : Out := .next (activationReset s)

/-! ## PWR_CMD (R445 to R448, R458) -/

/-- A write of PWR_CMD by context `w`: ignored while a command is in progress, but for ABORT before the commit; a refusal that stands comes
before the abort (R448). -/
def pwrCommand (s : State) (w op key : Nat) : State :=
  s.granted w (w == 0) PWR_CMD fun s =>
    if s.bit PWR_CMD_RESULT_busy then (if op = 5 then hsEnd (hsJudge s) 0 0xFE else s)
    else pwrEffect s op key fun s => ctlReset s 3

/-- PWR_CMD DOZE (R446). -/
def execDoze (w : CtxId) (s : State) : Out := .next (pwrCommand s w 1 0)
/-- PWR_CMD RUN (R446). -/
def execRun (w : CtxId) (s : State) : Out := .next (pwrCommand s w 2 0)
/-- PWR_CMD PARK (R447). -/
def execPark (w : CtxId) (s : State) : Out := .next (pwrCommand s w 3 0)
/-- PWR_CMD OFF (R447). -/
def execOff (w : CtxId) (s : State) : Out := .next (pwrCommand s w 4 0)
/-- PWR_CMD ABORT (R448). -/
def execAbort (w : CtxId) (s : State) : Out := .next (pwrCommand s w 5 0)
/-- PWR_CMD RESET with its key (R458). -/
def execSoftwareReset (w : CtxId) (key : Byte) (s : State) : Out := .next (pwrCommand s w 6 key.toNat)

/-! ## Start-up (R460, R467, R505, R508, R543) -/

/-- Context 0 is created (R460, R543): Ready with an activation unfinished; it takes a lane at once. Its entry
register shows the image's entry, and word 0xE4 does not count this activation (DESIGN CHOICE, log entry 84). -/
def createZero (s : State) : State :=
  let s := (s.put (TSK_CTX_CFG_prio 0) 15).put (TSK_CTX_ENTRY_pc 0) (imageEntry s)
  let s := createFrame s 0 (imageEntry s)
  let s := setFrames s 0 0x38 [0, 0, 0x80000000, 0]
  let s := s.setCtx 0 { Ctx.init with mode := .ready, cur := homeOr s 0, committedAct := true }
  arrive s 0 (homeOr s 0)

/-- Step 3 of R460: after a cold or supply reset the stored verdict is judged; the answer is the state and whether a test runs now. -/
def judgeVerdict (s : State) : State × Bool :=
  let s := s.modPwr fun p => { p with tested := true }
  if s.pwr.supply then
    let s := s.wr BIST_PREV (s.rd BIST_VERDICT)
    let t := testAtStart s
    let s := readVerdict s
    match t with
    | some full => (s.modBist fun b => { b with running := some (full, true) }, true)
    | none => (s, false)
  else (s, false)

/-- The end of start-up: the verdict's record, the recorder, and with an image context 0's first packet to come (R460, R495, R505). -/
def startEnds (s : State) (alive : Bool) : State :=
  let s := startVerdict (evrStart s)
  let s := s.modPwr fun p => { p with first := alive }
  setPhase (s.put PWR_STATUS_state 0) .run

/-- Steps 4 to 6 of R460: `good` says of each bank whether it loads. The repairs of a test at this start are in force before step 4 (R507). -/
def startLoads (s : State) (good : Nat → Bool) : State :=
  let s := applyRepairs (if s.pwr.supply then s.modBist fun b => { b with unfit := verdictBad s } else s)
  if s.bist.unfit then
    match romPair s with
    | some p => startEnds (startRecovery (romStart (sidePairs s (some p)))) false
    | none => startEnds (sidePairs s none) false
  else
    let (s, ok) := loadImage (settingsDone s) good
    if ok then startEnds (createZero (startRecovery s)) true
    else startEnds (startRecovery (romStart s)) false

/-- An I/O supply that is out of range as the control die starts raises its source (R56). -/
def ioJudged (s : State) : State :=
  let s := if s.pwr.io1 then s else s.raise 51
  if s.pwr.io2 then s else s.raise 52

/-- START_UP (R460): in Stop it ends after step 2 (R467), with the recorder's page and record of every start (R495); where a test runs, the rest follows its end with the next START_UP. -/
def startUp (s : State) (good : Nat → Bool) : State :=
  if s.pwr.phase ≠ .starting ∨ s.bist.running.isSome then s
  else if s.pwr.tested then startLoads s good
  else
    let s := applyRepairs (ioJudged (fltStart (clkStart s)))
    if s.get FLT_STATUS_mode = 2 then setPhase (evrStart s) .run
    else
      match judgeVerdict s with
      | (s, true) => s
      | (s, false) => startLoads s good

/-- START_UP (R460): whether each code bank decrypts and matches. -/
def execStartUp (good0 good1 : Bool) (s : State) : Out := .next (startUp s fun b => if b = 0 then good0 else good1)

end Sys2Proof.Machine
end

