-- ==== Sys2Proof/Machine/RegTable.lean ====
section
/-! DEFINITION. The register table: for every register heading its first address, its index strides, counts and first indices, and the masks
of its RW, WC, LK and WO bits (R6). -/
namespace Sys2Proof.Machine

/-- One row of the register maps: identifier, address of its first element, `(stride, count, first index)` of each index, and the
masks of the bits of each writable type code (R6). -/
structure RegRow where
  id : RegId
  base : Nat
  dims : List (Nat × Nat × Nat)
  rw : Word
  wc : Word
  lk : Word
  wo : Word
deriving DecidableEq, Repr

def rowsSYS0 : List RegRow := [
  ⟨.SYS_ID, 0x40000000, [], 0x0, 0x0, 0x0, 0x0⟩,
  ⟨.SYS_REV, 0x40000004, [], 0x0, 0x0, 0x0, 0x0⟩,
  ⟨.SYS_SERIAL_LO, 0x40000008, [], 0x0, 0x0, 0x0, 0x0⟩,
  ⟨.SYS_SERIAL_HI, 0x4000000c, [], 0x0, 0x0, 0x0, 0x0⟩,
  ⟨.SYS_LINK_CMD, 0x40000020, [], 0x0, 0x0, 0x0, 0xf0000003⟩,
  ⟨.SYS_LINK_STATUS, 0x40000024, [], 0x0, 0x0, 0x0, 0x0⟩,
  ⟨.SYS_WRD_BASE, 0x40000100, [], 0xffffc000, 0x0, 0x0, 0x0⟩,
  ⟨.SYS_OUT_CFG, 0x40000104, [], 0x3f, 0x0, 0x0, 0x0⟩,
  ⟨.SYS_OUT_CMD, 0x40000108, [], 0x0, 0x0, 0x0, 0xf800001f⟩,
  ⟨.SYS_OUT_CMD_RESULT, 0x4000010c, [], 0x0, 0x0, 0x0, 0x0⟩,
  ⟨.SYS_OUT_STATUS, 0x40000110, [], 0x0, 0x0, 0x0, 0x0⟩]
def rowsSYS : List RegRow := rowsSYS0

def rowsTSK0 : List RegRow := [
  ⟨.TSK_STATUS, 0x40050000, [], 0x0, 0x0, 0x0, 0x0⟩,
  ⟨.TSK_PAIR_STATE, 0x40050004, [], 0x0, 0x0, 0x0, 0x0⟩,
  ⟨.TSK_CMD, 0x40050008, [], 0x0, 0x0, 0x0, 0xf00001ff⟩,
  ⟨.TSK_CMD_RESULT, 0x4005000c, [], 0x0, 0x0, 0x0, 0x0⟩,
  ⟨.TSK_POST, 0x40050010, [], 0x0, 0x0, 0x0, 0xc1ff3fff⟩,
  ⟨.TSK_UNROUTED, 0x40050014, [], 0xffff, 0x0, 0x0, 0x0⟩,
  ⟨.TSK_DISP_MAX, 0x40050018, [], 0xff, 0x0, 0x0, 0x0⟩,
  ⟨.TSK_SELF_ID, 0x40050100, [], 0x0, 0x0, 0x0, 0x0⟩,
  ⟨.TSK_SELF_IN, 0x40050110, [(0x4, 4, 0)], 0x0, 0x0, 0x0, 0x0⟩,
  ⟨.TSK_ROUTE, 0x40051000, [(0x4, 1024, 0)], 0x800301ff, 0x0, 0x0, 0x0⟩,
  ⟨.TSK_CAPSET, 0x40054000, [(0x80, 64, 0), (0x4, 32, 0)], 0xffffffff, 0x0, 0x0, 0x0⟩,
  ⟨.TSK_CTX_CFG, 0x40058000, [(0x40, 512, 0)], 0xf771f3f, 0x0, 0x0, 0x0⟩]
def rowsTSK1 : List RegRow := [
  ⟨.TSK_CTX_STATE, 0x40058004, [(0x40, 512, 0)], 0x0, 0x0, 0x0, 0x0⟩,
  ⟨.TSK_CTX_INMODE, 0x40058008, [(0x40, 512, 0)], 0xf, 0x0, 0x0, 0x0⟩,
  ⟨.TSK_CTX_INOVF, 0x4005800c, [(0x40, 512, 0)], 0xffffffff, 0x0, 0x0, 0x0⟩,
  ⟨.TSK_CTX_VIOL, 0x40058010, [(0x40, 512, 0)], 0x0, 0x0, 0x0, 0x80000000⟩,
  ⟨.TSK_CTX_VADDR, 0x40058014, [(0x40, 512, 0)], 0x0, 0x0, 0x0, 0x0⟩,
  ⟨.TSK_CTX_CODEWIN, 0x40058018, [(0x40, 512, 0)], 0xffffffff, 0x0, 0x0, 0x0⟩,
  ⟨.TSK_CTX_ENTRY, 0x4005801c, [(0x40, 512, 0)], 0x1fffff, 0x0, 0x0, 0x0⟩,
  ⟨.TSK_CTX_WIN_BASE, 0x40058020, [(0x40, 512, 0), (0x8, 4, 0)], 0xffffffc3, 0x0, 0x0, 0x0⟩,
  ⟨.TSK_CTX_WIN_LIMIT, 0x40058024, [(0x40, 512, 0), (0x8, 4, 0)], 0xffffffc0, 0x0, 0x0, 0x0⟩]
def rowsTSK : List RegRow := rowsTSK0 ++ rowsTSK1

def rowsTLN0 : List RegRow := [
  ⟨.TLN_STATUS, 0x40060000, [], 0x1fff, 0x0, 0x0, 0x0⟩,
  ⟨.TLN_FULLCNT, 0x40060004, [], 0xffff, 0x0, 0x0, 0x0⟩,
  ⟨.TLN_RESERVE, 0x40060008, [], 0x7ff, 0x0, 0x0, 0x0⟩,
  ⟨.TLN_LAG_MAX, 0x4006000c, [], 0xffff, 0x0, 0x0, 0x0⟩,
  ⟨.TLN_WAKE_LEAD, 0x40060010, [], 0xff, 0x0, 0x0, 0x0⟩,
  ⟨.TLN_PEEK_SEL, 0x40060020, [], 0xfff, 0x0, 0x0, 0x0⟩,
  ⟨.TLN_PEEK_META, 0x40060024, [], 0x0, 0x0, 0x0, 0x0⟩,
  ⟨.TLN_PEEK_W, 0x40060028, [(0x4, 4, 0)], 0x0, 0x0, 0x0, 0x0⟩,
  ⟨.TLN_TQUOTA, 0x40060040, [(0x4, 32, 0)], 0x1fff, 0x0, 0x0, 0x0⟩,
  ⟨.TLN_AX_CFG, 0x40060100, [(0x40, 8, 0)], 0x7f7f0107, 0x0, 0x0, 0x0⟩,
  ⟨.TLN_AX_POSL, 0x40060104, [(0x40, 8, 0)], 0x0, 0x0, 0x0, 0x0⟩,
  ⟨.TLN_AX_POSH, 0x40060108, [(0x40, 8, 0)], 0x0, 0x0, 0x0, 0x0⟩]
def rowsTLN1 : List RegRow := [
  ⟨.TLN_AX_SETL, 0x4006010c, [(0x40, 8, 0)], 0xffffffff, 0x0, 0x0, 0x0⟩,
  ⟨.TLN_AX_SETH, 0x40060110, [(0x40, 8, 0)], 0x0, 0x0, 0x0, 0xbfffffff⟩,
  ⟨.TLN_AX_STATUS, 0x40060114, [(0x40, 8, 0)], 0xffff, 0x0, 0x0, 0x0⟩,
  ⟨.TLN_AX_SCALE, 0x40060118, [(0x40, 8, 0)], 0xffffffff, 0x0, 0x0, 0x0⟩,
  ⟨.TLN_AX_LATE, 0x4006011c, [(0x40, 8, 0)], 0xffff, 0x0, 0x0, 0x0⟩,
  ⟨.TLN_A0_CFG, 0x40060300, [], 0xffffffff, 0x0, 0x0, 0x0⟩,
  ⟨.TLN_A0_STATUS, 0x40060304, [], 0x0, 0x0, 0x0, 0x0⟩,
  ⟨.TLN_A0_OFFSET, 0x40060308, [], 0x0, 0x0, 0x0, 0x0⟩,
  ⟨.TLN_A0_OFFSET_US, 0x4006030c, [], 0x0, 0x0, 0x0, 0x0⟩,
  ⟨.TLN_A0_RATE, 0x40060310, [], 0x0, 0x0, 0x0, 0x0⟩,
  ⟨.TLN_A0_CMD, 0x40060314, [], 0x0, 0x0, 0x0, 0x3⟩,
  ⟨.TLN_A0_STEP, 0x40060318, [], 0x0, 0x0, 0x0, 0x0⟩]
def rowsTLN2 : List RegRow := [
  ⟨.TLN_TPULSE_CFG, 0x40060320, [], 0xffffffff, 0x0, 0x0, 0x0⟩,
  ⟨.TLN_TPULSE_COUNT, 0x40060324, [], 0x0, 0x0, 0x0, 0x0⟩,
  ⟨.TLN_ROS_CFG, 0x40061020, [(0x20, 63, 1)], 0x80000007, 0x0, 0x0, 0x0⟩,
  ⟨.TLN_ROS_PERIOD, 0x40061024, [(0x20, 63, 1)], 0xffffffff, 0x0, 0x0, 0x0⟩,
  ⟨.TLN_ROS_OVL, 0x40061028, [(0x20, 63, 1)], 0xffffffff, 0x0, 0x0, 0x0⟩,
  ⟨.TLN_ROS_BASEL, 0x4006102c, [(0x20, 63, 1)], 0xffffffff, 0x0, 0x0, 0x0⟩,
  ⟨.TLN_ROS_BASEH, 0x40061030, [(0x20, 63, 1)], 0xffff, 0x0, 0x0, 0x0⟩,
  ⟨.TLN_ROS_STATUS, 0x40061034, [(0x20, 63, 1)], 0xffff0000, 0x0, 0x0, 0x0⟩,
  ⟨.TLN_ROS_MEMBERS, 0x40061038, [(0x20, 63, 1)], 0x0, 0x0, 0x0, 0x0⟩]
def rowsTLN : List RegRow := rowsTLN0 ++ rowsTLN1 ++ rowsTLN2

def rowsLDG0 : List RegRow := [
  ⟨.LDG_STATUS, 0x40070000, [], 0x0, 0x0, 0x0, 0x0⟩,
  ⟨.LDG_CTRL, 0x40070004, [], 0x81ffffff, 0x0, 0x0, 0x0⟩,
  ⟨.LDG_CMD, 0x40070008, [], 0x0, 0x0, 0x0, 0xf1ff007f⟩,
  ⟨.LDG_CMD_RESULT, 0x4007000c, [], 0x0, 0x0, 0x0, 0x0⟩,
  ⟨.LDG_COUNT_ADMIT, 0x40070010, [], 0xffffffff, 0x0, 0x0, 0x0⟩,
  ⟨.LDG_COUNT_REFUSE, 0x40070014, [], 0xffffffff, 0x0, 0x0, 0x0⟩,
  ⟨.LDG_COUNT_DROP, 0x40070018, [], 0xffffffff, 0x0, 0x0, 0x0⟩,
  ⟨.LDG_JOURNAL, 0x4007001c, [], 0xff000000, 0x0, 0x0, 0x0⟩,
  ⟨.LDG_WM_SEL, 0x40070020, [], 0x7f, 0x0, 0x0, 0x0⟩,
  ⟨.LDG_WM_SEQ, 0x40070024, [], 0x0, 0x0, 0x0, 0x0⟩,
  ⟨.LDG_SESS_ID, 0x40070100, [(0x8, 16, 0)], 0xffffffff, 0x0, 0x0, 0x0⟩,
  ⟨.LDG_SESS_CFG, 0x40070104, [(0x8, 16, 0)], 0x80070700, 0x0, 0x0, 0x0⟩]
def rowsLDG1 : List RegRow := [
  ⟨.LDG_SELF_TKT, 0x40070200, [], 0x0, 0x0, 0x0, 0x0⟩,
  ⟨.LDG_SELF_SEQ, 0x40070204, [], 0x0, 0x0, 0x0, 0x0⟩,
  ⟨.LDG_SELF_PAY, 0x40070210, [(0x4, 12, 0)], 0x0, 0x0, 0x0, 0x0⟩,
  ⟨.LDG_TRK_CFG, 0x40071000, [(0x10, 512, 0)], 0xcf001fff, 0x0, 0x0, 0x0⟩,
  ⟨.LDG_TRK_OWNERS, 0x40071004, [(0x10, 512, 0)], 0xffff, 0x0, 0x0, 0x0⟩,
  ⟨.LDG_TRK_NEXT, 0x40071008, [(0x10, 512, 0)], 0xffffffff, 0x0, 0x0, 0x0⟩,
  ⟨.LDG_TRK_FLOOR, 0x4007100c, [(0x10, 512, 0)], 0x0, 0x0, 0x0, 0x0⟩,
  ⟨.LDG_TKT, 0x40074000, [(0x4, 4096, 1)], 0x0, 0x0, 0x0, 0x0⟩]
def rowsLDG : List RegRow := rowsLDG0 ++ rowsLDG1

def rowsPSW0 : List RegRow := [
  ⟨.PSW_CH_CMD, 0x40100000, [(0x100, 104, 0)], 0x0, 0x0, 0x0, 0xffffff00⟩,
  ⟨.PSW_CH_STATE, 0x40100004, [(0x100, 104, 0)], 0x0, 0x0, 0x0, 0x0⟩,
  ⟨.PSW_CH_ACK, 0x40100008, [(0x100, 104, 0)], 0x0, 0x0, 0x0, 0x0⟩,
  ⟨.PSW_CH_ACKSEQ, 0x4010000c, [(0x100, 104, 0)], 0x0, 0x0, 0x0, 0x0⟩,
  ⟨.PSW_CH_CTRL, 0x40100010, [(0x100, 104, 0)], 0x3fe00f3, 0x0, 0x0, 0x0⟩,
  ⟨.PSW_CH_PWM, 0x40100014, [(0x100, 104, 0)], 0xfffff, 0x0, 0x0, 0x0⟩,
  ⟨.PSW_CH_PROT, 0x40100018, [(0x100, 104, 0)], 0xff0f30, 0x0, 0x0, 0x0⟩,
  ⟨.PSW_CH_WIRE, 0x4010001c, [(0x100, 104, 0)], 0xffff, 0x0, 0x0, 0x0⟩,
  ⟨.PSW_CH_SAFE, 0x40100020, [(0x100, 104, 0)], 0x1fff0f07, 0x0, 0x0, 0x0⟩,
  ⟨.PSW_CH_DIAG, 0x40100024, [(0x100, 104, 0)], 0xff0f00, 0x0, 0x0, 0x80000000⟩,
  ⟨.PSW_CH_SENSE, 0x40100028, [(0x100, 104, 0)], 0x0, 0x0, 0x0, 0x0⟩,
  ⟨.PSW_CH_TEMP, 0x4010002c, [(0x100, 104, 0)], 0x0, 0x0, 0x0, 0x0⟩]
def rowsPSW1 : List RegRow := [
  ⟨.PSW_CH_STATUS, 0x40100030, [(0x100, 104, 0)], 0x0, 0xf0, 0x0, 0x0⟩,
  ⟨.PSW_DIE_STATE, 0x40120000, [(0x1000, 2, 0)], 0xffff, 0x0, 0x0, 0x0⟩,
  ⟨.PSW_DIE_CFG, 0x40120004, [(0x1000, 2, 0)], 0x7ff03ff, 0x0, 0x0, 0x0⟩,
  ⟨.PSW_DIE_CMD, 0x40120008, [(0x1000, 2, 0)], 0x0, 0x0, 0x0, 0xf000007f⟩,
  ⟨.PSW_DIE_VBAT, 0x4012000c, [(0x1000, 2, 0)], 0x0, 0x0, 0x0, 0x0⟩,
  ⟨.PSW_DIE_PAR, 0x40120010, [(0x1000, 2, 0)], 0x3ffffff, 0x0, 0x0, 0x0⟩,
  ⟨.PSW_BUD_CFG, 0x40130000, [], 0xc000ffff, 0x0, 0x0, 0x0⟩,
  ⟨.PSW_BUD_STATUS, 0x40130004, [], 0x0, 0x0, 0x0, 0x0⟩,
  ⟨.PSW_BUD, 0x40130100, [(0x4, 104, 0)], 0xdf000000, 0x0, 0x0, 0x0⟩]
def rowsPSW : List RegRow := rowsPSW0 ++ rowsPSW1

def rowsLED0 : List RegRow := [
  ⟨.LED_K_SET, 0x40140000, [(0x10, 48, 0)], 0xff1fff, 0x0, 0x0, 0x0⟩,
  ⟨.LED_K_CFG, 0x40140004, [(0x10, 48, 0)], 0x1fff00f7, 0x0, 0x0, 0x0⟩,
  ⟨.LED_K_STATUS, 0x40140008, [(0x10, 48, 0)], 0x0, 0x300, 0x0, 0x0⟩,
  ⟨.LED_DIE_FREQ, 0x40140400, [(0x20, 2, 0)], 0x7fff7fff, 0x0, 0x0, 0x0⟩,
  ⟨.LED_DIE_DERATE, 0x40140404, [(0x20, 2, 0)], 0xff3f0f, 0x0, 0x0, 0x0⟩,
  ⟨.LED_P_CMD, 0x40141000, [(0x100, 8, 0)], 0x0, 0x0, 0x0, 0xffffff00⟩,
  ⟨.LED_P_ACK, 0x40141004, [(0x100, 8, 0)], 0x0, 0x0, 0x0, 0x0⟩,
  ⟨.LED_P_ACKSEQ, 0x40141008, [(0x100, 8, 0)], 0x0, 0x0, 0x0, 0x0⟩,
  ⟨.LED_P_STATUS, 0x4014100c, [(0x100, 8, 0)], 0x0, 0xf8, 0x0, 0x0⟩,
  ⟨.LED_P_EVEN, 0x4014101c, [(0x100, 8, 0)], 0x1fe, 0x0, 0x0, 0x0⟩,
  ⟨.LED_M_CFG, 0x40141010, [(0x100, 2, 0)], 0x73ff3ff3, 0x0, 0x0, 0x0⟩,
  ⟨.LED_F_CFG, 0x40141210, [(0x100, 2, 0)], 0xffff0001, 0x0, 0x0, 0x0⟩]
def rowsLED1 : List RegRow := [
  ⟨.LED_F_PAGE, 0x40141214, [(0x100, 2, 0)], 0x103, 0x0, 0x0, 0x0⟩,
  ⟨.LED_S_CFG, 0x40141410, [(0x100, 4, 0)], 0xf8ff00ff, 0x0, 0x0, 0x0⟩,
  ⟨.LED_S_LEN, 0x40141414, [(0x100, 4, 0)], 0xffff, 0x0, 0x0, 0x0⟩,
  ⟨.LED_S_RB, 0x40141418, [(0x100, 4, 0)], 0x0, 0x0, 0x0, 0x0⟩]
def rowsLED : List RegRow := rowsLED0 ++ rowsLED1

def rowsDIN0 : List RegRow := [
  ⟨.DIN_LEVEL, 0x40150000, [(0x4, 3, 0)], 0x0, 0x0, 0x0, 0x0⟩,
  ⟨.DIN_FAULT, 0x4015000c, [(0x4, 3, 0)], 0x0, 0x0, 0x0, 0x0⟩,
  ⟨.DIN_STATUS, 0x40150018, [], 0x0, 0x0, 0x0, 0x0⟩,
  ⟨.DIN_ADCGO, 0x4015001c, [], 0x0, 0x0, 0x0, 0x7f⟩,
  ⟨.DIN_IN_CFG, 0x40150100, [(0x20, 96, 0)], 0xff1fff00, 0x0, 0x0, 0x0⟩,
  ⟨.DIN_IN_WET, 0x40150104, [(0x20, 96, 0)], 0x8f0f00ff, 0x0, 0x0, 0x0⟩,
  ⟨.DIN_IN_DB, 0x40150108, [(0x20, 96, 0)], 0xffff, 0x0, 0x0, 0x0⟩,
  ⟨.DIN_IN_PARK, 0x4015010c, [(0x20, 96, 0)], 0xf0f0fff, 0x0, 0x0, 0x0⟩,
  ⟨.DIN_IN_ADC, 0x40150110, [(0x20, 96, 0)], 0x0, 0x0, 0x0, 0x0⟩,
  ⟨.DIN_IN_STATUS, 0x40150114, [(0x20, 96, 0)], 0x0, 0x8000000, 0x0, 0x0⟩]
def rowsDIN : List RegRow := rowsDIN0

def rowsCAN0 : List RegRow := [
  ⟨.CAN_CTRL, 0x40200000, [(0x10000, 12, 0)], 0xbfe00000, 0x0, 0x0, 0x0⟩,
  ⟨.CAN_CMD, 0x40200004, [(0x10000, 12, 0)], 0x0, 0x0, 0x0, 0xf0000000⟩,
  ⟨.CAN_CMD_RESULT, 0x40200008, [(0x10000, 12, 0)], 0x0, 0x0, 0x0, 0x0⟩,
  ⟨.CAN_STATUS, 0x4020000c, [(0x10000, 12, 0)], 0x0, 0xc, 0x0, 0x0⟩,
  ⟨.CAN_ERRCNT, 0x40200010, [(0x10000, 12, 0)], 0xffffffff, 0x0, 0x0, 0x0⟩,
  ⟨.CAN_NBT, 0x40200014, [(0x10000, 12, 0)], 0xf9fe3fff, 0x0, 0x0, 0x0⟩,
  ⟨.CAN_DBT, 0x40200018, [(0x10000, 12, 0)], 0xf8ff1fff, 0x0, 0x0, 0x0⟩,
  ⟨.CAN_RAM, 0x40200020, [(0x10000, 12, 0), (0x4, 4, 0)], 0x71ff1fff, 0x0, 0x0, 0x0⟩,
  ⟨.CAN_RAM_TT, 0x40200030, [(0x10000, 12, 0)], 0x1fff, 0x0, 0x0, 0x0⟩,
  ⟨.CAN_PL_STATUS, 0x40200040, [(0x10000, 12, 0), (0x8, 2, 0)], 0xff000000, 0x0, 0x0, 0x0⟩,
  ⟨.CAN_PL_ACK, 0x40200044, [(0x10000, 12, 0), (0x8, 2, 0)], 0x0, 0x0, 0x0, 0x1ff⟩,
  ⟨.CAN_OBJ_STATUS, 0x40200050, [(0x10000, 12, 0)], 0xffff0000, 0x0, 0x0, 0x0⟩]
def rowsCAN1 : List RegRow := [
  ⟨.CAN_OBJ_ACK, 0x40200054, [(0x10000, 12, 0)], 0x0, 0x0, 0x0, 0x80ff00ff⟩,
  ⟨.CAN_TXREQ, 0x40200060, [(0x10000, 12, 0)], 0x0, 0x0, 0x0, 0x3f⟩,
  ⟨.CAN_TXCANCEL, 0x40200064, [(0x10000, 12, 0)], 0x0, 0x0, 0x0, 0x3f⟩,
  ⟨.CAN_TXACK, 0x40200068, [(0x10000, 12, 0)], 0x0, 0x0, 0x0, 0x0⟩,
  ⟨.CAN_TXACKSEQ, 0x4020006c, [(0x10000, 12, 0)], 0x0, 0x0, 0x0, 0x0⟩,
  ⟨.CAN_TXPEND, 0x40200070, [(0x10000, 12, 0), (0x4, 2, 0)], 0x0, 0x0, 0x0, 0x0⟩,
  ⟨.CAN_TXDONE, 0x40200078, [(0x10000, 12, 0), (0x4, 2, 0)], 0x0, 0xffffffff, 0x0, 0x0⟩,
  ⟨.CAN_DUP_CFG, 0x40200080, [(0x10000, 12, 0)], 0xc00000ff, 0x0, 0x0, 0x0⟩,
  ⟨.CAN_DUP_ID, 0x40200084, [(0x10000, 12, 0)], 0x0, 0x0, 0x0, 0x0⟩,
  ⟨.CAN_DUP_CNT, 0x40200088, [(0x10000, 12, 0)], 0xff00, 0x0, 0x0, 0x0⟩,
  ⟨.CAN_TT_CFG, 0x40200090, [(0x10000, 12, 0)], 0x1f3f00ff, 0x0, 0x0, 0x0⟩,
  ⟨.CAN_TT_STATUS, 0x40200094, [(0x10000, 12, 0)], 0xffff, 0x0, 0x0, 0x0⟩]
def rowsCAN2 : List RegRow := [
  ⟨.CAN_EVEN, 0x402000a0, [(0x10000, 12, 0)], 0x7e03, 0x0, 0x0, 0x0⟩,
  ⟨.CAN_FLT_ID, 0x40200100, [(0x10000, 12, 0), (0x8, 64, 0)], 0xffffffff, 0x0, 0x0, 0x0⟩,
  ⟨.CAN_FLT_MASK, 0x40200104, [(0x10000, 12, 0), (0x8, 64, 0)], 0xbfffffff, 0x0, 0x0, 0x0⟩]
def rowsCAN : List RegRow := rowsCAN0 ++ rowsCAN1 ++ rowsCAN2

def rowsNMG0 : List RegRow := [
  ⟨.NMG_AWAKE, 0x403a0000, [], 0x0, 0x0, 0x0, 0x0⟩,
  ⟨.NMG_BUS_CFG, 0x403a0100, [(0x20, 22, 0)], 0xbcff0000, 0x0, 0x0, 0x0⟩,
  ⟨.NMG_BUS_TIME, 0x403a0104, [(0x20, 22, 0)], 0xffffffff, 0x0, 0x0, 0x0⟩,
  ⟨.NMG_BUS_KAID, 0x403a0108, [(0x20, 22, 0)], 0x3fffffff, 0x0, 0x0, 0x0⟩,
  ⟨.NMG_BUS_KAMASK, 0x403a010c, [(0x20, 22, 0)], 0x3fffffff, 0x0, 0x0, 0x0⟩,
  ⟨.NMG_BUS_KATX, 0x403a0110, [(0x20, 22, 0)], 0x3f, 0x0, 0x0, 0x0⟩,
  ⟨.NMG_BUS_NEED, 0x403a0114, [(0x20, 22, 0)], 0xffffffff, 0x0, 0x0, 0x0⟩,
  ⟨.NMG_BUS_STATE, 0x403a0118, [(0x20, 22, 0)], 0xffff, 0x0, 0x0, 0x0⟩]
def rowsNMG : List RegRow := rowsNMG0

def rowsETH0 : List RegRow := [
  ⟨.ETH_CFG, 0x40380000, [], 0xc0000000, 0x0, 0x0, 0x0⟩,
  ⟨.ETH_IP4, 0x40380004, [], 0xffffffff, 0x0, 0x0, 0x0⟩,
  ⟨.ETH_IP6, 0x40380010, [(0x4, 4, 0)], 0xffffffff, 0x0, 0x0, 0x0⟩,
  ⟨.ETH_P_CTRL, 0x40380100, [(0x20, 2, 0)], 0xfc000fff, 0x0, 0x0, 0x0⟩,
  ⟨.ETH_P_STATUS, 0x40380104, [(0x20, 2, 0)], 0xffff, 0x0, 0x0, 0x0⟩,
  ⟨.ETH_P_COUNT, 0x40380108, [(0x20, 2, 0)], 0xffffffff, 0x0, 0x0, 0x0⟩]
def rowsETH : List RegRow := rowsETH0

def rowsT1S0 : List RegRow := [
  ⟨.T1S_S_CTRL, 0x40390000, [(0x100, 2, 0)], 0xf0ffffff, 0x0, 0x0, 0x0⟩,
  ⟨.T1S_S_STATUS, 0x40390004, [(0x100, 2, 0)], 0xff0000, 0x0, 0x0, 0x0⟩,
  ⟨.T1S_S_CMD, 0x40390008, [(0x100, 2, 0)], 0x0, 0x0, 0x0, 0xf000001f⟩]
def rowsT1S : List RegRow := rowsT1S0

def rowsLIN0 : List RegRow := [
  ⟨.LIN_CTRL, 0x40300000, [(0x10000, 8, 0)], 0xc0f0ffff, 0x0, 0x0, 0x0⟩,
  ⟨.LIN_CMD, 0x40300004, [(0x10000, 8, 0)], 0x0, 0x0, 0x0, 0xf0000000⟩,
  ⟨.LIN_STATUS, 0x40300008, [(0x10000, 8, 0)], 0xff00, 0x0, 0x0, 0x0⟩,
  ⟨.LIN_FR, 0x40300100, [(0x10000, 8, 0), (0x10, 64, 0)], 0xff00003f, 0x800000, 0x0, 0x0⟩,
  ⟨.LIN_FR_D, 0x40300104, [(0x10000, 8, 0), (0x10, 64, 0), (0x4, 2, 0)], 0xffffffff, 0x0, 0x0, 0x0⟩,
  ⟨.LIN_SCH, 0x40300800, [(0x10000, 8, 0), (0x4, 32, 0)], 0x803f00ff, 0x0, 0x0, 0x0⟩]
def rowsLIN : List RegRow := rowsLIN0

def rowsLCL0 : List RegRow := [
  ⟨.LCL_SPI, 0x403b0000, [], 0x8000ffff, 0x0, 0x0, 0x0⟩,
  ⟨.LCL_I2C_CFG, 0x403b0100, [(0x40, 2, 0)], 0xe00000ff, 0x0, 0x0, 0x0⟩,
  ⟨.LCL_I2C_CMD, 0x403b0104, [(0x40, 2, 0)], 0x0, 0x0, 0x0, 0xff3f3f00⟩,
  ⟨.LCL_I2C_STATUS, 0x403b0108, [(0x40, 2, 0)], 0x0, 0x0, 0x0, 0x0⟩,
  ⟨.LCL_I2C_DATA, 0x403b0120, [(0x40, 2, 0), (0x4, 8, 0)], 0xffffffff, 0x0, 0x0, 0x0⟩]
def rowsLCL : List RegRow := rowsLCL0

def rowsACC0 : List RegRow := [
  ⟨.ACC_CFG, 0x40160000, [], 0xf07f0000, 0x0, 0x0, 0x0⟩,
  ⟨.ACC_STATUS, 0x40160004, [], 0x0, 0x0, 0x0, 0x0⟩,
  ⟨.ACC_CMD, 0x40160008, [], 0x0, 0x0, 0x0, 0xf000000f⟩,
  ⟨.ACC_POLL, 0x4016000c, [], 0xffffffff, 0x0, 0x0, 0x0⟩,
  ⟨.ACC_LF, 0x40160010, [(0x4, 4, 0)], 0xc0ffffff, 0x0, 0x0, 0x0⟩,
  ⟨.ACC_RNG_CFG, 0x40160020, [], 0xffffffff, 0x0, 0x0, 0x0⟩,
  ⟨.ACC_RNG_BOUND, 0x40160024, [], 0xff00ffff, 0x0, 0x0, 0x0⟩,
  ⟨.ACC_LAST, 0x40160028, [], 0x0, 0x0, 0x0, 0x0⟩,
  ⟨.ACC_LAST_RNG, 0x4016002c, [], 0x0, 0x0, 0x0, 0x0⟩,
  ⟨.ACC_SESS, 0x40160030, [(0x4, 2, 0)], 0x0, 0x0, 0x0, 0x0⟩,
  ⟨.ACC_SESS_TMO, 0x40160038, [], 0xffffffff, 0x0, 0x0, 0x0⟩,
  ⟨.ACC_PARKED, 0x4016003c, [], 0x0, 0x0, 0x0, 0x0⟩]
def rowsACC1 : List RegRow := [
  ⟨.ACC_EVEN, 0x40160040, [], 0xfe, 0x0, 0x0, 0x0⟩,
  ⟨.ACC_KEY_ID, 0x40160100, [(0x10, 8, 0)], 0xffffffff, 0x0, 0x0, 0x0⟩,
  ⟨.ACC_KEY_CTL, 0x40160104, [(0x10, 8, 0)], 0x80000000, 0x0, 0x0, 0x0⟩,
  ⟨.ACC_KEY_CNT, 0x40160108, [(0x10, 8, 0)], 0xffffffff, 0x0, 0x0, 0x0⟩]
def rowsACC : List RegRow := rowsACC0 ++ rowsACC1

def rowsMTR0 : List RegRow := [
  ⟨.MTR_STATUS, 0x40170000, [], 0xff00, 0x1, 0x0, 0x0⟩,
  ⟨.MTR_REQ, 0x40170004, [], 0x0, 0x0, 0x0, 0xf000ffff⟩,
  ⟨.MTR_NONCE_LO, 0x40170008, [], 0xffffffff, 0x0, 0x0, 0x0⟩,
  ⟨.MTR_NONCE_HI, 0x4017000c, [], 0xffffffff, 0x0, 0x0, 0x0⟩,
  ⟨.MTR_RESULT, 0x40170010, [], 0x0, 0x0, 0x0, 0x0⟩,
  ⟨.MTR_EVEN, 0x40170020, [], 0x3e, 0x0, 0x0, 0x0⟩,
  ⟨.MTR_RESP, 0x40170100, [(0x4, 73, 0)], 0x0, 0x0, 0x0, 0x0⟩]
def rowsMTR : List RegRow := rowsMTR0

def rowsCLK0 : List RegRow := [
  ⟨.CLK_STATUS, 0x40010000, [], 0x0, 0xfe, 0x0, 0x0⟩,
  ⟨.CLK_CORE, 0x40010004, [], 0x80000003, 0x0, 0x0, 0x0⟩,
  ⟨.CLK_CMD, 0x40010008, [], 0x0, 0x0, 0x0, 0xf0000000⟩,
  ⟨.CLK_MON, 0x4001000c, [], 0x0, 0x0, 0x0, 0x0⟩,
  ⟨.CLK_GATE, 0x40010010, [], 0xffffff3f, 0x0, 0x0, 0x0⟩,
  ⟨.CLK_GATE_RESULT, 0x40010014, [], 0x0, 0x0, 0x0, 0x0⟩,
  ⟨.CLK_CKOUT, 0x40010018, [], 0xc7000fff, 0x0, 0x0, 0x0⟩]
def rowsCLK : List RegRow := rowsCLK0

def rowsPWR0 : List RegRow := [
  ⟨.PWR_STATUS, 0x40020000, [], 0x0, 0x0, 0x0, 0x0⟩,
  ⟨.PWR_CMD, 0x40020004, [], 0x0, 0x0, 0x0, 0xf00000ff⟩,
  ⟨.PWR_CMD_RESULT, 0x40020008, [], 0x0, 0x0, 0x0, 0x0⟩,
  ⟨.PWR_HS, 0x4002000c, [], 0x0, 0x0, 0x0, 0x0⟩,
  ⟨.PWR_CFG, 0x40020010, [], 0xf00001f, 0x0, 0x0, 0x0⟩,
  ⟨.PWR_RSTCAUSE, 0x40020014, [], 0x0, 0x3f, 0x0, 0x0⟩,
  ⟨.PWR_WAKESRC, 0x40020018, [], 0xffff, 0x0, 0x0, 0x0⟩,
  ⟨.PWR_WAKETS_LO, 0x4002001c, [], 0x0, 0x0, 0x0, 0x0⟩,
  ⟨.PWR_WAKETS_HI, 0x40020020, [], 0x0, 0x0, 0x0, 0x0⟩,
  ⟨.PWR_WAKEMASK, 0x40020024, [], 0x0, 0x0, 0x0, 0x0⟩,
  ⟨.PWR_CYCLES, 0x40020028, [], 0x0, 0x0, 0x0, 0x0⟩]
def rowsPWR : List RegRow := rowsPWR0

def rowsFLT0 : List RegRow := [
  ⟨.FLT_STATUS, 0x40030000, [], 0x0, 0x0, 0x0, 0x0⟩,
  ⟨.FLT_CFG, 0x40030004, [], 0xff, 0x0, 0x80000000, 0x0⟩,
  ⟨.FLT_CMD, 0x40030008, [], 0x0, 0x0, 0x0, 0xf0000000⟩,
  ⟨.FLT_CMD_RESULT, 0x4003000c, [], 0x0, 0x0, 0x0, 0x0⟩,
  ⟨.FLT_NEWEST, 0x40030010, [], 0x0, 0x0, 0x0, 0x0⟩,
  ⟨.FLT_ALIVE, 0x40030014, [], 0x80ffffff, 0x0, 0x0, 0x0⟩,
  ⟨.FLT_KICK, 0x40030018, [], 0x0, 0x0, 0x0, 0xff⟩,
  ⟨.FLT_SWRAISE, 0x4003001c, [], 0x0, 0x0, 0x0, 0x3f⟩,
  ⟨.FLT_SRC, 0x40030400, [(0x4, 256, 0)], 0xffff, 0x0, 0x7000000, 0x0⟩,
  ⟨.FLT_REC_W, 0x40031000, [(0x40, 32, 0), (0x4, 16, 0)], 0x0, 0x0, 0x0, 0x0⟩]
def rowsFLT : List RegRow := rowsFLT0

def rowsMON0 : List RegRow := [
  ⟨.MON_TEMP, 0x40040000, [(0x4, 14, 0)], 0x3ff0000, 0x8000, 0x0, 0x0⟩,
  ⟨.MON_RAIL, 0x40040100, [(0x4, 7, 0)], 0x0, 0x30000000, 0x0, 0x0⟩,
  ⟨.MON_PM, 0x40040200, [(0x4, 4, 0)], 0x0, 0x40000000, 0x0, 0x0⟩]
def rowsMON : List RegRow := rowsMON0

def rowsEVR0 : List RegRow := [
  ⟨.EVR_STATUS, 0x40080000, [], 0x0, 0x0, 0x0, 0x0⟩,
  ⟨.EVR_CMD, 0x40080004, [], 0x0, 0x0, 0x0, 0xf0000000⟩,
  ⟨.EVR_NEWEST, 0x40080008, [], 0x0, 0x0, 0x0, 0x0⟩,
  ⟨.EVR_FLUSHED, 0x4008000c, [], 0x0, 0x0, 0x0, 0x0⟩,
  ⟨.EVR_PAGE, 0x40080010, [], 0x0, 0x0, 0x0, 0x0⟩,
  ⟨.EVR_LOST, 0x40080014, [], 0xffff, 0x0, 0x0, 0x0⟩,
  ⟨.EVR_CAL_LO, 0x40080018, [], 0xffffffff, 0x0, 0x0, 0x0⟩,
  ⟨.EVR_CAL_HI, 0x4008001c, [], 0x0, 0x0, 0x0, 0x8000ffff⟩,
  ⟨.EVR_OPSEC, 0x40080020, [], 0x0, 0x0, 0x0, 0x0⟩,
  ⟨.EVR_UTCOFF, 0x40080024, [], 0x0, 0x0, 0x0, 0x0⟩,
  ⟨.EVR_PADDR, 0x40080100, [], 0xffffffff, 0x0, 0x0, 0x0⟩,
  ⟨.EVR_POST, 0x40080104, [], 0x0, 0x0, 0x0, 0xff00ff⟩]
def rowsEVR1 : List RegRow := [
  ⟨.EVR_PRES, 0x40080108, [], 0x0, 0x0, 0x0, 0x0⟩,
  ⟨.EVR_PSEQ, 0x4008010c, [], 0x0, 0x0, 0x0, 0x0⟩]
def rowsEVR : List RegRow := rowsEVR0 ++ rowsEVR1

def rowsBIST0 : List RegRow := [
  ⟨.BIST_VERDICT, 0x400a0000, [], 0x0, 0x0, 0x0, 0x0⟩,
  ⟨.BIST_VCYCLES, 0x400a0004, [], 0x0, 0x0, 0x0, 0x0⟩,
  ⟨.BIST_PREV, 0x400a0008, [], 0x0, 0x0, 0x0, 0x0⟩,
  ⟨.BIST_CFG, 0x400a000c, [], 0xc0000000, 0x0, 0x0, 0x0⟩,
  ⟨.BIST_REPAIR, 0x400a0010, [], 0x0, 0x0, 0x0, 0x0⟩,
  ⟨.BIST_FAIL_ADDR, 0x400a0100, [(0x8, 16, 0)], 0x0, 0x0, 0x0, 0x0⟩,
  ⟨.BIST_FAIL_INFO, 0x400a0104, [(0x8, 16, 0)], 0x0, 0x0, 0x0, 0x0⟩]
def rowsBIST : List RegRow := rowsBIST0

def rowsUPD0 : List RegRow := [
  ⟨.UPD_STATUS, 0x40090000, [], 0x0, 0x0, 0x0, 0x0⟩,
  ⟨.UPD_CMD, 0x40090004, [], 0x0, 0x0, 0x0, 0xf0000fff⟩,
  ⟨.UPD_CMD_RESULT, 0x40090008, [], 0x0, 0x0, 0x0, 0x0⟩,
  ⟨.UPD_ARG, 0x4009000c, [], 0xffffffff, 0x0, 0x0, 0x0⟩,
  ⟨.UPD_CFG, 0x40090010, [], 0xffff00ff, 0x0, 0x0, 0x0⟩,
  ⟨.UPD_STAGE, 0x40090014, [], 0x0, 0x0, 0x0, 0x0⟩,
  ⟨.UPD_ROLL, 0x40090100, [(0x4, 32, 0)], 0x0, 0x0, 0x0, 0x0⟩,
  ⟨.UPD_SETADDR, 0x40090200, [], 0xffffffff, 0x0, 0x0, 0x0⟩,
  ⟨.UPD_SETCMD, 0x40090204, [], 0x0, 0x0, 0x0, 0x3fff01ff⟩,
  ⟨.UPD_SETRES, 0x40090208, [], 0x0, 0x0, 0x0, 0x0⟩]
def rowsUPD : List RegRow := rowsUPD0


end Sys2Proof.Machine
end

