-- ==== Sys2Proof/Machine/RegLookup.lean ====
section
/-! DEFINITION. From a data-space address to a register of the register maps: the row of the table that lists it, its indices, and the
register with its reset value. -/
namespace Sys2Proof.Machine
open Sys2Proof

/-- The indices of an offset from a row's first element; none where the offset is not that of an element. -/
def indexOf : List (Nat × Nat × Nat) → Nat → Option (List Nat)
  | [], off => if off = 0 then some [] else none
  | (stride, n, first) :: ds, off =>
    let i := off / stride
    if i < n then (indexOf ds (off - i * stride)).map ((first + i) :: ·) else none

/-- The row of a list that lists an address, and the indices. -/
def findRow (a : Nat) (l : List RegRow) : Option (RegRow × List Nat) :=
  l.findSome? fun r => if r.base ≤ a then (indexOf r.dims (a - r.base)).map fun ix => (r, ix) else none

/-- The block bit of an address (R22; chapter 06, capability set, word 0x00); TSK has none and stands as 21. -/
def blockAt (a : Nat) : Option Nat :=
  let b := a / 0x10000
  if b = 0x4000 then some 0 else if b = 0x4001 then some 1 else if b = 0x4002 then some 2 else if b = 0x4003 then some 3
  else if b = 0x4004 then some 4 else if b = 0x4005 then some 21 else if b = 0x4006 then some 5 else if b = 0x4007 then some 6
  else if b = 0x4008 then some 7 else if b = 0x4009 then some 8 else if b = 0x400A then some 9
  else if 0x4010 ≤ b ∧ b < 0x4014 then some 10 else if b = 0x4014 then some 11 else if b = 0x4015 then some 12
  else if b = 0x4016 then some 13 else if b = 0x4017 then some 14 else if 0x4020 ≤ b ∧ b < 0x402C then some 15
  else if 0x4030 ≤ b ∧ b < 0x4038 then some 16 else if b = 0x4038 then some 17 else if b = 0x4039 then some 18
  else if b = 0x403A then some 19 else if b = 0x403B then some 20 else none

/-- The rows of a block. -/
def rowsOf (blk : Nat) : List RegRow :=
  match blk with
  | 0 => rowsSYS
  | 1 => rowsCLK
  | 2 => rowsPWR
  | 3 => rowsFLT
  | 4 => rowsMON
  | 5 => rowsTLN
  | 6 => rowsLDG
  | 7 => rowsEVR
  | 8 => rowsUPD
  | 9 => rowsBIST
  | 10 => rowsPSW
  | 11 => rowsLED
  | 12 => rowsDIN
  | 13 => rowsACC
  | 14 => rowsMTR
  | 15 => rowsCAN
  | 16 => rowsLIN
  | 17 => rowsETH
  | 18 => rowsT1S
  | 19 => rowsNMG
  | 20 => rowsLCL
  | 21 => rowsTSK
  | _ => []

/-- A register by its identifier and its indices. -/
def rgOf (id : RegId) (ix : List Nat) : Rg :=
  let i := ix.getD 0 0
  let j := ix.getD 1 0
  let k := ix.getD 2 0
  match id with
  | .SYS_ID => Reg.SYS_ID
  | .SYS_REV => Reg.SYS_REV
  | .SYS_SERIAL_LO => Reg.SYS_SERIAL_LO
  | .SYS_SERIAL_HI => Reg.SYS_SERIAL_HI
  | .SYS_LINK_CMD => Reg.SYS_LINK_CMD
  | .SYS_LINK_STATUS => Reg.SYS_LINK_STATUS
  | .SYS_WRD_BASE => Reg.SYS_WRD_BASE
  | .SYS_OUT_CFG => Reg.SYS_OUT_CFG
  | .SYS_OUT_CMD => Reg.SYS_OUT_CMD
  | .SYS_OUT_CMD_RESULT => Reg.SYS_OUT_CMD_RESULT
  | .SYS_OUT_STATUS => Reg.SYS_OUT_STATUS
  | .TSK_STATUS => Reg.TSK_STATUS
  | .TSK_PAIR_STATE => Reg.TSK_PAIR_STATE
  | .TSK_CMD => Reg.TSK_CMD
  | .TSK_CMD_RESULT => Reg.TSK_CMD_RESULT
  | .TSK_POST => Reg.TSK_POST
  | .TSK_UNROUTED => Reg.TSK_UNROUTED
  | .TSK_DISP_MAX => Reg.TSK_DISP_MAX
  | .TSK_SELF_ID => Reg.TSK_SELF_ID
  | .TSK_SELF_IN => Reg.TSK_SELF_IN i
  | .TSK_ROUTE => Reg.TSK_ROUTE i
  | .TSK_CAPSET => ⟨(Reg.TSK_CAPSET i).addr + 4 * j, 0⟩
  | .TSK_CTX_CFG => Reg.TSK_CTX_CFG i
  | .TSK_CTX_STATE => Reg.TSK_CTX_STATE i
  | .TSK_CTX_INMODE => Reg.TSK_CTX_INMODE i
  | .TSK_CTX_INOVF => Reg.TSK_CTX_INOVF i
  | .TSK_CTX_VIOL => Reg.TSK_CTX_VIOL i
  | .TSK_CTX_VADDR => Reg.TSK_CTX_VADDR i
  | .TSK_CTX_CODEWIN => Reg.TSK_CTX_CODEWIN i
  | .TSK_CTX_ENTRY => Reg.TSK_CTX_ENTRY i
  | .TSK_CTX_WIN_BASE => Reg.TSK_CTX_WIN_BASE i j
  | .TSK_CTX_WIN_LIMIT => Reg.TSK_CTX_WIN_LIMIT i j
  | .TLN_STATUS => Reg.TLN_STATUS
  | .TLN_FULLCNT => Reg.TLN_FULLCNT
  | .TLN_RESERVE => Reg.TLN_RESERVE
  | .TLN_LAG_MAX => Reg.TLN_LAG_MAX
  | .TLN_WAKE_LEAD => Reg.TLN_WAKE_LEAD
  | .TLN_PEEK_SEL => Reg.TLN_PEEK_SEL
  | .TLN_PEEK_META => Reg.TLN_PEEK_META
  | .TLN_PEEK_W => Reg.TLN_PEEK_W i
  | .TLN_TQUOTA => Reg.TLN_TQUOTA i
  | .TLN_AX_CFG => Reg.TLN_AX_CFG i
  | .TLN_AX_POSL => Reg.TLN_AX_POSL i
  | .TLN_AX_POSH => Reg.TLN_AX_POSH i
  | .TLN_AX_SETL => Reg.TLN_AX_SETL i
  | .TLN_AX_SETH => Reg.TLN_AX_SETH i
  | .TLN_AX_STATUS => Reg.TLN_AX_STATUS i
  | .TLN_AX_SCALE => Reg.TLN_AX_SCALE i
  | .TLN_AX_LATE => Reg.TLN_AX_LATE i
  | .TLN_A0_CFG => Reg.TLN_A0_CFG
  | .TLN_A0_STATUS => Reg.TLN_A0_STATUS
  | .TLN_A0_OFFSET => Reg.TLN_A0_OFFSET
  | .TLN_A0_OFFSET_US => Reg.TLN_A0_OFFSET_US
  | .TLN_A0_RATE => Reg.TLN_A0_RATE
  | .TLN_A0_CMD => Reg.TLN_A0_CMD
  | .TLN_A0_STEP => Reg.TLN_A0_STEP
  | .TLN_TPULSE_CFG => Reg.TLN_TPULSE_CFG
  | .TLN_TPULSE_COUNT => Reg.TLN_TPULSE_COUNT
  | .TLN_ROS_CFG => Reg.TLN_ROS_CFG i
  | .TLN_ROS_PERIOD => Reg.TLN_ROS_PERIOD i
  | .TLN_ROS_OVL => Reg.TLN_ROS_OVL i
  | .TLN_ROS_BASEL => Reg.TLN_ROS_BASEL i
  | .TLN_ROS_BASEH => Reg.TLN_ROS_BASEH i
  | .TLN_ROS_STATUS => Reg.TLN_ROS_STATUS i
  | .TLN_ROS_MEMBERS => Reg.TLN_ROS_MEMBERS i
  | .LDG_STATUS => Reg.LDG_STATUS
  | .LDG_CTRL => Reg.LDG_CTRL
  | .LDG_CMD => Reg.LDG_CMD
  | .LDG_CMD_RESULT => Reg.LDG_CMD_RESULT
  | .LDG_COUNT_ADMIT => Reg.LDG_COUNT_ADMIT
  | .LDG_COUNT_REFUSE => Reg.LDG_COUNT_REFUSE
  | .LDG_COUNT_DROP => Reg.LDG_COUNT_DROP
  | .LDG_JOURNAL => Reg.LDG_JOURNAL
  | .LDG_WM_SEL => Reg.LDG_WM_SEL
  | .LDG_WM_SEQ => Reg.LDG_WM_SEQ
  | .LDG_SESS_ID => Reg.LDG_SESS_ID i
  | .LDG_SESS_CFG => Reg.LDG_SESS_CFG i
  | .LDG_SELF_TKT => Reg.LDG_SELF_TKT
  | .LDG_SELF_SEQ => Reg.LDG_SELF_SEQ
  | .LDG_SELF_PAY => Reg.LDG_SELF_PAY i
  | .LDG_TRK_CFG => Reg.LDG_TRK_CFG i
  | .LDG_TRK_OWNERS => Reg.LDG_TRK_OWNERS i
  | .LDG_TRK_NEXT => Reg.LDG_TRK_NEXT i
  | .LDG_TRK_FLOOR => Reg.LDG_TRK_FLOOR i
  | .LDG_TKT => Reg.LDG_TKT i
  | .PSW_CH_CMD => Reg.PSW_CH_CMD i
  | .PSW_CH_STATE => Reg.PSW_CH_STATE i
  | .PSW_CH_ACK => Reg.PSW_CH_ACK i
  | .PSW_CH_ACKSEQ => Reg.PSW_CH_ACKSEQ i
  | .PSW_CH_CTRL => Reg.PSW_CH_CTRL i
  | .PSW_CH_PWM => Reg.PSW_CH_PWM i
  | .PSW_CH_PROT => Reg.PSW_CH_PROT i
  | .PSW_CH_WIRE => Reg.PSW_CH_WIRE i
  | .PSW_CH_SAFE => Reg.PSW_CH_SAFE i
  | .PSW_CH_DIAG => Reg.PSW_CH_DIAG i
  | .PSW_CH_SENSE => Reg.PSW_CH_SENSE i
  | .PSW_CH_TEMP => Reg.PSW_CH_TEMP i
  | .PSW_CH_STATUS => Reg.PSW_CH_STATUS i
  | .PSW_DIE_STATE => Reg.PSW_DIE_STATE i
  | .PSW_DIE_CFG => Reg.PSW_DIE_CFG i
  | .PSW_DIE_CMD => Reg.PSW_DIE_CMD i
  | .PSW_DIE_VBAT => Reg.PSW_DIE_VBAT i
  | .PSW_DIE_PAR => Reg.PSW_DIE_PAR i
  | .PSW_BUD_CFG => Reg.PSW_BUD_CFG
  | .PSW_BUD_STATUS => Reg.PSW_BUD_STATUS
  | .PSW_BUD => Reg.PSW_BUD i
  | .LED_K_SET => Reg.LED_K_SET i
  | .LED_K_CFG => Reg.LED_K_CFG i
  | .LED_K_STATUS => Reg.LED_K_STATUS i
  | .LED_DIE_FREQ => Reg.LED_DIE_FREQ i
  | .LED_DIE_DERATE => Reg.LED_DIE_DERATE i
  | .LED_P_CMD => Reg.LED_P_CMD i
  | .LED_P_ACK => Reg.LED_P_ACK i
  | .LED_P_ACKSEQ => Reg.LED_P_ACKSEQ i
  | .LED_P_STATUS => Reg.LED_P_STATUS i
  | .LED_P_EVEN => Reg.LED_P_EVEN i
  | .LED_M_CFG => Reg.LED_M_CFG i
  | .LED_F_CFG => Reg.LED_F_CFG i
  | .LED_F_PAGE => Reg.LED_F_PAGE i
  | .LED_S_CFG => Reg.LED_S_CFG i
  | .LED_S_LEN => Reg.LED_S_LEN i
  | .LED_S_RB => Reg.LED_S_RB i
  | .DIN_LEVEL => Reg.DIN_LEVEL i
  | .DIN_FAULT => Reg.DIN_FAULT i
  | .DIN_STATUS => Reg.DIN_STATUS
  | .DIN_ADCGO => Reg.DIN_ADCGO
  | .DIN_IN_CFG => Reg.DIN_IN_CFG i
  | .DIN_IN_WET => Reg.DIN_IN_WET i
  | .DIN_IN_DB => Reg.DIN_IN_DB i
  | .DIN_IN_PARK => Reg.DIN_IN_PARK i
  | .DIN_IN_ADC => Reg.DIN_IN_ADC i
  | .DIN_IN_STATUS => Reg.DIN_IN_STATUS i
  | .CAN_CTRL => Reg.CAN_CTRL i
  | .CAN_CMD => Reg.CAN_CMD i
  | .CAN_CMD_RESULT => Reg.CAN_CMD_RESULT i
  | .CAN_STATUS => Reg.CAN_STATUS i
  | .CAN_ERRCNT => Reg.CAN_ERRCNT i
  | .CAN_NBT => Reg.CAN_NBT i
  | .CAN_DBT => Reg.CAN_DBT i
  | .CAN_RAM => Reg.CAN_RAM i j
  | .CAN_RAM_TT => Reg.CAN_RAM_TT i
  | .CAN_PL_STATUS => Reg.CAN_PL_STATUS i j
  | .CAN_PL_ACK => Reg.CAN_PL_ACK i j
  | .CAN_OBJ_STATUS => Reg.CAN_OBJ_STATUS i
  | .CAN_OBJ_ACK => Reg.CAN_OBJ_ACK i
  | .CAN_TXREQ => Reg.CAN_TXREQ i
  | .CAN_TXCANCEL => Reg.CAN_TXCANCEL i
  | .CAN_TXACK => Reg.CAN_TXACK i
  | .CAN_TXACKSEQ => Reg.CAN_TXACKSEQ i
  | .CAN_TXPEND => Reg.CAN_TXPEND i j
  | .CAN_TXDONE => Reg.CAN_TXDONE i j
  | .CAN_DUP_CFG => Reg.CAN_DUP_CFG i
  | .CAN_DUP_ID => Reg.CAN_DUP_ID i
  | .CAN_DUP_CNT => Reg.CAN_DUP_CNT i
  | .CAN_TT_CFG => Reg.CAN_TT_CFG i
  | .CAN_TT_STATUS => Reg.CAN_TT_STATUS i
  | .CAN_EVEN => Reg.CAN_EVEN i
  | .CAN_FLT_ID => Reg.CAN_FLT_ID i j
  | .CAN_FLT_MASK => Reg.CAN_FLT_MASK i j
  | .NMG_AWAKE => Reg.NMG_AWAKE
  | .NMG_BUS_CFG => Reg.NMG_BUS_CFG i
  | .NMG_BUS_TIME => Reg.NMG_BUS_TIME i
  | .NMG_BUS_KAID => Reg.NMG_BUS_KAID i
  | .NMG_BUS_KAMASK => Reg.NMG_BUS_KAMASK i
  | .NMG_BUS_KATX => Reg.NMG_BUS_KATX i
  | .NMG_BUS_NEED => Reg.NMG_BUS_NEED i
  | .NMG_BUS_STATE => Reg.NMG_BUS_STATE i
  | .ETH_CFG => Reg.ETH_CFG
  | .ETH_IP4 => Reg.ETH_IP4
  | .ETH_IP6 => Reg.ETH_IP6 i
  | .ETH_P_CTRL => Reg.ETH_P_CTRL i
  | .ETH_P_STATUS => Reg.ETH_P_STATUS i
  | .ETH_P_COUNT => Reg.ETH_P_COUNT i
  | .T1S_S_CTRL => Reg.T1S_S_CTRL i
  | .T1S_S_STATUS => Reg.T1S_S_STATUS i
  | .T1S_S_CMD => Reg.T1S_S_CMD i
  | .LIN_CTRL => Reg.LIN_CTRL i
  | .LIN_CMD => Reg.LIN_CMD i
  | .LIN_STATUS => Reg.LIN_STATUS i
  | .LIN_FR => Reg.LIN_FR i j
  | .LIN_FR_D => Reg.LIN_FR_D i j k
  | .LIN_SCH => Reg.LIN_SCH i j
  | .LCL_SPI => Reg.LCL_SPI
  | .LCL_I2C_CFG => Reg.LCL_I2C_CFG i
  | .LCL_I2C_CMD => Reg.LCL_I2C_CMD i
  | .LCL_I2C_STATUS => Reg.LCL_I2C_STATUS i
  | .LCL_I2C_DATA => Reg.LCL_I2C_DATA i j
  | .ACC_CFG => Reg.ACC_CFG
  | .ACC_STATUS => Reg.ACC_STATUS
  | .ACC_CMD => Reg.ACC_CMD
  | .ACC_POLL => Reg.ACC_POLL
  | .ACC_LF => Reg.ACC_LF i
  | .ACC_RNG_CFG => Reg.ACC_RNG_CFG
  | .ACC_RNG_BOUND => Reg.ACC_RNG_BOUND
  | .ACC_LAST => Reg.ACC_LAST
  | .ACC_LAST_RNG => Reg.ACC_LAST_RNG
  | .ACC_SESS => Reg.ACC_SESS i
  | .ACC_SESS_TMO => Reg.ACC_SESS_TMO
  | .ACC_PARKED => Reg.ACC_PARKED
  | .ACC_EVEN => Reg.ACC_EVEN
  | .ACC_KEY_ID => Reg.ACC_KEY_ID i
  | .ACC_KEY_CTL => Reg.ACC_KEY_CTL i
  | .ACC_KEY_CNT => Reg.ACC_KEY_CNT i
  | .MTR_STATUS => Reg.MTR_STATUS
  | .MTR_REQ => Reg.MTR_REQ
  | .MTR_NONCE_LO => Reg.MTR_NONCE_LO
  | .MTR_NONCE_HI => Reg.MTR_NONCE_HI
  | .MTR_RESULT => Reg.MTR_RESULT
  | .MTR_EVEN => Reg.MTR_EVEN
  | .MTR_RESP => Reg.MTR_RESP i
  | .CLK_STATUS => Reg.CLK_STATUS
  | .CLK_CORE => Reg.CLK_CORE
  | .CLK_CMD => Reg.CLK_CMD
  | .CLK_MON => Reg.CLK_MON
  | .CLK_GATE => Reg.CLK_GATE
  | .CLK_GATE_RESULT => Reg.CLK_GATE_RESULT
  | .CLK_CKOUT => Reg.CLK_CKOUT
  | .PWR_STATUS => Reg.PWR_STATUS
  | .PWR_CMD => Reg.PWR_CMD
  | .PWR_CMD_RESULT => Reg.PWR_CMD_RESULT
  | .PWR_HS => Reg.PWR_HS
  | .PWR_CFG => Reg.PWR_CFG
  | .PWR_RSTCAUSE => Reg.PWR_RSTCAUSE
  | .PWR_WAKESRC => Reg.PWR_WAKESRC
  | .PWR_WAKETS_LO => Reg.PWR_WAKETS_LO
  | .PWR_WAKETS_HI => Reg.PWR_WAKETS_HI
  | .PWR_WAKEMASK => Reg.PWR_WAKEMASK
  | .PWR_CYCLES => Reg.PWR_CYCLES
  | .FLT_STATUS => Reg.FLT_STATUS
  | .FLT_CFG => Reg.FLT_CFG
  | .FLT_CMD => Reg.FLT_CMD
  | .FLT_CMD_RESULT => Reg.FLT_CMD_RESULT
  | .FLT_NEWEST => Reg.FLT_NEWEST
  | .FLT_ALIVE => Reg.FLT_ALIVE
  | .FLT_KICK => Reg.FLT_KICK
  | .FLT_SWRAISE => Reg.FLT_SWRAISE
  | .FLT_SRC => Reg.FLT_SRC i
  | .FLT_REC_W => Reg.FLT_REC_W i j
  | .MON_TEMP => Reg.MON_TEMP i
  | .MON_RAIL => Reg.MON_RAIL i
  | .MON_PM => Reg.MON_PM i
  | .EVR_STATUS => Reg.EVR_STATUS
  | .EVR_CMD => Reg.EVR_CMD
  | .EVR_NEWEST => Reg.EVR_NEWEST
  | .EVR_FLUSHED => Reg.EVR_FLUSHED
  | .EVR_PAGE => Reg.EVR_PAGE
  | .EVR_LOST => Reg.EVR_LOST
  | .EVR_CAL_LO => Reg.EVR_CAL_LO
  | .EVR_CAL_HI => Reg.EVR_CAL_HI
  | .EVR_OPSEC => Reg.EVR_OPSEC
  | .EVR_UTCOFF => Reg.EVR_UTCOFF
  | .EVR_PADDR => Reg.EVR_PADDR
  | .EVR_POST => Reg.EVR_POST
  | .EVR_PRES => Reg.EVR_PRES
  | .EVR_PSEQ => Reg.EVR_PSEQ
  | .BIST_VERDICT => Reg.BIST_VERDICT
  | .BIST_VCYCLES => Reg.BIST_VCYCLES
  | .BIST_PREV => Reg.BIST_PREV
  | .BIST_CFG => Reg.BIST_CFG
  | .BIST_REPAIR => Reg.BIST_REPAIR
  | .BIST_FAIL_ADDR => Reg.BIST_FAIL_ADDR i
  | .BIST_FAIL_INFO => Reg.BIST_FAIL_INFO i
  | .UPD_STATUS => Reg.UPD_STATUS
  | .UPD_CMD => Reg.UPD_CMD
  | .UPD_CMD_RESULT => Reg.UPD_CMD_RESULT
  | .UPD_ARG => Reg.UPD_ARG
  | .UPD_CFG => Reg.UPD_CFG
  | .UPD_STAGE => Reg.UPD_STAGE
  | .UPD_ROLL => Reg.UPD_ROLL i
  | .UPD_SETADDR => Reg.UPD_SETADDR
  | .UPD_SETCMD => Reg.UPD_SETCMD
  | .UPD_SETRES => Reg.UPD_SETRES

end Sys2Proof.Machine
end

