-- ==== Sys2Proof/Machine/Ports.lean ====
section
/-! DEFINITION. Port accesses to the data space from 0x1000_0000 upwards (R6 to R14, R22 to R25, R92, R110, R145, R163, R164, R542): the grant of an
access, what a read returns, what a write does. -/
namespace Sys2Proof.Machine
open Sys2Proof Reg

/-! ## Grants -/

/-- The power die that keeps a register, for the registers that behave as R251 states (R251, R279, R306). -/
def dieHeld (id : RegId) (i : Nat) : Option Nat :=
  match id with
  | .PSW_CH_CMD | .PSW_CH_STATE | .PSW_CH_ACK | .PSW_CH_ACKSEQ | .PSW_CH_CTRL | .PSW_CH_PWM | .PSW_CH_PROT | .PSW_CH_WIRE | .PSW_CH_SAFE
  | .PSW_CH_DIAG | .PSW_CH_SENSE | .PSW_CH_TEMP | .PSW_CH_STATUS => some (dieOf i)
  | .PSW_DIE_STATE | .PSW_DIE_CFG | .PSW_DIE_CMD | .PSW_DIE_VBAT | .PSW_DIE_PAR => some i
  | .LED_K_SET | .LED_K_CFG | .LED_K_STATUS => some (sinkDie i)
  | .LED_DIE_FREQ | .LED_DIE_DERATE => some i
  | .LED_M_CFG => some i
  | .DIN_IN_CFG | .DIN_IN_WET | .DIN_IN_DB | .DIN_IN_PARK | .DIN_IN_ADC | .DIN_IN_STATUS => some (dinDie i)
  | _ => none

/-- Whether context `c` may read (`wr` false) or write a register of block `blk` whose block bit it is granted: the further grants and
writers that the block's chapter names. -/
def regOk (s : State) (c blk : Nat) (id : RegId) (i : Nat) (wr : Bool) : Bool :=
  let zero : Bool := c == 0
  match blk with
  | 0 => if id = .SYS_LINK_CMD then zero || ! wr
    else if [.SYS_WRD_BASE, .SYS_OUT_CFG, .SYS_OUT_CMD, .SYS_OUT_CMD_RESULT].contains id then zero else true
  | 1 => zero || ! wr
  | 2 => if id = .PWR_CMD ∨ id = .PWR_CFG then zero else true
  | 3 => if id = .FLT_STATUS ∨ id = .FLT_SWRAISE then true else zero
  | 4 => if id = .MON_TEMP then zero || ! wr else true
  | 5 =>
    if id = .TLN_AX_POSL ∨ id = .TLN_AX_POSH then s.axisOk c i
    else if id = .TLN_AX_STATUS ∨ id = .TLN_AX_LATE then s.axisOk c i && (zero || ! wr)
    else zero
  | 6 =>
    if [.LDG_SELF_TKT, .LDG_SELF_SEQ, .LDG_SELF_PAY].contains id then
      (match currentTicket s c with | some (_, t) => s.trackOk c t.track | none => true)
    else zero
  | 7 => if [.EVR_CMD, .EVR_CAL_LO, .EVR_CAL_HI].contains id then zero || ! wr else true
  | 8 => if [.UPD_CMD, .UPD_ARG, .UPD_CFG].contains id then zero || ! wr else true
  | 9 => if id = .BIST_CFG then zero || ! wr else true
  | 10 =>
    if [.PSW_DIE_STATE, .PSW_DIE_CFG, .PSW_DIE_CMD, .PSW_DIE_VBAT, .PSW_DIE_PAR, .PSW_BUD_CFG, .PSW_BUD_STATUS, .PSW_BUD].contains id then zero
    else s.chanOk c i && (if [.PSW_CH_PROT, .PSW_CH_WIRE, .PSW_CH_SAFE].contains id then zero || ! wr else true)
  | 11 =>
    if id = .LED_DIE_FREQ ∨ id = .LED_DIE_DERATE then zero
    else if [.LED_K_SET, .LED_K_CFG, .LED_K_STATUS].contains id then s.sinkOk c i && (id != .LED_K_CFG || zero || ! wr)
    else if id = .LED_M_CFG then s.portOk c i && (zero || ! wr)
    else if id = .LED_F_CFG ∨ id = .LED_F_PAGE then s.portOk c (2 + i)
    else if [.LED_S_CFG, .LED_S_LEN, .LED_S_RB].contains id then s.portOk c (4 + i)
    else s.portOk c i
  | 12 => if [.DIN_IN_CFG, .DIN_IN_WET, .DIN_IN_DB, .DIN_IN_PARK].contains id then zero || ! wr else true
  | 13 =>
    if [.ACC_STATUS, .ACC_LAST, .ACC_LAST_RNG, .ACC_SESS].contains id then zero || ! wr
    else if id = .ACC_CMD then true else zero
  | 15 =>
    s.canOk c i && (if [.CAN_CTRL, .CAN_CMD, .CAN_NBT, .CAN_DBT, .CAN_RAM, .CAN_RAM_TT, .CAN_TT_CFG, .CAN_DUP_CFG, .CAN_EVEN, .CAN_FLT_ID,
      .CAN_FLT_MASK].contains id then zero || ! wr else true)
  | 16 => s.linOk c i && (if [.LIN_CTRL, .LIN_SCH].contains id then zero || ! wr else true)
  | 17 => zero || ! wr
  | 18 => s.t1sOk c i && (if id = .T1S_S_CTRL then zero || ! wr else true)
  | 19 =>
    if id = .NMG_BUS_NEED ∨ id = .NMG_BUS_STATE then s.capBit c 7 i else zero || ! wr
  | 20 => if id = .LCL_SPI then zero || ! wr else true
  | _ => true

/-- What an address of a peripheral block names. -/
inductive PortAt where
  /-- a listed register, its row and indices -/
  | reg (row : RegRow) (ix : List Nat)
  /-- word `w` of the message RAM of a CAN controller (R328) -/
  | canRam (u w : Nat)
  /-- word `i` of the aperture of frame port `n` (R289) -/
  | aperture (n i : Nat)
  /-- the rings and transmit buffers of a 10BASE-T1S segment, by offset in the block (R377, R378) -/
  | t1sMem (n o : Nat)
  /-- an offset at which nothing is listed (R10) -/
  | nothing
deriving DecidableEq, Repr

/-- What an aligned address in block `blk` names. -/
def portAt (blk a : Nat) : PortAt :=
  let o := a % 0x10000
  if blk = 15 ∧ 0x8000 ≤ o then .canRam (a / 0x10000 - 0x4020) ((o - 0x8000) / 4)
  else if blk = 11 ∧ 0x8000 ≤ o then .aperture ((o - 0x8000) / 0x4000) (o % 0x4000 / 4)
  else if blk = 18 ∧ 0x1000 ≤ o then .t1sMem (if o < 0xD000 then (o - 0x1000) / 0x6000 else (o - 0xD000) / 0x1800) o
  else match findRow a (rowsOf blk) with | some (r, ix) => .reg r ix | none => .nothing

/-- Whether context `c` is granted what an address of block `blk` names (R163, R164, and the chapters). -/
def namedOk (s : State) (c blk : Nat) (p : PortAt) (wr : Bool) : Bool :=
  match p with
  | .reg r ix => regOk s c blk r.id (ix.getD 0 0) wr
  | .canRam u _ => s.canOk c u
  | .aperture n _ => s.portOk c (2 + n)
  | .t1sMem n _ => s.t1sOk c n
  | .nothing => true

/-- The kind of violation of a port access to an aligned address, if it is one (R12, R13, R92, R163, R164, R542); none at MTR without a meter
(R429). -/
def portDenied (s : State) (c a : Nat) (wr : Bool) : Option Nat :=
  if 0x10000000 ≤ a ∧ a < 0x10C00000 then if wr then some 5 else if s.covered c a 4 false then none else some 2
  else if 0x20000000 ≤ a ∧ a < 0x20020000 then
    if wr then (if c = 0 then none else some 5) else if s.covered c a 4 false then none else some 2
  else
    match blockAt a with
    | none => some 2
    | some 21 => if c = 0 ∨ (0x100 ≤ a % 0x10000 ∧ a % 0x10000 < 0x120) then none else some 3
    | some b => if (b = 14 ∧ ! Config.meterFitted) ∨ s.blockOk c b && namedOk s c b (portAt b a) wr then none else some 3

/-! ## MRAM as the window shows it (R23 to R25) -/

/-- A word of the MRAM window by its offset (R23): the journal as its records, the System region as a free value (its layout is not stated) but
for the key store, which reads as zero (R24), every other region as its bytes. -/
def mramWord (s : State) (o : Nat) : State × Word :=
  if 0x800000 ≤ o ∧ o < 0x900000 then
    (s, match recAt s ((o - 0x800000) / 64) with | some r => leWord (recImage r) (o % 64) | none => 0)
  else if 0xB80000 ≤ o then (if Config.inKeyStore o then (s, 0) else (s.drawn, s.freeW))
  else (s, wordOf (s.mByte o) (s.mByte (o + 1)) (s.mByte (o + 2)) (s.mByte (o + 3)))

/-- A port read of the MRAM window (R25): a correctable error is corrected, rewritten and raised; an uncorrectable one is raised, and the
data is a free value. -/
def mramRead (s : State) (o : Nat) : State × Word :=
  let mark := SMap.get 0 s.cpu.mramErr (o / 8)
  if mark = 2 then ((s.raise 10).drawn, s.freeW)
  else
    let s := if mark = 1 then ({ s with cpu := { s.cpu with mramErr := SMap.set 0 s.cpu.mramErr (o / 8) 0 } }).raise 9 else s
    mramWord s o

/-! ## Reading a register -/

/-- A register of LDG_SELF (R221, R249): 0 with no current ticket; the track's grant is judged on the ticket that is current as the data is
taken, and without it the read gives 0 and counts as a violation. -/
def selfRead (s : State) (c : Nat) (rg : Rg) (f : Nat → Ticket → Word) : State × Word :=
  match currentTicket s c with
  | some (h, t) => if s.trackOk c t.track then (s, f h t) else (s.violate c 3 (BitVec.ofNat 32 rg.addr), 0)
  | none => (s, 0)

/-- A time left: a free value no larger than the time the counter was loaded with (log entry 3). -/
def timeLeft (s : State) (f : Fd) (w : Word) (bound : Nat) : State × Word :=
  (s.drawn, setBits w f.hi f.lo (s.freeW.toNat % (bound + 1)))

/-- Words 0 to 3 of an item, with the position absolute (R179; TLN_PEEK_Wk). -/
def itemWord (i : Item) (k : Nat) : Word :=
  match k with
  | 0 => BitVec.ofNat 32 i.pos
  | 1 => BitVec.ofNat 32 (b2n i.wake * 2 ^ 27 + b2n i.late * 2 ^ 26 + i.sense * 2 ^ 24 + i.kind * 2 ^ 20 + i.axis * 2 ^ 16 + i.pos / 2 ^ 32 % 2 ^ 16)
  | 2 => i.arg
  | _ => BitVec.ofNat 32 (i.roster * 2 ^ 16 + i.handle)

/-- The bits of a list of Booleans as a word, bit 0 first. -/
def bitsWord (n : Nat) (f : Nat → Bool) : Word := (List.range n).foldl (fun w i => setBits w i i (b2n (f i))) 0

/-- `w` with the fields set. -/
def setFds (w : Word) (l : List (Fd × Nat)) : Word := l.foldl (fun w e => setBits w e.1.hi e.1.lo e.2) w

/-- The number of events at input `i` of a context. -/
def inDepth (s : State) (c i : Nat) : Nat := ((s.ctx c).inp i).q.length

/-- The stage that LDG_WM_SEL selects, with its watermark, and its store-valid flag (R228, R232). -/
def wmSelected (s : State) : Option (Nat × Word) × Bool :=
  let k := s.get LDG_WM_SEL_stage
  if k < 124 then (s.wm.marks.find k, s.storeValid (stageOnDie k)) else (none, false)

/-- What a read of a listed register returns to context `c`: RO fields that the device derives from its state are formed here, every other
field is the register's. -/
def regRead (s : State) (c : Nat) (id : RegId) (ix : List Nat) (rg : Rg) : State × Word :=
  let i := ix.getD 0 0
  let w := s.rd rg
  match id with
  | .TSK_STATUS => (s, setFds w [(TSK_STATUS_resident, residentCount s), (TSK_STATUS_traffic, (bitsWord 8 (pairUp s)).toNat)])
  | .TSK_SELF_ID => (s, setFds 0 [(TSK_SELF_ID_prio, s.get (TSK_CTX_CFG_prio c)), (TSK_SELF_ID_tenant, s.tenant c), (TSK_SELF_ID_ctx, c)])
  | .TSK_SELF_IN => (s, setFds 0 [(TSK_SELF_IN_ovf i, getBits (s.rd (TSK_CTX_INOVF c)) (8 * i + 7) (8 * i)), (TSK_SELF_IN_depth i, inDepth s c i)])
  | .TSK_CTX_STATE =>
    let x := s.ctx i
    (s, setFds 0 [(TSK_CTX_STATE_depth i, inDepth s i 0 + 16 * inDepth s i 1 + 256 * inDepth s i 2 + 4096 * inDepth s i 3),
      (TSK_CTX_STATE_lane i, if x.mode = .resident then x.lane else 0), (TSK_CTX_STATE_cur i, x.cur), (TSK_CTX_STATE_inact i, b2n (inact s i)),
      (TSK_CTX_STATE_state i, x.mode.code)])
  | .TLN_STATUS => (s, setFds w [(TLN_STATUS_used, s.usedSlots)])
  | .TLN_PEEK_META =>
    let t := s.item (s.get TLN_PEEK_SEL_slot)
    (s, setFds 0 [(TLN_PEEK_META_state, t.st.code), (TLN_PEEK_META_gen, t.gen), (TLN_PEEK_META_outcome, t.outcome), (TLN_PEEK_META_ctx, t.ctx)])
  | .TLN_PEEK_W => (s, itemWord (s.item (s.get TLN_PEEK_SEL_slot)) i)
  | .TLN_AX_POSL => (s, BitVec.ofNat 32 (s.axis i).pos)
  | .TLN_AX_POSH => (s, setFds 0 [(TLN_AX_POSH_qual i, (s.axis i).qual), (TLN_AX_POSH_pos i, (s.axis i).pos / 2 ^ 32)])
  | .TLN_A0_STATUS => (s, setFds w [(TLN_A0_STATUS_qual, (s.axis 0).qual), (TLN_A0_STATUS_slewing, b2n (s.tln.off != 0))])
  | .TLN_A0_RATE => (s, sat32 (totalRate s))
  | .LDG_STATUS => (s, ldgStatus s)
  | .LDG_WM_SEL =>
    let (m, v) := wmSelected s
    (s, setFds w [(LDG_WM_SEL_valid, b2n v), (LDG_WM_SEL_bound, b2n m.isSome), (LDG_WM_SEL_track, (m.map (·.1)).getD 0)])
  | .LDG_WM_SEQ => (s, ((wmSelected s).1.map (·.2)).getD 0)
  | .LDG_SELF_TKT => selfRead s c rg fun h t =>
    setFds 0 [(LDG_SELF_TKT_valid, 1), (LDG_SELF_TKT_length, t.pay.length), (LDG_SELF_TKT_track, t.track), (LDG_SELF_TKT_handle, h)]
  | .LDG_SELF_SEQ => selfRead s c rg fun _ t => t.seq
  | .LDG_SELF_PAY => selfRead s c rg fun _ t => leWord t.pay (4 * i)
  | .LDG_TRK_OWNERS => (s, setFds w [(LDG_TRK_OWNERS_fenced i, b2n (s.isFenced i)), (LDG_TRK_OWNERS_held i, (heldOf s i).length)])
  | .LDG_TKT =>
    match s.ticket i with
    | some t => (s, setFds 0 [(LDG_TKT_state i, t.st.code), (LDG_TKT_track i, t.track), (LDG_TKT_ctx i, t.ctx)])
    | none => (s, 0)
  | .PSW_CH_TEMP => (s, setFds w [(PSW_CH_TEMP_x i, wireCode s i)])
  | .PSW_CH_STATUS =>
    (s, setFds w [(PSW_CH_STATUS_nosup i, b2n (groupLost s i)), (PSW_CH_STATUS_limp i, b2n (s.chan i).limp.isSome),
      (PSW_CH_STATUS_lead i, b2n (! isFollower s i && 1 < (membersOf s i).length)), (PSW_CH_STATUS_follow i, b2n (isFollower s i))])
  | .PSW_DIE_STATE =>
    let w := setFds w [(PSW_DIE_STATE_nosup1 i, b2n (s.die i).lost1), (PSW_DIE_STATE_nosup2 i, b2n (s.die i).lost2)]
    if s.get (PSW_DIE_STATE_state i) = 1 then timeLeft s (PSW_DIE_STATE_remain i) w (s.get (PSW_DIE_STATE_remain i)) else (s, w)
  | .PSW_BUD => (s, setFds w [(PSW_BUD_cap i, (s.chan i).cap)])
  | .LED_K_STATUS => (s, setFds w [(LED_K_STATUS_column i, b2n (isColumn s i))])
  | .LED_P_STATUS =>
    (s, setFds w [(LED_P_STATUS_active i, b2n (if i < 2 then (s.mat i).scan else 4 ≤ i && (s.st (i - 4)).phase == .shifting)),
      (LED_P_STATUS_retiring i, b2n (2 ≤ i && i < 4 && retiring s (i - 2))), (LED_P_STATUS_limp i, b2n (i < 2 && (s.mat i).limp))])
  | .DIN_FAULT => (s, w &&& bitsWord 32 fun k => lineJudged s (32 * i + k))
  | .DIN_STATUS => (s, setFds w [(DIN_STATUS_qa, readingsShown s 0), (DIN_STATUS_qb, readingsShown s 1)])
  | .DIN_IN_STATUS => (s, if lineJudged s i then w else setFds w [(DIN_IN_STATUS_line i, 0)])
  | .CAN_TXPEND => (s, bitsWord 32 fun k => isPend s i (32 * ix.getD 1 0 + k))
  | .NMG_BUS_STATE =>
    let w := setFds w [(NMG_BUS_STATE_need i, b2n (busNeed s i))]
    if busState s i = 2 then timeLeft s (NMG_BUS_STATE_remain i) w (min 4095 (SMap.get 0 s.net.nmg.timer i / 10)) else (s, w)
  | .LCL_SPI => (s, setFds w [(LCL_SPI_waiting, spiWaiting s)])
  | .ACC_STATUS =>
    let st := if s.acc.locked then 3 else if exchanging s then 2 else if s.bit ACC_CFG_en then 1 else 0
    let w := setFds w [(ACC_STATUS_state, st)]
    if s.acc.locked then timeLeft s ACC_STATUS_remain w (s.get ACC_STATUS_remain) else (s, w)
  | .ACC_SESS => if s.bit (ACC_SESS_active i) then timeLeft s (ACC_SESS_remain i) w (s.get (ACC_SESS_remain i)) else (s, w)
  | .CLK_GATE => (s, bitsWord 32 (gateOn s))
  | .CLK_MON =>
    let v := s.freeW
    (s.drawn, if s.get CLK_STATUS_xtal = 1 then v else setFds v [(CLK_MON_firc, 0)])
  | .PWR_HS => (s, hsView s)
  | .EVR_STATUS =>
    (s, setFds w [(EVR_STATUS_flushing, b2n s.evr.flushing), (EVR_STATUS_loss, b2n (0 < s.evr.lost)), (EVR_STATUS_calsrc, calSource s),
      (EVR_STATUS_unflushed, unflushed s)])
  | .EVR_OPSEC => (s, BitVec.ofNat 32 (opSeconds s))
  | .EVR_PADDR | .EVR_PRES | .EVR_PSEQ | .UPD_SETADDR | .UPD_SETRES => (s, s.rd (own c rg))
  | .UPD_STATUS =>
    let gone := (a1Now s - s.upd.trialAt) / 50000000
    (s, if s.bit UPD_STATUS_trial then setFds w [(UPD_STATUS_trleft, 10 * max 1 (s.get UPD_CFG_trial) - gone)] else w)
  | _ => (s, w)

/-- What a port read of an aligned address returns, its grant having been found at issue (R10, R25, R110, R440). -/
def portRead (s : State) (c a : Nat) : State × Word :=
  if 0x10000000 ≤ a ∧ a < 0x10C00000 then mramRead s (a - 0x10000000)
  else if 0x20000000 ≤ a ∧ a < 0x20020000 then (s, s.frame ((a - 0x20000000) / 256) (a % 256 / 4))
  else
    match blockAt a with
    | none => (s, 0)
    | some b =>
      if gatedOff s a then (s.putB CLK_STATUS_s_gated true, 0)
      else
        match portAt b a with
        | .reg r ix =>
          match dieHeld r.id (ix.getD 0 0) with
          | some d => if dieReached s d then regRead s c r.id ix (rgOf r.id ix) else (s, 0)
          | none => if b = 14 ∧ ! Config.meterFitted then (s, 0) else regRead s c r.id ix (rgOf r.id ix)
        | .canRam u w => ramRead s u w
        | .aperture n k => (s, apertureRead s n k)
        | .t1sMem _ o => (s, t1sWord s o)
        | .nothing => (s, 0)

/-! ## Writing a register -/

/-- A write under the type codes alone (R6): RW bits set, WC bits cleared where 1 is written, every other bit kept. -/
def plainWrite (s : State) (row : RegRow) (rg : Rg) (v : Word) : State :=
  let o := s.rd rg
  s.wr rg ((o &&& ~~~ row.rw &&& ~~~ (row.wc &&& v)) ||| (v &&& row.rw))

/-- Whether the config registers of a context may be written (chapter 06): Empty, Stopped or Siding. -/
def ctxConfig (s : State) (n : Nat) : Bool := match (s.ctx n).mode with | .empty | .stopped | .siding => true | _ => false

/-- A write of FLT_SRCs (R464, R7): the count; the class while neither locked nor fixed; nothing for a reserved source. A raise of the source
in the same cycle is counted and judged with the old class first (R463). -/
def fltSrcWrite (s : State) (i : Nat) (v : Word) : State :=
  if srcReserved i then s
  else
    let s := settleSource i s.raiseQ.length s
    let s := s.put (FLT_SRC_count i) (getBits v 15 0)
    if s.bit FLT_CFG_lock || srcFixed i then s else s.put (FLT_SRC_class i) (getBits v 26 24)

/-- The effect of a granted write of a listed register (R6 to R9): the command that the register's chapter gives it, or the type codes
alone. -/
def regWrite (s : State) (c : Nat) (row : RegRow) (ix : List Nat) (v : Word) : State :=
  let i := ix.getD 0 0
  let j := ix.getD 1 0
  let rg := rgOf row.id ix
  let f (x : Fd) : Nat := getBits v x.hi x.lo
  let op := getBits v 31 28
  let plain := plainWrite s row rg v
  match row.id with
  | .SYS_LINK_CMD => linkCommand s c op (f SYS_LINK_CMD_link)
  | .SYS_OUT_CFG => if outChanging s then s else plain
  | .SYS_OUT_CMD => outCommand s c op (f SYS_OUT_CMD_target) (bitOf v 27)
  | .TSK_CMD => tskCommand s c op (f TSK_CMD_target)
  | .TSK_POST => tskPost s c (f TSK_POST_input) (f TSK_POST_ctx) (f TSK_POST_payload)
  | .TSK_CTX_CFG => if ctxConfig s i then (if (s.ctx i).mode = .empty ∨ inact s i then plain else placeCtx plain i) else s.put (TSK_CTX_CFG_prio i) (f (TSK_CTX_CFG_prio i))
  | .TSK_CAPSET => if j < 24 then plain else s
  | .TSK_CTX_INMODE => if ctxConfig s i && (s.ctx i).firstInp.isNone then plain else s
  | .TSK_CTX_CODEWIN | .TSK_CTX_ENTRY | .TSK_CTX_WIN_BASE | .TSK_CTX_WIN_LIMIT => if ctxConfig s i then plain else s
  | .TSK_CTX_VIOL => if bitOf v 31 then violClear s c i else s
  | .TLN_AX_CFG => axisConfigure (if i < 2 then plainWrite s row rg (setBits v (TLN_AX_CFG_src i).hi (TLN_AX_CFG_src i).lo 0) else plain) i
  | .TLN_AX_SETH => axisSetH s c i (getBits v 29 0) (bitOf v 31)
  | .TLN_A0_CMD => a0Command s c (bitOf v 0) (bitOf v 1)
  | .TLN_TPULSE_CFG => pulseCheck plain
  | .TLN_ROS_CFG => rosterWrite s c i (f (TLN_ROS_CFG_axis i)) (bitOf v 31)
  | .TLN_ROS_PERIOD | .TLN_ROS_OVL | .TLN_ROS_BASEL | .TLN_ROS_BASEH => if rosOn s i then s else plain
  | .LDG_CMD => ldgCommand s c op (f LDG_CMD_track) (f LDG_CMD_stage)
  | .LDG_TRK_CFG => outDirty plain
  | .LDG_TRK_NEXT =>
    if ! s.bit (LDG_TRK_CFG_open i) && (heldOf s i).isEmpty && seqLater v (s.expected i) then plain else s
  | .PSW_CH_CMD => chWrite s c i (getBits v 15 8) (getBits v 31 16)
  | .PSW_CH_CTRL | .PSW_CH_PWM | .PSW_CH_PROT | .PSW_CH_WIRE => if isFollower s i then s else plain
  | .PSW_CH_SAFE => if isFollower s i then s else outDirty plain
  | .PSW_CH_DIAG => if isFollower s i then s else if bitOf v 31 then testStart plain i else plain
  | .PSW_CH_STATUS => if isFollower s i then s else plain
  | .PSW_DIE_CFG => outDirty plain
  | .PSW_DIE_CMD => dieCommand s i op (f (PSW_DIE_CMD_ch i))
  | .PSW_DIE_PAR => parWrite s i v
  | .PSW_BUD_CFG => outDirty plain
  | .PSW_BUD => outDirty plain
  | .LED_K_SET => sinkSet s i v
  | .LED_K_CFG => outDirty plain
  | .LED_M_CFG => outDirty plain
  | .LED_P_CMD => portWriteCmd s c i (getBits v 15 8) (getBits v 31 16)
  | .DIN_ADCGO => adcGo s c (f DIN_ADCGO_input)
  | .DIN_IN_CFG => dinCfgWrite s i v
  | .DIN_IN_WET => debounceSet s i true v
  | .DIN_IN_DB => debounceSet s i false v
  | .CAN_CTRL | .CAN_NBT | .CAN_DBT | .CAN_RAM | .CAN_RAM_TT | .CAN_TT_CFG | .CAN_FLT_ID | .CAN_FLT_MASK =>
    if canState s i = 0 ∨ canState s i = 4 then plain else s
  | .CAN_CMD => canCommand s c i op
  | .CAN_PL_ACK => platformAck s i j (getBits v 8 0)
  | .CAN_OBJ_ACK => objectAck s i (getBits v 7 0) (getBits v 23 16) (bitOf v 31)
  | .CAN_TXREQ => txRequest s i (getBits v 5 0) (s.boundTkt c)
  | .CAN_TXCANCEL => txCancel s i (getBits v 5 0)
  | .LIN_CTRL => linCtrlWrite s i v
  | .LIN_CMD => linCommand s c i op
  | .ETH_P_CTRL => ethCtrl s c i v
  | .T1S_S_CTRL => t1sCtrlWrite s i v
  | .T1S_S_CMD => t1sCommand s c i op (getBits v 4 0)
  | .NMG_BUS_CFG => outDirty (busCfgWrite s i v)
  | .NMG_BUS_NEED => busVote s c i (bitOf v 0)
  | .LCL_I2C_DATA => if s.bit (LCL_I2C_STATUS_busy i) then s else plain
  | .LCL_I2C_CMD => if bitOf v 31 then i2cCommand s c i (getBits v 30 24) (getBits v 21 16) (getBits v 13 8) else s
  | .ACC_CFG => outDirty plain
  | .ACC_POLL => outDirty plain
  | .ACC_CMD => accCommand s c op (getBits v 3 0)
  | .ACC_KEY_ID => keyWrite s c i 0 v
  | .ACC_KEY_CTL => keyWrite s c i 1 v
  | .ACC_KEY_CNT => keyWrite s c i 2 v
  | .MTR_REQ => mtrRequest s c op (getBits v 15 0)
  | .CLK_CORE => coreWrite s v
  | .CLK_CMD => clkCmd s op
  | .CLK_GATE => gateWrite s v
  | .CLK_CKOUT => ckoutWrite s v
  | .PWR_CMD => pwrCommand s c op (getBits v 7 0)
  | .FLT_CFG => (s.put FLT_CFG_autoclose (f FLT_CFG_autoclose)).putB FLT_CFG_lock (s.bit FLT_CFG_lock || bitOf v 31)
  | .FLT_CMD => fltCommand s c op
  | .FLT_KICK => fltKick s c (getBits v 7 0)
  | .FLT_SWRAISE => swRaise s c (getBits v 5 0)
  | .FLT_SRC => fltSrcWrite s i v
  | .EVR_CMD => evrCmd s c op
  | .EVR_CAL_HI => calSet s c (bitOf v 31) (getBits v 15 0)
  | .EVR_PADDR => s.wr (own c EVR_PADDR) v
  | .EVR_POST => evrPost s c (getBits v 23 16) (getBits v 7 0)
  | .UPD_CMD => updCommand s c op (getBits v 11 10) (getBits v 9 0)
  | .UPD_SETADDR => s.wr (own c UPD_SETADDR) v
  | .UPD_SETCMD => settingsWrite s c (getBits v 29 16) (getBits v 8 0)
  | _ => plain

/-- The bits of a frame word that a write sets, and the bits that read 1 (R9, R115, R117, CSW): g0 and the reserved words and fields read 0,
bit 0 of PRED reads 1. -/
def frameBits (w : Nat) : Word × Word :=
  match w with
  | 0 | 0x21 | 0x22 | 0x23 => (0, 0)
  | 0x12 | 0x15 | 0x1D => (0xFF, 0)
  | 0x1A => (0xFE, 1)
  | 0x1C => (0xF30E, 0)
  | 0x24 | 0x28 | 0x2C | 0x30 => (0x80FF00FF, 0)
  | 0x34 => (0x80FF000F, 0)
  | _ => (0xFFFFFFFF, 0)

/-- A word of context memory written by context 0 (R119, R164, R170): ignored in the frame of a Resident context and in words 0xE0 to 0xFC. -/
def frameWrite (s : State) (n w : Nat) (v : Word) : State :=
  if (s.ctx n).mode = .resident ∨ 0x38 ≤ w then s else s.setFrame n w ((v &&& (frameBits w).1) ||| (frameBits w).2)

/-- The effect of a granted port write (R10, R251, R429, R440). -/
def portPerform32 (s : State) (c a : Nat) (v : Word) : State :=
  if 0x20000000 ≤ a ∧ a < 0x20020000 then frameWrite s ((a - 0x20000000) / 256) (a % 256 / 4) v
  else
    match blockAt a with
    | none => s
    | some b =>
      if gatedOff s a then s.putB CLK_STATUS_s_gated true
      else
        match portAt b a with
        | .reg r ix =>
          match dieHeld r.id (ix.getD 0 0) with
          | some d => if r.id = .PSW_CH_CMD then regWrite s c r ix v else viaDie s d (.write c a v) fun s => regWrite s c r ix v
          | none => if b = 14 ∧ ! Config.meterFitted then s else regWrite s c r ix v
        | .canRam u w => ramWrite s u w v
        | .aperture n k => apertureWrite s n k v
        | .t1sMem _ o => t1sMemWrite s o v
        | .nothing => s

/-! ## Accesses that wait (R109, R454) -/

/-- Whether an access waits for PLL1 (R454): after a wake, to the timeline, CAN, LIN and 10BASE-T1S blocks. -/
def waitsPll (s : State) (a : Nat) : Bool :=
  s.bit PWR_STATUS_pllwait && (match blockAt a with | some b => b == 5 || b == 15 || b == 16 || b == 18 | none => false)

/-- The block of an access (R146). -/
def PostedOp.block : PostedOp → Option Nat
  | .write a _ => blockAt a
  | _ => some 5

/-- Whether writes to block `b` are on their way to power die `d`, which is heard. -/
def blockUnderWay (s : State) (b d : Nat) : Bool :=
  dieReached s d && (underWay s d).any fun f => match f with | .write _ a _ => blockAt a == some b | .action _ _ _ _ _ _ => b == 10 | _ => false

/-- The power die that keeps what an address of block `b` names. -/
def heldBy (b a : Nat) : Option Nat := match portAt b a with | .reg r ix => dieHeld r.id (ix.getD 0 0) | _ => none

/-- Whether an access has to wait: for PLL1, or, to a block of the power dies, for what is on its way to the block on another die, since the
writes to one block take effect in issue order (R109). Writes to the same die keep their order in its frames (R17). -/
def opBlocked (s : State) (op : PostedOp) : Bool :=
  match op with
  | .write a _ =>
    waitsPll s a || match blockAt a with
      | some b => (b == 10 || b == 11 || b == 12) && [0, 1].any fun d => heldBy b a != some d && blockUnderWay s b d
      | none => false
  | _ => s.bit PWR_STATUS_pllwait

/-- Whether context `c` has an access to a block that waits. -/
def postedTo (s : State) (c : Nat) (b : Option Nat) : Bool := s.cpu.posted.any fun p => p.ctx == c && p.op.block == b

/-- Whether an access of context `c` waits: it is held up itself, or an earlier one of the context to its block is. -/
def mustWait (s : State) (c : Nat) (op : PostedOp) : Bool := opBlocked s op || postedTo s c op.block

/-- An access of context `c` put behind those that wait. -/
def post (s : State) (c : Nat) (op : PostedOp) : State :=
  { s with cpu := { s.cpu with posted := s.cpu.posted ++ [⟨c, op, (s.ctx c).bound, s.cpu.stamp⟩], stamp := s.cpu.stamp + 1 } }

/-- A port write of context `c` to a data-space address (R12, R14, R145): bits 1:0 of the address are ignored; an access without its grant is
ignored and counts as a violation; a write narrower than 32 bits changes nothing (R8); one that has to wait takes effect later (R109, R454). -/
def portWrite (s : State) (c : Nat) (addr v : Word) (narrow : Bool := false) : State :=
  if ! ctlReached s then s else
  let a := addr.toNat / 4 * 4
  match portDenied s c a true with
  | some k => s.violate c k (BitVec.ofNat 32 a)
  | none =>
    if narrow then s
    else if mustWait s c (.write a v) then post s c (.write a v)
    else portPerform32 s c a v

/-- An access performed, and the answer of a timeline syllable (R146). -/
def performOp (s : State) (c : Nat) (op : PostedOp) : State × Word :=
  match op with
  | .write a v => (portPerform32 s c a v, 0)
  | .tarm _ w0 w1 w2 w3 => tarm s c w0 w1 w2 w3
  | .tcancel _ h => tcancel s c h
  | .tread _ n => tread s c n

/-- The port register that the answer of an access goes to. -/
def PostedOp.dest : PostedOp → Option Nat
  | .write _ _ => none
  | .tarm q _ _ _ _ | .tcancel q _ | .tread q _ => some q

/-- An access that has waited takes effect, with the ticket bound when it was issued (R148, R454); its answer is then on its way, unless a later
read of the same port register has superseded it (R107). -/
def completeOp (s : State) (p : Posted) : State :=
  let b := (s.ctx p.ctx).bound
  let (s, v) := performOp (s.modCtx p.ctx fun x => { x with bound := p.bound }) p.ctx p.op
  s.modCtx p.ctx fun x =>
    let x := { x with bound := b }
    match p.op.dest with
    | some q => if x.reads.find q = some (.waits p.stamp) then { x with reads := x.reads.ins q (.answer v) } else x
    | none => x

/-- The first access that waits no longer: nothing holds it up, and no earlier one of its context to its block waits. -/
def readyPosted (s : State) : Option Posted :=
  (s.cpu.posted.zipIdx.find? fun (p, i) =>
    ! opBlocked s p.op && ! ((s.cpu.posted.take i).any fun q => q.ctx == p.ctx && q.op.block == p.op.block)).map (·.1)

/-- The first access that waits no longer takes effect. -/
def servePosted (s : State) : State :=
  match readyPosted s with
  | some p => completeOp { s with cpu := { s.cpu with posted := s.cpu.posted.erase p } } p
  | none => s

/-- The accesses that wait no longer take effect, in their order. -/
def servePosts (s : State) : State := (List.range s.cpu.posted.length).foldl (fun s _ => servePosted s) s

/-- A write of a register by context `c` (R6 to R14). -/
def execRegisterWrite (c : CtxId) (addr v : Word) (narrow : Bool) (s : State) : Out := .next (portWrite s c addr v narrow)

/-- A PLL locks (R432, R454). -/
def execPllLock (one : Bool) (s : State) : Out :=
  .next (if clkRuns s then let t := pllLock s one; if one && t.bit CLK_STATUS_pll1 then servePosts t else t else s)

end Sys2Proof.Machine
end

