-- ==== Sys2Proof/Machine/Frames.lean ====
section
/-! DEFINITION. Frames on the die links as they are received (R16 to R18, R28, R251, R255, R256). -/
namespace Sys2Proof.Machine
open Sys2Proof Reg

/-- A register write reaches the power die that keeps the register (R251). -/
def dieWrite (s : State) (w a : Nat) (v : Word) : State :=
  match blockAt a with
  | none => s
  | some b =>
    match portAt b a with
    | .reg r ix => if r.id = .DIN_ADCGO then adcTrigger s (getBits v 6 0) else regWrite s w r ix v
    | _ => s

/-- What a receiver does with the frame it was waiting for (R16, R255, R256): a power die performs an action and sends its outcome back, or
takes a write, a trigger, a safe frame, a watermark, a cap or an outfit's fields; the control die gives a reported outcome to the item that asked,
sends an event on, and sets a mirror. -/
def frameActs (s : State) (d : Nat) (b : FrameBody) : State :=
  match b with
  | .idle => s
  | .action c cmd val tkt item0 slot =>
    let (s, o) := chAction s c cmd val tkt item0
    queueFrame s d true (.report slot o)
  | .write w a v => dieWrite s w a v
  | .sense t k =>
    let (s, o) := senseAction s t
    queueFrame s d true (.report (some k) o)
  | .safe => ledSafe (pswSafe s d) d
  | .bind k m => takeMark s k m
  | .cap c k => takeCap s c k
  | .staging ws => takeStaging s d ws
  | .commit => applyStaging s d
  | .report slot o => reportOutcome s slot o
  | .event src pay => s.event src pay
  | .mirror fault i b change => if fault then landFault s i b else landLevel s i b change

/-- The first valid copy of the expected frame is acted on, and no other (R16). -/
def frameTaken (s : State) (d : Nat) (up : Bool) (num : Nat) : State :=
  let x := s.dir d up
  match (if num = x.expect then x.unacked.find? (fun e => e.1 == num) else none) with
  | some e => frameActs (s.setDir d up { x with expect := num + 1 }) d e.2
  | none => s

/-- An acknowledgement frees its frame, and what waits is sent (R17). -/
def frameAcked (s : State) (d : Nat) (up : Bool) (num : Nat) : State :=
  let x := s.dir d up
  fillDir (s.setDir d up { x with unacked := x.unacked.filter fun e => e.1 ≠ num }) d up

/-- A frame arrives on link `k` (R16 to R18): its number, whether its CRC holds, and the number of a frame of the other direction that it
acknowledges. A die whose domain is off neither sends nor receives. -/
def frameReceive (s : State) (k : Nat) (up : Bool) (num : Nat) (crcOk : Bool) (ack : Option Nat) : State :=
  let d := linkDie k
  if linkState s k ≠ 0 ∨ ! (s.die d).on then s
  else if ! crcOk then crcBad s k up
  else
    let s := s.modLnk fun l => { l with runs := SMap.set 0 l.runs (2 * k + b2n up) 0 }
    let s := if up then dieHeard s d else s
    let s := frameTaken s d up num
    match ack with
    | some n => frameAcked s d (! up) n
    | none => s

/-- DIE_LINK_FRAME_RECEIVE (R16). -/
def execDieLinkFrameReceive (k : Fin 4) (up : Bool) (num : Nat) (crcOk : Bool) (ack : Option Nat) (s : State) : Out :=
  .next (frameReceive s k up num crcOk ack)

end Sys2Proof.Machine
end

