-- ==== Sys2Proof/Machine/Flags.lean ====
section
/-! DEFINITION. Predicates, accumulator overflow and saturation, and which syllables are undefined (R111 to R114, R128, R134, R142, R149). -/
namespace Sys2Proof.Machine
open Sys2Proof Reg

/-- The values CMP gives p1, p2 and p3: equal, signed less, unsigned less (R134). -/
def cmpBits (a b : Word) : BitVec 8 := BitVec.ofNat 8 (b2n (a == b) * 2 + b2n (a.slt b) * 4 + b2n (a.ult b) * 8)

/-- The least and the greatest accumulator value (chapter 04, "Accumulators"). -/
def accMin : Int := -(2 ^ 71)
def accMax : Int := 2 ^ 71 - 1

/-- An exact sum written to an accumulator, and whether guard overflow occurs (R111). -/
def accWrite (sat : Bool) (x : Int) : Acc × Bool :=
  if accMin ≤ x ∧ x ≤ accMax then (BitVec.ofInt 72 x, false)
  else if sat then (BitVec.ofInt 72 (if x < accMin then accMin else accMax), true)
  else (BitVec.ofInt 72 x, true)

/-- The 32-bit field of an accumulator at shift `k`: saturated or wrapped (R113). -/
def extField (sat : Bool) (a : Acc) (k : Nat) : Word :=
  let y := (a.sshiftRight k).toInt
  if sat then (if y < -(2 ^ 31) then 0x80000000 else if 2 ^ 31 - 1 < y then 0x7FFFFFFF else BitVec.ofInt 32 y)
  else BitVec.ofInt 32 y

/-- The number of leading zero bits, 0 to 32 (R133). -/
def clz (w : Word) : Nat := ((List.range 32).map fun i => 31 - i).findIdx fun i => w.getLsbD i

/-- Whether a syllable is undefined in its slot, from its encoding, its slot and the packet's WIDEN alone (R128, R149). A WIDEN reads
majors 0xC to 0xF. -/
def undefinedSyl (sl : Slot) (wd : Option Widen) (y : Syl) : Bool :=
  let m := getBits (y.setWidth 32) 11 8
  let rd := getBits (y.setWidth 32) 7 4
  let rs := getBits (y.setWidth 32) 3 0
  let gd := getBits (y.setWidth 32) 13 12
  match sl with
  | .A =>
    (7 ≤ m && m ≤ 9) ||
    (m == 0xA && gd == 0 && rd ≥ 8 && (rd == 0xB || (rd == 0xA && rs ≠ 0)))
  | .B =>
    (0xA ≤ m) ||
    (match wd with
     | none => m == 9 && 4 ≤ rd
     | some w =>
       let op := w.bits 6 4
       (m == 3 && (w.bits 7 5 ≠ 0 || w.bits 3 0 == 0xE || (w.bits 4 4 == 1 && ! (0xB ≤ w.bits 3 0 && w.bits 3 0 ≤ 0xD)))) ||
       (m == 7 && (5 ≤ op || (w.bits 7 7 == 1 && (op == 2 || op == 4)))) ||
       (m == 8 && (w.bits 3 2 ≠ 0 || (op ≤ 4 && w.bits 1 0 ≠ 0) || ((op == 5 || op == 6) && 40 < w.bits 1 0 * 16 + rs))) ||
       (m == 9 &&
         ((w.bits 7 6 == 0 && 4 ≤ rd) ||
          (w.bits 7 6 == 2 && (w.bits 5 4 == 3 || w.bits 3 0 ≠ 0 || 4 ≤ rs || (w.bits 5 4 == 0 && 12 < rd)
             || (w.bits 5 4 == 2 && 8 ≤ rd))) ||
          (w.bits 7 6 == 3 && (2 ≤ w.bits 5 4 || (w.bits 5 4 == 1 && w.bits 3 2 ≠ 0))))))

end Sys2Proof.Machine
end

