-- ==== Sys2Proof/Machine/ThiucAlu.lean ====
section
/-! DEFINITION. ALU, WIDEN, compare and predicate syllables (R129 to R135). -/
namespace Sys2Proof.Machine
open Sys2Proof Reg

/-- WIDEN (R129, R130): unguarded, no effect of its own; it stands for the slot-B syllable of its packet. -/
def execWiden (c : CtxId) (neg : Bool) (ps : Fin 8) (imm : Byte) (s : State) : Out :=
  .next (issue c .A anyWiden 0 (fun _ s => s.modCtx c fun x =>
    { x with packet := x.packet.map fun k => { k with widen := some ⟨neg, ps, imm⟩ } }) s)

/-- MOV (R131); under a WIDEN the opcode is MOVI. -/
def execMov (c : CtxId) (sl : Slot) (gd : Guard) (rd rs : GReg) (s : State) : Out := .next (alu2 c sl noWiden gd rd rs (fun _ b => b) s)
/-- MOVI (R130). -/
def execMovi (c : CtxId) (rd imm : GReg) (s : State) : Out :=
  .next (issue c .B (withWiden fun _ => true) 0 (fun w s => result s c 1 rd (immS imm w)) s)
/-- ADD (R131). -/
def execAdd (c : CtxId) (sl : Slot) (gd : Guard) (rd rs : GReg) (s : State) : Out := .next (alu2 c sl anyWiden gd rd rs (· + ·) s)
/-- SUB (R131). -/
def execSub (c : CtxId) (sl : Slot) (gd : Guard) (rd rs : GReg) (s : State) : Out := .next (alu2 c sl anyWiden gd rd rs (· - ·) s)
/-- AND (R132): without a WIDEN in either slot, or under a WIDEN with imm8 = 0. -/
def execAnd (c : CtxId) (sl : Slot) (gd : Guard) (rd rs : GReg) (s : State) : Out :=
  .next (alu2 c sl (fun w => match w with | none => true | some w => w.imm == 0) gd rd rs (· &&& ·) s)
/-- OR (R132). -/
def execOr (c : CtxId) (rd rs : GReg) (s : State) : Out := .next (logOp c rd rs 0x1 (· ||| ·) s)
/-- XOR (R132). -/
def execXor (c : CtxId) (rd rs : GReg) (s : State) : Out := .next (logOp c rd rs 0x2 (· ^^^ ·) s)
/-- ANDN (R132). -/
def execAndn (c : CtxId) (rd rs : GReg) (s : State) : Out := .next (logOp c rd rs 0x3 (fun a b => a &&& ~~~ b) s)
/-- SHL (R132): the amount is bits 4:0 of g(rs). -/
def execShl (c : CtxId) (rd rs : GReg) (s : State) : Out := .next (logOp c rd rs 0x4 (fun a b => a <<< (b.toNat % 32)) s)
/-- SHR (R132). -/
def execShr (c : CtxId) (rd rs : GReg) (s : State) : Out := .next (logOp c rd rs 0x5 (fun a b => a >>> (b.toNat % 32)) s)
/-- SAR (R132). -/
def execSar (c : CtxId) (rd rs : GReg) (s : State) : Out := .next (logOp c rd rs 0x6 (fun a b => a.sshiftRight (b.toNat % 32)) s)
/-- MIN, signed (R132). -/
def execMin (c : CtxId) (rd rs : GReg) (s : State) : Out := .next (logOp c rd rs 0x7 (fun a b => if b.slt a then b else a) s)
/-- MAX, signed (R132). -/
def execMax (c : CtxId) (rd rs : GReg) (s : State) : Out := .next (logOp c rd rs 0x8 (fun a b => if a.slt b then b else a) s)
/-- MINU (R132). -/
def execMinu (c : CtxId) (rd rs : GReg) (s : State) : Out := .next (logOp c rd rs 0x9 (fun a b => if b.ult a then b else a) s)
/-- MAXU (R132). -/
def execMaxu (c : CtxId) (rd rs : GReg) (s : State) : Out := .next (logOp c rd rs 0xA (fun a b => if a.ult b then b else a) s)
/-- SHLI (R132). -/
def execShli (c : CtxId) (rd imm : GReg) (s : State) : Out := .next (shiftImm c rd imm 0xB (fun a n => a <<< n) s)
/-- SHRI (R132). -/
def execShri (c : CtxId) (rd imm : GReg) (s : State) : Out := .next (shiftImm c rd imm 0xC (fun a n => a >>> n) s)
/-- SARI (R132). -/
def execSari (c : CtxId) (rd imm : GReg) (s : State) : Out := .next (shiftImm c rd imm 0xD (fun a n => a.sshiftRight n) s)
/-- MOVR (R132). -/
def execMovr (c : CtxId) (rd rs : GReg) (s : State) : Out := .next (logOp c rd rs 0xF (fun _ b => b) s)
/-- ADDI (R131). -/
def execAddi (c : CtxId) (sl : Slot) (gd : Guard) (rd imm : GReg) (s : State) : Out :=
  .next (issue c sl anyWiden gd (fun w s => result s c 1 rd ((s.ctx c).regs.rg rd + immS imm w)) s)
/-- INS (R131). -/
def execIns (c : CtxId) (sl : Slot) (gd : Guard) (rd imm : GReg) (s : State) : Out :=
  .next (issue c sl anyWiden gd (fun w s => result s c 1 rd (((s.ctx c).regs.rg rd <<< (if w.isNone then 4 else 12)) ||| immU imm w)) s)
/-- NOT (R133). -/
def execNot (c : CtxId) (sl : Slot) (gd : Guard) (r : GReg) (s : State) : Out := .next (xop c sl gd r (fun _ v => ~~~ v) s)
/-- NEG (R133). -/
def execNeg (c : CtxId) (sl : Slot) (gd : Guard) (r : GReg) (s : State) : Out := .next (xop c sl gd r (fun _ v => 0 - v) s)
/-- ABS (R133): 0x8000_0000 gives itself. -/
def execAbs (c : CtxId) (sl : Slot) (gd : Guard) (r : GReg) (s : State) : Out :=
  .next (xop c sl gd r (fun _ v => if v.msb then 0 - v else v) s)
/-- CLZ (R133). -/
def execClz (c : CtxId) (sl : Slot) (gd : Guard) (r : GReg) (s : State) : Out := .next (xop c sl gd r (fun _ v => BitVec.ofNat 32 (clz v)) s)
/-- SEXT8 (R133). -/
def execSext8 (c : CtxId) (sl : Slot) (gd : Guard) (r : GReg) (s : State) : Out :=
  .next (xop c sl gd r (fun _ v => (v.setWidth 8).signExtend 32) s)
/-- SEXT16 (R133). -/
def execSext16 (c : CtxId) (sl : Slot) (gd : Guard) (r : GReg) (s : State) : Out :=
  .next (xop c sl gd r (fun _ v => (v.setWidth 16).signExtend 32) s)
/-- ZEXT8 (R133). -/
def execZext8 (c : CtxId) (sl : Slot) (gd : Guard) (r : GReg) (s : State) : Out :=
  .next (xop c sl gd r (fun _ v => (v.setWidth 8).setWidth 32) s)
/-- ZEXT16 (R133). -/
def execZext16 (c : CtxId) (sl : Slot) (gd : Guard) (r : GReg) (s : State) : Out :=
  .next (xop c sl gd r (fun _ v => (v.setWidth 16).setWidth 32) s)
/-- RDCSW (R133): indelay and inwait read 0. -/
def execRdcsw (c : CtxId) (sl : Slot) (gd : Guard) (r : GReg) (s : State) : Out :=
  .next (xop c sl gd r (fun x _ => cswWord { x with branch := none }) s)
/-- WRCSW (R133): accsat takes bit 1 of r; 1s in bits 2 and 3 clear ov0 and ov1; distance 1. -/
def execWrcsw (c : CtxId) (sl : Slot) (gd : Guard) (r : GReg) (s : State) : Out :=
  .next (issue c sl anyWiden gd (fun _ s =>
    let v := (s.ctx c).regs.rg r
    produce s c 1 (.csw (bitOf v 1) (bitOf v 2) (bitOf v 3))) s)
/-- RDPRED (R133). -/
def execRdpred (c : CtxId) (sl : Slot) (gd : Guard) (r : GReg) (s : State) : Out := .next (xop c sl gd r (fun x _ => x.p.setWidth 32 ||| 1) s)
/-- WRPRED (R133), distance 2. -/
def execWrpred (c : CtxId) (sl : Slot) (gd : Guard) (r : GReg) (s : State) : Out :=
  .next (issue c sl anyWiden gd (fun _ s => produce s c 2 (.pred 0xFE (((s.ctx c).regs.rg r).setWidth 8))) s)
/-- RDQ (R133): the ready flag does not change. -/
def execRdq (c : CtxId) (sl : Slot) (gd : Guard) (q : QReg) (r : GReg) (s : State) : Out := .next (xop c sl gd r (fun x _ => x.rq q) s)

/-- CMP (R134), for ra ≠ rb; the encodings with ra = rb carry RDY, PNOT and PLE (R135). -/
def execCmp (c : CtxId) (gd : Guard) (ra rb : GReg) (s : State) : Out :=
  .next (issue c .A (fun _ => ra != rb) gd (fun _ s =>
    let r := (s.ctx c).regs
    produce s c 2 (.pred 0x0E (cmpBits (r.rg ra) (r.rg rb)))) s)
/-- RDY (R135): p1, p2 or p3 takes the ready flag of qn. -/
def execRdy (c : CtxId) (gd : Guard) (pd : Fin 3) (q : QReg) (s : State) : Out :=
  .next (issue c .A anyWiden gd (fun _ s =>
    produce s c 2 (.pred (1#8 <<< (pd.val + 1)) (if (s.ctx c).regs.qrdy.getLsbD q then 0xFF else 0))) s)
/-- PNOT (R135). -/
def execPnot (c : CtxId) (gd : Guard) (pd : Fin 3) (s : State) : Out :=
  .next (issue c .A anyWiden gd (fun _ s => produce s c 2 (.pred (1#8 <<< (pd.val + 1)) (~~~ (s.ctx c).regs.p))) s)
/-- PLE (R135): p1 takes p1 OR p2. -/
def execPle (c : CtxId) (gd : Guard) (s : State) : Out :=
  .next (issue c .A anyWiden gd (fun _ s =>
    let r := (s.ctx c).regs
    produce s c 2 (.pred 2 (if r.pr 1 || r.pr 2 then 2 else 0))) s)

/-- An undefined syllable stops its context with cause 0x01 whatever its guard (R128, R120); a defined word is no such event. -/
def execUndefinedSyllable (c : CtxId) (sl : Slot) (w : Syl) (s : State) : Out :=
  let s1 := if sl = .B && (s.ctx c).packet.isSome then s else openPacket s c
  match (s1.ctx c).packet with
  | none => .next s1
  | some k =>
    let pc := (s1.ctx c).regs.pc
    if ! undefinedSyl sl (if sl = .B then k.widen else none) w then .next s
    else if k.void then .next (if sl = .B then closePacket s1 c else s1)
    else .next ((stopSelf s1 c 1 (BitVec.ofNat 32 (pc + if sl = .B then 1 else 0))).raise 4 (BitVec.ofNat 32 c))

end Sys2Proof.Machine
end

