-- ==== Sys2Proof/Machine/ThiucCtl.lean ====
section
/-! DEFINITION. Branch and control syllables (R103 to R105, R137 to R139). -/
namespace Sys2Proof.Machine
open Sys2Proof Reg

/-- A transfer taken by the open packet's slot A; in the delay packet of a taken branch it has no effect (R103, R105, R139). -/
def take (s : State) (c : Nat) (t : Transfer) (link : Bool) : State :=
  let x := s.ctx c
  if x.regs.branch.isSome then s
  else
    let s := s.setCtx c { x with packet := x.packet.map fun k => { k with taken := some t } }
    if link then result s c 1 15 (BitVec.ofNat 32 ((x.regs.pc + 4) % 2 ^ 21)) else s

/-- BR (R137): taken when n = 0 and its guard is true, or n = 1 and its guard is false; guard field 00 with n = 1 is no branch. -/
def execBr (c : CtxId) (gd : Guard) (n : Bool) (off : BitVec 7) (s : State) : Out :=
  .next (issue c .A (fun _ => ! (gd == 0 && n)) 0 (fun _ s =>
    let r := (s.ctx c).regs
    if r.pr gd != n then take s c ⟨(((r.pc : Int) + 2 * off.toInt) % 2 ^ 21).toNat, false⟩ false else s) s)

/-- The target a register names: bits 20:0, bit 0 cleared (R84, R138). -/
def regTarget (v : Word) : Nat := getBits v 20 1 * 2

/-- JR (R138). -/
def execJr (c : CtxId) (rs : GReg) (s : State) : Out :=
  .next (issue c .A anyWiden 0 (fun _ s => take s c ⟨regTarget ((s.ctx c).regs.rg rs), false⟩ false) s)
/-- CALLR (R104, R138): g15 takes the link value. -/
def execCallr (c : CtxId) (rs : GReg) (s : State) : Out :=
  .next (issue c .A anyWiden 0 (fun _ s => take s c ⟨regTarget ((s.ctx c).regs.rg rs), false⟩ true) s)
/-- WAIT (R139): the activation ends after the delay packet; the next begins at the WAIT + 4. -/
def execWait (c : CtxId) (s : State) : Out :=
  .next (issue c .A anyWiden 0 (fun _ s => take s c ⟨((s.ctx c).regs.pc + 4) % 2 ^ 21, true⟩ false) s)
/-- TRAP (R138, R120): stops the context with cause 0x04 and its trap code. DESIGN CHOICE (log entry 71): the stop comes with slot A, before
slot B of the packet is issued, so cause 0x04 wins where slot B is undefined or loads an uncorrectable word; R120 settles the order for two
undefined syllables only. -/
def execTrap (c : CtxId) (code : Fin 64) (s : State) : Out :=
  .next (issue c .A anyWiden 0 (fun _ s => stopSelf s c 4 (BitVec.ofNat 32 code)) s)

end Sys2Proof.Machine
end

