-- ==== Sys2Proof/Machine/ThiucMem.lean ====
section
/-! DEFINITION. Load and store syllables and the accumulator syllables (R91, R93, R98 to R102, R111 to R113, R140 to R143). -/
namespace Sys2Proof.Machine
open Sys2Proof Reg

/-- Whether a MEM syllable has a direction and a width: without a WIDEN it is the word load (R140). -/
def memSpell (dir width : Nat) : Option Widen → Bool
  | none => dir == 0 && width == 0
  | some w => w.bits 7 7 == dir && w.bits 6 4 == width

/-- The address of an access of `size` bytes, aligned down (R140, R141). -/
def memAddr (r : CRegs) (ra size : Nat) (w : Option Widen) : Nat :=
  let off := match w with | some w => w.bits 3 0 | none => 0
  (r.rg ra + BitVec.ofNat 32 (off * size)).toNat / size * size

/-- A load (R91, R93, R98, R141): outside data SRAM or the data windows it reads zero and counts a violation; a correctable error is
corrected, rewritten and raised; an uncorrectable one stops the context with cause 0x03. `pick` extends the addressed bytes. -/
def load (c width size rd ra gd : Nat) (pick : Word → Word) (s : State) : State :=
  issue c .B (memSpell 0 width) gd (fun w s =>
    let a := memAddr (s.ctx c).regs ra size w
    if a < dSize && s.covered c a size false then
      let mark := SMap.get 0 s.cpu.dmemErr (a / 4)
      if mark = 2 then (stopSelf s c 3 (BitVec.ofNat 32 a)).raise 8 (BitVec.ofNat 32 c)
      else
        let s := if mark = 1 then ({ s with cpu := { s.cpu with dmemErr := SMap.set 0 s.cpu.dmemErr (a / 4) 0 } }).raise 7 else s
        result s c 3 rd (pick (s.dWord (a / 4 * 4) >>> (8 * (a % 4))))
    else result (s.violate c 1 (BitVec.ofNat 32 a)) c 3 rd 0) s

/-- A store (R91, R102, R141): it enters data SRAM at distance 2; outside data SRAM or the data windows it is ignored and counts a
violation. -/
def store (c width size rd ra : Nat) (s : State) : State :=
  issue c .B (memSpell 1 width) 0 (fun w s =>
    let a := memAddr (s.ctx c).regs ra size w
    if a < dSize && s.covered c a size true then
      let be : BitVec 4 := BitVec.ofNat 4 ((2 ^ size - 1) * 2 ^ (a % 4))
      let v := (s.ctx c).regs.rg rd <<< (8 * (a % 4))
      s.modCtx c fun x => { x with regs := { x.regs with stores := x.regs.stores ++ [⟨2, true, a / 4 * 4, be, v⟩] } }
    else s.violate c 1 (BitVec.ofNat 32 a)) s

/-- LD.W (R140). -/
def execLdW (c : CtxId) (gd : Guard) (rd ra : GReg) (s : State) : Out := .next (load c 0 4 rd ra gd id s)
/-- LD.HU (R140). -/
def execLdHu (c : CtxId) (rd ra : GReg) (s : State) : Out := .next (load c 1 2 rd ra 0 (fun v => (v.setWidth 16).setWidth 32) s)
/-- LD.HS (R140). -/
def execLdHs (c : CtxId) (rd ra : GReg) (s : State) : Out := .next (load c 2 2 rd ra 0 (fun v => (v.setWidth 16).signExtend 32) s)
/-- LD.BU (R140). -/
def execLdBu (c : CtxId) (rd ra : GReg) (s : State) : Out := .next (load c 3 1 rd ra 0 (fun v => (v.setWidth 8).setWidth 32) s)
/-- LD.BS (R140). -/
def execLdBs (c : CtxId) (rd ra : GReg) (s : State) : Out := .next (load c 4 1 rd ra 0 (fun v => (v.setWidth 8).signExtend 32) s)
/-- ST.W (R140). -/
def execStW (c : CtxId) (rd ra : GReg) (s : State) : Out := .next (store c 0 4 rd ra s)
/-- ST.H (R140). -/
def execStH (c : CtxId) (rd ra : GReg) (s : State) : Out := .next (store c 1 2 rd ra s)
/-- ST.B (R140). -/
def execStB (c : CtxId) (rd ra : GReg) (s : State) : Out := .next (store c 3 1 rd ra s)

/-- The shift of an accumulator syllable (R142). -/
def macShift (w : Option Widen) (rb : Nat) : Nat := (match w with | some w => w.bits 1 0 | none => 0) * 16 + rb
/-- The accumulator a MAC-class syllable names: a0 without a WIDEN (R142). -/
def macAcc (w : Option Widen) : Nat := match w with | some w => w.bits 7 7 | none => 0

/-- Whether a MAC-class syllable has an operation and no undefined bits (R142, R149). -/
def macSpell (op : Nat) : Option Widen → Bool
  | none => op == 0
  | some w => w.bits 6 4 == op && w.bits 3 2 == 0 && (5 ≤ op || w.bits 1 0 == 0)

/-- An accumulating syllable: its exact sum under R111, at distance 3. -/
def accumulate (c op ra rb gd : Nat) (sum : Int → Word → Word → Int) (s : State) : State :=
  issue c .B (macSpell op) gd (fun w s =>
    let r := (s.ctx c).regs
    let i := macAcc w
    let (v, ov) := accWrite r.accsat (sum (r.acc i).toInt (r.rg ra) (r.rg rb))
    produce s c 3 (.acc i v ov)) s

/-- MAC (R142). -/
def execMac (c : CtxId) (gd : Guard) (ra rb : GReg) (s : State) : Out :=
  .next (accumulate c 0 ra rb gd (fun a x y => a + x.toInt * y.toInt) s)
/-- MSU (R142). -/
def execMsu (c : CtxId) (ra rb : GReg) (s : State) : Out := .next (accumulate c 1 ra rb 0 (fun a x y => a - x.toInt * y.toInt) s)
/-- MACU (R142). -/
def execMacu (c : CtxId) (ra rb : GReg) (s : State) : Out :=
  .next (accumulate c 2 ra rb 0 (fun a x y => a + (x.toNat : Int) * (y.toNat : Int)) s)
/-- MUL (R142): no overflow, the flag unchanged. -/
def execMul (c : CtxId) (ra rb : GReg) (s : State) : Out :=
  .next (issue c .B (macSpell 3) 0 (fun w s =>
    let r := (s.ctx c).regs
    produce s c 3 (.acc (macAcc w) (BitVec.ofInt 72 ((r.rg ra).toInt * (r.rg rb).toInt)) false)) s)
/-- MULL (R142): g(ra) takes bits 31:0 of the product, at distance 3. -/
def execMull (c : CtxId) (ra rb : GReg) (s : State) : Out :=
  .next (issue c .B (macSpell 4) 0 (fun _ s => let r := (s.ctx c).regs; result s c 3 ra (r.rg ra * r.rg rb)) s)
/-- EXT (R113, R142): shifts 0 to 40. -/
def execExt (c : CtxId) (ra rb : GReg) (s : State) : Out :=
  .next (issue c .B (fun w => macSpell 5 w && macShift w rb ≤ 40) 0 (fun w s =>
    let r := (s.ctx c).regs
    result s c 3 ra (extField r.accsat (r.acc (macAcc w)) (macShift w rb))) s)
/-- LDA (R142): shifts 0 to 40. -/
def execLda (c : CtxId) (ra rb : GReg) (s : State) : Out :=
  .next (issue c .B (fun w => macSpell 6 w && macShift w rb ≤ 40) 0 (fun w s =>
    produce s c 3 (.acc (macAcc w) ((((s.ctx c).regs.rg ra).signExtend 72) <<< (macShift w rb)) false)) s)
/-- ASR (R142): shifts 0 to 63. -/
def execAsr (c : CtxId) (_ra rb : GReg) (s : State) : Out :=
  .next (issue c .B (macSpell 7) 0 (fun w s =>
    let i := macAcc w
    produce s c 3 (.acc i (((s.ctx c).regs.acc i).sshiftRight (macShift w rb)) false)) s)

end Sys2Proof.Machine
end

