-- ==== Sys2Proof/Machine/ThiucPort.lean ====
section
/-! DEFINITION. Port-I/O, timeline and ledger syllables and the arrival of their answers (R106 to R110, R118, R144 to R148). -/
namespace Sys2Proof.Machine
open Sys2Proof Reg

/-- A read or a status for `q n` is on its way: the ready flag clears at distance 1, and a read of the same port register that was in flight is
superseded (R98, R106, R107, R145). -/
def startRead (s : State) (c n : Nat) (p : PRead) : State :=
  produce (s.modCtx c fun x => { x with reads := x.reads.ins n p }) c 1 (.rdyClear n)

/-- The address of a port access (R144, R145): bits 1:0 are ignored. -/
def portAddr (r : CRegs) (ra : Nat) (w : Option Widen) : Nat :=
  (r.rg ra + BitVec.ofNat 32 (4 * (match w with | some w => w.bits 5 0 | none => 0))).toNat / 4 * 4

/-- PRD (R106, R144): its grant is judged at issue; without it the read answers 0 and counts as a violation (R110). -/
def execPrd (c : CtxId) (gd : Guard) (q : QReg) (ra : GReg) (s : State) : Out :=
  .next (issue c .B (fun w => match w with | none => true | some w => w.bits 7 6 == 0) gd (fun w s =>
    let a := portAddr (s.ctx c).regs ra w
    match portDenied s c a false with
    | some k => startRead (s.violate c k (BitVec.ofNat 32 a)) c q (.answer 0)
    | none => startRead s.stamped c q (.port a s.cpu.stamp)) s)

/-- PWR (R109, R144, R145, R148): posted, carrying the bound ticket to a stage. -/
def execPwr (c : CtxId) (rd ra : GReg) (s : State) : Out :=
  .next (issue c .B (withWiden fun w => w.bits 7 6 == 1) 0 (fun w s =>
    let r := (s.ctx c).regs
    portWrite s c (BitVec.ofNat 32 (portAddr r ra w)) (r.rg rd)) s)

/-- A syllable that hands the timeline a request and has its answer returned to `q n` (R145, R146); one that has to wait is answered later (R109,
R454). -/
def request (c n : Nat) (spell : Widen → Bool) (op : CRegs → PostedOp) (s : State) : State :=
  issue c .B (withWiden spell) 0 (fun _ s =>
    let op := op (s.ctx c).regs
    if mustWait s c op then startRead (post s c op) c n (.waits s.cpu.stamp)
    else let (s, v) := performOp s c op; startRead s c n (.answer v)) s

/-- The spelling of a timeline syllable: kind 2, operation `op`, imm8[3:0] 0 (R146). -/
def timelineSpell (op : Nat) (w : Widen) : Bool := w.imm.toNat == 128 + 16 * op

/-- TARM (R146): words 0 to 3 of the item in g(d) to g(d + 3), d from 0 to 12. -/
def execTarm (c : CtxId) (q : QReg) (d : GReg) (s : State) : Out :=
  .next (request c q (fun w => timelineSpell 0 w && d.val ≤ 12) (fun r => .tarm q (r.rg d) (r.rg (d + 1)) (r.rg (d + 2)) (r.rg (d + 3))) s)
/-- TCANCEL (R146): the item whose handle is in g(d). -/
def execTcancel (c : CtxId) (q : QReg) (d : GReg) (s : State) : Out := .next (request c q (timelineSpell 1) (fun r => .tcancel q (r.rg d)) s)
/-- TREAD (R146, R173). -/
def execTread (c : CtxId) (q : QReg) (axis : Fin 8) (s : State) : Out := .next (request c q (timelineSpell 2) (fun _ => .tread q axis) s)

/-- LBIND (R147, R148): imm8[3:0] is ignored; the binding takes effect at distance 1, before the next packet's slot B. -/
def execLbind (c : CtxId) (d : GReg) (s : State) : Out :=
  .next (issue c .B (withWiden fun w => w.bits 7 4 == 12) 0 (fun _ s => lbind s c ((s.ctx c).regs.rg d)) s)
/-- LDONE (R147, R222): the result code is bits 7:0 of g(a); the status goes to q(imm8[1:0]), imm8[3:2] is 0. -/
def execLdone (c : CtxId) (d a : GReg) (s : State) : Out :=
  .next (issue c .B (withWiden fun w => w.bits 7 4 == 13 && w.bits 3 2 == 0) 0 (fun w s =>
    let r := (s.ctx c).regs
    let (s, v) := ldone s c (r.rg d) (getBits (r.rg a) 7 0)
    startRead s c (match w with | some w => w.bits 1 0 | none => 0) (.answer v)) s)

/-- A value arrives for `q n` of context `c`: in its registers while they are live, else in its frame (R106, R118). -/
def arriveQ (s : State) (c n : Nat) (v : Word) : State :=
  let x := s.ctx c
  if x.mode = .resident ∧ ¬ x.swapping then
    let keep (l : Landing) : Bool := match l.tgt with | .rdyClear k => k != n | _ => true
    s.setCtx c { x with regs := { x.regs with q := SMap.set 0 x.regs.q n v, qrdy := x.regs.qrdy ||| (1#4 <<< n),
                                              lands := x.regs.lands.filter keep } }
  else (s.setFrame c (0x16 + n) v).setFrame c 0x1C (setBits (s.frame c 0x1C) (12 + n) (12 + n) 1)

/-- The port reads in flight, with their contexts, port registers, addresses and order of issue. -/
def portReads (s : State) : List (Nat × Nat × Nat × Nat) :=
  s.cpu.ctxs.flatMap fun e => e.2.reads.filterMap fun r => match r.2 with | .port a o => some (e.1, r.1, a, o) | _ => none

/-- The CAN controller that an address belongs to. -/
def canOf (a : Nat) : Option Nat := if blockAt a = some 15 then some (a / 0x10000 - 0x4020) else none

/-- A port read is served: its data is taken from the block. -/
def serveRead (s : State) (c n a : Nat) : State :=
  let (s, v) := portRead s c a
  s.modCtx c fun x => { x with reads := x.reads.ins n (.answer v) }

/-- The port reads of CAN controller `u` that were issued before the one of order `o`, in order of issue. -/
def readsBefore (s : State) (u o : Nat) : List (Nat × Nat × Nat × Nat) :=
  ((portReads s).filter fun r => canOf r.2.2.1 == some u && decide (r.2.2.2 < o)).insertionSort fun r t => r.2.2.2 ≤ t.2.2.2

/-- The port reads of one CAN controller are served in issue order (R322): those issued before are served first. -/
def serveEarlier (s : State) (a o : Nat) : State :=
  match canOf a with
  | some u => (readsBefore s u o).foldl (fun s r => serveRead s r.1 r.2.1 r.2.2.1) s
  | none => s

/-- Whether the data of an address can be formed for context `c`: no access of its own to the block waits (R109); a register of a power die answers once a link carries frames and every write on its way has
reached the die (R28, R109), and a block that waits for PLL1 once that is locked (R454). -/
def readReady (s : State) (c a : Nat) : Bool :=
  ! waitsPll s a && ! ((blockAt a).isSome && postedTo s c (blockAt a)) && match blockAt a with
  | none => true
  | some b =>
    match portAt b a with
    | .reg r ix => match dieHeld r.id (ix.getD 0 0) with | some d => ! dieReached s d || dieSettled s d false | none => true
    | _ => true

/-- The data of the newest port read into `q n` of context `c`, or a status, arrives (R106, R107, R110, R118); one in flight at the entry to
Park arrives after the return to Run (R450). -/
def portArrival (s : State) (c n : Nat) : State :=
  if ! ctlReached s then s else
  match (s.ctx c).reads.find n with
  | none => s
  | some p =>
    match p with
    | .answer v => arriveQ (s.modCtx c fun x => { x with reads := x.reads.erase n }) c n v
    | .waits _ => s
    | .port a o =>
      if ! readReady s c a then s
      else
        let (s, v) := portRead (serveEarlier s a o) c a
        arriveQ (s.modCtx c fun x => { x with reads := x.reads.erase n }) c n v

/-- A port read's data or a status arrives (R106). -/
def execPortReadArrival (c : CtxId) (q : QReg) (s : State) : Out := .next (portArrival s c q)

end Sys2Proof.Machine
end

