-- ==== Sys2Proof/Machine/Dispatch.lean ====
section
/-! DEFINITION. The dispatch of a command to its meaning, one arm per constructor. -/
namespace Sys2Proof.Machine
open Sys2Proof

/-- The effect of a command on everything but the queue of waiting commands. -/
def exec (i : Instr) (s : State) : Host.Outcome State Fault Refusal :=
  match i with
  | .dieLinkFrameReceive k up num crcOk ack => Sys2Proof.Machine.execDieLinkFrameReceive k up num crcOk ack s
  | .frameResend d up num => Sys2Proof.Machine.execFrameResend d up num s
  | .dieLinkCrcFault k up => Sys2Proof.Machine.execDieLinkCrcFault k up s
  | .railAgreement k => Sys2Proof.Machine.execRailAgreement k s
  | .idleFrameSend d up => Sys2Proof.Machine.execIdleFrameSend d up s
  | .controlDieSilent d => Sys2Proof.Machine.execControlDieSilent d s
  | .linkSiding w k => Sys2Proof.Machine.execLinkSiding w k s
  | .linkRejoin w k => Sys2Proof.Machine.execLinkRejoin w k s
  | .linkRetrainPass k => Sys2Proof.Machine.execLinkRetrainPass k s
  | .linkRetrainFail k => Sys2Proof.Machine.execLinkRetrainFail k s
  | .pairCompareMismatch p => Sys2Proof.Machine.execPairCompareMismatch p s
  | .dispatcherMismatch => Sys2Proof.Machine.execDispatcherMismatch s
  | .domainOn d => Sys2Proof.Machine.execDomainOn d s
  | .domainOff d => Sys2Proof.Machine.execDomainOff d s
  | .ioSupplyFault n => Sys2Proof.Machine.execIoSupplyFault n s
  | .overvoltageShutdown d => Sys2Proof.Machine.execOvervoltageShutdown d s
  | .overvoltageRelease d => Sys2Proof.Machine.execOvervoltageRelease d s
  | .resetNAssert => Sys2Proof.Machine.execResetNAssert s
  | .portReadArrival c q => Sys2Proof.Machine.execPortReadArrival c q s
  | .undefinedSyllable c sl w => Sys2Proof.Machine.execUndefinedSyllable c sl w s
  | .widen c neg ps imm => Sys2Proof.Machine.execWiden c neg ps imm s
  | .mov c sl gd rd rs => Sys2Proof.Machine.execMov c sl gd rd rs s
  | .movi c rd imm => Sys2Proof.Machine.execMovi c rd imm s
  | .add c sl gd rd rs => Sys2Proof.Machine.execAdd c sl gd rd rs s
  | .sub c sl gd rd rs => Sys2Proof.Machine.execSub c sl gd rd rs s
  | .and c sl gd rd rs => Sys2Proof.Machine.execAnd c sl gd rd rs s
  | .or c rd rs => Sys2Proof.Machine.execOr c rd rs s
  | .xor c rd rs => Sys2Proof.Machine.execXor c rd rs s
  | .andn c rd rs => Sys2Proof.Machine.execAndn c rd rs s
  | .shl c rd rs => Sys2Proof.Machine.execShl c rd rs s
  | .shr c rd rs => Sys2Proof.Machine.execShr c rd rs s
  | .sar c rd rs => Sys2Proof.Machine.execSar c rd rs s
  | .min c rd rs => Sys2Proof.Machine.execMin c rd rs s
  | .max c rd rs => Sys2Proof.Machine.execMax c rd rs s
  | .minu c rd rs => Sys2Proof.Machine.execMinu c rd rs s
  | .maxu c rd rs => Sys2Proof.Machine.execMaxu c rd rs s
  | .shli c rd imm => Sys2Proof.Machine.execShli c rd imm s
  | .shri c rd imm => Sys2Proof.Machine.execShri c rd imm s
  | .sari c rd imm => Sys2Proof.Machine.execSari c rd imm s
  | .movr c rd rs => Sys2Proof.Machine.execMovr c rd rs s
  | .addi c sl gd rd imm => Sys2Proof.Machine.execAddi c sl gd rd imm s
  | .ins c sl gd rd imm => Sys2Proof.Machine.execIns c sl gd rd imm s
  | .not c sl gd r => Sys2Proof.Machine.execNot c sl gd r s
  | .neg c sl gd r => Sys2Proof.Machine.execNeg c sl gd r s
  | .abs c sl gd r => Sys2Proof.Machine.execAbs c sl gd r s
  | .clz c sl gd r => Sys2Proof.Machine.execClz c sl gd r s
  | .sext8 c sl gd r => Sys2Proof.Machine.execSext8 c sl gd r s
  | .sext16 c sl gd r => Sys2Proof.Machine.execSext16 c sl gd r s
  | .zext8 c sl gd r => Sys2Proof.Machine.execZext8 c sl gd r s
  | .zext16 c sl gd r => Sys2Proof.Machine.execZext16 c sl gd r s
  | .rdcsw c sl gd r => Sys2Proof.Machine.execRdcsw c sl gd r s
  | .wrcsw c sl gd r => Sys2Proof.Machine.execWrcsw c sl gd r s
  | .rdpred c sl gd r => Sys2Proof.Machine.execRdpred c sl gd r s
  | .wrpred c sl gd r => Sys2Proof.Machine.execWrpred c sl gd r s
  | .rdq c sl gd q r => Sys2Proof.Machine.execRdq c sl gd q r s
  | .ldW c gd rd ra => Sys2Proof.Machine.execLdW c gd rd ra s
  | .ldHu c rd ra => Sys2Proof.Machine.execLdHu c rd ra s
  | .ldHs c rd ra => Sys2Proof.Machine.execLdHs c rd ra s
  | .ldBu c rd ra => Sys2Proof.Machine.execLdBu c rd ra s
  | .ldBs c rd ra => Sys2Proof.Machine.execLdBs c rd ra s
  | .stW c rd ra => Sys2Proof.Machine.execStW c rd ra s
  | .stH c rd ra => Sys2Proof.Machine.execStH c rd ra s
  | .stB c rd ra => Sys2Proof.Machine.execStB c rd ra s
  | .mac c gd ra rb => Sys2Proof.Machine.execMac c gd ra rb s
  | .msu c ra rb => Sys2Proof.Machine.execMsu c ra rb s
  | .macu c ra rb => Sys2Proof.Machine.execMacu c ra rb s
  | .mul c ra rb => Sys2Proof.Machine.execMul c ra rb s
  | .mull c ra rb => Sys2Proof.Machine.execMull c ra rb s
  | .ext c ra rb => Sys2Proof.Machine.execExt c ra rb s
  | .lda c ra rb => Sys2Proof.Machine.execLda c ra rb s
  | .asr c ra rb => Sys2Proof.Machine.execAsr c ra rb s
  | .prd c gd q ra => Sys2Proof.Machine.execPrd c gd q ra s
  | .pwr c rd ra => Sys2Proof.Machine.execPwr c rd ra s
  | .tarm c q d => Sys2Proof.Machine.execTarm c q d s
  | .tcancel c q d => Sys2Proof.Machine.execTcancel c q d s
  | .tread c q axis => Sys2Proof.Machine.execTread c q axis s
  | .lbind c d => Sys2Proof.Machine.execLbind c d s
  | .ldone c d a => Sys2Proof.Machine.execLdone c d a s
  | .br c gd n off => Sys2Proof.Machine.execBr c gd n off s
  | .jr c rs => Sys2Proof.Machine.execJr c rs s
  | .callr c rs => Sys2Proof.Machine.execCallr c rs s
  | .wait c => Sys2Proof.Machine.execWait c s
  | .trap c code => Sys2Proof.Machine.execTrap c code s
  | .cmp c gd ra rb => Sys2Proof.Machine.execCmp c gd ra rb s
  | .rdy c gd pd q => Sys2Proof.Machine.execRdy c gd pd q s
  | .pnot c gd pd => Sys2Proof.Machine.execPnot c gd pd s
  | .ple c gd => Sys2Proof.Machine.execPle c gd s
  | .activationEnd c => Sys2Proof.Machine.execActivationEnd c s
  | .eventArrival src pay ctx inp => Sys2Proof.Machine.execEventArrival src pay ctx inp s
  | .swapComplete c cycles => Sys2Proof.Machine.execSwapComplete c cycles s
  | .ctxCreate w n => Sys2Proof.Machine.execCtxCreate w n s
  | .ctxStop w n => Sys2Proof.Machine.execCtxStop w n s
  | .ctxResume w n => Sys2Proof.Machine.execCtxResume w n s
  | .ctxRestart w n => Sys2Proof.Machine.execCtxRestart w n s
  | .ctxSiding w n => Sys2Proof.Machine.execCtxSiding w n s
  | .ctxRelease w n => Sys2Proof.Machine.execCtxRelease w n s
  | .ctxDrain w n => Sys2Proof.Machine.execCtxDrain w n s
  | .tenantSiding w t => Sys2Proof.Machine.execTenantSiding w t s
  | .tenantRestart w t => Sys2Proof.Machine.execTenantRestart w t s
  | .pairSiding w p => Sys2Proof.Machine.execPairSiding w p s
  | .pairRejoin w p => Sys2Proof.Machine.execPairRejoin w p s
  | .pairTest w p => Sys2Proof.Machine.execPairTest w p s
  | .pairSelfTestEnd p pass => Sys2Proof.Machine.execPairSelfTestEnd p pass s
  | .tskCmdComplete => Sys2Proof.Machine.execTskCmdComplete s
  | .tskPost w inp ctx pay => Sys2Proof.Machine.execTskPost w inp ctx pay s
  | .violationClear w n => Sys2Proof.Machine.execViolationClear w n s
  | .registerWrite c addr v narrow => Sys2Proof.Machine.execRegisterWrite c addr v narrow s
  | .axisSourceUpdate n => Sys2Proof.Machine.execAxisSourceUpdate n s
  | .axisSourceLost n => Sys2Proof.Machine.execAxisSourceLost n s
  | .axisSourceReturn n => Sys2Proof.Machine.execAxisSourceReturn n s
  | .axisLoad w n hi => Sys2Proof.Machine.execAxisLoad w n hi s
  | .itemFire => Sys2Proof.Machine.execItemFire s
  | .rosterPeriodStart r => Sys2Proof.Machine.execRosterPeriodStart r s
  | .rosterEnable w r axis => Sys2Proof.Machine.execRosterEnable w r axis s
  | .rosterDisable w r => Sys2Proof.Machine.execRosterDisable w r s
  | .syncReceive port slave sec ns rate => Sys2Proof.Machine.execSyncReceive port slave sec ns rate s
  | .pdelayExchange port ns => Sys2Proof.Machine.execPdelayExchange port ns s
  | .announceReceive port utc => Sys2Proof.Machine.execAnnounceReceive port utc s
  | .a0Holdover => Sys2Proof.Machine.execA0Holdover s
  | .a0FreeRun => Sys2Proof.Machine.execA0FreeRun s
  | .a0Step w => Sys2Proof.Machine.execA0Step w s
  | .a0StepCancel w => Sys2Proof.Machine.execA0StepCancel w s
  | .a0StepApply => Sys2Proof.Machine.execA0StepApply s
  | .tpulseRise => Sys2Proof.Machine.execTpulseRise s
  | .tpulseFall => Sys2Proof.Machine.execTpulseFall s
  | .itemWakeLead k => Sys2Proof.Machine.execItemWakeLead k s
  | .itemStoreError k => Sys2Proof.Machine.execItemStoreError k s
  | .submit h n zeros entries => Sys2Proof.Machine.execSubmit h n zeros entries s
  | .poll h track flags maxN ack first rest => Sys2Proof.Machine.execPoll h track flags maxN ack first rest s
  | .query h cls cursor maxN rest => Sys2Proof.Machine.execQuery h cls cursor maxN rest s
  | .zlpUnknownType h => Sys2Proof.Machine.execZlpUnknownType h s
  | .journalSlot => Sys2Proof.Machine.execJournalSlot s
  | .admissionRecordWritten => Sys2Proof.Machine.execAdmissionRecordWritten s
  | .completionRecordWritten => Sys2Proof.Machine.execCompletionRecordWritten s
  | .sessionRecordWritten => Sys2Proof.Machine.execSessionRecordWritten s
  | .ticketPresent n => Sys2Proof.Machine.execTicketPresent n s
  | .bind w track stage => Sys2Proof.Machine.execBind w track stage s
  | .unbind w stage => Sys2Proof.Machine.execUnbind w stage s
  | .replay w => Sys2Proof.Machine.execReplay w s
  | .unfence w => Sys2Proof.Machine.execUnfence w s
  | .abandon w track => Sys2Proof.Machine.execAbandon w track s
  | .ldgCmdComplete => Sys2Proof.Machine.execLdgCmdComplete s
  | .scanHeadFound => Sys2Proof.Machine.execScanHeadFound s
  | .journalScanEnd => Sys2Proof.Machine.execJournalScanEnd s
  | .chOff w c val => Sys2Proof.Machine.execChOff w c val s
  | .chOn w c val => Sys2Proof.Machine.execChOn w c val s
  | .chDuty w c val => Sys2Proof.Machine.execChDuty w c val s
  | .chDutyc w c val => Sys2Proof.Machine.execChDutyc w c val s
  | .chLow w c val => Sys2Proof.Machine.execChLow w c val s
  | .chRejoin c val tkt => Sys2Proof.Machine.execChRejoin c val tkt s
  | .pwmPeriodStart c uv span => Sys2Proof.Machine.execPwmPeriodStart c uv span s
  | .sampleTrigger c code => Sys2Proof.Machine.execSampleTrigger c code s
  | .currentLimit c load => Sys2Proof.Machine.execCurrentLimit c load s
  | .junctionTrip c onTime => Sys2Proof.Machine.execJunctionTrip c onTime s
  | .thermalRestart c => Sys2Proof.Machine.execThermalRestart c s
  | .restartCountReset c => Sys2Proof.Machine.execRestartCountReset c s
  | .wireModelUpdate c avg tj volts => Sys2Proof.Machine.execWireModelUpdate c avg tj volts s
  | .feedGroupLost d g => Sys2Proof.Machine.execFeedGroupLost d g s
  | .feedGroupReturn d g => Sys2Proof.Machine.execFeedGroupReturn d g s
  | .openLoadTestStart c w => Sys2Proof.Machine.execOpenLoadTestStart c w s
  | .openLoadSettle c above => Sys2Proof.Machine.execOpenLoadSettle c above s
  | .reclaim w d => Sys2Proof.Machine.execReclaim w d s
  | .holdExpire d => Sys2Proof.Machine.execHoldExpire d s
  | .chSiding w d ch => Sys2Proof.Machine.execChSiding w d ch s
  | .budgetRun fixed ms => Sys2Proof.Machine.execBudgetRun fixed ms s
  | .ledPwmPeriod g => Sys2Proof.Machine.execLedPwmPeriod g s
  | .ledDerateUpdate d tj => Sys2Proof.Machine.execLedDerateUpdate d tj s
  | .sinkStringCheck k low high => Sys2Proof.Machine.execSinkStringCheck k low high s
  | .sinkTsd k => Sys2Proof.Machine.execSinkTsd k s
  | .matrixEnable w m => Sys2Proof.Machine.execMatrixEnable w m s
  | .matrixBlank w m => Sys2Proof.Machine.execMatrixBlank w m s
  | .matrixDim w m val => Sys2Proof.Machine.execMatrixDim w m val s
  | .frameSwap w n => Sys2Proof.Machine.execFrameSwap w n s
  | .stitchShift w k => Sys2Proof.Machine.execStitchShift w k s
  | .stitchLatch w k => Sys2Proof.Machine.execStitchLatch w k s
  | .portSiding w p => Sys2Proof.Machine.execPortSiding w p s
  | .portRejoin w p => Sys2Proof.Machine.execPortRejoin w p s
  | .portRejoinEffect p => Sys2Proof.Machine.execPortRejoinEffect p s
  | .swapEffect n => Sys2Proof.Machine.execSwapEffect n s
  | .fsyncEdge n => Sys2Proof.Machine.execFsyncEdge n s
  | .fsyncTimeout n => Sys2Proof.Machine.execFsyncTimeout n s
  | .apertureWrite w n k v => Sys2Proof.Machine.execApertureWrite w n k v s
  | .lineSlotStart m => Sys2Proof.Machine.execLineSlotStart m s
  | .tableCopyDone m => Sys2Proof.Machine.execTableCopyDone m s
  | .shiftStart k => Sys2Proof.Machine.execShiftStart k s
  | .shiftEnd k back mark => Sys2Proof.Machine.execShiftEnd k back mark s
  | .latchPulse k => Sys2Proof.Machine.execLatchPulse k s
  | .frameMemoryError w => Sys2Proof.Machine.execFrameMemoryError w s
  | .inputSample n v => Sys2Proof.Machine.execInputSample n v s
  | .wettingPulse n => Sys2Proof.Machine.execWettingPulse n s
  | .levelChange n => Sys2Proof.Machine.execLevelChange n s
  | .debounceRestart w n wet v => Sys2Proof.Machine.execDebounceRestart w n wet v s
  | .lineFaultDeclare n high => Sys2Proof.Machine.execLineFaultDeclare n high s
  | .lineFaultClear n => Sys2Proof.Machine.execLineFaultClear n s
  | .adcGo w n => Sys2Proof.Machine.execAdcGo w n s
  | .adcPeriodicTrigger n => Sys2Proof.Machine.execAdcPeriodicTrigger n s
  | .adcReadingDone d code => Sys2Proof.Machine.execAdcReadingDone d code s
  | .inputWakeRequest n => Sys2Proof.Machine.execInputWakeRequest n s
  | .canStart w u => Sys2Proof.Machine.execCanStart w u s
  | .canStop w u => Sys2Proof.Machine.execCanStop w u s
  | .canSiding w u => Sys2Proof.Machine.execCanSiding w u s
  | .canRejoin w u => Sys2Proof.Machine.execCanRejoin w u s
  | .canTtswitch w u => Sys2Proof.Machine.execCanTtswitch w u s
  | .canIntegrated u => Sys2Proof.Machine.execCanIntegrated u s
  | .canFrameReceive u f sof eof error => Sys2Proof.Machine.execCanFrameReceive u f sof eof error s
  | .canError u lec dphase own dataField exempt flag => Sys2Proof.Machine.execCanError u lec dphase own dataField exempt flag s
  | .canRecoveryComplete u => Sys2Proof.Machine.execCanRecoveryComplete u s
  | .platformAck w u x n => Sys2Proof.Machine.execPlatformAck w u x n s
  | .objectAck w u n cnt free => Sys2Proof.Machine.execObjectAck w u n cnt free s
  | .txRequest w u b => Sys2Proof.Machine.execTxRequest w u b s
  | .txCancel w u b => Sys2Proof.Machine.execTxCancel w u b s
  | .canTxStart u sof => Sys2Proof.Machine.execCanTxStart u sof s
  | .canTxValid u eof error => Sys2Proof.Machine.execCanTxValid u eof error s
  | .slotRelease u row col tkt late => Sys2Proof.Machine.execSlotRelease u row col tkt late s
  | .slotWindowExpire u b => Sys2Proof.Machine.execSlotWindowExpire u b s
  | .txdDominantTimeout u => Sys2Proof.Machine.execTxdDominantTimeout u s
  | .busManageEnable w b => Sys2Proof.Machine.execBusManageEnable w b s
  | .busManageDisable w b => Sys2Proof.Machine.execBusManageDisable w b s
  | .busVote w b on => Sys2Proof.Machine.execBusVote w b on s
  | .busPinWrite w b pin => Sys2Proof.Machine.execBusPinWrite w b pin s
  | .keepaliveSend b => Sys2Proof.Machine.execKeepaliveSend b s
  | .busSleepTimer b => Sys2Proof.Machine.execBusSleepTimer b s
  | .remoteWake b d => Sys2Proof.Machine.execRemoteWake b d s
  | .linGotosleepReceive u => Sys2Proof.Machine.execLinGotosleepReceive u s
  | .linWakeupSignal u => Sys2Proof.Machine.execLinWakeupSignal u s
  | .ethFrameReceive n f => Sys2Proof.Machine.execEthFrameReceive n f s
  | .ethLinkUp n => Sys2Proof.Machine.execEthLinkUp n s
  | .ethLinkFail n => Sys2Proof.Machine.execEthLinkFail n s
  | .ethPortEnable w n => Sys2Proof.Machine.execEthPortEnable w n s
  | .ethPortDisable w n => Sys2Proof.Machine.execEthPortDisable w n s
  | .t1sFrameReceive n fcsOk data sfd => Sys2Proof.Machine.execT1sFrameReceive n fcsOk data sfd s
  | .rxack w n k => Sys2Proof.Machine.execRxack w n k s
  | .txreq w n b => Sys2Proof.Machine.execTxreq w n b s
  | .t1sSiding w n => Sys2Proof.Machine.execT1sSiding w n s
  | .t1sRejoin w n => Sys2Proof.Machine.execT1sRejoin w n s
  | .t1sTxEnd n sent sfd => Sys2Proof.Machine.execT1sTxEnd n sent sfd s
  | .t1sJabber n => Sys2Proof.Machine.execT1sJabber n s
  | .linSlotStart u => Sys2Proof.Machine.execLinSlotStart u s
  | .linHeader u id parityOk => Sys2Proof.Machine.execLinHeader u id parityOk s
  | .linResponseEnd u data how => Sys2Proof.Machine.execLinResponseEnd u data how s
  | .linNoResponse u => Sys2Proof.Machine.execLinNoResponse u s
  | .linBusFault u => Sys2Proof.Machine.execLinBusFault u s
  | .linSiding w u => Sys2Proof.Machine.execLinSiding w u s
  | .linRejoin w u => Sys2Proof.Machine.execLinRejoin w u s
  | .linRejoinEffect u => Sys2Proof.Machine.execLinRejoinEffect u s
  | .spiWrite start len frame crc => Sys2Proof.Machine.execSpiWrite start len frame crc s
  | .spiRead n => Sys2Proof.Machine.execSpiRead n s
  | .i2cTransfer w n addr wlen rlen => Sys2Proof.Machine.execI2cTransfer w n addr wlen rlen s
  | .i2cTransferEnd n result nbyte data => Sys2Proof.Machine.execI2cTransferEnd n result nbyte data s
  | .i2cStretchTimeout n => Sys2Proof.Machine.execI2cStretchTimeout n s
  | .accPoll w mask => Sys2Proof.Machine.execAccPoll w mask s
  | .accEnd w entry drive => Sys2Proof.Machine.execAccEnd w entry drive s
  | .accResume w => Sys2Proof.Machine.execAccResume w s
  | .clrlock w => Sys2Proof.Machine.execClrlock w s
  | .keyRevoke w k => Sys2Proof.Machine.execKeyRevoke w k s
  | .lfWakeBurst => Sys2Proof.Machine.execLfWakeBurst s
  | .rangingRequest => Sys2Proof.Machine.execRangingRequest s
  | .rangingReply flight => Sys2Proof.Machine.execRangingReply flight s
  | .noReply => Sys2Proof.Machine.execNoReply s
  | .keyMessage id cmd delay n mac => Sys2Proof.Machine.execKeyMessage id cmd delay n mac s
  | .announce => Sys2Proof.Machine.execAnnounce s
  | .probe => Sys2Proof.Machine.execProbe s
  | .presence a => Sys2Proof.Machine.execPresence a s
  | .lockoutEnd => Sys2Proof.Machine.execLockoutEnd s
  | .candidateExpire k => Sys2Proof.Machine.execCandidateExpire k s
  | .sessionTimeout drive => Sys2Proof.Machine.execSessionTimeout drive s
  | .parkedTimerTick => Sys2Proof.Machine.execParkedTimerTick s
  | .ignRise => Sys2Proof.Machine.execIgnRise s
  | .mtrEnergy w => Sys2Proof.Machine.execMtrEnergy w s
  | .mtrInstant w => Sys2Proof.Machine.execMtrInstant w s
  | .mtrLog w first => Sys2Proof.Machine.execMtrLog w first s
  | .mtrSeal w => Sys2Proof.Machine.execMtrSeal w s
  | .mtrKey w => Sys2Proof.Machine.execMtrKey w s
  | .mtrResponse time imp exp inst => Sys2Proof.Machine.execMtrResponse time imp exp inst s
  | .gridPhaseUpdate c => Sys2Proof.Machine.execGridPhaseUpdate c s
  | .gridLost time => Sys2Proof.Machine.execGridLost time s
  | .gridReturn time c => Sys2Proof.Machine.execGridReturn time c s
  | .meterSilent => Sys2Proof.Machine.execMeterSilent s
  | .meterLinkRestore time => Sys2Proof.Machine.execMeterLinkRestore time s
  | .meterSupplyLoss imp exp => Sys2Proof.Machine.execMeterSupplyLoss imp exp s
  | .coreSrcSelect w src => Sys2Proof.Machine.execCoreSrcSelect w src s
  | .opChange w op => Sys2Proof.Machine.execOpChange w op s
  | .opChangeDone => Sys2Proof.Machine.execOpChangeDone s
  | .xtalStable => Sys2Proof.Machine.execXtalStable s
  | .pllLock one => Sys2Proof.Machine.execPllLock one s
  | .xtalStartFail => Sys2Proof.Machine.execXtalStartFail s
  | .xtalFail => Sys2Proof.Machine.execXtalFail s
  | .pll0Fail => Sys2Proof.Machine.execPll0Fail s
  | .pll1Fail => Sys2Proof.Machine.execPll1Fail s
  | .lpoFail => Sys2Proof.Machine.execLpoFail s
  | .fircFail => Sys2Proof.Machine.execFircFail s
  | .xtalsel w aged => Sys2Proof.Machine.execXtalsel w aged s
  | .clockLoss => Sys2Proof.Machine.execClockLoss s
  | .clockLossRelease => Sys2Proof.Machine.execClockLossRelease s
  | .gateWrite w v => Sys2Proof.Machine.execGateWrite w v s
  | .doze w => Sys2Proof.Machine.execDoze w s
  | .run w => Sys2Proof.Machine.execRun w s
  | .park w => Sys2Proof.Machine.execPark w s
  | .off w => Sys2Proof.Machine.execOff w s
  | .abort w => Sys2Proof.Machine.execAbort w s
  | .softwareReset w key => Sys2Proof.Machine.execSoftwareReset w key s
  | .handshakeCommit => Sys2Proof.Machine.execHandshakeCommit s
  | .handshakeTimeout => Sys2Proof.Machine.execHandshakeTimeout s
  | .parkEntry => Sys2Proof.Machine.execParkEntry s
  | .parkBeat => Sys2Proof.Machine.execParkBeat s
  | .wakeRequest code detail same => Sys2Proof.Machine.execWakeRequest code detail same s
  | .wake => Sys2Proof.Machine.execWake s
  | .offEntry => Sys2Proof.Machine.execOffEntry s
  | .offWake input => Sys2Proof.Machine.execOffWake input s
  | .powerFailWarning => Sys2Proof.Machine.execPowerFailWarning s
  | .powerFailClear => Sys2Proof.Machine.execPowerFailClear s
  | .coldReset => Sys2Proof.Machine.execColdReset s
  | .supplyReset => Sys2Proof.Machine.execSupplyReset s
  | .activationReset => Sys2Proof.Machine.execActivationReset s
  | .startUp good0 good1 => Sys2Proof.Machine.execStartUp good0 good1 s
  | .sourceRaise src wire hold detail => Sys2Proof.Machine.execSourceRaise src wire hold detail s
  | .recordAutoclose => Sys2Proof.Machine.execRecordAutoclose s
  | .close w => Sys2Proof.Machine.execClose w s
  | .clearsafe w => Sys2Proof.Machine.execClearsafe w s
  | .aliveToggle => Sys2Proof.Machine.execAliveToggle s
  | .watchdogExpire => Sys2Proof.Machine.execWatchdogExpire s
  | .aliveKick w => Sys2Proof.Machine.execAliveKick w s
  | .swraise w n => Sys2Proof.Machine.execSwraise w n s
  | .safeNLow => Sys2Proof.Machine.execSafeNLow s
  | .tempSample t temp => Sys2Proof.Machine.execTempSample t temp s
  | .railFault r v below above => Sys2Proof.Machine.execRailFault r v below above s
  | .pmMeasure m f below => Sys2Proof.Machine.execPmMeasure m f below s
  | .post w code len => Sys2Proof.Machine.execPost w code len s
  | .flush w => Sys2Proof.Machine.execFlush w s
  | .flushDone => Sys2Proof.Machine.execFlushDone s
  | .calendarSet w hi => Sys2Proof.Machine.execCalendarSet w hi s
  | .recorderScanEnd => Sys2Proof.Machine.execRecorderScanEnd s
  | .opsecSave => Sys2Proof.Machine.execOpsecSave s
  | .selfTestEnd lfail fails => Sys2Proof.Machine.execSelfTestEnd lfail fails s
  | .selfTestAbort => Sys2Proof.Machine.execSelfTestAbort s
  | .begin h kind zero blocks => Sys2Proof.Machine.execBegin h kind zero blocks s
  | .data h block off len d => Sys2Proof.Machine.execData h block off len d s
  | .check h body => Sys2Proof.Machine.execCheck h body s
  | .status h body => Sys2Proof.Machine.execStatus h body s
  | .activate h body => Sys2Proof.Machine.execActivate h body s
  | .keyset h slot ctr rest key wrapOk sigOk => Sys2Proof.Machine.execKeyset h slot ctr rest key wrapOk sigOk s
  | .revert h body => Sys2Proof.Machine.execRevert h body s
  | .updBegin w kind blocks => Sys2Proof.Machine.execUpdBegin w kind blocks s
  | .updWrite w block => Sys2Proof.Machine.execUpdWrite w block s
  | .updCheck w => Sys2Proof.Machine.execUpdCheck w s
  | .updActivate w => Sys2Proof.Machine.execUpdActivate w s
  | .confirm w => Sys2Proof.Machine.execConfirm w s
  | .saverec w => Sys2Proof.Machine.execSaverec w s
  | .checkDone hdr sig bad dig copied segs => Sys2Proof.Machine.execCheckDone hdr sig bad dig copied segs s
  | .tenantSegmentLoaded => Sys2Proof.Machine.execTenantSegmentLoaded s
  | .trialExpire => Sys2Proof.Machine.execTrialExpire s
  | .settingsWrite w off len => Sys2Proof.Machine.execSettingsWrite w off len s
  | .settingsWriteDone => Sys2Proof.Machine.execSettingsWriteDone s
  | .change w t now => Sys2Proof.Machine.execChange w t now s
  | .cancel w => Sys2Proof.Machine.execCancel w s
  | .stagingAck => Sys2Proof.Machine.execStagingAck s
  | .sinkThermalRestart k => Sys2Proof.Machine.execSinkThermalRestart k s
  | .powerDieTakenAsOff d => Sys2Proof.Machine.execPowerDieTakenAsOff d s
  | .arbitrationLost u => Sys2Proof.Machine.execArbitrationLost u s
  | .delayRefuseExpire b => Sys2Proof.Machine.execDelayRefuseExpire b s
  | .linWakeupReceive u => Sys2Proof.Machine.execLinWakeupReceive u s
  | .plcaStatusChange n ok => Sys2Proof.Machine.execPlcaStatusChange n ok s
  | .meterSelfCheckFail time check => Sys2Proof.Machine.execMeterSelfCheckFail time check s
  | .referenceSwitchDone => Sys2Proof.Machine.execReferenceSwitchDone s
  | .supplyResetAssert => Sys2Proof.Machine.execSupplyResetAssert s
  | .sourceReturnToIdle src => Sys2Proof.Machine.execSourceReturnToIdle src s
  | .safeNHigh => Sys2Proof.Machine.execSafeNHigh s
  | .ignFall => Sys2Proof.Machine.execIgnFall s
  | .blockWriteDone => Sys2Proof.Machine.execBlockWriteDone s
  | .ioSupplyReturn n => Sys2Proof.Machine.execIoSupplyReturn n s

end Sys2Proof.Machine
end

