-- ==== Sys2Proof/Machine/Idle.lean ====
section
/-! DEFINITION. What the device does of itself while no command waits: a handshake refusal ends the handshake, raises reach the signal box, events
reach their inputs, queued frames leave, due items fire, and the time bases count (log entry 4). -/
namespace Sys2Proof.Machine
open Sys2Proof Reg

/-- Whether a block refuses the handshake in progress (R447). -/
def hsRefused (s : State) : Bool := match s.pwr.target with | some park => (hsRefusal s park).isSome | none => false

/-- The event on its way with the lowest source index, the oldest of its source (R160). -/
def firstEvent : List EvMsg → Option EvMsg
  | [] => none
  | m :: ms =>
    match firstEvent ms with
    | none => some m
    | some x => if x.src < m.src then some x else some m

/-- An event on its way reaches its input (R162): those of one cycle in order of ascending source index (R160). The time bases count only
while no event is on its way, so all of them are of one cycle (log entry 4): the contexts that they make Ready or Resident became so in that one
cycle (R155, R156). -/
def nextEvent (s : State) : State :=
  match firstEvent s.evq with
  | none => s
  | some m =>
    let t := eventArrives s m
    { t with cpu := { t.cpu with stamp := if t.evq.isEmpty then s.cpu.stamp + 1 else s.cpu.stamp } }

/-- Whether the time bases count on the LPO (R205, R432): in Park, and after a wake until PLL1 is locked. -/
def onLpo (s : State) : Bool := s.pwr.phase == .park || (clkRuns s && s.bit PWR_STATUS_pllwait)

/-- One thing the device does of itself: the first of these that there is to do. -/
def idle (s : State) : State :=
  if hsRefused s then hsJudge s
  else if wakeable s && s.bit PWR_CFG_pdfault && ! bitOf (s.rd PWR_WAKEMASK) 8 && (dieFault s 0 || dieFault s 1) then faultWakes s
  else if clkRuns s && ckoutDue s then ckoutTaken s
  else if ctlReached s && (readyPosted s).isSome then servePosted s
  else if clkRuns s && ! s.raiseQ.isEmpty then nextRaise s
  else if clkRuns s && ! s.evq.isEmpty then nextEvent s
  else if wakeable s && (nextWake s).isSome then (match nextWake s with | some k => wakeLead s k | none => s)
  else if dieRuns s && ! s.acc.probes.isEmpty then probeStep s
  else if ethSends s 0 then ethLeave s 0
  else if ethSends s 1 then ethLeave s 1
  else if canServe s then serveDue s
  else if tlnRuns s && s.tln.atBound then boundary s
  else if tlnRuns s then tlnTick (pulseFall s)
  else if onLpo s then lpoTick s
  else s

end Sys2Proof.Machine
end

