-- ==== Sys2Proof/Machine/Encoding.lean ====
section
/-! DEFINITION. The encoding of Thiuc syllables (R126 to R149): the command that a 14-bit word is in each slot of a packet. -/
namespace Sys2Proof.Machine
open Sys2Proof

/-! ## Fields (R126) -/

/-- Bits 13:12. -/
def sylGuard (y : Syl) : Guard := (y.extractLsb' 12 2).toFin
/-- Bits 11:8. -/
def sylMajor (y : Syl) : Fin 16 := (y.extractLsb' 8 4).toFin
/-- Bits 7:4. -/
def sylRd (y : Syl) : GReg := (y.extractLsb' 4 4).toFin
/-- Bits 3:0. -/
def sylRs (y : Syl) : GReg := (y.extractLsb' 0 4).toFin
/-- Bits 5:4 and 1:0, a port register in the rd or the rs field. -/
def sylRdQ (y : Syl) : QReg := (y.extractLsb' 4 2).toFin
def sylRsQ (y : Syl) : QReg := (y.extractLsb' 0 2).toFin

/-- A syllable put together from its fields (R126). -/
def assemble (gd : Guard) (major : Fin 16) (rd rs : GReg) : Syl :=
  BitVec.ofNat 14 (gd * 0x1000 + major * 0x100 + rd * 0x10 + rs)

/-- The payload of a WIDEN (R129). -/
def widenOf (y : Syl) : Widen := ⟨y.getLsbD 13, (y.extractLsb' 12 1 ++ y.extractLsb' 8 2).toNat, y.extractLsb' 0 8⟩

/-! ## The forms of the majors -/

/-- An XOP by its sub-operation (R133). -/
def decodeXop (c : CtxId) (sl : Slot) (y : Syl) : Instr :=
  let gd := sylGuard y
  let r := sylRs y
  match (sylRd y).val with
  | 0x0 => .not c sl gd r
  | 0x1 => .neg c sl gd r
  | 0x2 => .abs c sl gd r
  | 0x3 => .clz c sl gd r
  | 0x4 => .sext8 c sl gd r
  | 0x5 => .sext16 c sl gd r
  | 0x6 => .zext8 c sl gd r
  | 0x7 => .zext16 c sl gd r
  | 0x8 => .rdcsw c sl gd r
  | 0x9 => .wrcsw c sl gd r
  | 0xA => .rdpred c sl gd r
  | 0xB => .wrpred c sl gd r
  | _ => .rdq c sl gd (sylRdQ y) r

/-- CMP, and with ra = rb the forms of R135. -/
def decodeCmp (c : CtxId) (y : Syl) : Instr :=
  let gd := sylGuard y
  if sylRd y ≠ sylRs y then .cmp c gd (sylRd y) (sylRs y)
  else
    match (y.extractLsb' 2 2).toNat, (y.extractLsb' 0 2).toNat with
    | 0, _ => .rdy c gd 0 (sylRsQ y)
    | 1, _ => .rdy c gd 1 (sylRsQ y)
    | 2, _ => .rdy c gd 2 (sylRsQ y)
    | _, 0 => .pnot c gd 0
    | _, 1 => .pnot c gd 1
    | _, 2 => .pnot c gd 2
    | _, _ => .ple c gd

/-- BR, and with guard field 00 and n = 1 the control forms (R137, R138). -/
def decodeBr (c : CtxId) (y : Syl) : Instr :=
  if sylGuard y = 0 ∧ y.getLsbD 7 then
    if y.getLsbD 6 then .trap c (y.extractLsb' 0 6).toFin
    else
      match (y.extractLsb' 4 2).toNat with
      | 0 => .jr c (sylRs y)
      | 1 => .callr c (sylRs y)
      | _ => .wait c
  else .br c (sylGuard y) (y.getLsbD 7) (y.extractLsb' 0 7)

/-- LOG under a WIDEN (R132). -/
def decodeLog (c : CtxId) (w : Widen) (y : Syl) : Instr :=
  let rd := sylRd y
  let rs := sylRs y
  match w.bits 3 0 with
  | 0x0 => .and c .B (sylGuard y) rd rs
  | 0x1 => .or c rd rs
  | 0x2 => .xor c rd rs
  | 0x3 => .andn c rd rs
  | 0x4 => .shl c rd rs
  | 0x5 => .shr c rd rs
  | 0x6 => .sar c rd rs
  | 0x7 => .min c rd rs
  | 0x8 => .max c rd rs
  | 0x9 => .minu c rd rs
  | 0xA => .maxu c rd rs
  | 0xB => .shli c rd rs
  | 0xC => .shri c rd rs
  | 0xD => .sari c rd rs
  | _ => .movr c rd rs

/-- MEM under a WIDEN (R140). -/
def decodeMem (c : CtxId) (w : Widen) (y : Syl) : Instr :=
  let rd := sylRd y
  let ra := sylRs y
  match w.bits 7 7, w.bits 6 4 with
  | 0, 0 => .ldW c (sylGuard y) rd ra
  | 0, 1 => .ldHu c rd ra
  | 0, 2 => .ldHs c rd ra
  | 0, 3 => .ldBu c rd ra
  | 0, _ => .ldBs c rd ra
  | _, 0 => .stW c rd ra
  | _, 1 => .stH c rd ra
  | _, _ => .stB c rd ra

/-- MAC under a WIDEN (R142). -/
def decodeMac (c : CtxId) (w : Widen) (y : Syl) : Instr :=
  let ra := sylRd y
  let rb := sylRs y
  match w.bits 6 4 with
  | 0 => .mac c (sylGuard y) ra rb
  | 1 => .msu c ra rb
  | 2 => .macu c ra rb
  | 3 => .mul c ra rb
  | 4 => .mull c ra rb
  | 5 => .ext c ra rb
  | 6 => .lda c ra rb
  | _ => .asr c ra rb

/-- PIO under a WIDEN (R144, R146, R147). -/
def decodePio (c : CtxId) (w : Widen) (y : Syl) : Instr :=
  match w.bits 7 6, w.bits 5 4 with
  | 0, _ => .prd c (sylGuard y) (sylRdQ y) (sylRs y)
  | 1, _ => .pwr c (sylRd y) (sylRs y)
  | 2, 0 => .tarm c (sylRsQ y) (sylRd y)
  | 2, 1 => .tcancel c (sylRsQ y) (sylRd y)
  | 2, _ => .tread c (sylRsQ y) (y.extractLsb' 4 3).toFin
  | _, 0 => .lbind c (sylRd y)
  | _, _ => .ldone c (sylRd y) (sylRs y)

/-! ## The command of a word -/

/-- A defined word of slot A (R127). -/
def decodeA (c : CtxId) (y : Syl) : Instr :=
  let gd := sylGuard y
  let rd := sylRd y
  let rs := sylRs y
  match (sylMajor y).val with
  | 0x0 => .mov c .A gd rd rs
  | 0x1 => .add c .A gd rd rs
  | 0x2 => .sub c .A gd rd rs
  | 0x3 => .and c .A gd rd rs
  | 0x4 => .addi c .A gd rd rs
  | 0x5 => .ins c .A gd rd rs
  | 0x6 => decodeXop c .A y
  | 0xA => decodeBr c y
  | 0xB => decodeCmp c y
  | _ => .widen c (widenOf y).neg (y.extractLsb' 12 1 ++ y.extractLsb' 8 2 : BitVec 3).toFin (widenOf y).imm

/-- A defined word of slot B, after a WIDEN in slot A or without one (R127, R130). -/
def decodeB (c : CtxId) (wd : Option Widen) (y : Syl) : Instr :=
  let gd := sylGuard y
  let rd := sylRd y
  let rs := sylRs y
  match (sylMajor y).val with
  | 0x0 => if wd.isSome then .movi c rd rs else .mov c .B gd rd rs
  | 0x1 => .add c .B gd rd rs
  | 0x2 => .sub c .B gd rd rs
  | 0x3 => match wd with | some w => decodeLog c w y | none => .and c .B gd rd rs
  | 0x4 => .addi c .B gd rd rs
  | 0x5 => .ins c .B gd rd rs
  | 0x6 => decodeXop c .B y
  | 0x7 => match wd with | some w => decodeMem c w y | none => .ldW c gd rd rs
  | 0x8 => match wd with | some w => decodeMac c w y | none => .mac c gd rd rs
  | _ => match wd with | some w => decodePio c w y | none => .prd c gd (sylRdQ y) rs

/-- The command that a word is for a context (R126 to R149): an undefined one in its slot (R128, R149), or what its major and fields say. -/
def decodeSyl (c : CtxId) (sl : Slot) (wd : Option Widen) (y : Syl) : Instr :=
  if undefinedSyl sl wd y then .undefinedSyllable c sl y
  else match sl with | .A => decodeA c y | .B => decodeB c wd y

/-- The payload that slot A gives slot B: a WIDEN's, or none (R129, R130). -/
def widenIn (a : Syl) : Option Widen := if 12 ≤ (sylMajor a).val then some (widenOf a) else none

/-- The two commands of a packet, slot A first (R86, R126). -/
def decodePacket (c : CtxId) (a b : Syl) : List Instr := [decodeSyl c .A none a, decodeSyl c .B (widenIn a) b]

/-- The two commands of the packet at a word address of instruction SRAM (R84, R88): the even word is slot A. -/
def packetAt (s : State) (c : CtxId) (a : Nat) : List Instr := decodePacket c (s.imemWord (2 * (a / 2))) (s.imemWord (2 * (a / 2) + 1))

end Sys2Proof.Machine
end

