-- ==== Sys2Proof/Safety.lean ====
section
/-! DEFINITION. What counts as a safe run, and the canonical form of the memories. -/
namespace Sys2Proof.Machine
open Sys2Proof

/-- The canonical form of every addressed memory of the device: data SRAM, MRAM, context memory, frame memory, CAN message RAM and the
10BASE-T1S buffers. -/
def Memory.wf (s : State) : Bool :=
  SMap.wf 0 s.cpu.dmem && SMap.wfBy mramBlank s.cpu.mram && SMap.wf 0 s.cpu.frames && SMap.wf 0 s.led.fmem && SMap.wf 0 s.can.msg
    && SMap.wf 0 s.net.t1s.mem

/-- The invariant of every step: the memories are canonical, and so are the store of the contexts and the store of the tickets. -/
def Inv (s : State) : Bool := Memory.wf s && SMap.wf Ctx.init s.cpu.ctxs && SMap.sorted s.ldg.tickets

/-- A run is safe when no step of it ends in a fault or a refusal. -/
def SafeFor (n : Nat) (s : State) : Prop := ∃ t, Sys2Proof.core.run n s = .next t

end Sys2Proof.Machine
end

