-- ==== Sys2Proof/WellFormed.lean ====
section
/-! DEFINITION. Which commands are well formed: what a command's operands can be where their types alone admit more. -/
namespace Sys2Proof

/-- The number of data bytes a CAN frame's length code stands for: 0 to 8, then 12, 16, 20, 24, 32, 48, 64 in CAN FD; 8 at most in
classical frames (12_can_controllers.md, "Message RAM"). -/
def canBytes (fdf : Bool) (dlc : Nat) : Nat :=
  if dlc ≤ 8 then dlc else if fdf then [12, 16, 20, 24, 32, 48, 64].getD (dlc - 9) 64 else 8

/-- A frame as a CAN bus can carry it: a standard identifier has no extension bits, a CAN FD frame is no remote frame, a remote frame
carries no data, and the data are as long as the length code says. -/
def CanFrame.wellFormed (f : CanFrame) : Bool :=
  (f.xtd || f.id.toNat % 2 ^ 18 == 0) && ! (f.fdf && f.rtr) && f.data.length == (if f.rtr then 0 else canBytes f.fdf f.dlc.toNat)

/-- A segment whose context table names contexts of the device (R511). -/
def Seg.wellFormed (g : Seg) : Bool := g.table.all fun e => decide (e.1 < 512)

/-- A frame of a message: its type, and a body as long as L says where L itself holds (R235 to R237). A body comes in its parts, the fields of its
message and what follows them, which are the body when they are joined. -/
def ZHdr.carries (h : ZHdr) (type : Nat) (body : List Byte) : Bool := h.type.toNat == type && (! h.lenOk || body.length == h.len)

/-- Whether a command is well formed. A task context is 0 to 511, a core pair 0 to 7 and a tenant 0 to 15 by its own checks, so an index
out of range is a command the device answers, not an ill-formed one. -/
def Instr.wellFormed : Instr → Bool
  | .rosterPeriodStart r => decide (r.val ≠ 0)
  | .tarm _ _ d => decide (d.val ≤ 12)
  | .submit h n z es => h.carries 0x01 (n ++ z ++ es)
  | .poll h tr fl m ack fst r => h.carries 0x02 (tr ++ fl ++ m ++ ack ++ fst ++ r)
  | .query h cls cur m r => h.carries 0x03 (cls ++ cur ++ m ++ r)
  | .zlpUnknownType h => ! ([0x01, 0x02, 0x03, 0x30, 0x31, 0x32, 0x33, 0x34, 0x35, 0x36].contains h.type.toNat)
  | .begin h k z n => h.carries 0x30 (k ++ z ++ n)
  | .data h blk o len d => h.carries 0x31 (blk ++ o ++ len ++ d)
  | .check h b => h.carries 0x32 b
  | .status h b => h.carries 0x33 b
  | .activate h b => h.carries 0x34 b
  | .keyset h k ctr r _ _ _ => h.carries 0x35 (k ++ ctr ++ r)
  | .revert h b => h.carries 0x36 b
  | .budgetRun _ ms => ms.length == 104
  | .canFrameReceive _ f .. => f.wellFormed
  | .linResponseEnd _ d _ => decide (d.length ≤ 8)
  | .i2cTransferEnd _ _ nbyte d => d.length == nbyte.val
  | .mtrResponse _ _ _ inst => inst.length == 13
  | .checkDone _ _ _ _ _ segs => segs.all Seg.wellFormed
  | _ => true

end Sys2Proof
end

