-- ==== Sys2Proof/Certificates/Slice0/Obligations.lean ====
section
/-! DEFINITION. The statements about the model, for the provers. Every one that says a command completes gives its next state, so it says as well what the
command leaves alone. -/
namespace Sys2Proof.Machine

/-- The command completes: it answers a next state, of which `P` holds. -/
def Completes (c : Instr) (s : State) (P : State → Prop) : Prop := ∃ t, exec c s = .next t ∧ P t

/-- Every register but those listed reads as before. -/
def RegsBut (rs : List Rg) (s t : State) : Prop := ∀ r : Rg, r.addr ∉ rs.map Rg.addr → t.rd r = s.rd r

/-- Nothing but registers has changed, and of these only those listed. -/
def OnlyRegs (rs : List Rg) (s t : State) : Prop := t = { s with regs := t.regs } ∧ RegsBut rs s t

end Sys2Proof.Machine

open Sys2Proof Sys2Proof.Machine Sys2Proof.Machine.Reg

namespace Sys2Proof.Machine

/-- Context `c` is `x` now; every other context, and everything else, is as before. -/
def CtxNow (s t : State) (c : Nat) (x : Ctx) : Prop :=
  t.ctx c = x ∧ (∀ d, d ≠ c → t.ctx d = s.ctx d) ∧ t = { s with cpu := { s.cpu with ctxs := t.cpu.ctxs } }

/-- The state that a syllable reads at its issue: an issue begins with slot A, when what is due lands (R98). -/
def atIssue (s : State) (c : Nat) : Slot → State
  | .A => tick s c
  | .B => s

/-- Context `c` stands before slot `sl` of a packet, under the WIDEN `w`. Before slot A no packet is open, the context issues, and the packet at its
program counter lies in its code window and has no uncorrectable error, and is not the first of context 0 after a start. Before slot B the packet is open, be it a delay packet or not, and
whether its slot A took a transfer or not. -/
def Before (s : State) (c : Nat) (w : Option Widen) : Slot → Prop
  | .A => w = none ∧ (s.ctx c).packet = none ∧ canIssue s c = true ∧ (c = 0 → s.pwr.first = false) ∧ s.codeCovered c (s.ctx c).regs.pc = true ∧
      SMap.get 0 s.cpu.imemErr ((s.ctx c).regs.pc / 2) = 0
  | .B => ∃ tk, (s.ctx c).packet = some ⟨false, w, tk⟩

/-- Context `x` after its open packet, which leaves it the registers `r` (R85, R103): a transfer taken by the packet before takes effect, and the
activation ends where it was a WAIT; else the program counter is at the next packet, and a transfer that slot A took waits for the next one. -/
def afterPacket (x : Ctx) (r : CRegs) : Ctx :=
  match x.regs.branch with
  | some tr => { x with packet := none, ended := tr.wait, regs := { r with pc := tr.target, branch := none } }
  | none => { x with packet := none, regs := { r with pc := (x.regs.pc + 2) % 2 ^ 21, branch := x.packet.bind (·.taken) } }

/-- What is left of a result `l` on its way once the packet of its slot A gives `g` in slot B (R94, R100, R133): nothing of one for the same general
register or for the control register; of predicates, those that `g` does not write. -/
def leftBeside (g : Target) (l : Landing) : Option Landing :=
  match l.fresh, l.tgt, g with
  | true, .g a _, .g b _ => if a = b then none else some l
  | true, .csw _ _ _, .csw _ _ _ => none
  | true, .pred m v, .pred m' _ => if m &&& ~~~ m' = 0 then none else some { l with tgt := .pred (m &&& ~~~ m') v }
  | _, _, _ => some l

/-- The registers with a result on its way that lands `d` issues on; what slot A of the same packet gave for the same register is discarded
(R98, R100). -/
def gives (d : Nat) (g : Target) (r : CRegs) : CRegs := { r with lands := r.lands.filterMap (leftBeside g) ++ [⟨d, true, g⟩] }

/-- What a port or ledger syllable leaves under port register `q` of context `c` is on its way, with the ready flag to clear at distance 1 (R106), and its
packet has ended; else the state is `u`. -/
def OnItsWay (u t : State) (c q : Nat) (p : PRead) : Prop :=
  (t.ctx c).reads.find q = some p ∧ (t.ctx c).packet = none ∧ (t.ctx c).regs.lands = (gives 1 (.rdyClear q) (u.ctx c).regs).lands ∧
    (∀ d, d ≠ c → t.ctx d = u.ctx d) ∧ t = { u with cpu := { u.cpu with ctxs := t.cpu.ctxs } }

/-- A syllable of slot `sl` has been issued and has changed the registers by `f`. After slot A the packet is open; slot B ends it. Nothing else has
changed since the issue began. -/
def Issued (s t : State) (c : Nat) (sl : Slot) (f : CRegs → CRegs) : Prop :=
  match sl with
  | .A => CtxNow (tick s c) t c { (tick s c).ctx c with packet := some ⟨false, none, none⟩, regs := f ((tick s c).ctx c).regs }
  | .B => CtxNow s t c (afterPacket (s.ctx c) (f (s.ctx c).regs))

end Sys2Proof.Machine
/-! ## The queue -/

/-- One step takes the command at the front of the queue: its outcome is that of the command on the state with the queue's rest. It rests in part on the model's choices of log entry 1. -/
def Obligations.StepRunsFrontCommand : Prop :=
  ∀ (c : Instr) (cs : List Instr) (s : State), s.pending = c :: cs → step s = exec c { s with pending := cs }

/-! ## Die links (01_architecture.md) -/

/-- SYS_LINK_CMD SIDING and REJOIN (R28), written by context 0 with no command in progress while the control die can be reached. A SIDING of a link in siding ends with code 0; one
whose other link is not in traffic is refused with code 1; else the link is in siding. A REJOIN of a link in siding makes it retrain with the
command in progress; any other ends with code 0. Written by another context, either counts as a violation of kind 3 and does nothing else. Retraining of a link ends (R28): after a pass it is in traffic, after a failure in siding. The REJOIN it belongs to ends with code 0 or 2; a
link that failed the retraining of a reset raises its die-link source. No other link changes. In Off, in a reset and in Park neither is written (R444), and a die without power or held in reset ends no retraining (R48). It rests in part on the model's choices of log entries 11 and 62. -/
def Obligations.LinkCommandsAndRetraining : Prop :=
  (∀ (s : State) (k : Fin 4), ctlReached s = true → s.bit SYS_LINK_STATUS_busy = false →
    (linkState s k = 1 →
      exec (.linkSiding 0 k) s = .next ((s.putB SYS_LINK_STATUS_busy false).put SYS_LINK_STATUS_code 0) ∧
      exec (.linkRejoin 0 k) s = .next (((setLink s k 2).putB SYS_LINK_STATUS_busy true).modLnk fun l => { l with rejoin := some k.val })) ∧
    (linkState s k ≠ 1 → linkState s (otherLink k) ≠ 0 →
      exec (.linkSiding 0 k) s = .next ((s.putB SYS_LINK_STATUS_busy false).put SYS_LINK_STATUS_code 1)) ∧
    (linkState s k ≠ 1 → linkState s (otherLink k) = 0 →
      exec (.linkSiding 0 k) s = .next (((setLink s k 1).putB SYS_LINK_STATUS_busy false).put SYS_LINK_STATUS_code 0)) ∧
    (linkState s k ≠ 1 → exec (.linkRejoin 0 k) s = .next ((s.putB SYS_LINK_STATUS_busy false).put SYS_LINK_STATUS_code 0)) ∧
    (∀ w : CtxId, w ≠ 0 → exec (.linkSiding w k) s = .next (s.violate w 3 0x40000020) ∧ exec (.linkRejoin w k) s = .next (s.violate w 3 0x40000020))) ∧
  (∀ (s : State) (k : Fin 4), dieRuns s = true → linkState s k = 2 →
    Completes (.linkRetrainPass k) s (fun t => linkState t k = 0 ∧ (∀ j : Fin 4, j ≠ k → linkState t j = linkState s j) ∧ t.raiseQ = s.raiseQ ∧
      (s.lnk.rejoin = some k.val → t.bit SYS_LINK_STATUS_busy = false ∧ t.get SYS_LINK_STATUS_code = 0 ∧ t.lnk.rejoin = none) ∧
      RegsBut [SYS_LINK_STATUS] s t ∧ t = { s with regs := t.regs, lnk := t.lnk }) ∧
    Completes (.linkRetrainFail k) s (fun t => linkState t k = 1 ∧ (∀ j : Fin 4, j ≠ k → linkState t j = linkState s j) ∧
      (s.lnk.rejoin = some k.val →
        t.bit SYS_LINK_STATUS_busy = false ∧ t.get SYS_LINK_STATUS_code = 2 ∧ t.lnk.rejoin = none ∧ t.raiseQ = s.raiseQ) ∧
      (s.lnk.rejoin ≠ some k.val → t.raiseQ = s.raiseQ ++ [⟨24 + k.val, false, false, 0⟩]) ∧
      RegsBut [SYS_LINK_STATUS] s t ∧ t = { s with regs := t.regs, lnk := t.lnk, raiseQ := t.raiseQ })) ∧
  (∀ (s : State) (w : CtxId) (k : Fin 4),
    (ctlReached s = false → exec (.linkSiding w k) s = .next s ∧ exec (.linkRejoin w k) s = .next s) ∧
    (dieRuns s = false → exec (.linkRetrainPass k) s = .next s ∧ exec (.linkRetrainFail k) s = .next s))

/-- Frames on the die links (R16 to R18, R28). With a link of the die in traffic and fewer than 8 frames unacknowledged, an idle frame takes the
next number and is kept; with 8 it is not sent. A frame sent again stays kept. A frame that arrives on a link in traffic counts when its CRC
holds and its number is that of the next expected frame: an idle frame changes nothing but, as the first that is heard from a power die, the mirrors, an action is performed by its channel and its outcome
sent back. Any other is discarded. Its acknowledgement frees a frame of the other direction, and what waits there may enter frames. Sixteen
failed CRCs in a row, or a rail agreement in any state of the link, raise the link's source. A link out of traffic carries nothing, and neither
does one whose power die is off. It rests in part on the model's choices of log entries 10 and 11. -/
def Obligations.DieLinkFramesAndFaults : Prop :=
  (∀ (s : State) (d : Fin 2) (up : Bool), dieLinked s d = true →
    ((s.dir d up).unacked.length < 8 → exec (.idleFrameSend d up) s =
      .next (s.setDir d up { s.dir d up with next := (s.dir d up).next + 1, unacked := (s.dir d up).unacked ++ [((s.dir d up).next, .idle)] })) ∧
    (8 ≤ (s.dir d up).unacked.length → exec (.idleFrameSend d up) s = .next s) ∧
    (∀ num, num ∈ (s.dir d up).unacked.map (·.1) → Completes (.frameResend d up num) s fun t =>
      t = { s with lnk := t.lnk } ∧ (t.dir d up).next = (s.dir d up).next ∧ (t.dir d up).expect = (s.dir d up).expect ∧
        ∀ e, e ∈ (t.dir d up).unacked ↔ e ∈ (s.dir d up).unacked)) ∧
  (∀ (s : State) (k : Fin 4) (up : Bool) (num : Nat) (ack : Option Nat), linkState s k = 0 → (s.die (linkDie k)).on = true →
    ((∀ b, (num, b) ∈ (s.dir (linkDie k) up).unacked → b = .idle) ∨ num ≠ (s.dir (linkDie k) up).expect →
      Completes (.dieLinkFrameReceive k up num true ack) s (fun t =>
        (t.dir (linkDie k) up).expect = (if num = (s.dir (linkDie k) up).expect ∧ num ∈ (s.dir (linkDie k) up).unacked.map (·.1) then num + 1
          else (s.dir (linkDie k) up).expect) ∧
        (∃ sent, (t.dir (linkDie k) (! up)).unacked = (match ack with
            | some n => (s.dir (linkDie k) (! up)).unacked.filter fun e => e.1 ≠ n
            | none => (s.dir (linkDie k) (! up)).unacked) ++ sent ∧
          (((s.dir (linkDie k) (! up)).waiting = [] ∨ ack = none) → sent = [])) ∧
        ((up = true → s.bit (mirrorFlag (linkDie k)) = true ∧ (s.die (linkDie k)).away = false) → t = { s with lnk := t.lnk }))) ∧
    (∀ (c : Fin 104) (cmd val : Nat) (tkt : Option (Nat × Word)) (item0 : Bool) (slot : Option (Nat × Nat)),
      (s.dir (linkDie k) false).unacked.find? (fun e => e.1 == (s.dir (linkDie k) false).expect) =
        some ((s.dir (linkDie k) false).expect, .action c cmd val tkt item0 slot) →
      ∃ s', s' = { s with lnk := s'.lnk } ∧ exec (.dieLinkFrameReceive k false (s.dir (linkDie k) false).expect true none) s =
        .next (queueFrame (chAction s' c cmd val tkt item0).1 (linkDie k) true (.report slot (chAction s' c cmd val tkt item0).2))) ∧
    (SMap.get 0 s.lnk.runs (2 * k + b2n up) ≠ 15 → Completes (.dieLinkFrameReceive k up num false ack) s fun t =>
      SMap.get 0 t.lnk.runs (2 * k + b2n up) = SMap.get 0 s.lnk.runs (2 * k + b2n up) + 1 ∧ t = { s with lnk := t.lnk }) ∧
    (SMap.get 0 s.lnk.runs (2 * k + b2n up) = 15 →
      (Completes (.dieLinkFrameReceive k up num false ack) s fun t =>
        t.raiseQ = s.raiseQ ++ [⟨24 + k.val, false, false, 0⟩] ∧ t = { s with lnk := t.lnk, raiseQ := t.raiseQ }) ∧
      Completes (.dieLinkCrcFault k up) s fun t =>
        t.raiseQ = s.raiseQ ++ [⟨24 + k.val, false, false, 0⟩] ∧ t = { s with lnk := t.lnk, raiseQ := t.raiseQ })) ∧
  (∀ (s : State) (k : Fin 4) (up : Bool) (num : Nat) (ok : Bool) (ack : Option Nat), linkState s k ≠ 0 ∨ (s.die (linkDie k)).on = false →
    exec (.dieLinkFrameReceive k up num ok ack) s = .next s) ∧
  (∀ (s : State) (k : Fin 4), exec (.railAgreement k) s = .next { s with raiseQ := s.raiseQ ++ [⟨24 + k.val, true, true, 0⟩] })


/-! ## Domains, supplies and die states (02, 03, 09) -/

/-- Over-voltage shutdown of a die (R68) holds every output of the die open and raises source 30 or 31; its release ends it. An I/O supply out of
range while CTL is on raises source 51 or 52, and none while CTL is off; back in range its source is idle (R56). 
The domain of a power die comes on (R54, R251, R264): its channels are at their reset state with both feed groups lost, and the die is Expired
with fresh set. It goes off (R55): every switch of the die is held open, and its watermarks are no longer valid (R232). A die without valid frames
for 100 µs is taken as off, and an action that has not reached it ends with outcome 3 (R251). The states of a power die (R20, R267, R278). A Served die that has declared the control die silent is Held, with the hold window in force as its
time left and one more silence counted; at the end of the window it is Expired; RECLAIM by context 0 makes it Served again, and raises source 68
or 69 where the die was Expired and not fresh: at once where a link of the die carries frames and nothing is under way on them, else with the
frame that is queued for it (R17); a die that is not reached takes no notice (R251). It rests in part on the model's choices of log entries 6, 10 and 33. -/
def Obligations.SuppliesAndPowerDies : Prop :=
  (∀ (s : State) (d : Fin 2), (s.die d).on = true →
    (s.bit (PSW_DIE_STATE_ovshut d) = false → Completes (.overvoltageShutdown d) s fun t => t.bit (PSW_DIE_STATE_ovshut d) = true ∧
      (∀ c : Fin 104, dieOf c = d → blocked t c = true) ∧ t.raiseQ = s.raiseQ ++ [⟨30 + d.val, false, false, 0⟩] ∧
      t = { s with regs := t.regs, raiseQ := t.raiseQ }) ∧
    (Completes (.overvoltageRelease d) s fun t => t.bit (PSW_DIE_STATE_ovshut d) = false ∧ t = { s with regs := t.regs })) ∧
  (∀ (s : State) (n : Fin 2),
    (ctlOn s = false → Completes (.ioSupplyFault n) s fun t => (if n = 0 then t.pwr.io1 else t.pwr.io2) = false ∧ t = { s with pwr := t.pwr }) ∧
    (ctlOn s = true → Completes (.ioSupplyFault n) s fun t => (if n = 0 then t.pwr.io1 else t.pwr.io2) = false ∧
      t.raiseQ = s.raiseQ ++ [⟨51 + n.val, false, true, 0⟩] ∧ t = { s with raiseQ := t.raiseQ, pwr := t.pwr }) ∧
    (Completes (.ioSupplyReturn n) s fun t => (if n = 0 then t.pwr.io1 else t.pwr.io2) = true ∧ t.bit (FLT_SRC_raised (51 + n)) = false ∧
      t = { s with regs := t.regs, raiseQ := t.raiseQ, pwr := t.pwr } ∧ RegsBut [(FLT_SRC_raised (51 + n)).r] s t)) ∧
  (∀ (s : State) (d : Fin 2),
    ((s.die d).on = false → Completes (.domainOn d) s fun t => (t.die d).on = true ∧ (t.die d).lost1 = true ∧ (t.die d).lost2 = true ∧
      dieState t d = 2 ∧ t.bit (PSW_DIE_STATE_fresh d) = true ∧ (∀ c : Fin 104, dieOf c = d → t.chan c = Chan.init ∧ t.get (PSW_CH_STATE_cmd c) = 0) ∧
      (∀ c : Fin 104, dieOf c ≠ d → t.chan c = s.chan c ∧ t.get (PSW_CH_STATE_cmd c) = s.get (PSW_CH_STATE_cmd c)) ∧
      (d = 0 → t.bit PWR_CFG_offign = true ∧ t.bit PWR_CFG_offin = true) ∧ t.cpu = s.cpu) ∧
    ((s.die d).on = true → Completes (.domainOff d) s fun t => (t.die d).on = false ∧ (∀ c : Fin 104, dieOf c = d → blocked t c = true) ∧
      (d = 0 → t.wm.validA = false ∧ t.wm.validB = s.wm.validB) ∧ (d = 1 → t.wm.validB = false ∧ t.wm.validA = s.wm.validA) ∧
      t.wm.validC = s.wm.validC ∧ t.cpu = s.cpu) ∧
    (Completes (.powerDieTakenAsOff d) s fun t => (t.die d).away = true ∧ (t.die d).on = (s.die d).on ∧ (t.dir d false).waiting = [] ∧
      (∀ e ∈ (t.dir d false).unacked, e.1 < (t.dir d false).expect ∨ e.2 = .idle) ∧
      (∀ c cmd val tkt item0 k gen, FrameBody.action c cmd val tkt item0 (some (k, gen)) ∈ (s.dir d false).waiting → (s.item k).gen = gen →
        (t.item k).outcome = 3) ∧
      t = { s with psw := t.psw, lnk := t.lnk, tln := t.tln })) ∧
  (∀ (s : State) (d : Fin 2), (s.die d).on = true →
    (dieState s d = 0 → Completes (.controlDieSilent d) s fun t => dieState t d = 1 ∧
      t.get (PSW_DIE_STATE_remain d) = max 50 (min 1000 (s.get (PSW_DIE_CFG_hold d))) ∧
      t.get (PSW_DIE_STATE_silences d) = min 65535 (s.get (PSW_DIE_STATE_silences d) + 1) ∧
      t.cpu = s.cpu ∧ t.raiseQ = s.raiseQ) ∧
    (dieState s d = 1 → Completes (.holdExpire d) s fun t => dieState t d = 2 ∧ t.get (PSW_DIE_STATE_remain d) = 0 ∧ t.cpu = s.cpu) ∧
    ((s.die d).away = false → ctlReached s = true → linkClear s d = false → exec (.reclaim 0 d) s =
      .next (queueFrame s d false (.write 0 (PSW_DIE_CMD d).addr (BitVec.ofNat 32 (2 ^ 28))))) ∧
    ((s.die d).away = true → exec (.reclaim 0 d) s = .next s) ∧
    ((s.die d).away = false → ctlReached s = true → linkClear s d = true → Completes (.reclaim 0 d) s fun t => dieState t d = 0 ∧ t.get (PSW_DIE_STATE_remain d) = 0 ∧
      t.bit (PSW_DIE_STATE_fresh d) = false ∧ t.psw = s.psw ∧ t.cpu = s.cpu ∧
      t.raiseQ = (if dieState s d = 2 ∧ s.bit (PSW_DIE_STATE_fresh d) = false then s.raiseQ ++ [⟨68 + d.val, false, false, 0⟩] else s.raiseQ)))
/-! ## Thiuc syllables (04, 05) -/

/-- ALU syllables in either slot, without a WIDEN and under a guard that holds (R131, R133): each gives its register one result at distance 1 and
changes nothing else. It rests in part on the model's choices of log entry 16. -/
def Obligations.AluSyllablesWithoutWiden : Prop :=
  ∀ (s : State) (c : CtxId) (sl : Slot) (gd : Guard) (rd rs : GReg) (q : QReg), Before s c none sl →
    let r := ((atIssue s c sl).ctx c).regs
    r.pr gd = true →
    let Gives (i : Instr) (v : Word) : Prop := Completes i s fun t => Issued s t c sl (gives 1 (.g rd v))
    let imm : Word := (BitVec.ofNat 4 rs.val).signExtend 32
    Gives (.mov c sl gd rd rs) (r.rg rs) ∧ Gives (.add c sl gd rd rs) (r.rg rd + r.rg rs) ∧ Gives (.sub c sl gd rd rs) (r.rg rd - r.rg rs) ∧
    Gives (.and c sl gd rd rs) (r.rg rd &&& r.rg rs) ∧ Gives (.addi c sl gd rd rs) (r.rg rd + imm) ∧
    Gives (.ins c sl gd rd rs) ((r.rg rd <<< 4) ||| BitVec.ofNat 32 rs.val) ∧ Gives (.not c sl gd rd) (~~~ r.rg rd) ∧
    Gives (.neg c sl gd rd) (0 - r.rg rd) ∧ Gives (.abs c sl gd rd) (if (r.rg rd).msb then 0 - r.rg rd else r.rg rd) ∧
    (∀ n : Nat, n ≤ 32 → (∀ i : Nat, 32 - n ≤ i → i < 32 → (r.rg rd).getLsbD i = false) → (n < 32 → (r.rg rd).getLsbD (31 - n) = true) →
      Gives (.clz c sl gd rd) (BitVec.ofNat 32 n)) ∧
    Gives (.sext8 c sl gd rd) (((r.rg rd).setWidth 8).signExtend 32) ∧ Gives (.sext16 c sl gd rd) (((r.rg rd).setWidth 16).signExtend 32) ∧
    Gives (.zext8 c sl gd rd) (r.rg rd &&& 0xFF) ∧ Gives (.zext16 c sl gd rd) (r.rg rd &&& 0xFFFF) ∧
    Gives (.rdpred c sl gd rd) (r.p.setWidth 32 ||| 1) ∧ Gives (.rdq c sl gd q rd) (r.rq q) ∧
    Gives (.rdcsw c sl gd rd) (BitVec.ofNat 32 (2 * b2n r.accsat + 4 * b2n r.ov0 + 8 * b2n r.ov1 + 4096 * r.qrdy.toNat))

/-- LOG operations, MOVI, the other immediates and the immediate shifts under a WIDEN whose guard holds (R130, R132). It rests in part on the model's choices of log entry 16. -/
def Obligations.AluSyllablesUnderWiden : Prop :=
  ∀ (s : State) (c : CtxId) (w : Widen) (gd : Guard) (rd rs : GReg), Before s c (some w) .B →
    let r := (s.ctx c).regs
    (r.pr w.ps != w.neg) = true →
    let Gives (i : Instr) (v : Word) : Prop := Completes i s fun t => Issued s t c .B (gives 1 (.g rd v))
    let imm : BitVec 12 := w.imm ++ BitVec.ofNat 4 rs.val
    let n := 16 * b2n (w.imm.getLsbD 4) + rs.val
    let m := (r.rg rs).toNat % 32
    Gives (.movi c rd rs) (imm.signExtend 32) ∧ Gives (.addi c .B gd rd rs) (r.rg rd + imm.signExtend 32) ∧
    Gives (.ins c .B gd rd rs) ((r.rg rd <<< 12) ||| imm.setWidth 32) ∧ Gives (.add c .B gd rd rs) (r.rg rd + r.rg rs) ∧
    (w.imm = 0x00 → Gives (.and c .B gd rd rs) (r.rg rd &&& r.rg rs)) ∧ (w.imm = 0x01 → Gives (.or c rd rs) (r.rg rd ||| r.rg rs)) ∧
    (w.imm = 0x02 → Gives (.xor c rd rs) (r.rg rd ^^^ r.rg rs)) ∧ (w.imm = 0x03 → Gives (.andn c rd rs) (r.rg rd &&& ~~~ r.rg rs)) ∧
    (w.imm = 0x04 → Gives (.shl c rd rs) (r.rg rd <<< m)) ∧ (w.imm = 0x05 → Gives (.shr c rd rs) (r.rg rd >>> m)) ∧
    (w.imm = 0x06 → Gives (.sar c rd rs) ((r.rg rd).sshiftRight m)) ∧
    (w.imm = 0x07 → Gives (.min c rd rs) (if (r.rg rd).toInt ≤ (r.rg rs).toInt then r.rg rd else r.rg rs)) ∧
    (w.imm = 0x08 → Gives (.max c rd rs) (if (r.rg rd).toInt < (r.rg rs).toInt then r.rg rs else r.rg rd)) ∧
    (w.imm = 0x09 → Gives (.minu c rd rs) (if (r.rg rd).toNat ≤ (r.rg rs).toNat then r.rg rd else r.rg rs)) ∧
    (w.imm = 0x0A → Gives (.maxu c rd rs) (if (r.rg rd).toNat < (r.rg rs).toNat then r.rg rs else r.rg rd)) ∧
    (w.imm = 0x0F → Gives (.movr c rd rs) (r.rg rs)) ∧
    (w.imm &&& 0xEF = 0x0B → Gives (.shli c rd rs) (r.rg rd <<< n)) ∧ (w.imm &&& 0xEF = 0x0C → Gives (.shri c rd rs) (r.rg rd >>> n)) ∧
    (w.imm &&& 0xEF = 0x0D → Gives (.sari c rd rs) ((r.rg rd).sshiftRight n))

/-- A syllable whose guard is false has no effect of any kind (R97): its packet counts as one issue, and nothing else happens. Stated for an ALU
syllable and a compare in slot A, and in slot B for an ALU syllable, a load, an accumulator syllable and a port read. Compares and predicate syllables (R134, R135) write the predicates they name at distance 2, WRPRED p1 to p7 (R133); WRCSW writes CSW at distance 1.
The eight predicates are masked by bits 7 to 0. -/
def Obligations.GuardsAndPredicateSyllables : Prop :=
  (∀ (s : State) (c : CtxId) (gd : Guard) (rd rs : GReg) (q : QReg),
    (Before s c none .A → ((tick s c).ctx c).regs.pr gd = false →
      (Completes (.add c .A gd rd rs) s fun t => Issued s t c .A id) ∧
      (rd ≠ rs → Completes (.cmp c gd rd rs) s fun t => Issued s t c .A id)) ∧
    (Before s c none .B → (s.ctx c).regs.pr gd = false →
      (Completes (.add c .B gd rd rs) s fun t => Issued s t c .B id) ∧ (Completes (.ldW c gd rd rs) s fun t => Issued s t c .B id) ∧
      (Completes (.mac c gd rd rs) s fun t => Issued s t c .B id) ∧ (Completes (.prd c gd q rs) s fun t => Issued s t c .B id))) ∧
  (∀ (s : State) (c : CtxId) (gd : Guard) (ra rb : GReg) (q : QReg) (pd : Fin 3),
    (Before s c none .A →
      let r := ((tick s c).ctx c).regs
      r.pr gd = true →
      let Writes (i : Instr) (m v : BitVec 8) : Prop := Completes i s fun t => ∃ u, u &&& m = v ∧ Issued s t c .A (gives 2 (.pred m u))
      (ra ≠ rb → Writes (.cmp c gd ra rb) 0x0E (BitVec.ofNat 8 (2 * b2n (decide (r.rg ra = r.rg rb)) + 4 * b2n (decide ((r.rg ra).toInt < (r.rg rb).toInt))
        + 8 * b2n (decide ((r.rg ra).toNat < (r.rg rb).toNat))))) ∧
      Writes (.rdy c gd pd q) (2#8 <<< pd.val) (if r.qrdy.getLsbD q then 2#8 <<< pd.val else 0) ∧
      Writes (.pnot c gd pd) (2#8 <<< pd.val) (if r.pr (pd.val + 1) then 0 else 2#8 <<< pd.val) ∧
      Writes (.ple c gd) 2 (if r.pr 1 || r.pr 2 then 2 else 0)) ∧
    (∀ sl : Slot, Before s c none sl →
      let r := ((atIssue s c sl).ctx c).regs
      r.pr gd = true →
      (Completes (.wrpred c sl gd ra) s fun t => Issued s t c sl (gives 2 (.pred 0xFE ((r.rg ra).setWidth 8)))) ∧
      (Completes (.wrcsw c sl gd ra) s fun t =>
        Issued s t c sl (gives 1 (.csw ((r.rg ra).getLsbD 1) ((r.rg ra).getLsbD 2) ((r.rg ra).getLsbD 3))))))

/-- Loads and stores of data SRAM (R91, R93, R140, R141). The address is g(ra) plus the WIDEN's offset in units of the access size, aligned down. Inside
data SRAM and a data window, over a word without an error mark, a load gives its register the bytes there at distance 3, extended as its width says; over
a correctable error it does the same, the mark is cleared and source 7 raised. A store keeps the low bytes of its register for that word, to enter
memory at distance 2. A load or store outside data SRAM, or with a byte outside the data windows (R12, R13, R91), counts one violation; the load
gives 0 and the store writes nothing. LD.W stands without a WIDEN too, with offset 0. It rests in part on the model's choices of log entries 9 and 16. -/
def Obligations.LoadsStoresAndTheirViolations : Prop :=
  ∀ (s : State) (c : CtxId) (w : Option Widen) (gd : Guard) (rd ra : GReg), Before s c w .B → guardHolds (s.ctx c).regs gd w = true → (w ≠ none → gd = 0) →
    let r := (s.ctx c).regs
    let imm : Nat := match w with | some w => w.imm.toNat | none => 0
    let at_ (size : Nat) : Nat := (r.rg ra + BitVec.ofNat 32 (size * (imm % 16))).toNat / size * size
    let op := imm / 16
    let Inside (size : Nat) (wr : Bool) : Prop := at_ size < 0xC00000 ∧ s.covered c (at_ size) size wr = true
    let Loads (i : Instr) (size : Nat) (v : Word) : Prop :=
      (Inside size false → SMap.get 0 s.cpu.dmemErr (at_ size / 4) = 0 → Completes i s fun t => Issued s t c .B (gives 3 (.g rd v))) ∧
      (Inside size false → SMap.get 0 s.cpu.dmemErr (at_ size / 4) = 1 → Completes i s fun t => t.ctx c = afterPacket (s.ctx c) (gives 3 (.g rd v) r) ∧
        SMap.get 0 t.cpu.dmemErr (at_ size / 4) = 0 ∧ t.raiseQ = s.raiseQ ++ [⟨7, false, false, 0⟩] ∧
        t = { s with raiseQ := t.raiseQ, cpu := { s.cpu with ctxs := t.cpu.ctxs, dmemErr := t.cpu.dmemErr } }) ∧
      (¬ Inside size false → Completes i s fun t => t.ctx c = afterPacket (s.ctx c) (gives 3 (.g rd 0) r) ∧
        t.get (TSK_CTX_VIOL_count c) = min 65535 (s.get (TSK_CTX_VIOL_count c) + 1) ∧
        t = { s with regs := t.regs, cpu := { s.cpu with ctxs := t.cpu.ctxs } } ∧ RegsBut [(TSK_CTX_VIOL_count c).r, TSK_CTX_VADDR c] s t)
    let Stores (i : Instr) (size : Nat) (be : BitVec 4) (v : Word) : Prop :=
      (Inside size true → Completes i s fun t => Issued s t c .B fun r => { r with stores := r.stores ++ [⟨2, true, at_ size / 4 * 4, be, v⟩] }) ∧
      (¬ Inside size true → Completes i s fun t => t.ctx c = afterPacket (s.ctx c) r ∧
        t.get (TSK_CTX_VIOL_count c) = min 65535 (s.get (TSK_CTX_VIOL_count c) + 1) ∧
        t = { s with regs := t.regs, cpu := { s.cpu with ctxs := t.cpu.ctxs } } ∧ RegsBut [(TSK_CTX_VIOL_count c).r, TSK_CTX_VADDR c] s t)
    (op = 0 → Loads (.ldW c gd rd ra) 4 (s.dByte (at_ 4 + 3) ++ s.dByte (at_ 4 + 2) ++ s.dByte (at_ 4 + 1) ++ s.dByte (at_ 4))) ∧
    (op = 1 → Loads (.ldHu c rd ra) 2 ((s.dByte (at_ 2 + 1) ++ s.dByte (at_ 2)).setWidth 32)) ∧
    (op = 2 → Loads (.ldHs c rd ra) 2 ((s.dByte (at_ 2 + 1) ++ s.dByte (at_ 2)).signExtend 32)) ∧
    (op = 3 → Loads (.ldBu c rd ra) 1 ((s.dByte (at_ 1)).setWidth 32)) ∧
    (op = 4 → Loads (.ldBs c rd ra) 1 ((s.dByte (at_ 1)).signExtend 32)) ∧
    (op = 8 → Stores (.stW c rd ra) 4 0xF (r.rg rd)) ∧
    (op = 9 → Stores (.stH c rd ra) 2 (if at_ 2 % 4 = 0 then 0x3 else 0xC) (r.rg rd <<< (8 * (at_ 2 % 4)))) ∧
    (op = 11 → Stores (.stB c rd ra) 1 (BitVec.ofNat 4 (2 ^ (at_ 1 % 4))) (r.rg rd <<< (8 * (at_ 1 % 4))))

/-- Accumulator syllables (R111, R113, R142). MAC, MSU and MACU write the exact sum at distance 3 where it fits 72 bits; where it does not, the flag is
to be set, and the accumulator takes the nearer limit or, with accsat = 0, the low 72 bits. MUL, LDA and ASR cannot overflow. MULL and EXT write a
general register. It rests in part on the model's choices of log entry 16. -/
def Obligations.AccumulatorSyllables : Prop :=
  ∀ (s : State) (c : CtxId) (w : Widen) (ra rb : GReg), Before s c (some w) .B → ((s.ctx c).regs.pr w.ps != w.neg) = true →
    let r := (s.ctx c).regs
    let i := w.imm.toNat / 128
    let a : Int := (r.acc i).toInt
    let x := r.rg ra
    let y := r.rg rb
    let sh := w.imm.toNat % 4 * 16 + rb.val
    let Acc (j : Instr) (v : Acc) (ov : Bool) : Prop := Completes j s fun t => Issued s t c .B (gives 3 (.acc i v ov))
    let Sum (j : Instr) (z : Int) : Prop :=
      (-2 ^ 71 ≤ z → z < 2 ^ 71 → Acc j (BitVec.ofInt 72 z) false) ∧
      (2 ^ 71 ≤ z → Acc j (if r.accsat then BitVec.ofInt 72 (2 ^ 71 - 1) else BitVec.ofInt 72 z) true) ∧
      (z < -2 ^ 71 → Acc j (if r.accsat then BitVec.ofInt 72 (-2 ^ 71) else BitVec.ofInt 72 z) true)
    (w.imm &&& 0x7F = 0x00 → Sum (.mac c 0 ra rb) (a + x.toInt * y.toInt)) ∧
    (w.imm &&& 0x7F = 0x10 → Sum (.msu c ra rb) (a - x.toInt * y.toInt)) ∧
    (w.imm &&& 0x7F = 0x20 → Sum (.macu c ra rb) (a + (x.toNat : Int) * y.toNat)) ∧
    (w.imm &&& 0x7F = 0x30 → Acc (.mul c ra rb) (BitVec.ofInt 72 (x.toInt * y.toInt)) false) ∧
    (w.imm &&& 0x7F = 0x40 → Completes (.mull c ra rb) s fun t => Issued s t c .B (gives 3 (.g ra (x * y)))) ∧
    (w.imm &&& 0x7C = 0x50 → sh ≤ 40 → Completes (.ext c ra rb) s fun t =>
      let z := ((r.acc i).sshiftRight sh).toInt
      Issued s t c .B (gives 3 (.g ra (if r.accsat then (if z < -2 ^ 31 then 0x80000000 else if 2 ^ 31 ≤ z then 0x7FFFFFFF else BitVec.ofInt 32 z)
        else BitVec.ofInt 32 z)))) ∧
    (w.imm &&& 0x7C = 0x60 → sh ≤ 40 → Acc (.lda c ra rb) (BitVec.ofInt 72 (x.toInt * 2 ^ sh)) false) ∧
    (w.imm &&& 0x7C = 0x70 → Acc (.asr c ra rb) ((r.acc i).sshiftRight sh) false)

/-- Transfers (R103 to R105, R137 to R139). In slot A and in no delay position, a taken BR, JR, CALLR or WAIT leaves its target for after the delay packet;
a BR that is not taken, and any of them in a delay packet, leaves none; CALLR gives g15 the address of its packet + 4 at distance 1. WIDEN
leaves its payload for slot B (R129, R130). It rests in part on the model's choices of log entry 16. -/
def Obligations.TransfersAndWiden : Prop :=
  ∀ (s : State) (c : CtxId) (gd : Guard) (n : Bool) (off : BitVec 7) (rs : GReg) (ps : Fin 8) (imm : Byte), Before s c none .A →
    let x := (tick s c).ctx c
    let r := x.regs
    let Leaves (i : Instr) (tr : Option Transfer) (w : Option Widen) (ls : List Landing) : Prop :=
      Completes i s fun t => CtxNow (tick s c) t c { x with packet := some ⟨false, w, tr⟩, regs := { r with lands := r.lands ++ ls } }
    (Leaves (.widen c n ps imm) none (some ⟨n, ps.val, imm⟩) []) ∧
    (r.branch = none →
      (¬ (gd = 0 ∧ n = true) → r.pr gd = (! n) →
        Leaves (.br c gd n off) (some ⟨(((r.pc : Int) + 2 * off.toInt) % 2 ^ 21).toNat, false⟩) none []) ∧
      (¬ (gd = 0 ∧ n = true) → r.pr gd = n → Leaves (.br c gd n off) none none []) ∧
      Leaves (.jr c rs) (some ⟨getBits (r.rg rs) 20 1 * 2, false⟩) none [] ∧
      Leaves (.callr c rs) (some ⟨getBits (r.rg rs) 20 1 * 2, false⟩) none [⟨1, true, .g 15 (BitVec.ofNat 32 ((r.pc + 4) % 2 ^ 21))⟩] ∧
      Leaves (.wait c) (some ⟨(r.pc + 4) % 2 ^ 21, true⟩) none []) ∧
    (r.branch ≠ none → (¬ (gd = 0 ∧ n = true) → Leaves (.br c gd n off) none none []) ∧ Leaves (.jr c rs) none none [] ∧ Leaves (.callr c rs) none none [] ∧ Leaves (.wait c) none none [])

/-- A TRAP, and an undefined syllable in slot A, stop the context (R120, R121, R128, R138): it is Stopped, and its frame shows the cause, the address
of the packet, and the trap code or the word address. An undefined syllable raises source 4 with the context as its detail. The contexts are kept in
the order of their numbers, as every step keeps them. A class that its slot does not accept is undefined; the words of every other class, put together
as R126 and R129 say, are the commands they stand for. It rests in part on the model's choices of log entries 12 and 16. -/
def Obligations.TrapAndUndefinedSyllableStop : Prop :=
  (∀ (s : State) (c : CtxId) (code : Fin 64) (w : Syl), SMap.sorted s.cpu.ctxs = true → Before s c none .A →
    (Completes (.trap c code) s fun t => (t.ctx c).mode = .stopped ∧ t.frame c 0x1D = 4 ∧ t.frame c 0x1E = BitVec.ofNat 32 (s.ctx c).regs.pc ∧
      t.frame c 0x1F = BitVec.ofNat 32 code ∧ (t.ctx c).bound = none) ∧
    (undefinedSyl .A none w = true → Completes (.undefinedSyllable c .A w) s fun t => (t.ctx c).mode = .stopped ∧ t.frame c 0x1D = 1 ∧
      t.frame c 0x1E = BitVec.ofNat 32 (s.ctx c).regs.pc ∧ t.frame c 0x1F = BitVec.ofNat 32 (s.ctx c).regs.pc ∧
      ∃ l, t.raiseQ = l ++ [⟨4, false, false, BitVec.ofNat 32 c⟩])) ∧
  (∀ (c : CtxId) (gd : Guard) (rd rs : GReg),
    let y (m : Fin 16) : Syl := assemble gd m rd rs
    let InA (m : Fin 16) (i : Instr) : Prop := decodeSyl c .A none (y m) = i
    let InB (m : Fin 16) (i : Instr) : Prop := decodeSyl c .B none (y m) = i
    InA 0 (.mov c .A gd rd rs) ∧ InA 1 (.add c .A gd rd rs) ∧ InA 2 (.sub c .A gd rd rs) ∧ InA 3 (.and c .A gd rd rs) ∧ InA 4 (.addi c .A gd rd rs) ∧
    InA 5 (.ins c .A gd rd rs) ∧ (rd ≠ rs → InA 0xB (.cmp c gd rd rs)) ∧
    InB 0 (.mov c .B gd rd rs) ∧ InB 1 (.add c .B gd rd rs) ∧ InB 2 (.sub c .B gd rd rs) ∧ InB 3 (.and c .B gd rd rs) ∧ InB 4 (.addi c .B gd rd rs) ∧
    InB 5 (.ins c .B gd rd rs) ∧ InB 7 (.ldW c gd rd rs) ∧ InB 8 (.mac c gd rd rs) ∧
    (∀ m : Fin 16, m = 7 ∨ m = 8 ∨ m = 9 → InA m (.undefinedSyllable c .A (y m))) ∧
    (∀ (m : Fin 16) (w : Option Widen), 10 ≤ m → decodeSyl c .B w (y m) = .undefinedSyllable c .B (y m)) ∧
    (∀ w : Widen,
      let Under (m : Fin 16) (i : Instr) : Prop := decodeSyl c .B (some w) (y m) = i
      Under 0 (.movi c rd rs) ∧ Under 4 (.addi c .B gd rd rs) ∧
      (w.imm = 0x01 → Under 3 (.or c rd rs)) ∧ (w.imm = 0x04 → Under 3 (.shl c rd rs)) ∧ (w.imm = 0x0E → Under 3 (.undefinedSyllable c .B (y 3))) ∧
      (w.imm.toNat / 16 = 1 → Under 7 (.ldHu c rd rs)) ∧ (w.imm.toNat / 16 = 8 → Under 7 (.stW c rd rs)) ∧ (w.imm.toNat / 16 = 9 → Under 7 (.stH c rd rs)) ∧
      (w.imm.toNat / 16 = 5 → Under 7 (.undefinedSyllable c .B (y 7))) ∧ (w.imm &&& 0x7F = 0x10 → Under 8 (.msu c rd rs)) ∧
      (w.imm.toNat / 64 = 1 → Under 9 (.pwr c rd rs)) ∧ (w.imm.toNat / 16 = 12 → Under 9 (.lbind c rd)))) ∧
  (∀ (c : CtxId) (gd : BitVec 2) (n : Bool) (off : BitVec 7), ¬ (gd = 0 ∧ n = true) →
    decodeSyl c .A none (gd ++ 0xA#4 ++ BitVec.ofBool n ++ off) = .br c gd.toFin n off) ∧
  (∀ (c : CtxId) (code : BitVec 6), decodeSyl c .A none (0x2B#8 ++ code) = .trap c code.toFin) ∧
  (∀ (c : CtxId) (rs : BitVec 4), decodeSyl c .A none (0x0A8#10 ++ rs) = .jr c rs.toFin ∧ decodeSyl c .A none (0x0A9#10 ++ rs) = .callr c rs.toFin) ∧
  (∀ (c : CtxId) (neg : Bool) (hi : BitVec 1) (lo : BitVec 2) (imm : Byte),
    decodeSyl c .A none (BitVec.ofBool neg ++ hi ++ 3#2 ++ lo ++ imm) = .widen c neg (hi ++ lo : BitVec 3).toFin imm ∧
    widenIn (BitVec.ofBool neg ++ hi ++ 3#2 ++ lo ++ imm) = some ⟨neg, (hi ++ lo : BitVec 3).toNat, imm⟩)

/-- Port syllables (R92, R106, R107, R109, R144 to R146). A granted port read is on its way under its port register, replacing one in flight, and the ready
flag is to clear at distance 1; one without the grant counts a violation and answers 0 (R110); a port write of g(rd) acts on the block, after which the
packet ends; a timeline syllable that has to wait behind what is on its way to the timeline (R109, R454) is kept, and its answer is awaited in the same way.
Ledger syllables and the arrival of data (R106, R118, R148). LBIND binds the ticket it names to the context, and a value that names none ends the
binding. The data of a port read are sampled as they arrive, after every earlier read of the same
CAN controller (R322), not before every write to the power die that holds the register has reached it, nor before PLL1 is locked where the
block waits for it (R454), nor before the context's own accesses to the block that wait (R109); in Park none arrive (R450). Data that arrive for a Resident context are in the port register with its
ready flag set; for a context out of its lane they are in its frame. It rests in part on the model's choices of log entries 16, 18 and 74. -/
def Obligations.PortAndLedgerSyllables : Prop :=
  (∀ (s : State) (c : CtxId) (w : Widen) (q : QReg) (rd ra : GReg) (axis : Fin 8), Before s c (some w) .B → ((s.ctx c).regs.pr w.ps != w.neg) = true →
    let r := (s.ctx c).regs
    let a := (r.rg ra + BitVec.ofNat 32 (4 * (w.imm.toNat % 64))).toNat / 4 * 4
    let Reads (u : State) (i : Instr) (p : PRead) : Prop := Completes i s fun t => OnItsWay u t c q p
    (w.imm.toNat / 64 = 0 → portDenied s c a false = none → Reads s.stamped (.prd c 0 q ra) (.port a s.cpu.stamp)) ∧
    (∀ k, w.imm.toNat / 64 = 0 → portDenied s c a false = some k → Reads (s.violate c k (BitVec.ofNat 32 a)) (.prd c 0 q ra) (.answer 0)) ∧
    (w.imm.toNat / 64 = 1 → exec (.pwr c rd ra) s = .next (closePacket (portWrite s c (BitVec.ofNat 32 a) (r.rg rd)) c)) ∧
    (∀ op : PostedOp, mustWait s c op = true →
      (w.imm = 0x80 → rd.val ≤ 12 → op = .tarm q (r.rg rd) (r.rg (rd + 1)) (r.rg (rd + 2)) (r.rg (rd + 3)) →
        Reads (post s c op) (.tarm c q rd) (.waits s.cpu.stamp)) ∧
      (w.imm = 0x90 → op = .tcancel q (r.rg rd) → Reads (post s c op) (.tcancel c q rd) (.waits s.cpu.stamp)) ∧
      (w.imm = 0xA0 → op = .tread q axis → Reads (post s c op) (.tread c q axis) (.waits s.cpu.stamp))) ∧
    (w.imm = 0xA0 → mustWait s c (.tread q axis) = false → s.axisOk c axis = false → Reads (s.violateCap c) (.tread c q axis) (.answer 0)) ∧
    (w.imm = 0xA0 → mustWait s c (.tread q axis) = false → s.axisOk c axis = true →
      Reads s (.tread c q axis) (.answer (BitVec.ofNat 32 ((s.axis axis).qual * 2 ^ 30 + (s.axis axis).pos % 2 ^ 30))))) ∧
  (∀ (s : State) (c : CtxId) (w : Widen) (d : GReg),
    (Before s c (some w) .B → ((s.ctx c).regs.pr w.ps != w.neg) = true →
      let r := (s.ctx c).regs
      (w.imm.toNat / 16 = 12 → namesTicket s (r.rg d) = none → Completes (.lbind c d) s fun t => CtxNow s t c
        { afterPacket (s.ctx c) r with bound := none }) ∧
      (∀ k, w.imm.toNat / 16 = 12 → namesTicket s (r.rg d) = some k → s.trackOk c k.track = true → Completes (.lbind c d) s fun t => CtxNow s t c
        { afterPacket (s.ctx c) r with bound := some ((r.rg d).toNat, k.track, k.seq) }) ∧
      (∀ k, w.imm.toNat / 16 = 12 → namesTicket s (r.rg d) = some k → s.trackOk c k.track = false →
        exec (.lbind c d) s = .next (closePacket (s.violateCap c) c))) ∧
    (∀ q : QReg, ctlReached s = false ∨ (s.ctx c).reads.find q = none → exec (.portReadArrival c q) s = .next s) ∧
    (∀ (q : QReg) (k : Nat), (s.ctx c).reads.find q = some (.waits k) → exec (.portReadArrival c q) s = .next s) ∧
    (∀ (q : QReg) (p o : Nat), ctlReached s = true → (s.ctx c).reads.find q = some (.port p o) →
      (readReady s c p = false → exec (.portReadArrival c q) s = .next s) ∧
      (readReady s c p = true →
        let u := portRead (serveEarlier s p o) c p
        exec (.portReadArrival c q) s = .next (arriveQ (u.1.modCtx c fun x => { x with reads := x.reads.erase q }) c q u.2))) ∧
    (∀ (q : QReg) (v : Word), ctlReached s = true → (s.ctx c).reads.find q = some (.answer v) →
      ((s.ctx c).mode = .resident → (s.ctx c).swapping = false → Completes (.portReadArrival c q) s fun t =>
        (t.ctx c).regs.rq q = v ∧ (t.ctx c).regs.qrdy.getLsbD q = true ∧ (∀ e, e ≠ c.val → t.ctx e = s.ctx e) ∧
          t = { s with cpu := { s.cpu with ctxs := t.cpu.ctxs } }) ∧
      ((s.ctx c).mode ≠ .resident → Completes (.portReadArrival c q) s fun t =>
        t.frame c (0x16 + q) = v ∧ (t.frame c 0x1C).getLsbD (12 + q) = true ∧
          (∀ k, k ≠ 64 * c.val + (0x16 + q) → k ≠ 64 * c.val + 0x1C → SMap.get 0 t.cpu.frames k = SMap.get 0 s.cpu.frames k))))

/-- What LDONE, TARM and TCANCEL answer, and do (R181, R185, R222). LDONE (R222): a Dispatched ticket of the caller, or any for context 0, is
Done with the given result code, its completion record is to be written, and the bindings to it end (R148); a ticket that is Done keeps its
first result; a ticket whose track is not granted is status 0 and a capability violation (R165); for any other value nothing changes. TARM
(R179 to R184), with no access of the context to the timeline that waits: the lowest refusal code that applies, code 0 with a capability violation, codes 1 and 2 counted in
TLN_FULLCNT, and nothing else changed; or else the slot that R185 takes next holds the item of the four words, at its absolute position or the one that its offset gives from the
axis position, with the slot's next generation, and the answer is its handle; a single item that is reached already is due at once, late.
TCANCEL (R185): 0 and a violation for an axis not granted; 0x8000_0001 for a single item, whose slot is freed; 0x8000_0002 with the outcome for one that has
fired or that fires in this very cycle; 0x8000_0004 for a member, whose cancellation is staged; 0x8000_0003, and nothing changed, where the
handle's slot holds no item of that generation, or one of another context, or one cancelled or removed before. It rests in part on the model's choices of log entries 16, 28, 74 and 83. -/
def Obligations.LdoneTarmAndTcancelAnswer : Prop :=
  (∀ (s : State) (c : CtxId) (w : Widen) (d a : GReg), Before s c (some w) .B → ((s.ctx c).regs.pr w.ps != w.neg) = true → w.imm.toNat / 4 = 52 →
    let r := (s.ctx c).regs
    let h := (r.rg d).toNat
    let Status (u : State) (v : Word) : Prop := Completes (.ldone c d a) s fun t => OnItsWay u t c (w.imm.toNat % 4) (.answer v)
    let Frees (v : Word) (P : State → Prop) : Prop := Completes (.ldone c d a) s fun t => (t.ctx c).reads.find (w.imm.toNat % 4) = some (.answer v) ∧
      (t.ctx c).packet = none ∧ (∀ e ∈ s.liveCtxs, (t.ctx e).bound = if ((s.ctx e).bound.map (·.1)) = some h then none else (s.ctx e).bound) ∧
      t = { s with ldg := t.ldg, cpu := { s.cpu with ctxs := t.cpu.ctxs } } ∧ P t
    (namesTicket s (r.rg d) = none → Status s 0x80000003) ∧
    (∀ k, namesTicket s (r.rg d) = some k →
      (s.trackOk c k.track = false → Status (s.violateCap c) 0) ∧
      (s.trackOk c k.track = true →
        (k.st = .dispatched → k.ctx = c ∨ c = 0 → Frees 0x80000001 fun t =>
          t.ticket h = some { k with st := .done, result := (r.rg a).toNat % 256, recorded := false } ∧ t.ldg.compQ = s.ldg.compQ ++ [h] ∧
          (∀ j, j ≠ h → t.ticket j = s.ticket j)) ∧
        (k.st = .done → k.ctx = c ∨ c = 0 → Frees 0x80000002 fun t => t.ldg = s.ldg) ∧
        (¬ ((k.st = .dispatched ∨ k.st = .done) ∧ (k.ctx = c ∨ c = 0)) → Status s 0x80000003)))) ∧
  (∀ (s : State) (c : CtxId) (w : Widen) (q : QReg) (d : GReg), Before s c (some w) .B → ((s.ctx c).regs.pr w.ps != w.neg) = true → w.imm = 0x80 → d.val ≤ 12 →
    let r := (s.ctx c).regs
    let w0 := r.rg d
    let w1 := r.rg (d + 1)
    let w2 := r.rg (d + 2)
    let w3 := r.rg (d + 3)
    let axis := getBits w1 18 16
    let kind := getBits w1 23 20
    let sense := getBits w1 25 24
    let pos : BitVec 48 := w1.setWidth 16 ++ w0
    let ros := getBits w3 21 16
    let h := getBits w3 12 0
    let x := BitVec.ofNat 48 (s.axis axis).pos
    let rel := bitOf w1 19
    let at_ : BitVec 48 := if rel then (if sense = 1 then x - pos else x + pos) else pos
    let away : BitVec 48 := if sense = 1 then x - at_ else at_ - x
    let reached : Prop := if sense = 2 then at_ = x else away = 0 ∨ 2 ^ 47 ≤ away.toNat
    let named : Prop := carriesTicket kind = true ∧ h ≠ 0
    let far : Prop := rel = true ∧ sense ≠ 2 ∧ 2 ^ 47 ≤ pos.toNat
    let Refused (n : Nat) : Prop := match n with
      | 0 => ¬ (s.axisOk c axis = true ∧ targetOk s c kind w2 = true ∧ (named → ∀ k, s.ticket h = some k → s.trackOk c k.track = true))
      | 1 => if c = 0 then 4096 ≤ s.usedSlots else 4096 - min (s.get TLN_RESERVE_slots) 1024 ≤ s.usedSlots
      | 2 => c ≠ 0 ∧ min (s.get (TLN_TQUOTA_quota (s.tenant c))) 4096 ≤ s.tenantSlots (s.tenant c)
      | 3 => kind = 0 ∨ 8 ≤ kind ∨ sense = 3
      | 4 => ros = 0 ∧ ¬ far ∧ reached ∧ bitOf w1 26 = true
      | 5 => far
      | 6 => sense ≠ 0 ∧ (axis < 2 ∨ ros ≠ 0)
      | 7 => 2 ≤ axis ∧ axisSrc s axis = 0
      | 8 => ros ≠ 0 ∧ ((rosOn s ros = false ∧ c ≠ 0) ∨ rosT s ros + rosW s ros ≤ pos.toNat ∨ named ∨ axis ≠ rosAxis s ros ∨ rel = true)
      | 9 => named ∧ ¬ ∃ k, s.ticket h = some k ∧ (k.st = .accepted ∨ k.st = .dispatched)
      | 10 => ros = 0 ∧ rel = false ∧ axis = 0 ∧ (s.axis 0).qual = 3
      | _ => False
    let k := if s.tln.fresh < 4096 then s.tln.fresh else s.tln.freeQ.headD 0
    let gen := if (s.item k).st = .free then 0 else ((s.item k).gen + 1) % 4096
    SMap.sorted s.tln.items = true → mustWait s c (.tarm q w0 w1 w2 w3) = false →
    (∀ n, n ≤ 10 → Refused n → (∀ m, m < n → ¬ Refused m) → Completes (.tarm c q d) s fun t =>
      OnItsWay (if n = 0 then s.violateCap c else if n ≤ 2 then s.count TLN_FULLCNT_count else s) t c q (.answer (BitVec.ofNat 32 n))) ∧
    ((∀ n, n ≤ 10 → ¬ Refused n) → Completes (.tarm c q d) s fun t =>
      (t.ctx c).reads.find q = some (.answer (BitVec.ofNat 32 (2 ^ 31 + gen * 2 ^ 16 + k))) ∧ (t.ctx c).packet = none ∧
      (∀ e, e ≠ c.val → t.ctx e = s.ctx e) ∧ t = { s with regs := t.regs, tln := t.tln, cpu := { s.cpu with ctxs := t.cpu.ctxs } } ∧
      (let i := t.item k;
        i.st = .armed ∧ i.gen = gen ∧ i.ctx = c.val ∧ i.tenant = s.tenant c ∧ i.axis = axis ∧ i.sense = sense ∧ i.kind = kind ∧ i.arg = w2 ∧
        i.wake = bitOf w1 27 ∧ i.late = bitOf w1 26 ∧ i.roster = ros ∧ i.handle = (if carriesTicket kind then h else 0) ∧
        i.pos = (if ros = 0 then at_ else pos).toNat) ∧
      (ros = 0 ∨ rosOn s ros = true → ∀ j, j ≠ k → t.item j = s.item j) ∧
      (ros = 0 → reached → isDue t k = true) ∧ (ros = 0 → ¬ reached → t.tln.due = s.tln.due))) ∧
  (∀ (s : State) (c : CtxId) (w : Widen) (q : QReg) (d : GReg), Before s c (some w) .B → ((s.ctx c).regs.pr w.ps != w.neg) = true → w.imm = 0x90 →
    let v := (s.ctx c).regs.rg d
    let k := getBits v 11 0
    let i := s.item k
    let found : Prop := getBits v 31 28 = 8 ∧ getBits v 15 12 = 0 ∧ i.st ≠ .free ∧ i.gen = getBits v 27 16 ∧ (i.ctx = c ∨ c = 0)
    let Answers (u : State) (v : Word) : Prop := Completes (.tcancel c q d) s fun t => OnItsWay u t c q (.answer v)
    mustWait s c (.tcancel q v) = false →
    (¬ found → Answers s 0x80000003) ∧
    (found → s.axisOk c i.axis = false → Answers (s.violateCap c) 0) ∧
    (found → s.axisOk c i.axis = true →
      (i.st = .cancelled → Answers s 0x80000003) ∧
      (i.st = .fired → Answers s (0x80000002 + BitVec.ofNat 32 (i.outcome * 16))) ∧
      (i.st = .armed → i.roster = 0 → firesNow (startsServed s) k = false → Completes (.tcancel c q d) s fun t =>
        (t.ctx c).reads.find q = some (.answer 0x80000001) ∧ t.item k = { i with st := .cancelled, leaving := false, stagedCancel := false, stagedArm := false } ∧
        isDue t k = false ∧ t.tln.freeQ = s.tln.freeQ ++ [k] ∧ (∀ j, j ≠ k → t.item j = s.item j) ∧ (∀ e, e ≠ c.val → t.ctx e = s.ctx e) ∧
        t = { s with tln := t.tln, cpu := { s.cpu with ctxs := t.cpu.ctxs } }) ∧
      (i.st = .armed → i.roster = 0 → firesNow (startsServed s) k = true →
        Answers (serveDue (startsServed s)) (0x80000002 + BitVec.ofNat 32 (((serveDue (startsServed s)).item k).outcome * 16))) ∧
      (i.st = .armed → i.roster ≠ 0 → rosOn s i.roster = true → Answers (s.setItem k { i with stagedCancel := true }) 0x80000004) ∧
      (i.st = .armed → i.roster ≠ 0 → rosOn s i.roster = false →
        Answers (settleRoster (s.setItem k { i with stagedCancel := true }) i.roster) 0x80000004)))

/-! ## Tasks, lanes and tenants (06_tasks_and_tenants.md) -/

namespace Sys2Proof.Machine

/-- A stationmaster command has been accepted: busy reads 1, and it is to end with the code. -/
def Accepted (t : State) (code : Nat) : Prop := t.bit TSK_CMD_RESULT_busy = true ∧ t.cpu.tskCode = code

/-- The state after an accepted command that has done nothing but is to end with the code. -/
def onlyCode (s : State) (code : Nat) : State :=
  let s := s.putB TSK_CMD_RESULT_busy true
  { s with cpu := { s.cpu with tskCode := code } }

/-- The stationmaster commands with a target (R166), as context `w` writes them. -/
def tskCommands (w : CtxId) (n : Fin 512) : List Instr :=
  [.ctxCreate w n, .ctxStop w n, .ctxResume w n, .ctxRestart w n, .ctxSiding w n, .ctxRelease w n, .ctxDrain w n, .tenantSiding w n, .tenantRestart w n,
   .pairSiding w n, .pairRejoin w n, .pairTest w n]

/-- The frame of context `c` holds the creation state of R95 at an entry address. -/
def CreationFrame (t : State) (c entry : Nat) : Prop :=
  (∀ w, w < 0x1A → t.frame c w = 0) ∧ t.frame c 0x1A = 1 ∧ t.frame c 0x1B = BitVec.ofNat 32 (entry / 2 * 2 % 2 ^ 21) ∧ t.frame c 0x1C = 2 ∧
    ∀ w, 0x1D ≤ w → w < 0x38 → t.frame c w = 0

end Sys2Proof.Machine

/-- The commands on one context (R121, R152, R166), written by context 0 for another context while no command is in progress, in the states in which the
table accepts them: CREATE, STOP and SIDING of a context that holds no lane, RESUME and RESTART without work to do, RELEASE, DRAIN. Each is accepted
with code 0; every other context keeps its state. It rests in part on the model's choices of log entry 24. -/
def Obligations.ContextCommands : Prop :=
  ∀ (s : State) (n : Fin 512), n ≠ 0 → ctlReached s = true → s.bit TSK_CMD_RESULT_busy = false →
    let x := s.ctx n
    let Others (t : State) : Prop := ∀ d, d ≠ n.val → t.ctx d = s.ctx d
    let quiet : Prop := inact s n = false ∧ x.firstInp = none
    let StopFields (t : State) (cause : Word) : Prop :=
      t.frame n 0x1D = cause ∧ t.frame n 0x1E = s.frame n 0x1B ∧ t.frame n 0x1F = 0 ∧
        ∀ w, w < 64 → w ≠ 0x1D → w ≠ 0x1E → w ≠ 0x1F → t.frame n w = s.frame n w
    (x.mode = .empty → Completes (.ctxCreate 0 n) s fun t =>
      Accepted t 0 ∧ (t.ctx n).mode = .waiting ∧ CreationFrame t n (s.get (TSK_CTX_ENTRY_pc n)) ∧ Others t) ∧
    (x.mode = .waiting ∨ x.mode = .ready →
      (Completes (.ctxStop 0 n) s fun t => Accepted t 0 ∧ (t.ctx n).mode = .stopped ∧ StopFields t 5 ∧ Others t) ∧
      (Completes (.ctxSiding 0 n) s fun t => Accepted t 0 ∧ (t.ctx n).mode = .siding ∧ StopFields t 6 ∧ Others t)) ∧
    (x.mode = .stopped → quiet → Completes (.ctxResume 0 n) s fun t =>
      Accepted t 0 ∧ (t.ctx n).mode = .waiting ∧ t.cpu.frames = s.cpu.frames ∧ Others t) ∧
    (x.mode = .stopped ∨ x.mode = .siding →
      (x.firstInp = none → Completes (.ctxRestart 0 n) s fun t =>
        Accepted t 0 ∧ (t.ctx n).mode = .waiting ∧ CreationFrame t n (s.get (TSK_CTX_ENTRY_pc n)) ∧ Others t) ∧
      (x.firstInp = none → routed s n = false → Completes (.ctxRelease 0 n) s fun t => Accepted t 0 ∧ (t.ctx n).mode = .empty ∧ Others t) ∧
      (Completes (.ctxDrain 0 n) s fun t => Accepted t 0 ∧ (t.ctx n).firstInp = none ∧ (t.ctx n).mode = x.mode ∧ Others t ∧
        t.ldg.drained = s.ldg.drained ++ ((x.in0.q ++ x.in1.q ++ x.in2.q ++ x.in3.q).filter fun e => e.src < 512).map (·.pay)))

/-- A stationmaster command written while one is in progress is ignored; written by another context it is a violation of kind 3 (R166, R542). A command ends
with its code and one more sequence count (R544). POST posts its event with source 1,023 (R162), and clr clears a context's violations (R14). In Off, in a
reset and in Park nothing is written (R48, R444). It rests in part on the model's choices of log entry 24. -/
def Obligations.TskCommandProtocol : Prop :=
  ∀ (s : State) (n : Fin 512) (inp : Fin 4) (pay : Fin 16384),
    (ctlReached s = false → (∀ w : CtxId, ∀ i ∈ tskCommands w n, exec i s = .next s) ∧ exec (.tskPost 0 inp n pay) s = .next s) ∧ (ctlReached s = true →
    (s.bit TSK_CMD_RESULT_busy = true → (∀ i ∈ tskCommands 0 n, exec i s = .next s) ∧
      (s.ldg.drained = [] → exec .tskCmdComplete s =
        .next (((s.putB TSK_CMD_RESULT_busy false).wrap TSK_CMD_RESULT_seq).put TSK_CMD_RESULT_code s.cpu.tskCode))) ∧
    (∀ w : CtxId, w ≠ 0 → (∀ i ∈ tskCommands w n, exec i s = .next (s.violate w 3 0x40050008)) ∧ exec (.tskPost w inp n pay) s = .next (s.violate w 3 0x40050010)) ∧
    exec (.tskPost 0 inp n pay) s = .next { s with evq := s.evq ++ [⟨1023, pay.val, some (n.val, inp.val)⟩] } ∧
    exec (.violationClear 0 n) s = .next ((s.wr (TSK_CTX_VIOL n) 0).wr (TSK_CTX_VADDR n) 0))

/-- Tenants and core pairs (R29, R152, R166, R167, R169). TENANT_SIDING of a tenant but 0 puts every context of the tenant that is not Empty in Siding, and
TENANT_RESTART gives each in Siding its creation state: the creation frame, and Waiting where no input holds an event. PAIR_SIDING of a pair in traffic
that is not the last, and a compare mismatch of it, leave no context Resident on it; a mismatch of the last pair in traffic only raises its source (R465). The
self-test's result shows, PAIR_TEST runs it again, and PAIR_REJOIN after a pass returns the pair to traffic. A command on a target that is not allowed or in
another state does nothing but end with code 3 or 1. It rests in part on the model's choices of log entries 20 to 22, 24 and 67. -/
def Obligations.TenantAndPairCommands : Prop :=
  (∀ s : State, SMap.sorted s.cpu.ctxs = true → ctlReached s = true → s.bit TSK_CMD_RESULT_busy = false →
    (∀ k : Fin 512, k ≠ 0 → k.val < 32 → Completes (.tenantSiding 0 k) s fun t => Accepted t 0 ∧
      ∀ c : CtxId, (s.ctx c).mode ≠ .empty → s.tenant c = k → (t.ctx c).mode = .siding) ∧
    (∀ (k : Fin 512) (c : CtxId), k.val < 32 → (s.ctx c).mode = .siding → s.tenant c = k → Completes (.tenantRestart 0 k) s fun t =>
      Accepted t 0 ∧ (t.ctx c).mode ≠ .siding ∧ CreationFrame t c (s.get (TSK_CTX_ENTRY_pc c)) ∧
        ((s.ctx c).firstInp = none → (t.ctx c).mode = .waiting)) ∧
    (∀ p : Fin 512, p.val < 8 → pairUp s p = true → 1 < (pairsUp s).length → Completes (.pairSiding 0 p) s fun t =>
      Accepted t 0 ∧ pairState t p = 1 ∧ ∀ c : CtxId, (t.ctx c).mode = .resident → (t.ctx c).cur ≠ p.val) ∧
    (∀ p : Fin 512, p.val < 8 →
      (pairState s p = 2 → Completes (.pairRejoin 0 p) s fun t => Accepted t 0 ∧ pairState t p = 0) ∧
      (pairState s p ≠ 0 → Completes (.pairTest 0 p) s fun t => Accepted t 0 ∧ pairState t p = 1)) ∧
    (∀ k : Fin 512,
      (k = 0 ∨ 32 ≤ k.val → exec (.tenantSiding 0 k) s = .next (onlyCode s 3)) ∧ (32 ≤ k.val → exec (.tenantRestart 0 k) s = .next (onlyCode s 3)) ∧
      (k.val < 32 → (∀ e ∈ s.cpu.ctxs, e.2.mode ≠ .siding) → exec (.tenantRestart 0 k) s = .next (onlyCode s 1)) ∧
      (8 ≤ k.val → exec (.pairSiding 0 k) s = .next (onlyCode s 3) ∧ exec (.pairRejoin 0 k) s = .next (onlyCode s 3) ∧
        exec (.pairTest 0 k) s = .next (onlyCode s 3)) ∧
      (k.val < 8 → (pairUp s k = false → exec (.pairSiding 0 k) s = .next (onlyCode s 1)) ∧
        (pairUp s k = true → (pairsUp s).length ≤ 1 → exec (.pairSiding 0 k) s = .next (onlyCode s 3)) ∧
        (pairState s k ≠ 2 → exec (.pairRejoin 0 k) s = .next (onlyCode s 1)) ∧ (pairUp s k = true → exec (.pairTest 0 k) s = .next (onlyCode s 1))))) ∧
  (∀ (s : State) (p : Fin 8), SMap.sorted s.cpu.ctxs = true →
    (pairUp s p = true → 1 < (pairsUp s).length → Completes (.pairCompareMismatch p) s fun t =>
      pairState t p = 1 ∧ (∀ c : CtxId, (t.ctx c).mode = .resident → (t.ctx c).cur ≠ p.val) ∧
        ∃ l, t.raiseQ = l ++ [⟨16 + p.val, false, false, BitVec.ofNat 32 p⟩]) ∧
    (pairUp s p = true → (pairsUp s).length ≤ 1 → exec (.pairCompareMismatch p) s =
      .next { s with raiseQ := s.raiseQ ++ [⟨16 + p.val, false, false, BitVec.ofNat 32 p⟩] }) ∧
    (pairUp s p = false → exec (.pairCompareMismatch p) s = .next s) ∧
    (∀ pass : Bool, (pairState s p = 1 → Completes (.pairSelfTestEnd p pass) s fun t =>
      pairState t p = (if pass then 2 else 3) ∧ OnlyRegs [TSK_PAIR_STATE] s t) ∧
      (pairState s p ≠ 1 → exec (.pairSelfTestEnd p pass) s = .next s)))

/-- Inputs and activations (R139, R152, R157 to R162). An event that its route, or its source, gives to a queue input of a context that is not Waiting is
the input's last; one more than 8 is dropped and counted, as is one without a valid route; in Doze one for a context of the priority that PWR_CFG names or more
ends Doze (R446). In Park nothing is delivered (R450): the event is on its way until the return to Run; a die in reset or without power takes none. A swap that ends gives the context the registers of its
frame and, with no activation unfinished, starts one with the event word in q3; an event that R167 delivers again has the word of its first delivery. After a WAIT's delay packet the event in service is retired, and a context
with no event left is Waiting. It rests in part on the model's choices of log entries 16, 17, 22 and 64. -/
def Obligations.EventsAndActivations : Prop :=
  (∀ (s : State) (src : Fin 1024) (pay : Fin 16384) (n : CtxId) (i : Fin 4), src.val < 512 → s.pwr.phase ≠ .doze → clkRuns s = true →
    (s.bit (TSK_ROUTE_valid src) = false → Completes (.eventArrival src pay n i) s fun t =>
      t.get TSK_UNROUTED_count = min 65535 (s.get TSK_UNROUTED_count + 1) ∧ t = { s with regs := t.regs, evq := t.evq } ∧
        RegsBut [TSK_UNROUTED] s t) ∧
    (s.bit (TSK_ROUTE_valid src) = true → s.get (TSK_ROUTE_ctx src) = n → s.get (TSK_ROUTE_input src) = i →
      (s.ctx n).mode ≠ .empty → (s.ctx n).mode ≠ .waiting → latest s n i = false →
      (((s.ctx n).inp i).q.length < 8 → Completes (.eventArrival src pay n i) s fun t =>
        ((t.ctx n).inp i).q = ((s.ctx n).inp i).q ++ [⟨src.val, pay.val⟩] ∧ (∀ d, d ≠ n.val → t.ctx d = s.ctx d) ∧
          t = { s with evq := t.evq, cpu := { s.cpu with ctxs := t.cpu.ctxs } }) ∧
      (8 ≤ ((s.ctx n).inp i).q.length → Completes (.eventArrival src pay n i) s fun t =>
        getBits (t.rd (TSK_CTX_INOVF n)) (8 * i + 7) (8 * i) = min 255 (getBits (s.rd (TSK_CTX_INOVF n)) (8 * i + 7) (8 * i) + 1) ∧
          t = { s with regs := t.regs, evq := t.evq } ∧ RegsBut [TSK_CTX_INOVF n] s t))) ∧
  (∀ (s : State) (src : Fin 1024) (pay : Fin 16384) (n : CtxId) (i : Fin 4), src.val < 512 → s.pwr.phase = .doze → s.bit (TSK_ROUTE_valid src) = true →
    s.get (TSK_ROUTE_ctx src) = n → (s.ctx n).mode ≠ .empty → s.get PWR_CFG_wprio ≤ s.prio n →
    Completes (.eventArrival src pay n i) s fun t => t.pwr.phase = .run ∧ t.get PWR_STATUS_state = 0) ∧
  (∀ (s : State) (src : Fin 1024) (pay : Fin 16384) (n : CtxId) (i : Fin 4),
    (s.pwr.phase = .park → src.val < 512 → exec (.eventArrival src pay n i) s = .next { s with evq := s.evq ++ [⟨src.val, pay.val, none⟩] }) ∧
    (dieRuns s = false → exec (.eventArrival src pay n i) s = .next s)) ∧
  (∀ (s : State) (c : CtxId) (cycles : Nat), ctlReached s = false ∨ (s.ctx c).mode ≠ .resident ∨ (s.ctx c).swapping = false →
    exec (.swapComplete c cycles) s = .next s) ∧
  (∀ (s : State) (c : CtxId) (cycles : Nat), ctlReached s = true → (s.ctx c).mode = .resident → (s.ctx c).swapping = true →
    (inact s c = true → Completes (.swapComplete c cycles) s fun t =>
      (t.ctx c).swapping = false ∧ (t.ctx c).regs = readFrame s c ∧ t.get TSK_DISP_MAX_cycles = max (s.get TSK_DISP_MAX_cycles) (min cycles 255) ∧
        RegsBut [TSK_DISP_MAX] s t ∧ t = { s with regs := t.regs, cpu := { s.cpu with ctxs := t.cpu.ctxs } }) ∧
    (∀ (i : Fin 4) (e : Ev) (es : List Ev), inact s c = false →
      (s.ctx c).again = some i.val ∨ ((s.ctx c).again = none ∧ (s.ctx c).firstInp = some i.val) →
      ((s.ctx c).inp i).q = e :: es → latest s c i = false →
      Completes (.swapComplete c cycles) s fun t =>
        (t.ctx c).regs.rq 3 = (if (s.ctx c).again = some i.val then s.frame c 0x38
          else BitVec.ofNat 32 (i * 2 ^ 30 + e.src % 1024 * 2 ^ 14 + e.pay % 16384)) ∧ (t.ctx c).regs.qrdy.getLsbD 3 = true ∧
          t.frame c 0x38 = (t.ctx c).regs.rq 3 ∧ inact t c = true ∧ (t.ctx c).serving = some i.val ∧ ((t.ctx c).inp i).q = e :: es)) ∧
  (∀ (s : State) (c : CtxId) (i : Fin 4) (e : Ev), SMap.sorted s.cpu.ctxs = true → ctlReached s = true → (s.ctx c).mode = .resident → (s.ctx c).packet = none →
    (s.ctx c).swapping = false → (s.ctx c).ended = true → (s.ctx c).serving = some i.val → latest s c i = false → ((s.ctx c).inp i).q = [e] →
    (∀ j : Fin 4, j ≠ i → ((s.ctx c).inp j).q = []) → Completes (.activationEnd c) s fun t =>
      (t.ctx c).mode = .waiting ∧ (t.ctx c).firstInp = none ∧ inact t c = false ∧ t.frame c 0x1B = BitVec.ofNat 32 (s.ctx c).regs.pc)

/-! ## Eloasel timeline (07_eloasel_timeline.md) -/

/-- Position axes (R175 to R177, R209). A count moves its axis by one, against its direction under inv, and sets dir; a quadrature sample in which both
inputs change leaves the position and counts a step error; an axis that has no source, or has lost it, or whose source shows nothing new, does not move. The loss of a source freezes the
axis as Unset and raises source 57, and its return makes the axis Locked again, unless its line is still faulted, its port in siding or the meter
silent. A load puts {hi, SETL} into A2 to A7 and makes nothing fall due; A1
ignores it, and so does A0 unless it is Unset; the axis of the meter's grid phase takes bits 61 to 16 alone (R420); another context's write of TLN_AXn_SETH is a violation of kind 3. It rests in part on the model's choices of log entry 7. -/
def Obligations.AxesCountLoseAndLoad : Prop :=
  ∀ (s : State) (n : Fin 8),
    let a := s.axis n
    let inv := s.bit (TLN_AX_CFG_inv n)
    let A := dinLevel s (s.get (TLN_AX_CFG_ina n))
    let B := dinLevel s (s.get (TLN_AX_CFG_inb n))
    let Counted (t : State) (back : Bool) : Prop :=
      (t.axis n).pos = (if back then a.pos + (2 ^ 62 - 1) else a.pos + 1) % 2 ^ 62 ∧ t.bit (TLN_AX_STATUS_dir n) = back ∧
        t.get (TLN_AX_STATUS_rev n) = (if a.counted = true ∧ s.bit (TLN_AX_STATUS_dir n) ≠ back then min 255 (s.get (TLN_AX_STATUS_rev n) + 1)
          else s.get (TLN_AX_STATUS_rev n)) ∧
        t.tln.items = s.tln.items ∧ t = { s with regs := t.regs, tln := t.tln } ∧ RegsBut [TLN_AX_STATUS n] s t
    (clkRuns s = true → 2 ≤ n.val → a.lost = false → a.qual ≠ 3 →
      (axisSrc s n = 4 → lineCount s n ≠ a.lines → Completes (.axisSourceUpdate n) s fun t => Counted t inv) ∧
      (axisSrc s n = 2 → a.lvlA = false → A = true → Completes (.axisSourceUpdate n) s fun t => Counted t ((! a.lvlB) != inv)) ∧
      (axisSrc s n = 1 → a.lvlA = a.lvlB → A ≠ a.lvlA → B = a.lvlB → Completes (.axisSourceUpdate n) s fun t => Counted t inv) ∧
      (axisSrc s n = 1 → a.lvlA = a.lvlB → A = a.lvlA → B ≠ a.lvlB → Completes (.axisSourceUpdate n) s fun t => Counted t (! inv)) ∧
      (axisSrc s n = 1 → A ≠ a.lvlA → B ≠ a.lvlB → Completes (.axisSourceUpdate n) s fun t =>
        (t.axis n).pos = a.pos ∧ t.get (TLN_AX_STATUS_steperr n) = min 255 (s.get (TLN_AX_STATUS_steperr n) + 1) ∧
          t.tln.due = s.tln.due ∧ RegsBut [TLN_AX_STATUS n] s t)) ∧
    (a.lost = true ∨ a.qual = 3 ∨ n.val < 2 ∨ (axisSrc s n = 4 ∧ lineCount s n = a.lines) ∨ (axisSrc s n = 5 ∧ s.mtr.grid = false) →
      exec (.axisSourceUpdate n) s = .next s) ∧
    (2 ≤ n.val → a.lost = false → axisSrc s n ≠ 0 → Completes (.axisSourceLost n) s fun t =>
      (t.axis n).qual = 3 ∧ (t.axis n).lost = true ∧ (t.axis n).pos = a.pos ∧ t.raiseQ = s.raiseQ ++ [⟨57, false, false, BitVec.ofNat 32 n⟩] ∧
        t = { s with tln := { s.tln with axes := t.tln.axes }, raiseQ := t.raiseQ }) ∧
    (a.lost = false ∨ sourceWell s n = false → exec (.axisSourceReturn n) s = .next s) ∧
    (a.lost = true → sourceWell s n = true → Completes (.axisSourceReturn n) s fun t =>
      (t.axis n).qual = 0 ∧ (t.axis n).lost = false ∧ (t.axis n).pos = a.pos ∧ t = { s with tln := { s.tln with axes := t.tln.axes } }) ∧
    (∀ hi : BitVec 30, ctlReached s = true →
      (2 ≤ n.val → axisSrc s n = 5 → Completes (.axisLoad 0 n hi) s fun t =>
        (t.axis n).pos = (hi.toNat * 2 ^ 32 + s.get (TLN_AX_SETL_val n)) / 65536 * 65536 + a.pos % 65536 ∧ t.tln.due = s.tln.due ∧
          (∀ m, m ≠ n.val → t.axis m = s.axis m) ∧ t = { s with regs := t.regs, tln := t.tln }) ∧
      (2 ≤ n.val → axisSrc s n ≠ 5 → Completes (.axisLoad 0 n hi) s fun t =>
        (t.axis n).pos = hi.toNat * 2 ^ 32 + s.get (TLN_AX_SETL_val n) ∧ t.tln.due = s.tln.due ∧ (∀ m, m ≠ n.val → t.axis m = s.axis m) ∧
          t = { s with regs := t.regs, tln := t.tln }) ∧
      (n = 1 ∨ (n = 0 ∧ a.qual ≠ 3) → exec (.axisLoad 0 n hi) s = .next s) ∧
      ∀ w : CtxId, w ≠ 0 → exec (.axisLoad w n hi) s = .next (s.violate w 3 (BitVec.ofNat 32 (TLN_AX_SETH n).addr)))

/-- Firing (R180, R185, R187, R189, R190, R208). The item at the head of the due queue fires once, and no second item in the same cycle: a single item's slot is freed as fired and keeps the
outcome; TLN_LAG_MAX takes its lag, in cycles. A POST is on its way with source 512 + axis, and is dropped at a full queue or an Empty context; a PIN drives
CKOUT only where CLK has given it the land. An uncorrectable error of an armed item removes it without firing and raises source 60. It rests in part on the model's choices of log entry 29. -/
def Obligations.ItemsFireOnce : Prop :=
  ∀ (s : State) (d : Due) (ds : List Due) (k : Nat), tlnRuns s = true → s.tln.due = d :: ds →
    let i := s.item k
    (s.tln.fired = true ∨ d.isStart = true → exec .itemFire s = .next s) ∧
    (s.tln.fired = false → d.kind = .single k → Completes .itemFire s fun t =>
      t.tln.due = ds ∧ (t.item k).st = .fired ∧ t.tln.freeQ = s.tln.freeQ ++ [k] ∧ (∀ j, j ≠ k → t.item j = s.item j) ∧ t.tln.axes = s.tln.axes ∧
        t.get TLN_LAG_MAX_lag = max (s.get TLN_LAG_MAX_lag) (min 65535 (engineCycle s - d.cyc))) ∧
    (s.tln.fired = false → d.kind = .single k → d.late = false → i.kind = 4 →
      let c := getBits i.arg 24 16
      let n := getBits i.arg 31 30
      Completes .itemFire s fun t =>
        t.evq = s.evq ++ [⟨512 + i.axis, getBits i.arg 13 0, some (c, n)⟩] ∧ t = { s with regs := t.regs, tln := t.tln, evq := t.evq } ∧
          RegsBut [TLN_LAG_MAX] s t ∧
          (((s.ctx c).mode = .empty ∨ (latest s c n = false ∧ 8 ≤ ((s.ctx c).inp n).q.length)) → (t.item k).outcome = 4) ∧
          ((s.ctx c).mode ≠ .empty → ((s.ctx c).inp n).q.length < 8 → (t.item k).outcome = 1)) ∧
    (s.tln.fired = false → d.kind = .single k → d.late = true → i.kind = 5 → getBits i.arg 2 0 = 0 → getBits i.arg 5 4 < 3 → Completes .itemFire s fun t =>
      t.get (TLN_AX_LATE_count d.axis) = min 65535 (s.get (TLN_AX_LATE_count d.axis) + 1) ∧ RegsBut [TLN_LAG_MAX, TLN_AX_LATE d.axis] s t ∧
        (s.get CLK_CKOUT_mode = 2 → (t.item k).outcome = 1 ∧ 
          t.clk.pin = (if getBits i.arg 5 4 = 0 then false else if getBits i.arg 5 4 = 1 then true else ! s.clk.pin)) ∧
        (s.get CLK_CKOUT_mode ≠ 2 → (t.item k).outcome = 4 ∧ t.clk = s.clk)) ∧
    (∀ k : Fin 4096,
      ((s.item k).st = .armed → Completes (.itemStoreError k) s fun t =>
        (t.item k).st = .cancelled ∧ t.tln.due = (d :: ds).filter (fun e => ! e.ofSlot k) ∧ t.raiseQ = s.raiseQ ++ [⟨60, false, false, 0⟩] ∧
          ((s.item k).roster = 0 → ∀ j, j ≠ k.val → t.item j = s.item j) ∧ t = { s with tln := t.tln, raiseQ := t.raiseQ }) ∧
      ((s.item k).st ≠ .armed → exec (.itemStoreError k) s = .next s))

/-- Rosters and wake items (R191, R194, R195, R206, R209). Enabling sets en and takes the axis, which an enabled roster keeps; disabling clears en and
takes the roster's starts, and nothing else, from the due queue, but for the start at which an outfit change is judged. The start of a period, which is no start of an outfit, shows its number and the
number of the members in force, makes no staged member stay staged, and lets no period up to it start again. From the commit to Park until the return to Run a single wake item on A0 or A1
requests the wake of class 7 once its position less the wake lead is reached, and not before. It rests in part on the model's choices of log entry 27. -/
def Obligations.RostersStartAndStop : Prop :=
  ∀ (s : State) (r : Fin 64), r ≠ 0 →
    (ctlReached s = true → ∀ x : Fin 8,
      (Completes (.rosterEnable 0 r x) s fun t => rosOn t r = true ∧ rosAxis t r = (if rosOn s r = true then rosAxis s r else x.val) ∧
        t.tln.items = s.tln.items ∧ t.tln.axes = s.tln.axes ∧ (rosOn s r = true → t = outDirty s)) ∧
      ∀ w : CtxId, w ≠ 0 → exec (.rosterEnable w r x) s = .next (s.violate w 3 (BitVec.ofNat 32 (TLN_ROS_CFG r).addr))) ∧
    (ctlReached s = true → Completes (.rosterDisable 0 r) s fun t => rosOn t r = false ∧ t.tln.axes = s.tln.axes ∧
      (rosOn s r = true → t.tln.due = s.tln.due.filter fun d => match d.kind with | .period q _ => q ≠ r.val || changing s r | _ => true)) ∧
    (∀ (d : Due) (ds : List Due) (n : Nat), tlnRuns s = true → s.tln.due = d :: ds → d.kind = .period r n → rosOn s r = true →
      changing s r = false → Completes (.rosterPeriodStart r) s fun t =>
        t.get (TLN_ROS_STATUS_period r) = n % 65536 ∧ n < (t.ros r).startedTo ∧ n < (t.ros r).nextN ∧ t.tln.axes = s.tln.axes ∧
          (∀ k, (t.item k).st = .armed → (t.item k).roster = r.val → (t.item k).stagedArm = false ∧ (t.item k).stagedCancel = false) ∧
          ∀ q : Nat, q ≠ r.val → t.ros q = s.ros q) ∧
    (∀ k : Fin 4096,
      let x := s.item k
      let lead := max 1 (s.get TLN_WAKE_LEAD_ms) * 500000
      let near : Prop := ahead (s.axis x.axis).pos x.pos = false ∨ fwdDist (s.axis x.axis).pos x.pos ≤ lead
      (wakeable s = true → x.st = .armed → x.wake = true → x.wakeDone = false → x.axis < 2 → x.roster = 0 → near →
        exec (.itemWakeLead k) s = .next (wakeRequest (s.setItem k { x with wakeDone := true }) 7 x.axis)) ∧
      (wakeable s = false ∨ x.axis ≥ 2 ∨ x.wake = false ∨ x.wakeDone = true ∨ x.st ≠ .armed ∨ (x.roster = 0 ∧ ¬ near) →
        exec (.itemWakeLead k) s = .next s))

/-- Network time (R197, R198, R201, R374, R486). A port that is not Up takes no Sync, and one without the slave role, or BB1 while BB0 qualifies, has it noted
alone. The first Sync used sets an Unset A0 to network time, Free-run, with source 59; a later one shows its offset, network time less A0; the eighth
outside the lock threshold in a row takes Locked to Holdover and raises source 58, and the eighth inside takes Holdover or Free-run to Locked. Three
intervals without a Sync, and the end of the holdover timer, are the other ways down. A peer delay is measured, and the UTC offset kept, on a port that is
Up. A step is pending where a source is present and A0 is behind, else refused; cancel withdraws it. It rests in part on the model's choices of log
entries 30 and 63. -/
def Obligations.NetworkTimeQuality : Prop :=
  ∀ (s : State) (p : Fin 2) (sec : BitVec 48) (ns : BitVec 32) (rate : Int), tlnRuns s = true →
    let net := (500000000 * sec.toNat + ns.toNat / 2) % 2 ^ 62
    let q := (s.axis 0).qual
    let up := s.get (ETH_P_STATUS_state p) = 2
    let Sync := Instr.syncReceive p true sec ns rate
    let used : Prop := up ∧ (p = 0 ∨ portQualifies s 0 = false)
    let off : Int := 2 * netOffset s net
    let inside : Prop := off.natAbs ≤ 10 * max 1 (s.get TLN_A0_CFG_lockth)
    (¬ up → ∀ slave, exec (.syncReceive p slave sec ns rate) s = .next s) ∧
    (up → exec (.syncReceive p false sec ns rate) s = .next (syncNoted s p false)) ∧
    (up → ¬ used → exec Sync s = .next (syncNoted s p true)) ∧
    (q = 3 → used → Completes Sync s fun t => (t.axis 0).pos = net ∧ (t.axis 0).qual = 2 ∧ t.tln.holdRunning = false ∧
      t.get TLN_A0_STATUS_port = p + 1 ∧ ⟨59, false, false, 0⟩ ∈ t.raiseQ) ∧
    (q ≠ 3 → used → Completes Sync s fun t => t.rd TLN_A0_OFFSET = sat32 off ∧ t.get TLN_A0_STATUS_port = p + 1 ∧ (t.axis 0).pos = (s.axis 0).pos ∧
      ((t.axis 0).qual ≠ q ↔ ((q = 0 ∧ ¬ inside ∧ 7 ≤ s.tln.outCnt) ∨ (q ≠ 0 ∧ inside ∧ 7 ≤ s.tln.inCnt))) ∧
      (q = 0 → ¬ inside → 7 ≤ s.tln.outCnt → (t.axis 0).qual = 1 ∧ t.tln.holdRunning = true ∧ t.raiseQ = s.raiseQ ++ [⟨58, false, false, 0⟩]) ∧
      (q ≠ 0 → inside → 7 ≤ s.tln.inCnt → (t.axis 0).qual = 0 ∧ t.tln.holdRunning = false ∧ t.raiseQ = s.raiseQ)) ∧
    (q = 0 → Completes .a0Holdover s fun t => (t.axis 0).qual = 1 ∧ t.tln.holdRunning = true ∧ t.tln.off = 0 ∧ t.get TLN_A0_STATUS_port = 0 ∧
      t.raiseQ = s.raiseQ ++ [⟨58, false, false, 0⟩]) ∧
    (q = 1 → s.tln.holdRunning = true → Completes .a0FreeRun s fun t =>
      (t.axis 0).qual = 2 ∧ t.tln.holdRunning = false ∧ t.raiseQ = s.raiseQ ++ [⟨59, false, false, 0⟩]) ∧
    (∀ (ns : Nat) (utc : BitVec 16),
      (up → (Completes (.pdelayExchange p ns) s fun t => (if p = 0 then t.tln.pdelay0 else t.tln.pdelay1) = ns ∧ t.regs = s.regs ∧
          t.tln.axes = s.tln.axes ∧ t.net.ethSent = s.net.ethSent ++ [⟨p, 0x0180C200000E, macOf p, none, none, none, .ptp⟩]) ∧
        exec (.announceReceive p utc) s = .next (s.put EVR_UTCOFF_sec utc.toNat)) ∧
      (¬ up → exec (.pdelayExchange p ns) s = .next s ∧ exec (.announceReceive p utc) s = .next s)) ∧
    (s.get TLN_A0_STATUS_port ≠ 0 → q ≠ 3 → 0 < s.tln.off → exec (.a0Step 0) s =
      .next ((s.put TLN_A0_STEP_result 1).putB TLN_A0_STATUS_steppend true)) ∧
    (s.get TLN_A0_STATUS_port = 0 ∨ q = 3 ∨ s.tln.off ≤ 0 → exec (.a0Step 0) s = .next (s.put TLN_A0_STEP_result 3)) ∧
    (s.bit TLN_A0_STATUS_steppend = true → exec (.a0StepCancel 0) s =
      .next ((s.putB TLN_A0_STATUS_steppend false).put TLN_A0_STEP_result 0)) ∧
    (s.bit TLN_A0_STATUS_steppend = false → exec (.a0StepCancel 0) s = .next s)

/-- The pulse and the forward step (R201 to R204). At a boundary of its period that A0 has reached, and nowhere else, TPULSE goes high while it pulses: it
shows the index of the boundary, stays high for the width in force, at most half the period, and a configuration written before is in force from then on; the
boundary is dealt with once. The width's end makes it low, and nothing does so before. A pending step takes the place of the pulse: it jumps A0 by whole
periods, as many as the offset holds, and pulses the boundary it reaches. It rests in part on the model's choices of log entry 30. -/
def Obligations.PulsesAndForwardSteps : Prop :=
  ∀ s : State, tlnRuns s = true →
    let per := pulseP s
    let n := (s.tln.off / 1000000000).toNat / per
    let width := min (max 1 (getBits s.tln.pulseCfg 29 16) * 5000) (per / 2)
    (s.tln.atBound = false → exec .tpulseRise s = .next s ∧ exec .a0StepApply s = .next s) ∧
    (s.tln.atBound = true → s.bit TLN_A0_STATUS_steppend = false → exec .a0StepApply s = .next s ∧
      (pulsing s = true → Completes .tpulseRise s fun t => t.tln.pulseHigh = true ∧ t.tln.pulseLeft = width ∧ t.tln.atBound = false ∧
        t.rd TLN_TPULSE_COUNT = BitVec.ofNat 32 ((s.axis 0).pos / per) ∧
        t.tln.pulseCfg = s.rd TLN_TPULSE_CFG ∧ t.tln.axes = s.tln.axes ∧ RegsBut [TLN_TPULSE_COUNT] s t ∧ t = { s with regs := t.regs, tln := t.tln }) ∧
      (pulsing s = false → exec .tpulseRise s = .next { s with tln := { s.tln with atBound := false } })) ∧
    (s.tln.pulseLeft = 0 → exec .tpulseFall s = .next { s with tln := { s.tln with pulseHigh := false } }) ∧
    (s.tln.pulseLeft ≠ 0 → exec .tpulseFall s = .next s) ∧
    (s.tln.atBound = true → s.bit TLN_A0_STATUS_steppend = true → exec .tpulseRise s = exec .a0StepApply s ∧ Completes .a0StepApply s fun t =>
      (t.axis 0).pos = ((s.axis 0).pos + n * per) % 2 ^ 62 ∧ t.bit TLN_A0_STATUS_steppend = false ∧ t.get TLN_A0_STEP_result = 2 ∧
        t.get TLN_A0_STEP_n = n % 2 ^ 30 ∧ t.tln.off = s.tln.off - (n * per : Nat) * 1000000000 ∧ t.axis 1 = s.axis 1 ∧ t.tln.atBound = false ∧
        (pulsing s = true → t.tln.pulseHigh = true ∧ t.rd TLN_TPULSE_COUNT = BitVec.ofNat 32 ((t.axis 0).pos / per)))

/-! ## Command ledger (08_command_ledger.md) -/

namespace Sys2Proof.Machine

/-- A ZLP frame passes the tests of R236 for session `k`, the ledger serves requests, and the newest record of the session holds the block of its
send counter. -/
def Served (s : State) (h : ZHdr) (k : Nat) : Prop :=
  ctlReached s = true ∧ s.bit LDG_CTRL_en = true ∧ linkServes s h.link = true ∧ sessionOf s h = some k ∧ h.ver = 1 ∧ h.lenOk = true ∧ h.ctr.msb = false ∧
    h.tagOk = true ∧ sessionsReady s = true ∧ ctrFresh (s.sess k) h.ctr.toNat = true ∧ s.bit LDG_STATUS_scanning = false ∧ s.upd.rom = false ∧
    (s.sess k).send / 2 ^ 24 = (s.sess k).blk

/-- The answer of session `k` with a body, as it stands (R233, R235, R236): with the session's identifier, key and send counter. -/
def ansOf (s : State) (h : ZHdr) (k : Nat) (b : ZBody) : ZAns :=
  ⟨h.link, h.src, k, s.rd (LDG_SESS_ID k), (keySlot s k).bytes, 2 ^ 63 + (s.sess k).send, b⟩

/-- One answer of session `k` has left, on the link of its request, with the session's send counter (R233, R236): at the SPI host port, where the
request no longer counts as pending, or in the queue of the backbone port, addressed to the requester (R373). -/
def Answered (s t : State) (h : ZHdr) (k : Nat) (b : ZBody) : Prop :=
  (t.sess k).send = (s.sess k).send + 1 ∧
    if h.link = .spi then t.ldg.spiQ = s.ldg.spiQ ++ [ansOf s h k b] ∧ t.ldg.sent = s.ldg.sent ∧ t.net = (spiSettled s).net
    else t.ldg.sent = s.ldg.sent ++ [ansOf s h k b] ∧ t.ldg.spiQ = s.ldg.spiQ ∧ t.net = { s.net with ethQ := s.net.ethQ ++
      [ethFrameTo s h.link.port h.src.mac h.src.vid (some h.src.ip) (some (s.get LDG_CTRL_port, h.src.port.toNat)) (.zlp (ansOf s h k b))] }

/-- The answer that a request waits for has its place behind the frames of its port, under the next number (R373); none at the SPI host port. -/
def PlaceTaken (s t : State) (h : ZHdr) : Prop :=
  if h.link = .spi then t.net = s.net else t.net = { s.net with ethQ := s.net.ethQ ++ [ethFrameTo s h.link.port h.src.mac h.src.vid (some h.src.ip)
    (some (s.get LDG_CTRL_port, h.src.port.toNat)) (.later s.ldg.reqId)] }

/-- An answer of a backbone port is complete: it stands where its place was, or is discarded and counted where the port's queue was discarded with
the place (R373 to R375). -/
def PlaceFilled (s t : State) (src : ZSrc) (i : Nat) (a : ZAns) : Prop :=
  let f := ethFrameTo s a.link.port src.mac src.vid (some src.ip) (some (s.get LDG_CTRL_port, src.port.toNat)) (.zlp a)
  ((∃ g ∈ s.net.ethQ, g.msg = .later i) → t.ldg.sent = s.ldg.sent ++ [a] ∧
    t.net = { s.net with ethQ := s.net.ethQ.map fun g => if g.msg = .later i then f else g }) ∧
  ((∀ g ∈ s.net.ethQ, g.msg ≠ .later i) → t.ldg.sent = s.ldg.sent ∧ t.net = s.net ∧
    t.get (ETH_P_COUNT_drop a.link.port) = min 65535 (s.get (ETH_P_COUNT_drop a.link.port) + 1))

/-- A command is the message of a type that a frame with header `h` and a body brings, its body in any parts. -/
def Brings (i : Instr) (h : ZHdr) (type : Nat) (body : List Byte) : Prop :=
  match i with
  | .submit g n z es => g = h ∧ type = 0x01 ∧ n ++ z ++ es = body
  | .poll g tr fl m ack fst r => g = h ∧ type = 0x02 ∧ tr ++ fl ++ m ++ ack ++ fst ++ r = body
  | .query g cls cur m r => g = h ∧ type = 0x03 ∧ cls ++ cur ++ m ++ r = body
  | .begin g k z n => g = h ∧ type = 0x30 ∧ k ++ z ++ n = body
  | .data g blk off len d => g = h ∧ type = 0x31 ∧ blk ++ off ++ len ++ d = body
  | .check g b => g = h ∧ type = 0x32 ∧ b = body
  | .status g b => g = h ∧ type = 0x33 ∧ b = body
  | .activate g b => g = h ∧ type = 0x34 ∧ b = body
  | .keyset g k ctr r _ _ _ => g = h ∧ type = 0x35 ∧ k ++ ctr ++ r = body
  | .revert g b => g = h ∧ type = 0x36 ∧ b = body
  | _ => False

/-- The body of a SUBMIT of one entry (R237). -/
def submitOne (e : SubEntry) : List Byte :=
  [1, 0, 0, 0] ++ beBytes 2 e.track.toNat ++ [BitVec.ofNat 8 e.pay.length, 0] ++ beWord e.seq ++ e.pay ++ List.replicate ((4 - e.pay.length % 4) % 4) 0
/-- The body of a POLL (R238): track, whether the acknowledgement is valid, the greatest number of entries, acknowledgement, first sequence. -/
def pollBody (n : BitVec 16) (v : Bool) (m : Byte) (ack first : Word) : List Byte :=
  beBytes 2 n.toNat ++ [if v then 1 else 0, m] ++ beWord ack ++ beWord first
/-- The body of a QUERY (R239): class, cursor, the greatest number of bytes. -/
def queryBody (cls : Byte) (cursor : Word) (m : BitVec 16) : List Byte := [cls, 0, 0, 0] ++ beWord cursor ++ beBytes 2 m.toNat ++ [0, 0]
/-- The state once the frame has come from its link: one of the SPI host port no longer counts as pending (R388). -/
def taken (s : State) (h : ZHdr) : State := if h.link = .spi then spiSettled s else s

/-- The tickets, the queues and the expected sequences are as before. -/
def LedgerKept (s t : State) : Prop :=
  t.ldg.tickets = s.ldg.tickets ∧ t.ldg.queues = s.ldg.queues ∧ (∀ n, t.expected n = s.expected n) ∧ t.cpu = s.cpu ∧ t.wm = s.wm

end Sys2Proof.Machine

/-- A SUBMIT of one entry (R215 to R217, R237, R467), in a session that the ledger serves. The tests are made in the order of R215, and the
first that applies gives the verdict, which is answered at once and consumes nothing; an entry that passes them all is queued, with no answer yet. A
body that is malformed is answered with ERROR 0x02. In Stop every entry that is neither Duplicate nor Released is refused, fenced. It rests in part on the model's choices of log entry 25. -/
def Obligations.SubmissionsAreJudgedInOrder : Prop :=
  ∀ (s : State) (h : ZHdr) (k : Nat) (e : SubEntry), Served s h k → e.pay.length ≤ 48 →
    let n := e.track.toNat
    let q := queueOf s n
    let held := (heldOf s n).length
    let free := freeTickets s - queuedAll s
    let Verdict (v st : Nat) (d : Word) : Prop := ∀ i, Brings i h 0x01 (submitOne e) → Completes i s fun t =>
      Answered s t h k (.submit [⟨n, v, st, e.seq, d⟩]) ∧ LedgerKept s t
    let fresh : Prop := (∀ i ∈ heldOf s n, ∀ x, s.ticket i = some x → x.seq ≠ e.seq) ∧ ∀ u ∈ q, u.seq ≠ e.seq
    let open_ : Prop := n < 512 ∧ owns s k n = true ∧ fresh ∧ seqEarlier e.seq (s.expected n) = false ∧ s.isFenced n = false
    let ready : Prop := open_ ∧ s.bit (LDG_TRK_CFG_open n) = true ∧ e.seq = judging s n
    let stop : Prop := s.get FLT_STATUS_mode = 2
    (512 ≤ n → (¬ stop → Verdict 0x15 4 0) ∧ (stop → Verdict 0x14 4 0)) ∧
    (n < 512 → owns s k n = false → (¬ stop → Verdict 0x12 4 0) ∧ (stop → Verdict 0x14 4 0)) ∧
    (n < 512 → owns s k n = true → (∃ i ∈ heldOf s n, ∃ x, s.ticket i = some x ∧ x.seq = e.seq) → ∃ i ∈ heldOf s n, ∃ x, s.ticket i = some x ∧
      x.seq = e.seq ∧ Verdict 0x02 x.st.code (if x.st = .done ∨ x.st = .abandoned then BitVec.ofNat 32 x.result else 0)) ∧
    (n < 512 → owns s k n = true → fresh → seqEarlier e.seq (s.expected n) = true → Verdict 0x03 6 0) ∧
    (n < 512 → owns s k n = true → fresh → seqEarlier e.seq (s.expected n) = false → s.isFenced n = true ∨ stop → Verdict 0x14 4 0) ∧
    (¬ stop → open_ → s.bit (LDG_TRK_CFG_open n) = false → Verdict 0x13 4 0) ∧
    (¬ stop → open_ → s.bit (LDG_TRK_CFG_open n) = true → e.seq ≠ judging s n → Verdict 0x10 4 (judging s n)) ∧
    (¬ stop → ready →
      let full : Prop := free = 0 ∨ (free ≤ s.get LDG_CTRL_reserve ∧ s.bit (LDG_TRK_CFG_safety n) = false)
      (creditOf s n ≤ held + q.length → Verdict 0x11 4 1) ∧
      (held + q.length < creditOf s n → full → Verdict 0x11 4 2) ∧
      (held + q.length < creditOf s n → ¬ full → 8 ≤ q.length ∨ 64 ≤ queuedAll s → Verdict 0x11 4 3) ∧
      (held + q.length < creditOf s n → ¬ full → q.length < 8 → queuedAll s < 64 →
        (s.ldg.pfw = true → Verdict 0x11 4 4) ∧
        (s.ldg.pfw = false → ∀ i, Brings i h 0x01 (submitOne e) → Completes i s fun t =>
          queueOf t n = q ++ [⟨e.seq, e.pay, [(s.ldg.reqId, 0)]⟩] ∧ (∀ m, m ≠ n → queueOf t m = queueOf s m) ∧ t.ldg.tickets = s.ldg.tickets ∧
            t.ldg.sent = s.ldg.sent ∧ t.ldg.spiQ = s.ldg.spiQ ∧ t.regs = s.regs ∧ PlaceTaken s t h))) ∧
    ∀ body i, subBody body = none → Brings i h 0x01 body → Completes i s fun t => Answered s t h k (.error 2) ∧ LedgerKept s t

/-- Presentation, POLL, and requests of other types (R213, R220, R236 to R240). The oldest Accepted ticket of a track with a valid route enters a free
entry of its input and is Dispatched to that context; in Doze one for a context of the priority that PWR_CFG names or more ends Doze (R446), and
while the clocks stand nothing is presented (R450). A POLL applies its acknowledgement first: finished tickets that are recorded and not later are
released, others stay, and the floor never goes back. A type that is unknown, a body of the wrong length, a track not owned and a query class
not enabled have their ERROR; a frame that fails a test, one that comes before every session's start-up record is written among them, is dropped and
counted; with the ledger off it is dropped and not counted. It rests in part on the model's choices of log entry 25. -/
def Obligations.PresentationAndPolls : Prop :=
  (∀ (s : State) (n : Fin 512),
    let c := s.get (TSK_ROUTE_ctx n)
    let i := s.get (TSK_ROUTE_input n)
    (s.bit (TSK_ROUTE_valid n) = false ∨ (s.ctx c).mode = .empty ∨ s.bit LDG_STATUS_awaitreplay = true ∨ clkRuns s = false → exec (.ticketPresent n) s = .next s) ∧
    (∀ h x, s.bit (TSK_ROUTE_valid n) = true → (s.ctx c).mode ≠ .empty → latest s c i = false →
      ((s.ctx c).inp i).q.length < 8 → (((s.ctx c).inp i).q.filter fun e => e.src = n.val).length < depthOf s n →
      s.bit LDG_STATUS_awaitreplay = false → s.bit LDG_STATUS_badrec = false → s.bit LDG_STATUS_scanning = false →
      oldestAccepted s n = some h → s.ticket h = some x → clkRuns s = true → Completes (.ticketPresent n) s fun t =>
        (s.pwr.phase = .doze → s.get PWR_CFG_wprio ≤ s.prio c → t.pwr.phase = .run ∧ t.get PWR_STATUS_state = 0) ∧
        t.ticket h = some { x with st := .dispatched, ctx := c } ∧ (∀ j, j ≠ h → t.ticket j = s.ticket j) ∧
          ((t.ctx c).inp i).q = ((s.ctx c).inp i).q ++ [⟨n.val, h⟩] ∧ ((s.ctx c).mode ≠ .waiting → ∀ d, d ≠ c → t.ctx d = s.ctx d))) ∧
  (∀ (s : State) (h : ZHdr) (k : Nat) (n : BitVec 16) (m : Byte) (ack first : Word), Served s h k →
    Completes (.zlpUnknownType h) s (fun t => Answered s t h k (.error 1) ∧ LedgerKept s t) ∧
    (∀ body i, body.length ≠ 12 → Brings i h 0x02 body ∨ Brings i h 0x03 body → Completes i s fun t => Answered s t h k (.error 2) ∧ LedgerKept s t) ∧
    (512 ≤ n.toNat ∨ owns s k n.toNat = false →
      ∀ i, Brings i h 0x02 (pollBody n true m ack first) → Completes i s fun t => Answered s t h k (.error 4) ∧ LedgerKept s t) ∧
    (n.toNat < 512 → owns s k n.toNat = true →
      let a := if seqEarlier ack (s.expected n.toNat) = true then ack else s.expected n.toNat - 1
      let floor := s.rd (LDG_TRK_FLOOR n.toNat)
      (∀ i, Brings i h 0x02 (pollBody n true m ack first) → Completes i s fun t =>
        t.rd (LDG_TRK_FLOOR n.toNat) = (if seqLater a floor = true then a else floor) ∧ t.expected n.toNat = s.expected n.toNat ∧ t.wm = s.wm ∧
          (∃ fl cr es, Answered s t h k (.poll n.toNat fl (s.expected n.toNat) (t.rd (LDG_TRK_FLOOR n.toNat)) cr es)) ∧
          ∀ i x, s.ticket i = some x → x.track = n.toNat →
            ((x.st = .done ∨ x.st = .abandoned) → x.recorded = true → seqLater x.seq a = false → t.ticket i = none) ∧
            ((x.st = .accepted ∨ x.st = .dispatched ∨ x.recorded = false ∨ seqLater x.seq a = true) → t.ticket i = some x)) ∧
      ∀ i, Brings i h 0x02 (pollBody n false m ack first) → Completes i s fun t => LedgerKept s t ∧ t.regs = s.regs) ∧
    (∀ mx : BitVec 16,
      ((s.get (LDG_SESS_CFG_query k)).testBit 0 = false →
        ∀ i, Brings i h 0x03 (queryBody 1 0 mx) → Completes i s fun t => Answered s t h k (.error 3) ∧ LedgerKept s t) ∧
      ((s.get (LDG_SESS_CFG_query k)).testBit 0 = true → 32 ≤ mx.toNat → ∀ i, Brings i h 0x03 (queryBody 1 0 mx) → Completes i s fun t =>
        LedgerKept s t ∧ ∃ c d, Answered s t h k (.query 1 0 c d) ∧ d.length = 32 ∧ d.take 4 = beWord (s.rd SYS_ID)))) ∧
  (∀ (s : State) (h : ZHdr) (k : Nat),
    (ctlReached s = false ∨ linkServes s h.link = false → exec (.zlpUnknownType h) s = .next s) ∧
    (ctlReached s = true → linkServes s h.link = true →
      (s.bit LDG_CTRL_en = false → exec (.zlpUnknownType h) s = .next (taken s h)) ∧
      (s.bit LDG_CTRL_en = true →
        sessionOf s h = none ∨ (sessionOf s h = some k ∧ (h.ver ≠ 1 ∨ h.lenOk = false ∨ h.ctr.msb = true ∨ h.tagOk = false ∨ sessionsReady s = false ∨
          ctrFresh (s.sess k) h.ctr.toNat = false)) → exec (.zlpUnknownType h) s = .next ((taken s h).count LDG_COUNT_DROP_frames))))

/-- The commands of LDG_CMD (R225, R228, R229, R232, R249, R545). Only context 0 may write them, and none while one is in progress. BIND gives the stage the
watermark one before the oldest unfinished ticket of the track, or before the expected sequence, and sets the flag of its store; UNBIND takes it
away; a watermark of a power die goes to it in a frame where its links are not clear (R16, R17), and the command does not end before the die has it (R545);
both refuse a stage above 123 with code 1 and a stage whose track has an unfinished ticket with code 2, and leave a stage alone whose store is not
reached. REPLAY while the ledger waits for it unfences every track without an Accepted ticket; UNFENCE after bad records goes on to wait for REPLAY
where every store-valid flag was set, and else makes every unfinished ticket Abandoned with reason 1 and unfences every track without one; in the wrong
state either ends with code 3. ABANDON makes the Accepted tickets of a track Abandoned with reason 3 and no others. A command ends once. It rests in part on the model's choices of log entries 10, 24 and 25. -/
def Obligations.LedgerCommands : Prop :=
  ∀ (s : State) (n : Fin 512) (k : Fin 128), ctlReached s = true →
    let Busy (t : State) (code : Nat) : Prop := t.bit LDG_CMD_RESULT_busy = true ∧ t.ldg.code = code ∧ RegsBut [LDG_CMD_RESULT] s t
    (∀ w : CtxId, w ≠ 0 → exec (.bind w n k) s = .next (s.violate w 3 (BitVec.ofNat 32 LDG_CMD.addr)) ∧
      exec (.abandon w n) s = .next (s.violate w 3 (BitVec.ofNat 32 LDG_CMD.addr))) ∧
    (s.bit LDG_CMD_RESULT_busy = true → exec (.bind 0 n k) s = .next s ∧ exec (.unbind 0 k) s = .next s ∧ exec (.replay 0) s = .next s ∧
      exec (.unfence 0) s = .next s ∧ exec (.abandon 0 n) s = .next s ∧
      ((∀ d < 2, ∀ b ∈ underWay s d, ∀ j m, b ≠ .bind j m) → (∀ h ∈ s.ldg.abandoned, ∀ x, s.ticket h = some x → x.st = .abandoned → x.recorded = true) →
        exec .ldgCmdComplete s =
        .next (((s.putB LDG_CMD_RESULT_busy false).wrap LDG_CMD_RESULT_seq).put LDG_CMD_RESULT_code s.ldg.code)) ∧
      (∀ h ∈ s.ldg.abandoned, ∀ x, s.ticket h = some x → x.st = .abandoned → x.recorded = false → exec .ldgCmdComplete s = .next s) ∧
      (∀ d < 2, ∀ j m, FrameBody.bind j m ∈ underWay s d → exec .ldgCmdComplete s = .next s)) ∧
    (s.bit LDG_CMD_RESULT_busy = false →
      exec .ldgCmdComplete s = .next s ∧
      (124 ≤ k.val → Completes (.bind 0 n k) s (fun t => Busy t 1 ∧ t.wm = s.wm) ∧ Completes (.unbind 0 k) s fun t => Busy t 1 ∧ t.wm = s.wm) ∧
      (k.val < 124 → stageBusy s k = true → Completes (.bind 0 n k) s (fun t => Busy t 2 ∧ t.wm = s.wm) ∧
        Completes (.unbind 0 k) s fun t => Busy t 2 ∧ t.wm = s.wm) ∧
      (k.val < 124 → stageBusy s k = false → stageReached s k = false →
        Completes (.bind 0 n k) s (fun t => Busy t 0 ∧ t.wm = s.wm) ∧ Completes (.unbind 0 k) s fun t => Busy t 0 ∧ t.wm = s.wm) ∧
      (k.val < 124 → stageBusy s k = false → stageReached s k = true → stageOnDie k ≠ 2 → linkClear s (stageOnDie k) = false →
        (Completes (.bind 0 n k) s fun t => Busy t 0 ∧ t.wm = s.wm ∧ t.lnk = (queueFrame s (stageOnDie k) false (.bind k
          (some (n.val, (match oldestUnfinished s n with | some x => x.seq | none => s.expected n) - 1)))).lnk) ∧
        Completes (.unbind 0 k) s fun t => Busy t 0 ∧ t.wm = s.wm ∧ t.lnk = (queueFrame s (stageOnDie k) false (.bind k none)).lnk) ∧
      (k.val < 124 → stageBusy s k = false → stageReached s k = true → stageOnDie k = 2 ∨ linkClear s (stageOnDie k) = true →
        (Completes (.bind 0 n k) s fun t => Busy t 0 ∧ t.storeValid (stageOnDie k) = true ∧
          t.wm.marks.find k = some (n.val, (match oldestUnfinished s n with | some x => x.seq | none => s.expected n) - 1) ∧
          ∀ j, j ≠ k.val → t.wm.marks.find j = s.wm.marks.find j) ∧
        Completes (.unbind 0 k) s fun t => Busy t 0 ∧ t.wm.marks.find k = none ∧ ∀ j, j ≠ k.val → t.wm.marks.find j = s.wm.marks.find j) ∧
      (s.bit LDG_STATUS_awaitreplay = true → Completes (.replay 0) s fun t => t.bit LDG_CMD_RESULT_busy = true ∧ t.ldg.code = 0 ∧
        t.bit LDG_STATUS_awaitreplay = false ∧ RegsBut [LDG_CMD_RESULT, LDG_STATUS] s t ∧ t.ldg.tickets = s.ldg.tickets ∧
        ∀ m : Fin 512, t.isFenced m = (s.isFenced m && (oldestAccepted s m).isSome)) ∧
      (s.bit LDG_STATUS_badrec = true → s.ldg.storesOk = true → Completes (.unfence 0) s fun t => t.bit LDG_CMD_RESULT_busy = true ∧ t.ldg.code = 0 ∧
        t.bit LDG_STATUS_badrec = false ∧ t.bit LDG_STATUS_awaitreplay = true ∧ RegsBut [LDG_CMD_RESULT, LDG_STATUS] s t ∧ LedgerKept s t) ∧
      (s.bit LDG_STATUS_badrec = true → s.ldg.storesOk = false → SMap.sorted s.ldg.tickets = true → Completes (.unfence 0) s fun t =>
        t.bit LDG_CMD_RESULT_busy = true ∧ t.ldg.code = 0 ∧ t.bit LDG_STATUS_badrec = false ∧ RegsBut [LDG_CMD_RESULT, LDG_STATUS] s t ∧
          (∀ i x, s.ticket i = some x → t.ticket i = some (if x.st = .accepted ∨ x.st = .dispatched then
            { x with st := .abandoned, result := 1, recorded := false } else x)) ∧
          ∀ m : Fin 512, t.isFenced m = (s.isFenced m && (oldestUnfinished s m).isSome)) ∧
      (s.bit LDG_STATUS_awaitreplay = false → Completes (.replay 0) s fun t => Busy t 3 ∧ LedgerKept s t) ∧
      (s.bit LDG_STATUS_badrec = false → Completes (.unfence 0) s fun t => Busy t 3 ∧ LedgerKept s t) ∧
      Completes (.abandon 0 n) s fun t => Busy t 0 ∧ ∀ i x, s.ticket i = some x →
        (x.track = n.val → x.st = .accepted → t.ticket i = some { x with st := .abandoned, result := 3, recorded := false } ∧ i ∈ t.ldg.compQ) ∧
        (x.track = n.val → x.st ≠ .accepted → t.ticket i = some x) ∧
        (SMap.sorted s.ldg.tickets = true → x.track ≠ n.val → t.ticket i = some x))

/-- The journal (R212, R213, R218, R219, R224, R236). A write slot takes a session record first; then admissions and completions alternately, a
completion where neither kind has been written; it starts nothing while a record is being written, where nothing waits, or later than 1.0 ms after the power-fail warning (R244). An admission record that
completes makes its submission an Accepted ticket in the next slot, advances the expected sequence and counts it. A completion record that
completes marks its ticket as recorded, and a session record lets its session send in its block, what waited for it first. Recovery (R236, R246). The scan's first part shows the write head and makes every session wait for its start-up record, from the block after the
newest found, from block 0 where none that can be read is found. Its end, with every record readable, leaves either every track of an empty journal unfenced, where a
store-valid flag was clear, or the ledger waiting for REPLAY, where all were set; records that cannot be read stop recovery, and each raises source 62. It rests in part on the model's choices of log entries 26 and 56. -/
def Obligations.JournalWritesAndRecovery : Prop :=
  (∀ s : State,
    let head := s.get LDG_JOURNAL_head
    let p := nextPos s 16384 head
    (s.ldg.writing.isSome = true ∨ warnedFor s 500000 = true → exec .journalSlot s = .next s) ∧
    (s.ldg.writing = none → warnedFor s 500000 = false →
      let Starts (w : JWrite) : Prop := Completes .journalSlot s fun t => t.ldg.writing = some w ∧ t.regs = s.regs ∧ t.ldg.tickets = s.ldg.tickets ∧
        t.ldg.queues = s.ldg.queues ∧ t.ldg.journal = s.ldg.journal
      (∀ k ks, s.ldg.sessQ = k :: ks → Starts (.sess k p)) ∧
      (s.ldg.sessQ = [] → nextAdmission s = none → s.ldg.compQ = [] → exec .journalSlot s = .next s) ∧
      (∀ h hs, s.ldg.sessQ = [] → s.ldg.compQ = h :: hs → nextAdmission s = none ∨ s.ldg.lastKind ≠ some false → Starts (.comp h p)) ∧
      (∀ n j u us, s.ldg.sessQ = [] → nextAdmission s = some (n, j) → queueOf s n = u :: us → s.ldg.compQ = [] ∨ s.ldg.lastKind = some false →
        Starts (.adm n u p))) ∧
    (∀ n u us pos, s.ldg.writing = some (.adm n u pos) → pos < 16384 → queueOf s n = u :: us → s.ldg.fresh ≤ 4096 →
      Completes .admissionRecordWritten s fun t =>
        t.ticket s.ldg.fresh = some ⟨n, u.seq, u.pay, .accepted, 0, 0, false⟩ ∧ (∀ i, i ≠ s.ldg.fresh → t.ticket i = s.ticket i) ∧
          t.expected n = s.expected n + 1 ∧ t.rd LDG_COUNT_ADMIT = s.rd LDG_COUNT_ADMIT + 1 ∧
          t.ldg.journal.find pos = some (.admission n u.seq u.pay) ∧ t.get LDG_JOURNAL_head = (pos + 1) % 16384 ∧ t.ldg.writing = none ∧
          (∀ r, s.ldg.reqs = [r] → r.link = .bb0 → r.verdicts = [none] → u.waiters = [(r.id, 0)] →
            (s.sess r.sess).send / 2 ^ 24 = (s.sess r.sess).blk →
            PlaceFilled s t r.src r.id ⟨.bb0, r.src, r.sess, s.rd (LDG_SESS_ID r.sess), (keySlot s r.sess).bytes, 2 ^ 63 + (s.sess r.sess).send,
              .submit [⟨n, 0x01, 1, u.seq, BitVec.ofNat 32 (creditOf t n - (heldOf t n).length)⟩]⟩)) ∧
    (∀ h pos x, s.ldg.writing = some (.comp h pos) → s.ticket h = some x → Completes .completionRecordWritten s fun t =>
      t.ticket h = some { x with recorded := true } ∧ (∀ i, i ≠ h → t.ticket i = s.ticket i) ∧ t.ldg.writing = none ∧
        t.ldg.journal.find pos = some (.completion x.track x.seq (x.st = .abandoned) x.result (s.rd (LDG_TRK_FLOOR x.track)))) ∧
    (∀ k pos, s.ldg.writing = some (.sess k pos) → Completes .sessionRecordWritten s fun t =>
      (t.sess k).ready = true ∧ (t.sess k).blk = (s.sess k).send / 2 ^ 24 ∧ t.ldg.writing = none ∧ t.ldg.tickets = s.ldg.tickets ∧
        ((∀ a ∈ s.ldg.held, a.2.2.1 ≠ k) → (t.sess k).send = (s.sess k).send ∧ t.ldg.held = s.ldg.held) ∧
        (∀ src b i, s.ldg.held = [(.bb0, src, k, b, i)] → t.ldg.held = [] ∧
          PlaceFilled s t src i ⟨.bb0, src, k, s.rd (LDG_SESS_ID k), (keySlot s k).bytes, 2 ^ 63 + (s.sess k).send, b⟩) ∧
        ∃ f, t.ldg.journal.find pos = some (.session k ((s.sess k).send / 2 ^ 24) f))) ∧
  (∀ s : State, s.bit LDG_STATUS_scanning = true →
    (s.ldg.headKnown = false → Completes .scanHeadFound s fun t =>
      t.ldg.headKnown = true ∧ t.ldg.sessQ = List.range 16 ∧ t.get LDG_JOURNAL_head = s.ldg.ringHead % 16384 ∧
        (∀ k : Fin 16, (t.sess k).ready = false ∧
          ((∀ e ∈ s.ldg.journal, recBad s e.1 = false → ∀ b f, e.2 ≠ .session k b f) → (t.sess k).send = 0 ∧ (t.sess k).floor = 0) ∧
          ∀ b f, (∃ e ∈ s.ldg.journal, recBad s e.1 = false ∧ e.2 = .session k b f) → (b + 1) * 2 ^ 24 ≤ (t.sess k).send) ∧
        t.ldg.tickets = s.ldg.tickets ∧ RegsBut [LDG_JOURNAL] s t) ∧
    (s.ldg.headKnown = true → s.ldg.journal = [] → s.ldg.tickets = [] → (∀ e ∈ s.cpu.mramErr, ¬ (0x100000 ≤ e.1 ∧ e.1 < 0x120000)) →
      (s.ldg.storesOk = true → exec .journalScanEnd s = .next ((s.putB LDG_STATUS_scanning false).putB LDG_STATUS_awaitreplay true)) ∧
      (s.ldg.storesOk = false → Completes .journalScanEnd s fun t => t.bit LDG_STATUS_scanning = false ∧ t.bit LDG_STATUS_recovering = false ∧
        (∀ n : Fin 512, t.isFenced n = false) ∧ t.ldg.tickets = [] ∧ RegsBut [LDG_STATUS] s t)) ∧
    (s.ldg.headKnown = true → (∃ e ∈ s.ldg.journal, recBad s e.1 = true) → Completes .journalScanEnd s fun t =>
      t.bit LDG_STATUS_scanning = false ∧ t.bit LDG_STATUS_badrec = true ∧
        (let bad := (s.ldg.journal.filter fun e => recBad s e.1).length
         (∃ l, t.raiseQ = l ++ List.replicate bad ⟨62, false, false, 0⟩) ∧
           t.get LDG_JOURNAL_badrec = min 255 (s.get LDG_JOURNAL_badrec + bad)) ∧ (t.bit LDG_STATUS_recovering = s.bit LDG_STATUS_recovering)))
/-! ## Protected switch channels (09_protected_switch_channels.md) -/

namespace Sys2Proof.Machine

/-- No register changes but those of the channels of a list and LDG_COUNT_DROP; no watermark but that of stage `c`; and of everything else only channel
`c`, the events, raises and frames on their way, and the counter of free values. -/
def ChannelFrame (s t : State) (c : Nat) (cs : List Nat) : Prop :=
  (∀ r : Rg, r.addr ≠ LDG_COUNT_DROP.addr → (∀ m ∈ cs, ¬ ((PSW_CH_CMD m).addr ≤ r.addr ∧ r.addr < (PSW_CH_CMD m).addr + 0x100)) → t.rd r = s.rd r) ∧
    (∀ k, k ≠ c → t.chan k = s.chan k ∧ t.wm.marks.find k = s.wm.marks.find k) ∧
    t = { s with regs := t.regs, psw := { s.psw with chans := t.psw.chans }, wm := { s.wm with marks := t.wm.marks }, evq := t.evq, raiseQ := t.raiseQ,
                 freeCtr := t.freeCtr, lnk := t.lnk }

/-- The acknowledgement registers of channel `c` after an action (R256). -/
def Acked (s t : State) (c outcome : Nat) (bad : Bool) (tkt : Option (Nat × Word)) : Prop :=
  t.get (PSW_CH_ACK_outcome c) = outcome ∧ t.bit (PSW_CH_ACK_badcmd c) = bad ∧ t.bit (PSW_CH_ACK_ticketed c) = tkt.isSome ∧
    t.get (PSW_CH_ACK_count c) = (s.get (PSW_CH_ACK_count c) + 1) % 65536 ∧ ∀ n q, tkt = some (n, q) → t.rd (PSW_CH_ACKSEQ c) = q

/-- No line of a matrix port that runs in an unblanked slot is tripped, limits or is in siding, and none is of the group of channel `c`: what
happens to the channel blanks no slot (R293). -/
def Unwatched (s : State) (c : Nat) : Prop :=
  ∀ (m : Fin 2) (l : Nat), (s.mat m).scan = true → (s.mat m).slotBad = false → (s.mat m).line = some l →
    lineFaulty s (lineBase m + l) = false ∧ lineBase m + l ∉ membersOf s c

/-- The commanded state and the output of channel `c` are as before. -/
def OutputKept (s t : State) (c : Nat) : Prop := t.rd (PSW_CH_STATE c) = s.rd (PSW_CH_STATE c) ∧ t.chan c = s.chan c

end Sys2Proof.Machine

/-- The actions of PSW_CHc_CMD (R32, R34, R251 to R256, R266, R269, R271). On a Served die, outside siding, a defined action is judged against the watermark: an
action without a ticket is performed, one that is later than the watermark is performed and advances it, and one that is not has outcome 2. Performed,
it sets the commanded state, and OFF, ON and LOW the output. In siding, on a die that is not Served, and for a line of a matrix port, the outcome is 3 and no
watermark changes. LOW on a high-side channel is undefined: outcome 1, badcmd, and nothing moves. A follower does nothing, but reports a ticketed
action with outcome 1, and a line that follows refuses as a line (R292); a die that is off ignores it, and a context without the grants has a violation of kind 3. Where something is under way on
the links of the die, or none carries frames, the action waits in a frame (R16, R17). It rests in part on the model's choices of log entries 10 and 31. -/
def Obligations.ChannelActions : Prop :=
  ∀ (s : State) (w : CtxId) (c : Fin 104) (v : BitVec 16), ctlReached s = true →
    ∀ p ∈ [(0, Instr.chOff w c v), (1, Instr.chOn w c v), (2, Instr.chDuty w c v), (3, Instr.chDutyc w c v), (4, Instr.chLow w c v)],
      let cmd := p.1
      let tkt := s.boundTkt w
      let d := dieOf c
      let granted := s.blockOk w 10 && s.chanOk w c
      let Performed (t : State) : Prop :=
        t.get (PSW_CH_STATE_cmd c) = cmd ∧ Acked s t c 1 false tkt ∧ ChannelFrame s t c (membersOf s c) ∧
          (cmd ≠ 2 → cmd ≠ 3 → (t.chan c).out = ⟨cmd, 0⟩) ∧
          (cmd = 2 ∨ cmd = 3 → t.get (PSW_CH_STATE_value c) = min 4096 (v.toNat % 8192) ∧ (t.chan c).out = (s.chan c).out)
      (granted = false → exec p.2 s = .next (s.violate w 3 (BitVec.ofNat 32 (PSW_CH_CMD c).addr))) ∧
      (granted = true → dieReached s d = false → exec p.2 s = .next s) ∧
      (granted = true → dieReached s d = true → linkClear s d = false →
        exec p.2 s = .next (queueFrame s d false (.action c cmd v.toNat tkt false none))) ∧
      (granted = true → dieReached s d = true → linkClear s d = true → isLine s c = true → Completes p.2 s fun t =>
        Acked s t c 3 (decide (cmd = 4 ∧ isHB c = false)) tkt ∧ OutputKept s t c ∧ t.wm = s.wm ∧ ChannelFrame s t c [c.val]) ∧
      (granted = true → dieReached s d = true → linkClear s d = true → isLine s c = false → isFollower s c = true →
        (tkt = none → exec p.2 s = .next (exchange s d)) ∧
        (tkt ≠ none → Completes p.2 s fun t => Acked s t c 1 false tkt ∧ OutputKept s t c ∧ t.wm = s.wm ∧ ChannelFrame s t c [c.val])) ∧
      (granted = true → dieReached s d = true → linkClear s d = true → isFollower s c = false →
        (dieState s d = 0 → isLine s c = false → s.bit (PSW_CH_STATUS_siding c) = false → cmd ≠ 4 ∨ isHB c = true →
          (tkt = none → Completes p.2 s fun t => Performed t ∧ t.wm = s.wm ∧ t.raiseQ = s.raiseQ) ∧
          (∀ n q m, tkt = some (n, q) → s.wm.marks.find c = some (n, m) →
            (seqLater q m = true → Completes p.2 s fun t => Performed t ∧ t.wm.marks.find c = some (n, q) ∧ t.raiseQ = s.raiseQ) ∧
            (seqLater q m = false → Completes p.2 s fun t => Acked s t c 2 false tkt ∧ OutputKept s t c ∧ t.wm = s.wm)) ∧
          (∀ n q, tkt = some (n, q) → s.wm.marks.find c = none → Completes p.2 s fun t =>
            Performed t ∧ t.wm = s.wm ∧ t.get LDG_COUNT_DROP_mismatch = min 65535 (s.get LDG_COUNT_DROP_mismatch + 1) ∧
              t.raiseQ = s.raiseQ ++ [⟨61, false, false, BitVec.ofNat 32 c⟩])) ∧
        (dieState s d = 0 → isLine s c = false → s.bit (PSW_CH_STATUS_siding c) = false → cmd = 4 → isHB c = false → tkt = none → Completes p.2 s fun t =>
          Acked s t c 1 true tkt ∧ OutputKept s t c ∧ t.wm = s.wm ∧ ChannelFrame s t c [c.val]) ∧
        (dieState s d ≠ 0 ∨ s.bit (PSW_CH_STATUS_siding c) = true → isLine s c = false → Completes p.2 s fun t =>
          Acked s t c 3 (decide (cmd = 4 ∧ isHB c = false)) tkt ∧ OutputKept s t c ∧ t.wm = s.wm ∧ ChannelFrame s t c [c.val]))

/-- Siding and REJOIN (R254, R271 to R273). SIDING by context 0 of a channel of that die takes its whole group into siding, off where sidelimp is 0; of a
channel in siding, or of another die, it changes nothing. A REJOIN in siding takes the group back, with no restart counted, to its target, where no
junction is above its restart temperature and X is at most a quarter of Itrip²; where one of these fails, and on a die that is not Served, its outcome is
3. An undefined REJOIN has outcome 1 whatever the state of the die, and the channel keeps its siding; a line of a matrix port refuses every one with outcome 3. Outside siding a REJOIN is an action of its target.
Both go over the links of the die, and wait in a frame where these are not free (R17). It rests in part on the model's choices of log entries 10 and 31. -/
def Obligations.SidingAndRejoin : Prop :=
  ∀ (s : State) (c : Fin 104) (v : BitVec 16), dieReached s (dieOf c) = true →
    let target := v.toNat / 4096
    let defined := target ≤ 3 ∨ (target = 4 ∧ isHB c = true)
    let sided := s.bit (PSW_CH_STATUS_siding c)
    (linkClear s (dieOf c) = false → ∀ tkt : Option (Fin 512 × Word), exec (.chRejoin c v tkt) s =
      .next (queueFrame s (dieOf c) false (.action c 15 v.toNat (tkt.map fun x => (x.1.val, x.2)) true none))) ∧
    (ctlReached s = true → ∀ d : Fin 2,
      (d.val = dieOf c → linkClear s d = true → isFollower s c = false → sided = false → Completes (.chSiding 0 d c.val) s fun t =>
        (∀ m ∈ membersOf s c, t.bit (PSW_CH_STATUS_siding m) = true) ∧ t.wm = s.wm ∧ ChannelFrame s t c (membersOf s c) ∧
          (s.bit (PSW_CH_SAFE_sidelimp c) = false → levelOf t c = .opened)) ∧
      (linkClear s d = true → dieReached s d = true → d.val ≠ dieOf c ∨ (isFollower s c = false ∧ sided = true) →
        exec (.chSiding 0 d c.val) s = .next (exchange s d)) ∧
      (linkClear s d = false → dieReached s d = true → exec (.chSiding 0 d c.val) s =
        .next (queueFrame s d false (.write 0 (PSW_DIE_CMD d).addr (BitVec.ofNat 32 (2 ^ 29 + c))))) ∧
      ∀ w : CtxId, w ≠ 0 → exec (.chSiding w d c.val) s = .next (s.violate w 3 (BitVec.ofNat 32 (PSW_DIE_CMD d).addr))) ∧
    (linkClear s (dieOf c) = true → isLine s c = true → ∀ tkt, Completes (.chRejoin c v tkt) s fun t =>
      Acked s t c 3 (decide (¬ defined)) (tkt.map fun x => (x.1.val, x.2)) ∧ OutputKept s t c ∧ t.wm = s.wm ∧ ChannelFrame s t c [c.val]) ∧
    (linkClear s (dieOf c) = true → isFollower s c = false →
      (isLine s c = false → ¬ defined → Completes (.chRejoin c v none) s fun t => Acked s t c 1 true none ∧ OutputKept s t c ∧ t.wm = s.wm ∧
        t.bit (PSW_CH_STATUS_siding c) = sided) ∧
      (defined → dieState s (dieOf c) ≠ 0 ∨ isLine s c = true ∨ (sided = true ∧ (cooled s c = false ∨ 256 < wireCode s c)) → ∀ tkt,
        Completes (.chRejoin c v tkt) s fun t =>
          Acked s t c 3 false (tkt.map fun x => (x.1.val, x.2)) ∧ OutputKept s t c ∧ t.wm = s.wm ∧ ChannelFrame s t c [c.val]) ∧
      (dieState s (dieOf c) = 0 → isLine s c = false →
        (sided = true → defined → cooled s c = true → wireCode s c ≤ 256 → Completes (.chRejoin c v none) s fun t =>
          (∀ m ∈ membersOf s c, t.bit (PSW_CH_STATUS_siding m) = false ∧ t.bit (PSW_CH_STATUS_latch m) = false ∧ t.bit (PSW_CH_STATUS_wire m) = false) ∧
            t.get (PSW_CH_STATUS_restarts c) = 0 ∧ t.get (PSW_CH_STATE_cmd c) = target ∧ Acked s t c 1 false none ∧ t.wm = s.wm ∧
            (target ≠ 2 → target ≠ 3 → (t.chan c).out = ⟨target, 0⟩)) ∧
        (sided = false → defined → Completes (.chRejoin c v none) s fun t =>
          t.get (PSW_CH_STATE_cmd c) = target ∧ Acked s t c 1 false none ∧ t.wm = s.wm)))

/-- Protection (R259 to R262, R266, R271, R277, R278). A junction that reaches TSD with a switch closed opens the group's switches: with restarts left it
waits to cool, with none left it latches off into siding and raises the die's source; with every switch open it is no trip. Cooled, a pending restart
counts where the channel is still commanded on, or is a line of a matrix port. The wire model follows X + (I² − X) × 1 ms / τ and latches off above
Itrip². A closed switch whose load would draw more than ILIM limits, and shows it while it lasts: ILIM is the unit's ILIM0 by the scale of ilim and the
derating between the knee and 165 °C. It rests in part on the model's choices of log entries 32 and 33. -/
def Obligations.ChannelProtection : Prop :=
  ∀ (s : State) (c : Fin 104), (s.die (dieOf c)).on = true →
    let l := leadOf s c
    let made := s.get (PSW_CH_STATUS_restarts l)
    let Latched (t : State) : Prop := (∀ m ∈ membersOf s c, t.bit (PSW_CH_STATUS_siding m) = true) ∧ levelOf t c = .opened ∧
      t.raiseQ = s.raiseQ ++ [⟨64 + dieOf c, false, false, BitVec.ofNat 32 l⟩] ∧ t.wm = s.wm
    (∀ onTime : Bool, Unwatched s c →
      (switchClosed s c onTime = false → exec (.junctionTrip c onTime) s = .next (s.modChan c fun x => { x with hot := true })) ∧
      (switchClosed s c onTime = true → s.get (PSW_CH_PROT_restarts l) ≤ made → Completes (.junctionTrip c onTime) s fun t =>
        Latched t ∧ (∀ m ∈ membersOf s c, t.bit (PSW_CH_STATUS_latch m) = true) ∧ t.bit (PSW_CH_STATUS_s_tsd c) = true) ∧
      (switchClosed s c onTime = true → made < s.get (PSW_CH_PROT_restarts l) → Completes (.junctionTrip c onTime) s fun t =>
        (∀ m ∈ membersOf s c, t.bit (PSW_CH_STATUS_tsdwait m) = true ∧ t.bit (PSW_CH_STATUS_siding m) = s.bit (PSW_CH_STATUS_siding m)) ∧
          levelOf t c = .opened ∧ t.get (PSW_CH_STATUS_restarts l) = made ∧ t.raiseQ = s.raiseQ ∧ t.wm = s.wm)) ∧
    (s.bit (PSW_CH_STATUS_tsdwait l) = true → (∀ m ∈ membersOf s c, m ≠ c.val → (s.chan m).hot = false ∧ (s.chan m).warm = false) →
      Completes (.thermalRestart c) s fun t => t.bit (PSW_CH_STATUS_tsdwait l) = false ∧ (t.chan c).hot = false ∧
        (commandedOn s l = true → t.get (PSW_CH_STATUS_restarts l) = min 15 (made + 1)) ∧
        (isLine s l = true → t.get (PSW_CH_STATUS_restarts l) = min 15 (made + 1)) ∧
        (commandedOn s l = false → isLine s l = false → (s.chan l).limp = none → t.get (PSW_CH_STATUS_restarts l) = made) ∧ t.wm = s.wm ∧ t.raiseQ = s.raiseQ) ∧
    (commandedOn s c = true ∨ isLine s c = true → s.bit (PSW_CH_STATUS_tsdwait c) = false → exec (.restartCountReset c) s = .next (s.put (PSW_CH_STATUS_restarts c) 0)) ∧
    (commandedOn s c = false → isLine s c = false → exec (.restartCountReset c) s = .next s) ∧
    (∀ load : Nat, Unwatched s c →
      let tj : ℚ := (sgn 10 (s.get (PSW_CH_TEMP_tj c)) : ℚ) / 2
      let tk : ℚ := (max 60 (min 150 (s.get (PSW_CH_PROT_knee l))) : Nat)
      let lim : ℚ := (Config.ilim0 c : ℚ) * ((4 - s.get (PSW_CH_PROT_ilim l) : ℚ) / 4) *
        (if tj ≤ tk then 1 else if 165 ≤ tj then 2 / 5 else 1 - 3 / 5 * (tj - tk) / (165 - tk))
      (lim < load → levelOf s c ≠ .opened → s.bit (PSW_CH_STATUS_ilim c) = false → Completes (.currentLimit c load) s fun t =>
        t.bit (PSW_CH_STATUS_ilim c) = true ∧ t.bit (PSW_CH_STATUS_s_ilim c) = true ∧ t = { s with regs := t.regs, evq := t.evq, lnk := t.lnk } ∧
          RegsBut [PSW_CH_STATUS c] s t) ∧
      (lim < load → levelOf s c = .opened ∨ s.bit (PSW_CH_STATUS_ilim c) = true → exec (.currentLimit c load) s = .next s) ∧
      (load ≤ lim → exec (.currentLimit c load) s = .next (s.putB (PSW_CH_STATUS_ilim c) false))) ∧
    (∀ (avg : BitVec 16) (tj volts : BitVec 10), isFollower s c = false →
      let tau : ℚ := max 1 (s.get (PSW_CH_WIRE_tau c)) / 2
      let x : ℚ := (s.chan c).x
      let x' : ℚ := if s.get (PSW_CH_WIRE_itrip c) = 0 then 0 else x + (amps c avg ^ 2 - x) * (1 / 1000) / tau
      let trips : Prop := s.get (PSW_CH_WIRE_itrip c) ≠ 0 ∧ itrip2 s c < x' ∧ s.bit (PSW_CH_STATUS_wire c) = false
      Completes (.wireModelUpdate c avg tj volts) s fun t =>
        (t.chan c).x = x' ∧ t.get (PSW_CH_SENSE_avg c) = avg.toNat ∧ t.get (PSW_CH_TEMP_tj c) = tj.toNat ∧
          (trips → Latched t ∧ ∀ m ∈ membersOf s c, t.bit (PSW_CH_STATUS_wire m) = true) ∧
          (¬ trips → t.raiseQ = s.raiseQ ∧ t.rd (PSW_CH_STATUS c) = s.rd (PSW_CH_STATUS c) ∧ ∀ k, k ≠ c.val → t.chan k = s.chan k)) ∧
    (∀ code : BitVec 16,
      ((s.chan c).sampleDue = true → exec (.sampleTrigger c code) s =
        .next ((s.put (PSW_CH_SENSE_snap c) code.toNat).modChan c fun x => { x with sampleDue := false })) ∧
      ((s.chan c).sampleDue = false → exec (.sampleTrigger c code) s = .next s))

/-- Periods, feed groups and tests (R257, R258, R264, R265, R276). A period start puts the PWM register, the cap and the followed command, compensated under
DUTYC, in force. The loss of a feed group opens its channels, which keep their commanded states, and raises the die's source; its return lets them
follow again. A test on a channel commanded OFF settles with the source off, then on: 3 short to battery, 2 open, 1 ok; below 6 V a running test ends
with result 0. It rests in part on the model's choices of log entries 32 and 33. -/
def Obligations.PeriodsGroupsAndTests : Prop :=
  ∀ s : State,
    (∀ (c : Fin 104) (uv span : Nat), (s.die (dieOf c)).on = true →
      (isFollower s c = true → exec (.pwmPeriodStart c uv span) s = .next s) ∧
      (isFollower s c = false → Completes (.pwmPeriodStart c uv span) s fun t =>
        (t.chan c).pwm = s.rd (PSW_CH_PWM c) ∧ (t.chan c).capIn = (s.chan c).cap ∧
          (t.chan c).out = (if isLine s c = true then (s.chan c).out else if (followed s c).cmd = 3 then ⟨3, compensated s c (followed s c).d uv⟩ else followed s c) ∧
          t.get (PSW_CH_STATE_eff c) = effective (t.chan c) % 8192 ∧ t.get (PSW_CH_STATE_cmd c) = s.get (PSW_CH_STATE_cmd c) ∧
          ChannelFrame s t c (membersOf s c))) ∧
    (∀ d g : Fin 2, (s.die d).on = true →
      let lost := if g = 0 then (s.die d).lost1 else (s.die d).lost2
      let Kept (t : State) : Prop := ∀ c : Fin 104, t.get (PSW_CH_STATE_cmd c) = s.get (PSW_CH_STATE_cmd c) ∧ (t.chan c).out = (s.chan c).out
      (lost = false → Completes (.feedGroupLost d g) s fun t => Kept t ∧ t.wm = s.wm ∧ t.raiseQ = s.raiseQ ++ [⟨66 + d.val, false, false, 0⟩] ∧
        ∀ c ∈ groupChans d (g + 1), groupLost t c = true ∧ levelOf t c = .opened ∧ t.bit (PSW_CH_STATUS_s_nosup c) = true) ∧
      (lost = true → exec (.feedGroupLost d g) s = .next s ∧ Completes (.feedGroupReturn d g) s fun t => Kept t ∧ t.wm = s.wm ∧
        t.raiseQ = s.raiseQ ∧ ∀ c ∈ groupChans d (g + 1), groupLost t c = false)) ∧
    (∀ c : Fin 104, (s.die (dieOf c)).on = true →
      let startable : Prop := isFollower s c = false ∧ (s.chan c).test = 0 ∧ 120 ≤ s.get (PSW_DIE_VBAT_v3 (dieOf c)) ∧ s.get (PSW_CH_STATE_cmd c) = 0 ∧
        s.bit (PSW_CH_STATUS_siding c) = false ∧ (s.chan c).out.cmd = 0 ∧ inPark s = false
      let started : State := s.modChan c (fun x => { x with test := 1 })
      let Result (t : State) (r : Nat) : Prop := t.get (PSW_CH_DIAG_result c) = r ∧ (t.chan c).test = 0 ∧ t.wm = s.wm ∧ RegsBut [PSW_CH_DIAG c] s t
      (startable → s.get (PSW_CH_DIAG_period c) ≠ 0 → exec (.openLoadTestStart c none) s = .next started) ∧
      (∀ w : CtxId, ctlReached s = true → s.blockOk w 10 = true → s.chanOk w c = true → (s.die (dieOf c)).away = false →
        (linkClear s (dieOf c) = false → exec (.openLoadTestStart c (some w)) s =
          .next (queueFrame s (dieOf c) false (.write w (PSW_CH_DIAG c).addr (s.rd (PSW_CH_DIAG c) ||| 0x80000000#32)))) ∧
        (linkClear s (dieOf c) = true →
          (startable → exec (.openLoadTestStart c (some w)) s = .next (exchange started (dieOf c))) ∧
          (s.get (PSW_DIE_VBAT_v3 (dieOf c)) < 120 → exec (.openLoadTestStart c (some w)) s = .next (exchange s (dieOf c))) ∧
          (120 ≤ s.get (PSW_DIE_VBAT_v3 (dieOf c)) → isFollower s c = false → (s.chan c).test = 0 → s.get (PSW_CH_STATE_cmd c) ≠ 0 →
            Completes (.openLoadTestStart c (some w)) s fun t => Result t 0))) ∧
      (s.get (PSW_DIE_VBAT_v3 (dieOf c)) < 120 → (s.chan c).test ≠ 0 → ∀ above, Completes (.openLoadSettle c above) s fun t => Result t 0) ∧
      (120 ≤ s.get (PSW_DIE_VBAT_v3 (dieOf c)) →
        ((s.chan c).test = 1 → Completes (.openLoadSettle c true) s (fun t => Result t 3) ∧
          exec (.openLoadSettle c false) s = .next (s.modChan c (fun x => { x with test := 2 }))) ∧
        ((s.chan c).test = 2 → Completes (.openLoadSettle c true) s (fun t => Result t 2) ∧
          Completes (.openLoadSettle c false) s fun t => Result t 1)) ∧
      ((s.chan c).test = 0 → ∀ above, exec (.openLoadSettle c above) s = .next s))

/-- The budget manager (R274, R275). It runs only in Run and Doze; with en = 0 every cap is 16. A run gives a channel of priority 3 no cap, takes
no channel below the lower of its floor and its former cap, sets exhausted exactly where it raises source 70, and changes no commanded state and
no watermark. A die that is reached with nothing under way on its links has the new caps at once; one that is off,
or to which no frame with a body goes, keeps its caps (R17, R28, R251, R467). It rests in part on the model's choices of log entries 10 and 34. -/
def Obligations.BudgetRunsCapTheLowerLevels : Prop :=
  ∀ (s : State) (fixed : Nat) (ms : List ChanMeas),
    let quiet (d : Nat) : Prop := dieReached s d = true ∧ linkClear s d = true ∧ (s.dir d false).unacked = [] ∧ (s.dir d true).unacked = []
    (s.pwr.phase ≠ .run → s.pwr.phase ≠ .doze → exec (.budgetRun fixed ms) s = .next s) ∧
    (s.pwr.phase = .run ∨ s.pwr.phase = .doze →
      (s.bit PSW_BUD_CFG_en = false → Completes (.budgetRun fixed ms) s fun t => ∀ c : Fin 104, quiet (dieOf c) → (t.chan c).cap = 16) ∧
      (s.bit PSW_BUD_CFG_en = true → Completes (.budgetRun fixed ms) s fun t =>
        (∀ c : Fin 104, (s.get (PSW_BUD_prio c) = 3 → quiet (dieOf c) → (t.chan c).cap = 16) ∧
          (dieReached s (dieOf c) = false ∨ dieFed s (dieOf c) = false → (t.chan c).cap = (s.chan c).cap) ∧ min (floorOf s c) (s.chan c).cap ≤ (t.chan c).cap ∧
          t.rd (PSW_CH_STATE c) = s.rd (PSW_CH_STATE c) ∧ (t.chan c).out = (s.chan c).out ∧ (t.chan c).capIn = (s.chan c).capIn) ∧
        t.raiseQ = s.raiseQ ++ (if t.bit PSW_BUD_STATUS_exhausted = true then [⟨70, false, false, 0⟩] else []) ∧ t.wm = s.wm))

/-! ## LED matrices, frame ports and stitch chains (10_lighting.md) -/

namespace Sys2Proof.Machine

/-- The acknowledgement registers of port `p` after an action (R286). -/
def PortAcked (s t : State) (p outcome : Nat) (bad : Bool) (tkt : Option (Nat × Word)) : Prop :=
  t.get (LED_P_ACK_outcome p) = outcome ∧ t.bit (LED_P_ACK_badcmd p) = bad ∧ t.bit (LED_P_ACK_ticketed p) = tkt.isSome ∧
    t.get (LED_P_ACK_count p) = (s.get (LED_P_ACK_count p) + 1) % 65536 ∧ ∀ n q, tkt = some (n, q) → t.rd (LED_P_ACKSEQ p) = q

end Sys2Proof.Machine

/-- The actions of the LED ports (R284 to R286, R290, R292, R295, R296, R305). Without the grants an action is a violation of kind 3; behind its gated
leaf it only sets s_gated. In siding, and for a matrix port whose die is not Served, its outcome is 3 and nothing moves; undefined, it is outcome 1 with
badcmd; not later than the watermark, outcome 2. Else it is performed: ENABLE scans, BLANK stops, DIM sets the dim, SWAP exchanges the buffers or waits
or is combined, SHIFT starts or, while a shift runs or PLL1 does not (R430), becomes pending or is combined, LATCH pulses an idle port's latch. SIDING and REJOIN by context 0 put a port into siding and
start its way back; to a return port every action is undefined. It rests in part on the model's choices of log entry 35. -/
def Obligations.PortActions : Prop :=
  ∀ (s : State) (w : CtxId) (m : Fin 2) (k : Fin 4) (v : BitVec 16),
    ctlReached s = true → (∀ a ∈ [(m.val, 1, Instr.matrixEnable w m), (m.val, 2, Instr.matrixBlank w m), (m.val, 3, Instr.matrixDim w m v),
        (2 + m.val, 4, Instr.frameSwap w m), (4 + k.val, 5, Instr.stitchShift w k), (4 + k.val, 6, Instr.stitchLatch w k)],
      let p := a.1
      let cmd := a.2.1
      let tkt := s.boundTkt w
      let away : Prop := s.bit (LED_P_STATUS_siding p) = true ∨ (p < 2 ∧ (dieReached s p = false ∨ dieState s p ≠ 0))
      let gated := gatedOff s (LED_P_CMD p).addr
      (ledPortOk s w p = false → exec a.2.2 s = .next (s.violate w 3 (BitVec.ofNat 32 (LED_P_CMD p).addr))) ∧
      (ledPortOk s w p = true → gated = true → exec a.2.2 s = .next (s.putB CLK_STATUS_s_gated true)) ∧
      (ledPortOk s w p = true → gated = false →
        (away → Completes a.2.2 s fun t => PortAcked s t p 3 (! portDefined s p cmd) tkt ∧ t.led = s.led ∧ t.wm = s.wm ∧ t.psw = s.psw) ∧
        (¬ away → tkt = none → portDefined s p cmd = false → Completes a.2.2 s fun t =>
          PortAcked s t p 1 true tkt ∧ t.led = s.led ∧ t.wm = s.wm ∧ t.psw = s.psw) ∧
        (∀ n q b, ¬ away → tkt = some (n, q) → s.wm.marks.find (104 + p) = some (n, b) → seqLater q b = false → Completes a.2.2 s fun t =>
          PortAcked s t p 2 (! portDefined s p cmd) tkt ∧ t.led = s.led ∧ t.wm = s.wm ∧ t.psw = s.psw) ∧
        (∀ n q b, ¬ away → tkt = some (n, q) → s.wm.marks.find (104 + p) = some (n, b) → seqLater q b = true → Completes a.2.2 s fun t =>
          PortAcked s t p 1 (! portDefined s p cmd) tkt ∧ t.wm.marks.find (104 + p) = some (n, q)) ∧
        (¬ away → tkt = none → portDefined s p cmd = true → Completes a.2.2 s fun t =>
          PortAcked s t p 1 false tkt ∧ t = { s with regs := t.regs, led := t.led, psw := t.psw, evq := t.evq } ∧
            (cmd = 1 → (t.mat m).own = true ∧ (t.mat m).scan = true) ∧
            (cmd = 2 → (t.mat m).own = false ∧ (t.mat m).scan = false) ∧
            (cmd = 3 → (t.mat m).dim = min 4096 (v.toNat % 8192) ∧ t.psw = s.psw) ∧
            (cmd = 4 → s.bit (LED_P_STATUS_pend p) = true → t.bit (LED_P_STATUS_s_comb p) = true ∧ frontOf t m = frontOf s m) ∧
            (cmd = 4 → s.bit (LED_P_STATUS_pend p) = false → s.bit (LED_F_CFG_sync m) = true ∨ retiring s m = true →
              t.bit (LED_P_STATUS_pend p) = true ∧ frontOf t m = frontOf s m) ∧
            (cmd = 4 → s.bit (LED_P_STATUS_pend p) = false → s.bit (LED_F_CFG_sync m) = false → retiring s m = false → frontOf t m = 1 - frontOf s m) ∧
            (cmd = 5 → lenOf s k = 0 → t.led = s.led) ∧
            (cmd = 5 → lenOf s k ≠ 0 → (s.st k).phase = .idle → perRuns s = true → (t.st k).phase = .shifting ∧ (t.st k).src = s.get (LED_S_CFG_src k) ∧
              (t.st k).buf = frontOf s (s.get (LED_S_CFG_src k)) ∧ (t.st k).zero = false ∧ (t.st k).len = lenOf s k) ∧
            (cmd = 5 → lenOf s k ≠ 0 → (s.st k).phase ≠ .idle ∨ perRuns s = false → t.led = s.led ∧ t.bit (LED_P_STATUS_pend p) = true ∧
              (s.bit (LED_P_STATUS_pend p) = true → t.bit (LED_P_STATUS_s_comb p) = true)) ∧
            (cmd = 6 → (s.st k).phase = .idle → (t.st k).phase = .latching) ∧
            (cmd = 6 → (s.st k).phase = .shifting → (t.st k).phase = .shifting ∧ (t.st k).latchReq = true)))) ∧
    ∀ p : Fin 8, gatedOff s (LED_P_CMD p).addr = false →
      let ret := decide (4 ≤ p.val) && isReturn s (p.val - 4)
      let sided := s.bit (LED_P_STATUS_siding p)
      (ret = true → ∀ i ∈ [Instr.portSiding 0 p, Instr.portRejoin 0 p], s.boundTkt 0 = none → Completes i s fun t =>
        PortAcked s t p (if sided = true then 3 else 1) true none ∧ t.led = s.led ∧ t.wm = s.wm ∧ t.psw = s.psw) ∧
      (ret = false →
        (sided = true → exec (.portSiding 0 p) s = .next s) ∧
        (sided = false → exec (.portRejoin 0 p) s = .next s ∧
          Completes (.portSiding 0 p) s fun t => t.bit (LED_P_STATUS_siding p) = true ∧ t.wm = s.wm ∧ t.ldg = s.ldg ∧ t.cpu = s.cpu) ∧
        (sided = true →
          (p.val < 2 → exec (.portRejoin 0 p) s = .next (s.modMat p fun x => { x with rejoin := true })) ∧
          (2 ≤ p.val → p.val < 4 → s.bit (LED_F_CFG_sync (p.val - 2)) = false → Completes (.portRejoin 0 p) s fun t =>
            t.bit (LED_P_STATUS_siding p) = false ∧ RegsBut [LED_P_STATUS p] s t) ∧
          (4 ≤ p.val → lenOf s (p.val - 4) = 0 → exec (.portRejoin 0 p) s = .next s) ∧
          (4 ≤ p.val → lenOf s (p.val - 4) ≠ 0 → Completes (.portRejoin 0 p) s fun t =>
            t.bit (LED_P_STATUS_siding p) = true ∧ (t.st (p.val - 4)).phase = .shifting ∧ (t.st (p.val - 4)).rejoin = true)))

/-- Frame memory and its readers (R288 to R291, R294 to R299, R303, R304). A swap that takes effect exchanges the buffers, counts, and starts a table copy from the new
front; it waits for the retiring buffer, for FSYNC's edge, or for fsto. A write through the aperture reaches the back buffer only, and not while it is
retiring. A table copy takes the low 12 bits of each halfword. A shift that ends has sent its marker and the bits of its buffer, and is checked against its
marker where the chain returns, on a land that reads 0 without VIO2 (R56): a match clears the misses, the second miss in a row is a broken chain. A shift of a REJOIN brings its port out of siding unless
the check fails, and latches, as a shift of zeros does. Without the peripheral clock nothing is shifted (R430). A frame-memory error puts the port into siding and raises source 81, and its word reads as 0. It rests in part on the model's choices of log entry 35. -/
def Obligations.FramesAndShifts : Prop :=
  ∀ s : State,
    (∀ n : Fin 2,
      let pend := s.bit (LED_P_STATUS_pend (2 + n))
      let sync := s.bit (LED_F_CFG_sync n)
      let siding := s.bit (LED_P_STATUS_siding (2 + n))
      let f := 1 - frontOf s n
      let Swapped (t : State) : Prop := frontOf t n = f ∧ t.bit (LED_P_STATUS_pend (2 + n)) = false ∧
        t.get (LED_P_STATUS_count (2 + n)) = (s.get (LED_P_STATUS_count (2 + n)) + 1) % 65536 ∧ (t.mat n).copies = (s.mat n).copies ++ [f] ∧
          t.led.fmem = s.led.fmem ∧ t.wm = s.wm ∧ t.psw = s.psw
      (pend = true → sync = false → retiring s n = false → Completes (.swapEffect n) s Swapped) ∧
      (pend = false ∨ retiring s n = true → exec (.swapEffect n) s = .next s) ∧
      (s.pwr.io2 = true → sync = true → siding = false → pend = true → retiring s n = false → Completes (.fsyncEdge n) s Swapped) ∧
      (s.pwr.io2 = false ∨ sync = false ∨ (siding = false ∧ pend = false) → exec (.fsyncEdge n) s = .next s) ∧
      (sync = true → s.get (LED_F_CFG_fsto n) ≠ 0 → pend = true → retiring s n = false → Completes (.fsyncTimeout n) s fun t =>
        Swapped t ∧ t.bit (LED_P_STATUS_s_fsto (2 + n)) = true ∧ t.raiseQ = s.raiseQ ++ [⟨79 + n.val, false, false, 0⟩]) ∧
      (∀ (b : Fin 2) (w : Fin 16384), Completes (.frameMemoryError ⟨n, b, w⟩) s fun t => t.bit (LED_P_STATUS_siding (2 + n)) = true ∧
        t.bit (LED_P_STATUS_s_ecc (2 + n)) = true ∧ t.raiseQ = s.raiseQ ++ [⟨81, false, false, 0⟩] ∧ t.led.fmem = s.led.fmem ∧
        ∀ i : Fin 4, t.fRead n b (4 * w + i) = 0) ∧
      (∀ (w : CtxId) (k : Fin 4096) (v : Word), ctlReached s = true → ledPortOk s w (2 + n) = true → gateOn s 30 = true →
        let at_ := fkey n (1 - frontOf s n) (0x4000 * s.get (LED_F_PAGE_page n) + 4 * k)
        (s.bit (LED_F_PAGE_front n) = false → retiring s n = false → Completes (.apertureWrite w n k v) s fun t =>
          apertureRead t n k = v ∧ (∀ a, a < at_ ∨ at_ + 4 ≤ a → SMap.get 0 t.led.fmem a = SMap.get 0 s.led.fmem a) ∧
            t = { s with led := { s.led with fmem := t.led.fmem, fbad := t.led.fbad } }) ∧
        (s.bit (LED_F_PAGE_front n) = true ∨ retiring s n = true → Completes (.apertureWrite w n k v) s fun t =>
          t.bit (LED_P_STATUS_s_lostw (2 + n)) = true ∧ t.led.fmem = s.led.fmem ∧ RegsBut [LED_P_STATUS (2 + n)] s t)) ∧
      (∀ b bs, (s.mat n).copies = b :: bs → Completes (.tableCopyDone n) s fun t => t.regs = s.regs ∧ (t.mat n).copies = bs ∧
        ∃ tab, (t.mat n).next = some tab ∧ ∀ l c, l < 8 → c < 12 → SMap.get 0 tab (12 * l + c) =
          ((s.fRead n b (2 * (12 * l + c))).toNat + 256 * (s.fRead n b (2 * (12 * l + c) + 1)).toNat) % 4096)) ∧
    (perRuns s = false → ∀ (k : Fin 4) (back : List Byte) (mark : Word), ∀ i ∈ [Instr.shiftStart k, .shiftEnd k back mark, .latchPulse k], exec i s = .next s) ∧
    (perRuns s = true → ∀ k : Fin 4,
      let x := s.st k
      let mode := latchMode x.cfg
      (s.bit (LED_P_STATUS_pend (4 + k)) = true → x.phase = .idle → s.bit (LED_P_STATUS_siding (4 + k)) = false → isReturn s k = true →
        exec (.shiftStart k) s = .next (s.putB (LED_P_STATUS_pend (4 + k)) false)) ∧
      (s.bit (LED_P_STATUS_pend (4 + k)) = true → x.phase = .idle → s.bit (LED_P_STATUS_siding (4 + k)) = false → lenOf s k ≠ 0 → isReturn s k = false →
        Completes (.shiftStart k) s fun t => t.bit (LED_P_STATUS_pend (4 + k)) = false ∧ (t.st k).phase = .shifting ∧
          (t.st k).buf = frontOf s (s.get (LED_S_CFG_src k)) ∧ t.bit (LED_P_STATUS_active (4 + k)) = true ∧ t.led.fmem = s.led.fmem) ∧
      (s.bit (LED_P_STATUS_pend (4 + k)) = false → exec (.shiftStart k) s = .next s) ∧
      (∀ (back : List Byte) (mark : Word),
        let got : Word := if s.pwr.io2 = true then mark else 0
        (x.phase ≠ .shifting → exec (.shiftEnd k back mark) s = .next s) ∧
        (x.phase = .shifting → x.zero = false → bitOf x.cfg 27 = false → x.rejoin = false → Completes (.shiftEnd k back mark) s fun t =>
          (t.st k).phase = (if mode = 0 ∨ (mode = 1 ∧ x.latchReq = true) then .latching else .idle) ∧ t.led.fmem = s.led.fmem ∧
            (t.st k).sent = shiftBits s k ∧ t.bit (LED_P_STATUS_active (4 + k)) = false ∧ RegsBut [LED_P_STATUS (4 + k)] s t) ∧
        (x.phase = .shifting → x.zero = true → Completes (.shiftEnd k back mark) s fun t =>
          (t.st k).phase = .latching ∧ (t.st k).sent = shiftBits s k ∧ t.led.fmem = s.led.fmem ∧ RegsBut [LED_P_STATUS (4 + k)] s t) ∧
        (x.phase = .shifting → x.zero = false → x.rejoin = true → bitOf x.cfg 27 = false ∨ got = x.marker →
          Completes (.shiftEnd k back mark) s fun t => t.bit (LED_P_STATUS_siding (4 + k)) = false ∧ (t.st k).phase = .latching) ∧
        (x.phase = .shifting → x.zero = false → x.rejoin = true → bitOf x.cfg 27 = true → got ≠ x.marker →
          Completes (.shiftEnd k back mark) s fun t => t.bit (LED_P_STATUS_siding (4 + k)) = s.bit (LED_P_STATUS_siding (4 + k)) ∧
            (t.st k).phase = .idle ∧ t.raiseQ = s.raiseQ) ∧
        (x.phase = .shifting → x.zero = false → bitOf x.cfg 27 = true → x.rejoin = false →
          (got = x.marker → Completes (.shiftEnd k back mark) s fun t => t.get (LED_S_RB_misses k) = 0 ∧ t.bit (LED_S_RB_match k) = true ∧
            (t.st k).matched = true ∧ t.raiseQ = s.raiseQ ∧ (mode = 0 → (t.st k).phase = .latching)) ∧
          (got ≠ x.marker → s.get (LED_S_RB_misses k) = 0 → mode = 0 → lenOf s k ≠ 0 → isReturn s k = false → Completes (.shiftEnd k back mark) s fun t =>
            t.get (LED_S_RB_misses k) = 1 ∧ t.bit (LED_P_STATUS_s_miss (4 + k)) = true ∧ (t.st k).phase = .shifting ∧ (t.st k).buf = x.buf ∧
              (t.st k).again = true ∧ t.raiseQ = s.raiseQ) ∧
          (got ≠ x.marker → s.get (LED_S_RB_misses k) ≠ 0 → s.bit (LED_P_STATUS_siding (4 + k)) = false → Completes (.shiftEnd k back mark) s fun t =>
            t.bit (LED_P_STATUS_siding (4 + k)) = true ∧ t.raiseQ = s.raiseQ ++ [⟨75 + k.val, false, false, 0⟩]))) ∧
      (x.phase = .latching → Completes (.latchPulse k) s fun t => (t.st k).phase = .idle ∧
        t.get (LED_P_STATUS_count (4 + k)) = (s.get (LED_P_STATUS_count (4 + k)) + 1) % 65536 ∧ RegsBut [LED_P_STATUS (4 + k)] s t) ∧
      (x.phase ≠ .latching → exec (.latchPulse k) s = .next s)) ∧
    (∀ p : Fin 8, s.bit (LED_P_STATUS_siding p) = false → exec (.portRejoinEffect p) s = .next s) ∧
    (∀ m : Fin 2, s.bit (LED_P_STATUS_siding m) = true → (s.mat m).rejoin = true →
      Completes (.portRejoinEffect (m.castLE (by omega))) s fun t => (t.mat m).rejoin = false ∧
        ((∃ i : Fin 8, s.bit (PSW_CH_STATUS_siding (lineBase m + i)) = true) → t.bit (LED_P_STATUS_siding m) = true) ∧
        ((∀ i : Fin 8, s.bit (PSW_CH_STATUS_siding (lineBase m + i)) = false) → t.bit (LED_P_STATUS_siding m) = false))

/-- Sinks and matrix lines (R280 to R282, R293). At a group's period start a direct sink takes its setting and shows floor(cur × f); f follows the knee, the span
and the floor of its die. A string found open or short, and a junction at TSD, are shown and raise the die's source once. A line slot opens the line before, counts
in the line counter, closes its own line and gives each column its table entry by the dim; a faulty line stays open, and its columns dark, and so is the
slot of a line that enters current limit from then on. A string is judged where the sink has conducted for on-times of 20 µs in total, and in Off no sink conducts (R302). An axis that
counts the lines of the port moves by one with each line start (R175). It rests in part on the model's choices of log entries 35 and 53. -/
def Obligations.SinksAndLines : Prop :=
  ∀ s : State,
    (∀ g : Fin 4, s.pwr.phase = .off → exec (.ledPwmPeriod g) s = .next s) ∧
    (∀ g : Fin 4, (s.die (g / 2)).on = true → s.pwr.phase ≠ .off → Completes (.ledPwmPeriod g) s fun t =>
      ∀ k : Fin 48, k.val / 12 = g.val → isColumn s k = false → (s.sink k).mode = .set →
        let cur := min 240 (s.get (LED_K_SET_cur k))
        (t.sink k).cur = cur ∧ (t.sink k).duty = min 4096 (s.get (LED_K_SET_duty k)) ∧
          t.get (LED_K_STATUS_ieff k) = ⌊(cur : ℚ) * factorOf s (k / 24)⌋.toNat % 256 ∧ t.rd (LED_K_SET k) = s.rd (LED_K_SET k)) ∧
    (∀ (d : Fin 2) (tj : BitVec 10), (s.die d).on = true → Completes (.ledDerateUpdate d tj) s fun t =>
      let T : ℚ := tj.toInt / 2
      let knee : ℚ := max 60 (min 150 (s.get (LED_DIE_DERATE_knee d)))
      let span : ℚ := max 10 (min 60 (s.get (LED_DIE_DERATE_span d)))
      let dmin : ℚ := s.get (LED_DIE_DERATE_dmin d) / 16
      (T ≤ knee → factorOf t d = 1) ∧ (knee < T → T < knee + span → factorOf t d = 1 - (1 - dmin) * (T - knee) / span) ∧
        (knee + span ≤ T → factorOf t d = dmin) ∧ t.regs = s.regs ∧ t.led.sinks = s.led.sinks) ∧
    (∀ k : Fin 48,
      let d := k.val / 24
      let judged : Prop := sinkFree s k = true ∧ 20000 ≤ (s.sink k).onNs
      (∀ low high : Bool, judged →
        let short := high && s.get (LED_K_CFG_vsh k) != 0
        Completes (.sinkStringCheck k low high) s fun t =>
          t.bit (LED_K_STATUS_open k) = low ∧ t.bit (LED_K_STATUS_short k) = short ∧ RegsBut [LED_K_STATUS k] s t ∧
            (short = true → s.bit (LED_K_CFG_shoff k) = true → t.bit (LED_K_STATUS_shut k) = true) ∧
            t.raiseQ = s.raiseQ ++ (if (low && ! s.bit (LED_K_STATUS_open k) || short && ! s.bit (LED_K_STATUS_short k)) = true
              then [⟨71 + d, false, false, BitVec.ofNat 32 k⟩] else [])) ∧
      (∀ low high : Bool, ¬ judged → exec (.sinkStringCheck k low high) s = .next (s.setSink k { s.sink k with onNs := 0 })) ∧
      ((s.die d).on = true → s.bit (LED_K_STATUS_tsd k) = false → exec (.sinkTsd k) s =
        .next ((s.putB (LED_K_STATUS_tsd k) true).raise (71 + d) (BitVec.ofNat 32 k))) ∧
      (s.bit (LED_K_STATUS_tsd k) = true → exec (.sinkTsd k) s = .next s) ∧
      ((s.die d).on = true → exec (.sinkThermalRestart k) s = .next (s.putB (LED_K_STATUS_tsd k) false))) ∧
    (∀ m : Fin 2,
      let x := s.mat m
      (x.scan = false → exec (.lineSlotStart m) s = .next s) ∧
      ((s.die m).on = false → exec (.lineSlotStart m) s = .next s) ∧
      (∀ l, (s.die m).on = true → x.scan = true → x.line = some l → l < getBits x.cfg 30 28 → x.slotBad = true ∨ lineFaulty s (lineBase m + l) = false →
        let c := lineBase m + (l + 1)
        let s' := setOut s (lineBase m + l) ⟨0, 0⟩
        Completes (.lineSlotStart m) s fun t => (t.mat m).line = some (l + 1) ∧ (t.mat m).lineCtr = x.lineCtr + 1 ∧
          (t.chan (lineBase m + l)).out = ⟨0, 0⟩ ∧ t.wm = s.wm ∧
          (∀ n : Fin 8, 2 ≤ n.val → usesMatrix m s n = true → (s.axis n).lost = false → (s.axis n).qual ≠ 3 → ctlReached s = true → perRuns s = true →
            (s.axis n).lines = x.lineCtr → (t.axis n).pos =
              (if s.bit (TLN_AX_CFG_inv n) = true then (s.axis n).pos + (2 ^ 62 - 1) else (s.axis n).pos + 1) % 2 ^ 62) ∧
          (lineFaulty s' c = false → (t.chan c).out = ⟨1, 0⟩ ∧ t.raiseQ = s.raiseQ ∧
            ∀ i : Fin 12, (t.sink (24 * m + i)).duty = SMap.get 0 x.tab (12 * (l + 1) + i) * dimOf s m / 4096) ∧
          (lineFaulty s' c = true → (t.chan c).out = ⟨0, 0⟩ ∧ (∀ i : Fin 12, (t.sink (24 * m + i)).duty = 0) ∧ (t.mat m).slotBad = true ∧
            (x.fault.contains (l + 1) = false → t.raiseQ = s.raiseQ ++ [⟨73 + m.val, false, false, 0⟩]))) ∧
      ((s.die m).on = true → x.scan = true → x.line = some (getBits x.cfg 30 28) → Completes (.lineSlotStart m) s fun t =>
        (t.mat m).line = some 0 ∧ (t.mat m).lineCtr = x.lineCtr + 1 ∧ (t.mat m).cfg = s.rd (LED_M_CFG m) ∧
          (t.mat m).tab = x.next.getD x.tab ∧ t.get (LED_P_STATUS_count m) = (s.get (LED_P_STATUS_count m) + 1) % 65536) ∧
      (∀ (l : Fin 8) (load : Nat), (s.die m).on = true → x.scan = true → x.slotBad = false → x.line = some l.val →
        (s.mat (1 - m)).scan = false → let c : Fin 104 := ⟨lineBase m + l, by simp [lineBase]; omega⟩
        ilimOf s c < load → levelOf s c ≠ .opened → s.bit (PSW_CH_STATUS_ilim c) = false → leadOf s c = c →
        Completes (.currentLimit c load) s fun t => (t.mat m).slotBad = true ∧ (t.chan c).out = ⟨0, 0⟩ ∧
          (∀ i : Fin 12, (t.sink (24 * m + i)).duty = 0) ∧
          (x.fault.contains l.val = false → t.raiseQ = s.raiseQ ++ [⟨73 + m.val, false, false, 0⟩])))

/-! ## Switch inputs (11_switch_inputs.md) -/

namespace Sys2Proof.Machine

/-- What power die `d` tells the control die arrives at once (R16, R17): the control die is neither in reset nor unpowered nor starting, the die is on and not
taken as off, a link carries frames and nothing of the die is on its way. -/
def DieHeard (s : State) (d : Nat) : Bool :=
  dieReached s d && dieSettled s d true && s.pwr.phase != .off && s.pwr.phase != .inReset && s.pwr.phase != .starting

end Sys2Proof.Machine

/-- Sampling, debounce and wake (R307, R309, R311, R312, R317, R320). The first sample of an enabled input gives the level; a later one that differs from it counts,
one that agrees starts the count again. At the count of the debounce time the level changes, chg counts it and the mirror on the control die follows,
at once where it has been refreshed and nothing of its die is on its way (R16, R17). A write of WET or DB by context 0 discards the count and leaves the level; it passes to the die
at once where the links are clear, else as a frame. In Park the level stays, wanted samples count, and n of them request the wake of code 3. It rests in part on the model's choices of log entries 10 and 36. -/
def Obligations.InputsDebounceAndWake : Prop :=
  ∀ (s : State) (i : Fin 96),
    let lvl := s.bit (DIN_IN_STATUS_level i)
    let x := s.din1 i
    let shown := s.bit (mirrorFlag (dinDie i)) && DieHeard s (dinDie i)
    let far := dieReached s (dinDie i)
    (∀ v : Bool, sampled s i = true →
      (inPark s = false → x.started = false → Completes (.inputSample i v) s fun t => t.bit (DIN_IN_STATUS_level i) = v ∧
        t.bit (DIN_IN_STATUS_raw i) = v ∧ bitOf (t.rd (DIN_LEVEL (i / 32))) (i % 32) = (if shown = true then v else bitOf (s.rd (DIN_LEVEL (i / 32))) (i % 32)) ∧
          t.get (DIN_IN_STATUS_chg i) = s.get (DIN_IN_STATUS_chg i) ∧ t.evq = s.evq ∧ RegsBut [DIN_IN_STATUS i, DIN_LEVEL (i / 32)] s t) ∧
      (inPark s = false → x.started = true → Completes (.inputSample i v) s fun t => (t.din1 i).count = (if v = lvl then 0 else x.count + 1) ∧
        t.bit (DIN_IN_STATUS_level i) = lvl ∧ t.bit (DIN_IN_STATUS_raw i) = v ∧ RegsBut [DIN_IN_STATUS i] s t) ∧
      (inPark s = true → Completes (.inputSample i v) s fun t => t.bit (DIN_IN_STATUS_level i) = lvl ∧
        (v = lvl → (t.din1 i).parkCnt = 0) ∧ (v ≠ lvl → s.get (DIN_IN_CFG_wedge i) = 3 → (t.din1 i).parkCnt = x.parkCnt + 1))) ∧
    (∀ v : Bool, sampled s i = false → exec (.inputSample i v) s = .next s) ∧
    (sampled s i = true → inPark s = false → x.started = true → debounceCount s i ≤ x.count → Completes (.levelChange i) s fun t =>
      t.bit (DIN_IN_STATUS_level i) = ! lvl ∧ t.get (DIN_IN_STATUS_chg i) = (s.get (DIN_IN_STATUS_chg i) + 1) % 65536 ∧ (t.din1 i).count = 0 ∧
        bitOf (t.rd (DIN_LEVEL (i / 32))) (i % 32) = (if shown = true then ! lvl else bitOf (s.rd (DIN_LEVEL (i / 32))) (i % 32)) ∧ (∀ j, j ≠ i.val → t.din1 j = s.din1 j) ∧ t.wm = s.wm ∧ t.psw = s.psw) ∧
    (x.count < debounceCount s i → exec (.levelChange i) s = .next s) ∧
    (s.bit (DIN_IN_WET_mode i) = false → debounceCount s i = max 2 (min 64000 (s.get (DIN_IN_DB_db i)))) ∧
    (ctlReached s = true → ∀ (wet : Bool) (v : Word),
      let r := if wet then DIN_IN_WET i else DIN_IN_DB i
      (∀ w : CtxId, w ≠ 0 → exec (.debounceRestart w i wet v) s = .next (s.violate w 3 (BitVec.ofNat 32 r.addr))) ∧
      (far = false → exec (.debounceRestart 0 i wet v) s = .next s) ∧
      (far = true → linkClear s (dinDie i) = false →
        exec (.debounceRestart 0 i wet v) s = .next (queueFrame s (dinDie i) false (.write 0 r.addr v))) ∧
      (far = true → linkClear s (dinDie i) = true → ∃ t, exec (.debounceRestart 0 i wet v) s = .next (exchange t (dinDie i)) ∧
        (t.din1 i).count = 0 ∧ (t.din1 i).started = x.started ∧ (t.din1 i).pulse = (x.pulse && ! wet) ∧ t.bit (DIN_IN_STATUS_level i) = lvl ∧
          t.rd r = v &&& (if wet then 0x8F0F00FF else 0x0000FFFF) ∧
            (lineJudged t i = true → t.get (DIN_IN_STATUS_line i) = s.get (DIN_IN_STATUS_line i) ∧ RegsBut [r] s t ∧ t.tln = s.tln) ∧
            (lineJudged t i = false → t.get (DIN_IN_STATUS_line i) = 0) ∧
            RegsBut [r, DIN_IN_STATUS i, DIN_FAULT (i / 32)] s t ∧ t.evq = s.evq ∧ t.psw = s.psw ∧
            (lineJudged t i = true ∨ DieHeard s (dinDie i) = true → t.lnk = s.lnk))) ∧
    (sampled s i = true → inPark s = false → s.bit (DIN_IN_WET_mode i) = true → s.get (DIN_IN_WET_cur i) ≠ 0 →
      Completes (.wettingPulse i) s fun t => (t.din1 i).pulse = true ∧ (t.din1 i).count = x.count ∧ t.regs = s.regs) ∧
    (sampled s i = true → inPark s = true → max 1 (s.get (DIN_IN_PARK_n i)) ≤ x.parkCnt → Completes (.inputWakeRequest i) s fun t =>
      bitOf (t.rd PWR_WAKEMASK) 3 = true ∧ t.pwr.wake = true ∧ (s.pwr.wake = false → t.get PWR_WAKESRC_code = 3 ∧ t.get PWR_WAKESRC_detail = i)) ∧
    (inPark s = false ∨ x.parkCnt < max 1 (s.get (DIN_IN_PARK_n i)) → exec (.inputWakeRequest i) s = .next s)

/-- Line faults and analogue readings (R314, R316 to R319). A level change that is due in the same sample comes first. A fault of a judged line is
shown, mirrored, and raises the source of its die, and its clearing undoes the first two; a line that is not judged, as none is in Park (R320), is left alone. A trigger joins the
queue of its die unless its input's reading is queued; it reaches the die at once where the links are clear, else as a frame. A reading that completes
is the oldest one's, with its code and sequence. It rests in part on the model's choices of log entries 10 and 36. -/
def Obligations.LineFaultsAndReadings : Prop :=
  ∀ s : State,
    (∀ i : Fin 96,
      let judged := sampled s i && ! inPark s && lineJudged s i && ! lineFrozen s i
      let shown := s.bit (mirrorFlag (dinDie i)) && DieHeard s (dinDie i)
      let due := ! inPark s && (s.din1 i).started && decide (debounceCount s i ≤ (s.din1 i).count)
      let mirror (t : State) := bitOf (t.rd (DIN_FAULT (i / 32))) (i % 32)
      (∀ c ∈ [Instr.lineFaultDeclare i true, .lineFaultDeclare i false, .lineFaultClear i], exec c s = exec c (levelChange s i)) ∧
      (∀ high : Bool, due = false →
        let kind := if high then 1 else 2
        (judged = true → s.get (DIN_IN_STATUS_line i) ≠ kind → Completes (.lineFaultDeclare i high) s fun t =>
          t.get (DIN_IN_STATUS_line i) = kind ∧ mirror t = (shown || mirror s) ∧
            t.bit (DIN_IN_STATUS_s_fault i) = true ∧ (∃ l, t.raiseQ = s.raiseQ ++ [⟨82 + dinDie i, false, false, BitVec.ofNat 32 i⟩] ++ l) ∧
            t.bit (DIN_IN_STATUS_level i) = s.bit (DIN_IN_STATUS_level i) ∧ RegsBut [DIN_IN_STATUS i, DIN_FAULT (i / 32)] s t) ∧
        (judged = false ∨ s.get (DIN_IN_STATUS_line i) = kind → exec (.lineFaultDeclare i high) s = .next s)) ∧
      (due = false → judged = true → s.get (DIN_IN_STATUS_line i) ≠ 0 → Completes (.lineFaultClear i) s fun t =>
        t.get (DIN_IN_STATUS_line i) = 0 ∧ mirror t = (mirror s && ! shown) ∧ t.raiseQ = s.raiseQ ∧
          RegsBut [DIN_IN_STATUS i, DIN_FAULT (i / 32)] s t) ∧
      (due = false → judged = false ∨ s.get (DIN_IN_STATUS_line i) = 0 → exec (.lineFaultClear i) s = .next s) ∧
      (s.get (DIN_IN_CFG_aper i) ≠ 0 → inPark s = false → (s.die (dinDie i)).on = true → (adcQueue s (dinDie i)).contains i = false →
        exec (.adcPeriodicTrigger i) s = .next (setAdcQueue s (dinDie i) (adcQueue s (dinDie i) ++ [i.val])))) ∧
    (ctlReached s = true → ∀ (w : CtxId) (v : BitVec 7),
      let d := dinDie v.toNat
      (s.blockOk w 12 = false → exec (.adcGo w v) s = .next (s.violate w 3 (BitVec.ofNat 32 DIN_ADCGO.addr))) ∧
      (s.blockOk w 12 = true →
        (96 ≤ v.toNat ∨ dieReached s d = false → exec (.adcGo w v) s = .next s) ∧
        (v.toNat < 96 → dieReached s d = true →
          (linkClear s d = false → exec (.adcGo w v) s = .next (queueFrame s d false (.write w DIN_ADCGO.addr (BitVec.ofNat 32 v.toNat)))) ∧
          (linkClear s d = true → v.toNat ∈ adcQueue s d → exec (.adcGo w v) s = .next (exchange s d)) ∧
          (linkClear s d = true → v.toNat ∉ adcQueue s d →
            exec (.adcGo w v) s = .next (exchange (setAdcQueue s d (adcQueue s d ++ [v.toNat])) d))))) ∧
    (∀ (d : Fin 2) (code : BitVec 12), (s.die d).on = true →
      (adcQueue s d = [] → exec (.adcReadingDone d code) s = .next s) ∧
      (∀ (i : Nat) (q : List Nat), adcQueue s d = i :: q → Completes (.adcReadingDone d code) s fun t => adcQueue t d = q ∧
        t.get (DIN_IN_ADC_code i) = code.toNat ∧ t.bit (DIN_IN_ADC_valid i) = true ∧
          t.get (DIN_IN_ADC_seq i) = (s.get (DIN_IN_ADC_seq i) + 1) % 256 ∧ RegsBut [DIN_IN_ADC i] s t))

/-! ## CAN FD controllers and the timetable (12_can_controllers.md) -/

namespace Sys2Proof.Machine

/-- The acknowledgement registers of controller `u`'s path after a request (R336). -/
def CanAcked (s t : State) (u outcome : Nat) (bad : Bool) (tkt : Option (Nat × Word)) : Prop :=
  t.get (CAN_TXACK_outcome u) = outcome ∧ t.bit (CAN_TXACK_badreq u) = bad ∧ t.bit (CAN_TXACK_ticketed u) = tkt.isSome ∧
    t.get (CAN_TXACK_count u) = (s.get (CAN_TXACK_count u) + 1) % 65536 ∧ ∀ n q, tkt = some (n, q) → t.rd (CAN_TXACKSEQ u) = q

/-- Buffer `b` of controller `u` is pending no more and holds a result in its word 1 (R340); a controller has no word above 8,191 (R328). -/
def Ended (s t : State) (u b result : Nat) : Prop :=
  isPend t u b = false ∧ (ramAt s u 3 b + 1 < 8192 → getBits (t.canWord u (ramAt s u 3 b + 1)) 19 16 = result)

end Sys2Proof.Machine

/-- The states of a controller (R325, R345, R346, R348). START from Init integrates where the configuration is valid; STOP, SIDING and REJOIN act in their
states, and wait for the end of an own frame or for the recovery; in any other state the code is 1, and the state does not change. TTSWITCH
waits for the next cell (0, 0). Only context 0 commands, and a busy controller ignores it. 11 recessive bits make an integrating controller
active, and end what a reset found on the bus (R337); the completed recovery lets a waiting or automatic rejoin begin; without VIO2 the lands of CAN8 to CAN11 hear neither (R56), and without the CAN clock no controller does (R430, R432). It rests in part on the model's choices of log entries 37 and 62. -/
def Obligations.CanCommandsAndStates : Prop :=
  ∀ (s : State) (u : Fin 12),
    let st := canState s u
    let busy := s.bit (CAN_CMD_RESULT_busy u)
    let recov := s.bit (CAN_STATUS_recov u)
    let regs := [CAN_STATUS u, CAN_TT_STATUS u, CAN_CMD_RESULT u]
    let Done (code : Nat) (t : State) : Prop := t.get (CAN_CMD_RESULT_code u) = code ∧ t.bit (CAN_CMD_RESULT_busy u) = false ∧
      t.get (CAN_CMD_RESULT_seq u) = (s.get (CAN_CMD_RESULT_seq u) + 1) % 256
    let Refused (code : Nat) (t : State) : Prop := Done code t ∧ OnlyRegs [CAN_CMD_RESULT u] s t
    let Waits (t : State) : Prop := t.bit (CAN_CMD_RESULT_busy u) = true ∧ canState t u = st ∧ (t.canc u).pend = (s.canc u).pend ∧
      RegsBut [CAN_CMD_RESULT u] s t ∧ t.can.msg = s.can.msg
    let Integrates (t : State) : Prop := canState t u = 1 ∧ t.get (CAN_STATUS_tec u) = 0 ∧ t.get (CAN_STATUS_rec u) = 0 ∧
      t.bit (CAN_TT_STATUS_synced u) = false ∧ RegsBut regs s t ∧ t.can.msg = s.can.msg ∧ t.wm = s.wm
    let Leaves (st' : Nat) (t : State) : Prop := canState t u = st' ∧ (∀ r ∈ (s.canc u).pend, Ended s t u r.buf 5) ∧ (t.canc u).pend = [] ∧
      RegsBut regs s t ∧ t.wm = s.wm
    (ctlReached s = true → ∀ c ∈ [Instr.canStart, .canStop, .canSiding, .canRejoin, .canTtswitch],
      (∀ w : CtxId, w ≠ 0 → exec (c w u) s = .next (s.violate w 3 (BitVec.ofNat 32 (CAN_CMD u).addr))) ∧
      (gatedOff s (CAN_CMD u).addr = true → exec (c 0 u) s = .next (s.putB CLK_STATUS_s_gated true)) ∧
      (gatedOff s (CAN_CMD u).addr = false → busy = true → exec (c 0 u) s = .next s)) ∧
    (ctlReached s = true → gatedOff s (CAN_CMD u).addr = false → busy = false → (s.canc u).after = none → (s.canc u).rejoin = false →
      (st = 0 → canConfigOk s u = true → Completes (.canStart 0 u) s fun t => Integrates t ∧ Done 0 t) ∧
      (st = 0 → canConfigOk s u = false → Completes (.canStart 0 u) s (Refused 2)) ∧
      (st ≠ 0 → Completes (.canStart 0 u) s (Refused 1)) ∧
      (st = 0 → Completes (.canStop 0 u) s (Refused 1)) ∧
      (st ≠ 0 → (s.canc u).cur = none → Completes (.canStop 0 u) s fun t => Leaves 0 t ∧ Done 0 t) ∧
      (st ≠ 0 → (s.canc u).cur ≠ none → Completes (.canStop 0 u) s fun t => Waits t ∧ (t.canc u).after = some .stop) ∧
      (st = 0 ∨ st = 4 → Completes (.canSiding 0 u) s (Refused 1)) ∧
      (st ≠ 0 → st ≠ 4 → (s.canc u).cur = none → Completes (.canSiding 0 u) s fun t => Leaves 4 t ∧ Done 0 t ∧ t.get (CAN_STATUS_cause u) = 0) ∧
      (st ≠ 0 → st ≠ 4 → (s.canc u).cur ≠ none → Completes (.canSiding 0 u) s fun t => Waits t ∧ (t.canc u).after = some .siding) ∧
      (st ≠ 4 → Completes (.canRejoin 0 u) s (Refused 1)) ∧
      (st = 4 → s.get (CAN_STATUS_cause u) ≠ 1 ∨ recov = true → Completes (.canRejoin 0 u) s fun t => Integrates t ∧ Done 0 t) ∧
      (st = 4 → s.get (CAN_STATUS_cause u) = 1 → recov = false → Completes (.canRejoin 0 u) s fun t => Waits t ∧ (t.canc u).rejoin = true) ∧
      (ttMode s u = 0 → Completes (.canTtswitch 0 u) s (Refused 3)) ∧
      (ttMode s u ≠ 0 → Completes (.canTtswitch 0 u) s fun t => Done 0 t ∧ t.bit (CAN_TT_STATUS_pendsw u) = true ∧
        t.get (CAN_TT_STATUS_active u) = s.get (CAN_TT_STATUS_active u) ∧ OnlyRegs [CAN_CMD_RESULT u, CAN_TT_STATUS u] s t)) ∧
    (st ≠ 1 ∨ canLinked s u = false → exec (.canIntegrated u) s = .next (tailOver s u)) ∧
    (st = 1 → canLinked s u = true → Completes (.canIntegrated u) s fun t => canState t u = 2 ∧ RegsBut [CAN_STATUS u] s t ∧ t.can.msg = s.can.msg ∧ t.wm = s.wm) ∧
    (st ≠ 4 ∨ s.get (CAN_STATUS_cause u) ≠ 1 ∨ recov = true ∨ canLinked s u = false → exec (.canRecoveryComplete u) s = .next s) ∧
    (st = 4 → s.get (CAN_STATUS_cause u) = 1 → recov = false → canLinked s u = true →
      ((s.canc u).rejoin = true → Completes (.canRecoveryComplete u) s fun t => Integrates t ∧ Done 0 t) ∧
      ((s.canc u).rejoin = false → s.bit (CAN_CTRL_autorj u) = true → Completes (.canRecoveryComplete u) s Integrates) ∧
      ((s.canc u).rejoin = false → s.bit (CAN_CTRL_autorj u) = false →
        exec (.canRecoveryComplete u) s = .next (s.putB (CAN_STATUS_recov u) true)))

/-- Requests and attempts (R324, R336 to R341). A request is judged in the order of its tests: Siding, the ticket, the buffer; taken, its buffer is pending with
its ticket and shows result 0. A cancellation ends a request whose attempt has not begun. Before a start-of-frame the best eligible request is chosen: released by a slot,
then by its arbitration field, then by its number; an unsendable one ends with result 6. A valid frame ends its request with result 1 and advances the
watermark to its sequence; a lost arbitration and a failed attempt leave the request pending, but for a slot's, which is missed. A bit error in
the data field of the stored identifier counts, and at the threshold raises its source. An own valid frame takes one from TEC and an own error
adds 8; a receiver's error adds 1 or 8 to REC; above 255 the controller is bus-off. A ticketed attempt that a reset found on the bus
advances its watermark at its own valid bit; an error, a bit after it or another node's frame ends it. Without the CAN clock no attempt goes on (R430, R432). It rests in part on the model's choices of log entry 37. -/
def Obligations.CanRequests : Prop :=
  ∀ (s : State) (u : Fin 12),
    let st := canState s u
    let cc := s.canc u
    let live : Prop := st = 2 ∨ st = 3
    let Kept (t : State) : Prop := t.can = s.can ∧ t.wm = s.wm ∧ RegsBut [CAN_TXACK u, CAN_TXACKSEQ u] s t
    (∀ (w : CtxId) (b : BitVec 6),
      let n := b.toNat
      let tkt := s.boundTkt w
      let unfit : Bool := decide (ramCount s u 3 ≤ n) || bitOf (s.canWord u (ramAt s u 3 n + 1)) 6 || isPend s u n || st == 0 || canMode s u != 0
      let Takes (as : Option (Nat × Word)) (t : State) : Prop := CanAcked s t u 1 false tkt ∧ t.wm = s.wm ∧
        (∀ a, a ≠ ramAt s u 3 n + 1 → t.canWord u a = s.canWord u a) ∧ getBits (t.canWord u (ramAt s u 3 n + 1)) 19 16 = 0 ∧
        (t.canc u).pend = cc.pend ++ [⟨n, as, false, none, 0⟩] ∧ ∀ x, x ≠ u.val → t.canc x = s.canc x
      (ctlReached s = true → canGrant s w u = false → exec (.txRequest w u b) s = .next (s.violate w 3 (BitVec.ofNat 32 (CAN_TXREQ u).addr)) ∧
        exec (.txCancel w u b) s = .next (s.violate w 3 (BitVec.ofNat 32 (CAN_TXCANCEL u).addr))) ∧
      (ctlReached s = true → canGrant s w u = true → gatedOff s (CAN_TXREQ u).addr = false →
        (st = 4 → Completes (.txRequest w u b) s fun t => CanAcked s t u 3 false tkt ∧ Kept t) ∧
        (∀ tr q m, st ≠ 4 → tkt = some (tr, q) → s.wm.marks.find (112 + u) = some (tr, m) →
          (seqLater q m = false ∨ behindPending s u q = true → Completes (.txRequest w u b) s fun t => CanAcked s t u 2 false tkt ∧ Kept t) ∧
          (seqLater q m = true → behindPending s u q = false →
            (unfit = true → Completes (.txRequest w u b) s fun t => CanAcked s t u 1 true tkt ∧ Kept t) ∧
            (unfit = false → Completes (.txRequest w u b) s fun t => Takes tkt t ∧ RegsBut [CAN_TXACK u, CAN_TXACKSEQ u] s t))) ∧
        (∀ tr q, st ≠ 4 → tkt = some (tr, q) → s.wm.marks.find (112 + u) = none → unfit = false → Completes (.txRequest w u b) s fun t =>
          Takes none t ∧ (canBad s u (ramAt s u 3 n + 1) = false → t.raiseQ = s.raiseQ ++ [⟨61, false, false, BitVec.ofNat 32 (112 + u)⟩])) ∧
        (st ≠ 4 → tkt = none →
          (unfit = true → Completes (.txRequest w u b) s fun t => CanAcked s t u 1 true none ∧ Kept t) ∧
          (unfit = false → Completes (.txRequest w u b) s fun t => Takes none t ∧ RegsBut [CAN_TXACK u, CAN_TXACKSEQ u] s t ∧
            t.raiseQ = s.raiseQ ++ if canBad s u (ramAt s u 3 n + 1) = true then [⟨84 + 4 * u + 3, false, false, 0⟩] else [])) ∧
        (isPend s u n = false → exec (.txCancel w u b) s = .next (s.put (CAN_TXACK_cres u) 3)) ∧
        (isPend s u n = true → cc.cur.map (·.1) = some n → exec (.txCancel w u b) s = .next (s.put (CAN_TXACK_cres u) 2)) ∧
        (isPend s u n = true → cc.cur.map (·.1) ≠ some n → Completes (.txCancel w u b) s fun t => t.get (CAN_TXACK_cres u) = 1 ∧ Ended s t u n 2 ∧
          t.wm = s.wm ∧ RegsBut [CAN_TXACK u] s t))) ∧
    (∀ sof : Word,
      (¬ live ∨ canLinked s u = false ∨ canMode s u ≠ 0 ∨ cc.cur ≠ none ∨ (∀ r ∈ cc.pend, eligible s u r = false) → exec (.canTxStart u sof) s = .next s) ∧
      (live → canLinked s u = true → canMode s u = 0 → cc.cur = none → (∃ r ∈ cc.pend, eligible s u r = true) → ∃ r ∈ cc.pend, eligible s u r = true ∧
        (∀ q ∈ cc.pend, eligible s u q = true → (q.slot = true → r.slot = true) ∧ (q.slot = r.slot →
          arbKey (bufFrame s u r) ≤ arbKey (bufFrame s u q) ∧ (arbKey (bufFrame s u r) = arbKey (bufFrame s u q) → r.buf ≤ q.buf))) ∧
        (sendable s u r = true → Completes (.canTxStart u sof) s fun t => (t.canc u).cur = some (r.buf, sof) ∧ t.regs = s.regs ∧
          t.can.msg = s.can.msg ∧ t.wm = s.wm ∧ (t.canc u).pend.map (·.buf) = cc.pend.map (·.buf)) ∧
        (sendable s u r = false → Completes (.canTxStart u sof) s fun t => (t.canc u).cur = none ∧ Ended s t u r.buf 6 ∧ t.wm = s.wm))) ∧
    (perRuns s = false → ∀ (lec : Fin 7) (eof : Fin 8) (e dphase own dataField exempt flag : Bool),
      (cc.cur ≠ none → exec (.canTxValid u eof e) s = .next s) ∧ exec (.arbitrationLost u) s = .next s ∧
      exec (.canError u lec dphase own dataField exempt flag) s = .next (tailOver s u)) ∧
    (∀ (r : CanReq) (sof : Word), canLinked s u = true → curReq s u = some r → cc.cur = some (r.buf, sof) → r.buf < 64 →
      Completes (.canTxValid u 6 false) s fun t => (t.canc u).cur = none ∧ isPend t u r.buf = false ∧ t.get (CAN_STATUS_tec u) = min 256 (tecOf s u - 1) ∧
        bitOf (t.rd (CAN_TXDONE u (r.buf / 32))) (r.buf % 32) = true ∧
        (s.bit (CAN_CTRL_loop u) = false → Ended s t u r.buf 1 ∧ (ramAt s u 3 r.buf + 2 < 8192 → t.canWord u (ramAt s u 3 r.buf + 2) = sof)) ∧
        (r.tkt = none → t.wm = s.wm) ∧
        (∀ tr q m, r.tkt = some (tr, q) → s.wm.marks.find (112 + u) = some (tr, m) → seqLater q m = true → t.wm.marks.find (112 + u) = some (tr, q)) ∧
        (s.rd (CAN_DUP_ID u) = dupKey (bufFrame s u r) → t.get (CAN_DUP_CNT_count u) = 0)) ∧
    (cc.cur = none →
      (∀ (eof : Fin 8) (error : Bool),
        (error = true ∨ 6 < eof.val ∨ canHears s u = false → exec (.canTxValid u eof error) s = .next (tailOver s u)) ∧
        (error = false → eof.val < 6 → canHears s u = true → exec (.canTxValid u eof error) s = .next s)) ∧
      (canHears s u = true → s.can.tail.find u = none → exec (.canTxValid u 6 false) s = .next (tailOver s u)) ∧
      (∀ tr q m, canHears s u = true → s.can.tail.find u = some (tr, q) → s.wm.marks.find (112 + u) = some (tr, m) → seqLater q m = true →
        Completes (.canTxValid u 6 false) s fun t => t.wm.marks.find (112 + u) = some (tr, q) ∧ t.regs = s.regs ∧
          t.can = { s.can with tail := s.can.tail.erase u })) ∧
    (∀ (eof : Fin 8) (error : Bool), cc.cur ≠ none → eof ≠ 6 ∨ error = true → exec (.canTxValid u eof error) s = .next s) ∧
    (∀ (lec : Fin 7) (dphase own dataField exempt flag : Bool),
      let err := Instr.canError u lec dphase own dataField exempt flag
      let mine : Bool := own && (curReq s u).isSome
      let tec' := tecOf s u + if mine then (if exempt then 0 else 8) else 0
      let rec' := recOf s u + if mine then 0 else if flag then 8 else 1
      (¬ live → exec err s = .next (tailOver s u)) ∧
      (live → perRuns s = true → Completes err s fun t => t.get (CAN_STATUS_lec u) = lec ∧ t.bit (CAN_STATUS_dphase u) = dphase ∧ t.wm = s.wm ∧
        t.get (CAN_STATUS_tec u) = min 256 tec' ∧ t.get (CAN_STATUS_rec u) = min 255 rec' ∧
        (cc.after = none → 255 < tec' → canState t u = 4) ∧
        (cc.after = none → mine = false → tec' ≤ 255 → canState t u = if 127 < tec' ∨ 127 < rec' then 3 else 2) ∧
        (mine = false → t.get (CAN_ERRCNT_rxerr u) = min 65535 (s.get (CAN_ERRCNT_rxerr u) + 1))) ∧
      (∀ r, live → perRuns s = true → own = true → curReq s u = some r → Completes err s fun t => (t.canc u).cur = none ∧
        t.get (CAN_ERRCNT_txerr u) = min 65535 (s.get (CAN_ERRCNT_txerr u) + 1) ∧
        (r.slot = true → isPend t u r.buf = false ∧ t.get (CAN_TT_STATUS_missed u) = min 65535 (s.get (CAN_TT_STATUS_missed u) + 1)) ∧
        (r.slot = false → dataField = false → tec' ≤ 255 → cc.after = none → (t.canc u).pend = cc.pend) ∧
        (dataField = true → lec.val = 4 ∨ lec.val = 5 →
          let count := if s.rd (CAN_DUP_ID u) = dupKey (bufFrame s u r) then s.get (CAN_DUP_CNT_count u) + 1 else 1
          t.rd (CAN_DUP_ID u) = dupKey (bufFrame s u r) ∧
          (count < max 1 (s.get (CAN_DUP_CFG_thr u)) → t.get (CAN_DUP_CNT_count u) = count) ∧
          (max 1 (s.get (CAN_DUP_CFG_thr u)) ≤ count → t.get (CAN_DUP_CNT_count u) = 0 ∧
            ⟨84 + 4 * u + 1, false, false, 0⟩ ∈ t.raiseQ ∧
            (s.get (CAN_DUP_CFG_act u) ≠ 0 → isPend t u r.buf = false) ∧
            (1 < s.get (CAN_DUP_CFG_act u) → cc.after = none → canState t u = 4))))) ∧
    (curReq s u = none → exec (.arbitrationLost u) s = .next s) ∧
    (∀ r, perRuns s = true → curReq s u = some r → cc.after = none → Completes (.arbitrationLost u) s fun t => (t.canc u).cur = none ∧ t.wm = s.wm ∧
      (r.slot = false → (t.canc u).pend = cc.pend ∧ t.regs = s.regs) ∧
      (r.slot = true → Ended s t u r.buf 3 ∧ t.get (CAN_TT_STATUS_missed u) = min 65535 (s.get (CAN_TT_STATUS_missed u) + 1))) ∧
    (u.val < 8 → exec (.txdDominantTimeout u) s = .next ((s.putB (CAN_STATUS_s_txto u) true).raise (86 + 4 * u))) ∧
    (8 ≤ u.val → exec (.txdDominantTimeout u) s = .next s)

/-- Reception and slots (R325, R330 to R333, R342 to R345). A valid frame enters the platform or the object that its first matching filter names; a full platform
and a store with no free object drop and count it; the receive error counter falls by one, or from above 127 to a value of 119 to 127. Software's
acknowledgement frees the oldest entries, and that of an object only with its count. A release ends the window, synchronises at column 0, and makes
its buffer pending for one attempt; outside the matrix, with a buffer that no slot owns, late, or not synchronised it is missed; a buffer whose word 1 is uncorrectable ends with result 6; in Siding its outcome is 3. It rests in part on the model's choices of log entry 37. -/
def Obligations.CanReceptionAndSlots : Prop :=
  ∀ (s : State) (u : Fin 12),
    let st := canState s u
    let live : Prop := st = 2 ∨ st = 3
    let Missed (t : State) : Prop := t.get (CAN_TT_STATUS_missed u) = min 65535 (s.get (CAN_TT_STATUS_missed u) + 1)
    (∀ (f : CanFrame) (sof : Word),
      let rx := Instr.canFrameReceive u f sof 6 false
      let tec := tecOf s u
      let hears : Prop := live ∧ canLinked s u = true ∧ (f.fdf = true → s.bit (CAN_CTRL_fd u) = true)
      let dst := frameTarget s u f
      let Entered (t : State) (x k len : Nat) : Prop := t.canWord u (ramAt s u x k) = word0 f ∧ t.canWord u (ramAt s u x k + 2) = sof ∧
        ∀ i < len, byteOf (t.canWord u (ramAt s u x k + 3 + i / 4)) (i % 4) = f.data.getD i 0
      (¬ hears → exec rx s = .next (tailOver s u)) ∧
      (∀ (eof : Fin 8) (error : Bool), eof ≠ 6 ∨ error = true → exec (.canFrameReceive u f sof eof error) s = .next (tailOver s u)) ∧
      (hears → tec ≤ 255 → Completes rx s fun t => t.wm = s.wm ∧ t.get (CAN_STATUS_tec u) = tec ∧
        (recOf s u ≤ 127 → t.get (CAN_STATUS_rec u) = recOf s u - 1) ∧
        (127 < recOf s u → 119 ≤ t.get (CAN_STATUS_rec u) ∧ t.get (CAN_STATUS_rec u) ≤ 127) ∧
        canState t u = (if 127 < tec then 3 else 2) ∧ (dst.1 = 0 → t.can.msg = s.can.msg)) ∧
      (∀ x : Fin 2, hears → tec ≤ 255 → dst.1 = x + 1 →
        let n := ramCount s u x
        let fill := s.get (CAN_PL_STATUS_fill u x)
        let k := (s.get (CAN_PL_STATUS_get u x) + fill) % n
        (fill < n → ramAt s u x k + ramLen s u x ≤ 8192 → Completes rx s fun t => t.get (CAN_PL_STATUS_fill u x) = fill + 1 ∧ Entered t x k (dataLen f (ramD s u x)) ∧
          t.canWord u (ramAt s u x k + 1) = BitVec.ofNat 32 (word1 f (ramD s u x) dst.2.1 dst.2.2) ∧ t.get (CAN_PL_STATUS_drop u x) = s.get (CAN_PL_STATUS_drop u x)) ∧
        (n ≤ fill → Completes rx s fun t => t.get (CAN_PL_STATUS_drop u x) = min 255 (s.get (CAN_PL_STATUS_drop u x) + 1) ∧
          t.can.msg = s.can.msg ∧ t.get (CAN_PL_STATUS_fill u x) = fill)) ∧
      (∀ i k, hears → tec ≤ 255 → dst.1 = 3 → (s.canc u).objs.find? (fun e => e.2 == b2n f.xtd * 2 ^ 29 + f.id.toNat && decide (e.1 < ramCount s u 2)) = some (i, k) →
        (s.canc u).objs.find i ≠ none → ramAt s u 2 i + ramLen s u 2 ≤ 8192 → Completes rx s fun t =>
          let old := s.canWord u (ramAt s u 2 i + 1)
          let new := t.canWord u (ramAt s u 2 i + 1)
          Entered t 2 i (dataLen f (ramD s u 2)) ∧ bitOf new 15 = true ∧ bitOf new 16 = false ∧ bitOf new 7 = bitOf old 15 ∧
            getBits new 31 24 = (getBits old 31 24 + 1) % 256 ∧ (t.canc u).objs = (s.canc u).objs) ∧
      (hears → tec ≤ 255 → dst.1 = 3 → (s.canc u).objs.find? (fun e => e.2 == b2n f.xtd * 2 ^ 29 + f.id.toNat && decide (e.1 < ramCount s u 2)) = none →
        (∀ i < ramCount s u 2, (s.canc u).objs.find i ≠ none) → Completes rx s fun t =>
          t.get (CAN_OBJ_STATUS_drop u) = min 65535 (s.get (CAN_OBJ_STATUS_drop u) + 1) ∧ t.can.msg = s.can.msg)) ∧
    (ctlReached s = true → ∀ (w : CtxId) (x : Fin 2) (n : BitVec 9),
      let fill := s.get (CAN_PL_STATUS_fill u x)
      (canGrant s w u = false → exec (.platformAck w u x n) s = .next (s.violate w 3 (BitVec.ofNat 32 (CAN_PL_ACK u x).addr))) ∧
      (canGrant s w u = true → gatedOff s (CAN_PL_ACK u x).addr = false → Completes (.platformAck w u x n) s fun t =>
        t.get (CAN_PL_STATUS_fill u x) = fill - min n.toNat fill ∧ t.can.msg = s.can.msg ∧ RegsBut [CAN_PL_STATUS u x] s t ∧
          (ramCount s u x ≠ 0 → t.get (CAN_PL_STATUS_get u x) = (s.get (CAN_PL_STATUS_get u x) + min n.toNat fill) % ramCount s u x))) ∧
    (ctlReached s = true → ∀ (w : CtxId) (i cnt : Byte) (free : Bool),
      let at_ := ramAt s u 2 i.toNat + 1
      let old := s.canWord u at_
      (canGrant s w u = false → exec (.objectAck w u i cnt free) s = .next (s.violate w 3 (BitVec.ofNat 32 (CAN_OBJ_ACK u).addr))) ∧
      (canGrant s w u = true → gatedOff s (CAN_OBJ_ACK u).addr = false →
        (ramCount s u 2 ≤ i.toNat → exec (.objectAck w u i cnt free) s = .next s) ∧
        (i.toNat < ramCount s u 2 → getBits old 31 24 ≠ cnt.toNat → exec (.objectAck w u i cnt free) s =
          .next (if canBad s u at_ = true then s.raise (87 + 4 * u) else s)) ∧
        (i.toNat < ramCount s u 2 → at_ < 8192 → getBits old 31 24 = cnt.toNat → Completes (.objectAck w u i cnt free) s fun t =>
          t.canWord u at_ = setBits (setBits old 15 15 0) 7 7 0 ∧ (∀ a, a ≠ at_ → t.canWord u a = s.canWord u a) ∧
            (free = true → (t.canc u).objs.find i.toNat = none) ∧ (free = false → (t.canc u).objs = (s.canc u).objs ∧ t.regs = s.regs)))) ∧
    (∀ (row : Fin 32) (col : Fin 64) (tkt : Option (Fin 512 × Word)) (late : Bool),
      let rel := Instr.slotRelease u row col tkt late
      let q := tkt.map fun t => (t.1.val, t.2)
      let here := s.bit (CAN_TT_STATUS_synced u) = true ∨ col = 0
      let swap : Bool := decide (row = 0 ∧ col = 0) && s.bit (CAN_TT_STATUS_pendsw u)
      let s' := if swap then s.put (CAN_TT_STATUS_active u) (1 - s.get (CAN_TT_STATUS_active u)) else s
      let cell := (cellAt s' u row col).1
      let bad := canBad s u (ramAt s u 3 (cell % 64) + 1)
      let inside : Prop := row.val ≤ s.get (CAN_TT_CFG_rows u) ∧ col.val ≤ s.get (CAN_TT_CFG_cols u) ∧ canBad s u (cellAt s' u row col).2 = false
      (st = 4 → Completes rel s fun t => t.get (CAN_TXACK_outcome u) = 3 ∧ t.can = s.can ∧ t.wm = s.wm ∧ RegsBut [CAN_TXACK u, CAN_TXACKSEQ u] s t) ∧
      (st ≠ 4 → q = none →
        (st = 0 ∨ ttMode s u = 0 ∨ ¬ here → Completes rel s fun t => Missed t ∧ t.get (CAN_TXACK_outcome u) = 1 ∧ (t.canc u).window = false ∧
          (t.canc u).pend = (s.canc u).pend ∧ t.can.msg = s.can.msg) ∧
        (st ≠ 0 → ttMode s u ≠ 0 → here → Completes rel s fun t => t.bit (CAN_TT_STATUS_synced u) = true ∧ t.get (CAN_TT_STATUS_row u) = row ∧
          t.get (CAN_TT_STATUS_col u) = col ∧ t.get (CAN_TXACK_outcome u) = 1 ∧ t.wm = s.wm ∧
          t.get (CAN_TT_STATUS_active u) = (if swap then 1 - s.get (CAN_TT_STATUS_active u) else s.get (CAN_TT_STATUS_active u)) ∧
          (¬ inside → Missed t ∧ (t.canc u).pend = (s.canc u).pend ∧ (t.canc u).window = false) ∧
          (inside → cell / 16384 = 0 → (t.canc u).pend = (s.canc u).pend ∧ (t.canc u).window = false) ∧
          (inside → cell / 16384 = 3 → (t.canc u).pend = (s.canc u).pend ∧ (t.canc u).window = ! late ∧ (late = true → Missed t)) ∧
          (inside → cell / 16384 = 1 ∨ cell / 16384 = 2 → cell % 64 < ramCount s u 3 → isPend s u (cell % 64) = false →
            (bitOf (s.canWord u (ramAt s u 3 (cell % 64) + 1)) 6 = true → late = false →
              (t.canc u).pend = (s.canc u).pend ++ [⟨cell % 64, none, true, if cell / 16384 = 2 then some row.val else none, 0⟩]) ∧
            (bad = true → Ended s t u (cell % 64) 6) ∧
            (bad = false → bitOf (s.canWord u (ramAt s u 3 (cell % 64) + 1)) 6 = false ∨ late = true → Missed t ∧ Ended s t u (cell % 64) 3))))) ∧
    (∀ b : Fin 64,
      ((∀ r ∈ (s.canc u).pend, r.buf = b.val → r.slot = false) → exec (.slotWindowExpire u b) s = .next s) ∧
      ((∃ r ∈ (s.canc u).pend, r.buf = b.val ∧ r.slot = true) → (s.canc u).cur.map (·.1) ≠ some b.val → Completes (.slotWindowExpire u b) s fun t =>
        Missed t ∧ Ended s t u b 3 ∧ t.wm = s.wm) ∧
      ((s.canc u).cur.map (·.1) = some b.val → exec (.slotWindowExpire u b) s = .next s))

/-! ## Network management (13_network_management.md) -/

/-- Network management (R354 to R358, R360, R361, R363, R364, R368). en takes a bus to Asleep, or, where it has an effective need, to Awake; clearing en leaves its
hardware as it stands. A vote and a pin wake an Asleep bus that then has a need, and pin 3 puts an Awake bus to sleep at once. A keep-alive leaves on an
Awake bus with a need; a 10BASE-T1S segment has it to send while it runs. At expiry a bus with a need stays Awake and counts lonely, a CAN bus in Siding waits again, and any other sleeps, counting falsewake
where no keep-alive was seen, a LIN commander after its go-to-sleep command. Activity that passes the filter of its bus wakes it in Run and asks for a
device wake from the commit to Park on; other activity, or any without wake, is rejected. Between the commit and the return no need wakes a bus (R366). A LIN
channel or a segment in siding stays there until its REJOIN. It rests in part on the model's choices of log entries 41 and 70. -/
def Obligations.NetworkManagement : Prop :=
  ∀ s : State,
    let on : Prop := s.pwr.phase = .run ∨ s.pwr.phase = .doze
    (∀ b : Fin 22,
      let st := busState s b
      let need := busNeed s b
      let Bus (t : State) (st' : Nat) : Prop := busState t b = st' ∧ bitOf (t.rd NMG_AWAKE) b = decide (st' = 2) ∧ t.wm = s.wm ∧ t.ldg = s.ldg ∧
        t.cpu = s.cpu ∧ t.psw = s.psw
      let Restarted (t : State) : Prop := SMap.get 0 t.net.nmg.timer b =
        max (if 12 ≤ b.val ∧ b.val < 20 ∧ s.bit (LIN_CTRL_cmdr (b - 12)) = false then 4000 else 0) (10 * max 1 (s.get (NMG_BUS_TIME_sleep b)))
      let Slept (t : State) : Prop := Bus t 1 ∧ (b.val < 12 → (s.canc b).cur = none → canState t b = 0 ∧ (canState s b ≠ 0 → (t.canc b).pend = [])) ∧
        (b.val < 12 → canState s b ≠ 0 → (s.canc b).cur ≠ none → (t.canc b).after = some ((s.canc b).after.getD .quiet) ∧
          canState t b = canState s b) ∧
        (∀ u : Fin 8, b.val = 12 + u → linState t u = (if linState s u = 0 ∨ linState s u = 3 then linState s u else 2)) ∧
        (∀ n : Fin 2, b.val = 20 + n → (t1sState s n = 0 ∨ t1sState s n = 3 → t.net.t1s = s.net.t1s ∧ t1sState t n = t1sState s n) ∧
          (t1sState s n ≠ 0 → t1sState s n ≠ 3 → t1sState t n = 2 ∧ t1sPend t n = []))
      (ctlReached s = true → ∀ (w : CtxId) (p : Fin 4), w ≠ 0 → ∀ c ∈ [Instr.busManageEnable w b, .busManageDisable w b, .busPinWrite w b p],
        exec c s = .next (s.violate w 3 (BitVec.ofNat 32 (NMG_BUS_CFG b).addr))) ∧
      (ctlReached s = true → st ≠ 0 → exec (.busManageEnable 0 b) s = .next (s.putB (NMG_BUS_CFG_en b) true)) ∧
      (ctlReached s = true → st = 0 → Completes (.busManageEnable 0 b) s fun t => t.bit (NMG_BUS_CFG_en b) = true ∧
        (need = false ∨ ¬ on → Slept t) ∧ (on → need = true → Bus t 2 ∧ Restarted t)) ∧
      (ctlReached s = true → Completes (.busManageDisable 0 b) s fun t => t.bit (NMG_BUS_CFG_en b) = false ∧ Bus t 0 ∧ t.can = s.can ∧ t.net = s.net ∧
        RegsBut [NMG_BUS_CFG b, NMG_BUS_STATE b, NMG_AWAKE] s t) ∧
      (ctlReached s = true → ∀ (w : CtxId) (on : Bool),
        let granted := s.blockOk w 19 && s.capBit w 7 b
        let voted := s.wr (NMG_BUS_NEED b) (setBits (s.rd (NMG_BUS_NEED b)) (s.tenant w) (s.tenant w) (b2n on))
        (granted = false → exec (.busVote w b on) s = .next (s.violate w 3 (BitVec.ofNat 32 (NMG_BUS_NEED b).addr))) ∧
        (granted = true → st ≠ 1 ∨ busNeed voted b = false ∨ ¬ on → exec (.busVote w b on) s = .next voted) ∧
        (granted = true → st = 1 → busNeed voted b = true → on → Completes (.busVote w b on) s fun t =>
          Bus t 2 ∧ Restarted t ∧ t.bit (NMG_BUS_STATE_seen b) = false ∧ t.rd (NMG_BUS_NEED b) = voted.rd (NMG_BUS_NEED b))) ∧
      (ctlReached s = true → ∀ p : Fin 4, Completes (.busPinWrite 0 b p) s fun t => t.get (NMG_BUS_CFG_pin b) = p ∧ t.rd (NMG_BUS_NEED b) = s.rd (NMG_BUS_NEED b) ∧
        (st = 2 → p = 3 → Slept t) ∧ (st = 2 → p ≠ 3 → busState t b = 2) ∧ (st = 1 → p = 1 → on → Bus t 2 ∧ Restarted t) ∧
        (st = 1 → 2 ≤ p.val ∨ ¬ on → busState t b = 1 ∧ t.can = s.can) ∧ (st = 0 → busState t b = 0 ∧ t.can = s.can)) ∧
      (st ≠ 2 ∨ need = false → exec (.keepaliveSend b) s = .next s) ∧
      (st = 2 → need = true →
        (b.val < 12 → isPend s b (s.get (NMG_BUS_KATX_buf b)) = true → exec (.keepaliveSend b) s = .next s) ∧
        (b.val < 12 → isPend s b (s.get (NMG_BUS_KATX_buf b)) = false → Completes (.keepaliveSend b) s fun t =>
          t.bit (CAN_TXACK_ticketed b) = false ∧ t.get (CAN_TXACK_count b) = (s.get (CAN_TXACK_count b) + 1) % 65536 ∧
            t.get (CAN_TXACK_outcome b) = (if canState s b = 4 then 3 else 1) ∧ t.wm = s.wm) ∧
        (12 ≤ b.val → b.val < 20 → exec (.keepaliveSend b) s = .next s) ∧
        (20 ≤ b.val → exec (.keepaliveSend b) s =
          .next (if t1sState s (b - 20) = 1 then s.modT1s (b - 20) (fun g => { g with ka := true }) else s))) ∧
      (st ≠ 2 → exec (.busSleepTimer b) s = .next s) ∧
      (st = 2 → need = true → Completes (.busSleepTimer b) s fun t => Restarted t ∧ RegsBut [NMG_BUS_STATE b] s t ∧
        busState t b = 2 ∧ t.get (NMG_BUS_STATE_lonely b) = min 15 (s.get (NMG_BUS_STATE_lonely b) + 1)) ∧
      (st = 2 → need = false → b.val < 12 → canState s b = 4 → Completes (.busSleepTimer b) s fun t => Restarted t ∧ t.regs = s.regs) ∧
      (st = 2 → need = false → 12 ≤ b.val ∨ canState s b ≠ 4 → Completes (.busSleepTimer b) s fun t => Slept t ∧
        (∀ u : Fin 8, b.val = 12 + u → (t.linc u).sent = (s.linc u).sent ++
          if s.bit (LIN_CTRL_cmdr u) = true ∧ linState s u = 1 then [(0x3C, [0, 0xFF, 0xFF, 0xFF, 0xFF, 0xFF, 0xFF, 0xFF], 0)] else []) ∧
        t.get (NMG_BUS_STATE_falsewake b) =
          (if s.bit (NMG_BUS_STATE_seen b) then s.get (NMG_BUS_STATE_falsewake b) else min 15 (s.get (NMG_BUS_STATE_falsewake b) + 1))) ∧
      (let Rejects (t : State) : Prop := t.get (NMG_BUS_STATE_rejects b) = min 15 (s.get (NMG_BUS_STATE_rejects b) + 1) ∧ busState t b = st ∧
         RegsBut [NMG_BUS_STATE b] s t ∧ t.can = s.can ∧ t.pwr = s.pwr
       let wake := s.bit (NMG_BUS_CFG_wake b)
       let filt := s.get (NMG_BUS_CFG_filt b)
       let tf := if b.val < 12 then 250 * max 2 filt else if b.val < 20 then 10000 * max 5 filt else 1000 * max 1 filt
       ∀ d1 d2 d3 : Nat,
         let passes : Prop := tf ≤ d1 ∧ (b.val < 8 → tf ≤ d2 ∧ tf ≤ d3 ∧ d1 + d2 + tf ≤ 1000000) ∧ (12 ≤ b.val → b.val < 20 → 0 < d2)
         let act := Instr.remoteWake b ⟨d1, d2, d3⟩
         (st ≠ 1 → exec act s = .next s) ∧
         (st = 1 → ¬ passes → Completes act s Rejects) ∧
         (st = 1 → passes → on →
           (wake = false → Completes act s Rejects) ∧
           (wake = true → s.get (NMG_BUS_CFG_pin b) ≠ 3 → Completes act s fun t => Bus t 2 ∧ Restarted t ∧
             t.get (NMG_BUS_STATE_wakes b) = min 15 (s.get (NMG_BUS_STATE_wakes b) + 1)) ∧
           (wake = true → s.get (NMG_BUS_CFG_pin b) = 3 → Completes act s fun t => t.regs = s.regs ∧ t.can = s.can)) ∧
         (st = 1 → passes → s.pwr.phase = .parking ∨ s.pwr.phase = .park →
           (wake = false → Completes act s Rejects) ∧
           (wake = true → Completes act s fun t => b.val ∈ t.net.nmg.parkWake ∧ busState t b = 1 ∧ t.pwr.wake = true ∧
             bitOf (t.rd PWR_WAKEMASK) 4 = true)))) ∧
    (∀ u : Fin 8,
      let st := busState s (12 + u)
      let cmdr := s.bit (LIN_CTRL_cmdr u)
      let need := busNeed s (12 + u)
      (st ≠ 2 ∨ cmdr = true → exec (.linGotosleepReceive u) s = .next s) ∧
      (st = 2 → cmdr = false → Completes (.linGotosleepReceive u) s fun t => busState t (12 + u) = 1 ∧ linState t u = (if linState s u = 0 ∨ linState s u = 3 then linState s u else 2) ∧
        (need = true → (t.linc u).wakeup = true)) ∧
      (¬ on ∨ linState s u = 3 ∨ (s.linc u).wakeup = false ∨ cmdr = true ∨ st ≠ 1 ∨ need = false → exec (.linWakeupSignal u) s = .next s) ∧
      (on → linState s u ≠ 3 → (s.linc u).wakeup = true → cmdr = false → st = 1 → need = true → Completes (.linWakeupSignal u) s fun t =>
        busState t (12 + u) = 2 ∧ (linState s u = 2 → linState t u = 1) ∧ (t.linc u).wakeup = true) ∧
      (st ≠ 2 ∨ cmdr = false ∨ need = true → exec (.linWakeupReceive u) s = .next s) ∧
      (st = 2 → cmdr = true → need = false → Completes (.linWakeupReceive u) s fun t => t.regs = s.regs ∧
        SMap.get 0 t.net.nmg.timer (12 + u) = 10 * max 1 (s.get (NMG_BUS_TIME_sleep (12 + u)))))

/-! ## Backbone Ethernet, 10BASE-T1S, LIN and local links (14_network_links.md) -/

/-- Backbone ports and 10BASE-T1S segments (R370 to R374, R376 to R379). A frame on an Up port, one with an uncorrectable word of its buffer being lost with source 132 (R392), is judged by the rows of R372 in order: counted as dropped, answered, or
handed on. A port trains, comes Up on the crystal's reference alone (R438), falls into Siding and is Disabled by its table, the last two discarding its queued frames, whose answers are
counted. A segment enters a frame for it into its ring, or counts it as dropped;
its pending buffers end in order with their results, after a keep-alive that is to be sent, and what it sends has its own address, padding and FCS; a
follower that waits for a BEACON sends nothing, and nothing goes on without the bus clocks (R432, R454); SIDING, jabber and REJOIN move it, the last not while the references come from FIRC (R438). It rests in part on the model's choices of log entries 38, 68 to 70 and 73. -/
def Obligations.EthernetAndSegments : Prop :=
  ∀ (s : State) (n : Fin 2),
    (∀ f : EthFrame,
      let rx := Instr.ethFrameReceive n f
      let up := ethState s n = 2
      let dropped := exec rx s = .next (s.count (ETH_P_COUNT_drop n))
      let own := f.dst = macOf n ∨ f.dst = 0xFFFFFFFFFFFF ∨ f.dst = 0x0180C200000E ∨ f.dst.toNat = 0x3333FF000000 + (s.rd (ETH_IP6 0)).toNat % 2 ^ 24
      let tagged : Prop := match f.vid with
        | some v => v.toNat = s.get (ETH_P_CTRL_vid n) ∧ v.toNat ≠ 0
        | none => s.bit (ETH_P_CTRL_untag n) = true
      let Answers (ip : Option (IpAddr × IpAddr × Nat)) (m : EthMsg) : Prop := exec rx s = .next { s with net := { s.net with ethQ := s.net.ethQ ++ [⟨n, f.src, macOf n, f.vid.map (·, s.get (ETH_P_CTRL_pcp n)), ip, none, m⟩] } }
      (¬ up → exec rx s = .next s) ∧
      (up → f.bad = true → exec rx s = .next (s.raise 132)) ∧
      (up → f.bad = false → f.fcsOk = false → exec rx s = .next (s.count (ETH_P_COUNT_fcs n))) ∧
      (up → f.bad = false → f.fcsOk = true → 1522 < f.len ∨ ¬ own ∨ ¬ tagged → dropped) ∧
      (up → f.bad = false → f.fcsOk = true → f.len ≤ 1522 → own → tagged →
        (f.kind = .ptp → exec rx s = .next s) ∧
        (f.kind = .other → dropped) ∧
        (∀ a x, f.kind = .arp a x → (s.bit ETH_CFG_ip4 = true ∧ a = s.rd ETH_IP4 → Answers none .arp) ∧
          (¬ (s.bit ETH_CFG_ip4 = true ∧ a = s.rd ETH_IP4) → dropped)) ∧
        (∀ a x, f.kind = .ns a x → (s.bit ETH_CFG_ip6 = true ∧ a = ethIp6 s → Answers (some (.v6 (ethIp6 s), .v6 x, 64)) .na) ∧
          (¬ (s.bit ETH_CFG_ip6 = true ∧ a = ethIp6 s) → dropped)) ∧
        (∀ a p ok, f.kind = .udp4 a p ok →
          let served := ok = true ∧ s.bit ETH_CFG_ip4 = true ∧ a = s.rd ETH_IP4 ∧ p = s.get LDG_CTRL_port
          (served → exec rx s = .next s) ∧ (¬ served → dropped)) ∧
        (∀ a p ok, f.kind = .udp6 a p ok →
          let served := ok = true ∧ s.bit ETH_CFG_ip6 = true ∧ a = ethIp6 s ∧ p = s.get LDG_CTRL_port
          (served → exec rx s = .next s) ∧ (¬ served → dropped)))) ∧
    (let st := ethState s n
     let Discarded (t : State) : Prop := t.net.ethQ = s.net.ethQ.filter (fun f => f.port ≠ n.val) ∧ t.net.ethSent = s.net.ethSent ∧
       t.get (ETH_P_COUNT_drop n) = min 65535 (s.get (ETH_P_COUNT_drop n) + (s.net.ethQ.filter fun f => decide (f.port = n.val ∧ f.msg ≠ .ptp ∧ f.msg.waits = false)).length)
     (st = 1 ∨ st = 3 → s.bit CLK_STATUS_xsel = true → exec (.ethLinkUp n) s = .next (s.put (ETH_P_STATUS_state n) 2)) ∧
     (st = 0 ∨ st = 2 ∨ s.bit CLK_STATUS_xsel = false → exec (.ethLinkUp n) s = .next s) ∧
     (st = 2 → Completes (.ethLinkFail n) s fun t => ethState t n = 3 ∧ t.get (ETH_P_STATUS_downs n) = min 65535 (s.get (ETH_P_STATUS_downs n) + 1) ∧
       t.raiseQ = s.raiseQ ++ [⟨133 + n, false, false, 0⟩] ∧ Discarded t ∧ RegsBut [ETH_P_STATUS n, ETH_P_COUNT n] s t) ∧
     (st ≠ 2 → exec (.ethLinkFail n) s = .next s) ∧
     (ctlReached s = true → ∀ w : CtxId, w ≠ 0 → exec (.ethPortEnable w n) s = .next (s.violate w 3 (BitVec.ofNat 32 (ETH_P_CTRL n).addr)) ∧
       exec (.ethPortDisable w n) s = .next (s.violate w 3 (BitVec.ofNat 32 (ETH_P_CTRL n).addr))) ∧
     (ctlReached s = true → gatedOff s (ETH_P_CTRL n).addr = false →
       Completes (.ethPortEnable 0 n) s (fun t => t.bit (ETH_P_CTRL_en n) = true ∧ ethState t n = (if s.bit (ETH_P_CTRL_en n) then st else 1) ∧
         OnlyRegs [ETH_P_CTRL n, ETH_P_STATUS n] s t) ∧
       Completes (.ethPortDisable 0 n) s (fun t => t.bit (ETH_P_CTRL_en n) = false ∧ ethState t n = 0 ∧ Discarded t ∧
         RegsBut [ETH_P_CTRL n, ETH_P_STATUS n, ETH_P_COUNT n] s t))) ∧
    (let st := t1sState s n
     let fill := s.get (T1S_S_STATUS_fill n)
     let pend := t1sPend s n
     let result (t : State) (b : Nat) : Nat := getBits (t1sWord t (t1sBuf n b)) 19 16
     (∀ (ok : Bool) (data : List Byte) (sfd : Word),
       let byte (i : Nat) : Nat := (data.getD i 0).toNat
       let dst := (List.range 6).foldl (fun a i => a * 256 + byte i) 0
       let keep := byte 12 * 256 + byte 13 = s.get (NMG_BUS_KAID_id (20 + n)) % 65536 ∧ busState s (20 + n) ≠ 0
       let o := 0x1000 + 0x6000 * n.val + 0x600 * ((s.get (T1S_S_STATUS_get n) + fill) % 16)
       let early : Prop := ∃ q, (s.t1seg n).since = some q ∧ seqEarlier sfd q = true
       let forUs : Prop := dst = (macOf (2 + n)).toNat ∨ dst = 2 ^ 48 - 1 ∨ dst = 0x01005E7FFFFA
       let taken : Prop := st = 1 ∧ perRuns s = true ∧ ok = true ∧ 14 ≤ data.length ∧ data.length ≤ 1518 ∧ ¬ early
       let Kept (t : State) : Prop := t.net.t1s.mem = s.net.t1s.mem ∧ t1sPend t n = pend ∧ t.get (T1S_S_STATUS_fill n) = fill ∧ t.wm = s.wm
       let rx := Instr.t1sFrameReceive n ok data sfd
       (¬ taken → exec rx s = .next s) ∧
       (taken → forUs → ¬ keep →
         (fill < 16 → Completes rx s fun t => t.get (T1S_S_STATUS_fill n) = fill + 1 ∧
           t1sWord t o = BitVec.ofNat 32 data.length ∧ t1sWord t (o + 4) = sfd ∧ t1sPend t n = pend ∧
           ∀ i, i < data.length → byteOf (t1sWord t (o + 8 + 4 * (i / 4))) (i % 4) = data.getD i 0) ∧
         (16 ≤ fill → Completes rx s fun t => t.get (T1S_S_STATUS_drop n) = min 255 (s.get (T1S_S_STATUS_drop n) + 1) ∧ Kept t)) ∧
       (taken → ¬ forUs ∨ keep → Completes rx s fun t => Kept t ∧ RegsBut [NMG_BUS_STATE (20 + n)] s t)) ∧
     (ctlReached s = true → ∀ (w : CtxId) (k : Fin 32),
       (t1sGrant s w n = false → ∀ c ∈ [Instr.rxack w n k, .txreq w n k], exec c s = .next (s.violate w 3 (BitVec.ofNat 32 (T1S_S_CMD n).addr))) ∧
       (w ≠ 0 → ∀ c ∈ [Instr.t1sSiding w n, .t1sRejoin w n], exec c s = .next (s.violate w 3 (BitVec.ofNat 32 (T1S_S_CMD n).addr))) ∧
       (t1sGrant s w n = true → gatedOff s (T1S_S_CMD n).addr = false →
         Completes (.rxack w n k) s (fun t => t.get (T1S_S_STATUS_fill n) = fill - min k.val fill ∧ OnlyRegs [T1S_S_STATUS n] s t ∧
           t.get (T1S_S_STATUS_get n) = (s.get (T1S_S_STATUS_get n) + min k.val fill) % 16) ∧
         (4 ≤ k.val ∨ k.val ∈ pend → exec (.txreq w n k) s = .next s) ∧
         (k.val < 4 → k.val ∉ pend → st = 1 → Completes (.txreq w n k) s fun t => t1sPend t n = pend ++ [k.val] ∧ t.net.t1s.mem = s.net.t1s.mem) ∧
         (k.val < 4 → k.val ∉ pend → st ≠ 1 → Completes (.txreq w n k) s fun t => t1sPend t n = pend ∧ result t k = 3))) ∧
     (ctlReached s = true → gatedOff s (T1S_S_CMD n).addr = false →
       (st = 3 → exec (.t1sSiding 0 n) s = .next s) ∧
       (st ≠ 3 → Completes (.t1sSiding 0 n) s fun t => t1sState t n = 3 ∧ t1sPend t n = [] ∧ (∀ b ∈ pend, result t b = 3) ∧ RegsBut [T1S_S_STATUS n] s t) ∧
       (st = 3 → onFirc s = false → Completes (.t1sRejoin 0 n) s fun t => RegsBut [T1S_S_STATUS n] s t ∧ t1sPend t n = pend ∧
         t1sState t n = (if s.bit (T1S_S_CTRL_en n) = false then 0 else if busState s (20 + n) = 1 then 2 else 1) ∧
         (t1sState t n = 1 → (t.t1seg n).since = some (BitVec.ofNat 32 (s.axis 0).pos) ∧
           (t.t1seg n).beacon = (! s.bit (T1S_S_CTRL_plca n) || s.get (T1S_S_CTRL_nodeid n) == 0))) ∧
       (st ≠ 3 ∨ onFirc s = true → exec (.t1sRejoin 0 n) s = .next s)) ∧
     (∀ (sent : Bool) (sfd : Word),
       let x := s.t1seg n
       let may : Prop := st = 1 ∧ perRuns s = true ∧ x.beacon = true ∧ (sent = true ∨ s.bit (T1S_S_CTRL_plca n) = false ∨ s.bit (T1S_S_STATUS_plcaok n) = false)
       let framed (l : List Byte) : List Byte := l ++ List.replicate (60 - l.length) 0 ++ ethFcs (l ++ List.replicate (60 - l.length) 0)
       let own := beBytes 6 (macOf (2 + n)).toNat
       (¬ may ∨ (x.ka = false ∧ pend = []) → exec (.t1sTxEnd n sent sfd) s = .next s) ∧
       (may → x.ka = true → Completes (.t1sTxEnd n sent sfd) s fun t => (t.t1seg n).ka = false ∧ t1sPend t n = pend ∧ t.regs = s.regs ∧
         (t.t1seg n).sent = x.sent ++ if sent = true then [framed ([0x01, 0x00, 0x5E, 0x7F, 0xFF, 0xFA] ++ own ++
           beBytes 2 (s.get (NMG_BUS_KAID_id (20 + n))) ++ List.replicate 46 0)] else []) ∧
       (∀ (b : Nat) (bs : List Nat), may → x.ka = false → pend = b :: bs →
         let len := getBits (t1sWord s (t1sBuf n b)) 10 0
         let d := t1sBytes s (t1sBuf n b) len
         let good : Bool := decide (14 ≤ len ∧ len ≤ 1518)
         Completes (.t1sTxEnd n sent sfd) s fun t => t1sPend t n = pend.filter (· ≠ b) ∧
           result t b = (if good = false then 4 else if sent then 1 else 2) ∧
           (good = true → sent = true → t1sWord t (t1sBuf n b + 4) = sfd) ∧
           (t.t1seg n).sent = x.sent ++ if good && sent then [framed (d.take 6 ++ own ++ d.drop 12)] else [])) ∧
     (st ≠ 1 → exec (.t1sJabber n) s = .next s) ∧
     (st = 1 → Completes (.t1sJabber n) s fun t => t1sState t n = 3 ∧ t1sPend t n = [] ∧ t.raiseQ = s.raiseQ ++ [⟨135 + n, false, false, 0⟩]) ∧
     (∀ ok : Bool, (st = 1 → s.bit (T1S_S_CTRL_plca n) = true → Completes (.plcaStatusChange n ok) s fun t => t.bit (T1S_S_STATUS_plcaok n) = ok ∧
         (t.t1seg n).beacon = ((s.t1seg n).beacon || ok) ∧ t1sPend t n = pend ∧ RegsBut [T1S_S_STATUS n] s t) ∧
       (st ≠ 1 ∨ s.bit (T1S_S_CTRL_plca n) = false → exec (.plcaStatusChange n ok) s = .next s)))

/-- LIN, the SPI host port and I²C (R370, R382 to R384, R387 to R390). A commander's slot takes the next entry of its schedule; a header starts the response that its entry
publishes or subscribes, with the length and data of that instant; a published response is sent with its checksum, and a bit error on an own header gives its frame up; a valid response is written at once
with fresh, an error only counts and shows. SIDING, the bus fault and REJOIN move the channel. Every SPI transaction is answered with the status, 0x00 and
the length of the oldest answer; a whole write passes to the ledger unless four answers wait, and a read sends the oldest answer with its CRC and
removes it only when whole. An I²C transfer runs on an idle enabled controller and ends with its result, SDA low while VIO1 is out of range. It rests in part on the model's choices of log entries 39, 40, 70 and 80. -/
def Obligations.LinAndLocalLinks : Prop :=
  ∀ s : State,
    (∀ u : Fin 8,
      let st := linState s u
      let cmdr := s.bit (LIN_CTRL_cmdr u)
      let x := s.linc u
      let runs := perRuns s
      let Errs (e : Nat) (t : State) : Prop := t.get (LIN_STATUS_lerr u) = e ∧ t.get (LIN_STATUS_errors u) = min 255 (s.get (LIN_STATUS_errors u) + 1) ∧
        (t.linc u).cur = none ∧ (∀ f : Fin 64, ∀ j : Fin 2, t.rd (LIN_FR_D u f j) = s.rd (LIN_FR_D u f j)) ∧
        (bitOf (s.rd (LIN_CTRL u)) 21 = true → ⟨544 + u, 2 + 256 * e, none⟩ ∈ t.evq)
      (linScheduled s u = false ∨ runs = false → exec (.linSlotStart u) s = .next s) ∧
      (linScheduled s u = true → runs = true →
        let e := s.get (LIN_STATUS_entry u)
        let e' := if x.started = false ∨ s.bit (LIN_SCH_last u e) = true ∨ 31 ≤ e then 0 else e + 1
        let f := s.get (LIN_SCH_frame u e')
        Completes (.linSlotStart u) s fun t => t.get (LIN_STATUS_entry u) = e' ∧ RegsBut [LIN_STATUS u] s t ∧ (t.linc u).started = true ∧
          (t.linc u).hdr = if s.bit (LIN_FR_valid u f) then some (f, s.rd (LIN_FR u f)) else none) ∧
      (∀ (id : Fin 64) (ok : Bool),
        (st ≠ 1 ∨ runs = false → exec (.linHeader u id ok) s = .next s) ∧
        (st = 1 → cmdr = true → x.hdr.map (fun h => getBits h.2 5 0) ≠ some id.val → exec (.linHeader u id ok) s = .next s) ∧
        (st = 1 → runs = true → cmdr = false → Completes (.linHeader u id false) s (Errs 5)) ∧
        (st = 1 → runs = true → cmdr = false → (∀ f : Fin 64, s.bit (LIN_FR_valid u f) = false ∨ s.get (LIN_FR_id u f) ≠ id) → Completes (.linHeader u id true) s fun t =>
          (t.linc u).cur = none ∧ t.get (LIN_STATUS_errors u) = s.get (LIN_STATUS_errors u)) ∧
        (∀ f : Fin 64, st = 1 → runs = true → cmdr = false → s.bit (LIN_FR_valid u f) = true → s.get (LIN_FR_id u f) = id →
          (∀ g : Fin 64, g < f → s.bit (LIN_FR_valid u g) = false ∨ s.get (LIN_FR_id u g) ≠ id) →
          let dir := s.get (LIN_FR_dir u f)
          let c : LinCur := ⟨f, id, bitOf (s.rd (LIN_FR u f)) 28, decide (dir = 1), max 1 (min 8 (s.get (LIN_FR_len u f))), s.rd (LIN_FR_D u f 0), s.rd (LIN_FR_D u f 1)⟩
          Completes (.linHeader u id true) s fun t => (t.linc u).cur = (if dir = 1 ∨ dir = 2 then some c else none) ∧ (t.linc u).wakeup = false) ∧
        (∀ f v, st = 1 → runs = true → cmdr = true → x.hdr = some (f, v) → getBits v 5 0 = id →
          let dir := getBits v 30 29
          let c : LinCur := ⟨f, id, bitOf v 28, decide (dir = 1), max 1 (min 8 (getBits v 27 24)), s.rd (LIN_FR_D u f 0), s.rd (LIN_FR_D u f 1)⟩
          Completes (.linHeader u id true) s fun t => (t.linc u).cur = (if dir = 1 ∨ dir = 2 then some c else none) ∧ (t.linc u).hdr = none)) ∧
      (x.cur = none ∨ runs = false → exec (.linNoResponse u) s = .next s ∧
        ∀ d how, how ≠ .bitError ∨ x.hdr = none ∨ runs = false → exec (.linResponseEnd u d how) s = .next s) ∧
      (x.cur = none → x.hdr ≠ none → runs = true → ∀ d, Completes (.linResponseEnd u d .bitError) s fun t => Errs 1 t ∧ (t.linc u).hdr = none) ∧
      (∀ (c : LinCur) (d : List Byte), x.cur = some c → runs = true →
        (c.publish = false → Completes (.linNoResponse u) s (Errs 3) ∧ Completes (.linResponseEnd u d .checksum) s (Errs 2)) ∧
        (c.publish = true → Completes (.linResponseEnd u d .bitError) s (Errs 1)) ∧
        Completes (.linResponseEnd u d .framing) s (Errs 4) ∧
        (c.publish = true → Completes (.linResponseEnd u d .complete) s fun t => (t.linc u).cur = none ∧ t.regs = s.regs ∧
          (c.len ≤ 8 → let data := (leBytes 4 c.d0.toNat ++ leBytes 4 c.d1.toNat).take c.len
            (t.linc u).sent = x.sent ++ [(c.id, data, linSum (if c.enh then linPid c.id :: data else data))])) ∧
        (c.publish = false → Completes (.linResponseEnd u d .complete) s fun t => (t.linc u).cur = none ∧ t.bit (LIN_FR_fresh u c.frame) = true ∧
          RegsBut [LIN_FR u c.frame, LIN_FR_D u c.frame 0, LIN_FR_D u c.frame 1] s t ∧
          ∀ i : Fin 8, byteOf (t.rd (LIN_FR_D u c.frame (i / 4))) (i % 4) =
            if i.val < c.len then d.getD i 0 else byteOf (s.rd (LIN_FR_D u c.frame (i / 4))) (i % 4))) ∧
      (st = 1 → runs = true → Completes (.linBusFault u) s fun t => linState t u = 3 ∧ Errs 6 t ∧ t.raiseQ = s.raiseQ ++ [⟨137 + u, false, false, 0⟩]) ∧
      (st ≠ 1 ∨ runs = false → exec (.linBusFault u) s = .next s) ∧
      (ctlReached s = true → ∀ w : CtxId, w ≠ 0 → exec (.linSiding w u) s = .next (s.violate w 3 (BitVec.ofNat 32 (LIN_CMD u).addr)) ∧
        exec (.linRejoin w u) s = .next (s.violate w 3 (BitVec.ofNat 32 (LIN_CMD u).addr))) ∧
      (ctlReached s = true → gatedOff s (LIN_CMD u).addr = false →
        (st = 0 ∨ st = 3 → exec (.linSiding 0 u) s = .next s) ∧
        (st = 1 ∨ st = 2 → Completes (.linSiding 0 u) s fun t => linState t u = 3 ∧ (t.linc u).cur = none ∧ RegsBut [LIN_STATUS u] s t) ∧
        (st = 3 → Completes (.linRejoin 0 u) s fun t => (t.linc u).rejoin = true ∧ t.regs = s.regs) ∧
        (st ≠ 3 → exec (.linRejoin 0 u) s = .next s)) ∧
      (st = 3 → x.rejoin = true → runs = true → Completes (.linRejoinEffect u) s fun t =>
        linState t u = (if s.bit (LIN_CTRL_en u) = false then 0 else if busState s (12 + u) = 1 then 2 else 1) ∧ t.get (LIN_STATUS_entry u) = 0 ∧
        (t.linc u).started = false ∧ (t.linc u).rejoin = false) ∧
      (st ≠ 3 ∨ x.rejoin = false ∨ runs = false → exec (.linRejoinEffect u) s = .next s)) ∧
    (let on : Prop := ctlReached s = true ∧ s.bit LCL_SPI_en = true ∧ s.pwr.io1 = true
     let wait := spiWaiting s
     let lq := match s.ldg.spiQ with | a :: _ => a.size | [] => 0
     let head : List Byte := [BitVec.ofNat 8 (128 * b2n s.upd.rom + 8 * b2n s.net.lcl.lastDiscard + min 4 wait), 0] ++ beBytes 2 lq
     let Sends (t : State) (l : List Byte) (n : Nat) : Prop := t.net.lcl.miso = (l ++ List.replicate (n - l.length) 0).take n
     (∀ start sent frame tail : List Byte,
       let w := Instr.spiWrite start sent frame tail
       let mosi := start ++ sent ++ frame ++ tail
       let ty := beField mosi 0 2
       let len := beField mosi 2 2
       let valid : Prop := ty = 0xA501 ∧ 32 ≤ len ∧ len ≤ 1056 ∧ 8 + len ≤ mosi.length
       let crc : Prop := crc32c (mosi.take (4 + len)) = BitVec.ofNat 32 (beField mosi (4 + len) 4)
       (¬ on → exec w s = .next s) ∧
       (on → ty ≠ 0xA502 →
         (¬ valid → Completes w s fun t => t.get LCL_SPI_discards = min 255 (s.get LCL_SPI_discards + 1) ∧
           t.net.lcl.spiPend = s.net.lcl.spiPend ∧ (ty = 0xA501 → t.net.lcl.lastDiscard = true) ∧ RegsBut [LCL_SPI] s t ∧ Sends t head mosi.length) ∧
         (valid → ¬ crc → Completes w s fun t => t.get LCL_SPI_crcerr = min 255 (s.get LCL_SPI_crcerr + 1) ∧
           t.net.lcl.spiPend = s.net.lcl.spiPend ∧ t.net.lcl.lastDiscard = true ∧ Sends t head mosi.length) ∧
         (valid → crc → 4 ≤ wait → Completes w s fun t => t.net.lcl.lastDiscard = true ∧
           t.get LCL_SPI_discards = min 255 (s.get LCL_SPI_discards + 1) ∧ spiWaiting t = wait ∧ Sends t head mosi.length) ∧
         (valid → crc → wait < 4 → Completes w s fun t => t.net.lcl.lastDiscard = false ∧
           spiWaiting t = wait + 1 ∧ t.regs = s.regs ∧ t.ldg = s.ldg ∧ Sends t head mosi.length))) ∧
     (∀ n : Nat, (¬ on → exec (.spiRead n) s = .next s) ∧
       (on → 2 ≤ n → Completes (.spiRead n) s fun t => t.regs = s.regs ∧ t.wm = s.wm ∧ t.net.lcl.spiPend = s.net.lcl.spiPend ∧
         (s.ldg.spiQ = [] → Sends t head n ∧ t.ldg = s.ldg) ∧
         (∀ a q, s.ldg.spiQ = a :: q → Sends t (head ++ (a.frame ++ beWord (crc32c (beBytes 2 a.size ++ a.frame)))) n ∧
           t.ldg.spiQ = if 8 + a.size ≤ n then q else a :: q)))) ∧
    (∀ n : Fin 2,
      let busy := s.bit (LCL_I2C_STATUS_busy n)
      (ctlReached s = true → ∀ (w : CtxId) (a : BitVec 7) (wl rl : BitVec 6),
        (s.blockOk w 20 = false → exec (.i2cTransfer w n a wl rl) s = .next (s.violate w 3 (BitVec.ofNat 32 (LCL_I2C_CMD n).addr))) ∧
        (s.blockOk w 20 = true → gatedOff s (LCL_I2C_CMD n).addr = false →
          (busy = true ∨ s.bit (LCL_I2C_CFG_en n) = false → exec (.i2cTransfer w n a wl rl) s = .next s) ∧
          (busy = false → s.bit (LCL_I2C_CFG_en n) = true → Completes (.i2cTransfer w n a wl rl) s fun t =>
            t.bit (LCL_I2C_STATUS_busy n) = true ∧ RegsBut [LCL_I2C_STATUS n] s t ∧
            ∃ x, i2cOf t n = some x ∧ x.addr = a.toNat ∧ x.rlen = min 32 rl.toNat ∧ (s.pwr.io1 = false → x.clear = true) ∧
              x.out = (List.range (min 32 wl.toNat)).map fun i => byteOf (s.rd (LCL_I2C_DATA n (i / 4))) (i % 4)))) ∧
      (i2cOf s n = none → exec (.i2cStretchTimeout n) s = .next s ∧ ∀ r k d, exec (.i2cTransferEnd n r k d) s = .next s) ∧
      (∀ x, i2cOf s n = some x →
        let Ends (code : Nat) (t : State) : Prop := t.bit (LCL_I2C_STATUS_busy n) = false ∧ t.get (LCL_I2C_STATUS_result n) = code ∧ i2cOf t n = none ∧
          t.get (LCL_I2C_STATUS_count n) = (s.get (LCL_I2C_STATUS_count n) + 1) % 256
        Completes (.i2cStretchTimeout n) s (fun t => Ends 4 t ∧ RegsBut [LCL_I2C_STATUS n] s t) ∧
        (s.pwr.io1 = false → ∀ (r : Fin 4) (k : Fin 64) (d : List Byte), Completes (.i2cTransferEnd n r k d) s fun t =>
          Ends 5 t ∧ RegsBut [LCL_I2C_STATUS n] s t) ∧
        (s.pwr.io1 = true → ∀ (k : Fin 64) (d : List Byte), Completes (.i2cTransferEnd n 1 k d) s (fun t => Ends 2 t ∧ RegsBut [LCL_I2C_STATUS n] s t) ∧
          Completes (.i2cTransferEnd n 2 k d) s (fun t => Ends 3 t ∧ t.get (LCL_I2C_STATUS_nbyte n) = k ∧ RegsBut [LCL_I2C_STATUS n] s t) ∧
          Completes (.i2cTransferEnd n 3 k d) s (fun t => Ends 5 t ∧ RegsBut [LCL_I2C_STATUS n] s t) ∧
          (x.rlen ≤ 32 → Completes (.i2cTransferEnd n 0 k d) s (fun t => Ends 1 t ∧
            t.net.lcl.i2cSent = s.net.lcl.i2cSent ++ [(n.val, x.clear, (BitVec.ofNat 8 (2 * x.addr) :: x.out) ++
              if x.rlen = 0 then [] else [BitVec.ofNat 8 (2 * x.addr + 1)])] ∧
            ∀ i, i < x.rlen → byteOf (t.rd (LCL_I2C_DATA n (i / 4))) (i % 4) = d.getD i 0)))))

/-! ## Access and immobiliser (15_access_and_immobiliser.md) -/

/-- The access unit's commands and exchanges (R394, R397, R400 to R403, R405 to R408, R411). POLL queues its enabled antennas in ascending order; END ends the sessions it names; RESUME
and CLRLOCK are context 0's. A request bursts with the wake identifier and the number of its antenna, asks with
the identifier it goes to and a challenge, while the peripheral clock runs, and is answered within its window or not: three bad verdicts in a row raise source 146. A lock-out ends with its level one
higher, up to 4. With VIO1 out of range the port hears no reply, announce or presence. A presence counts once in its round; the parked timer stops the probing at its limit, and RESUME restarts it. It rests in part on the model's choices of log entries 42, 43 and 81. -/
def Obligations.AccessCommandsAndExchanges : Prop :=
  ∀ s : State,
    let a := s.acc
    let io := s.pwr.io1
    let hears : Prop := io = true ∧ dieRuns s = true
    let free : Prop := a.phase = .idle ∧ a.locked = false ∧ inPark s = false
    let Ended (t : State) (x why : Nat) : Prop := t.bit (ACC_SESS_active x) = false ∧ t.get (ACC_SESS_why x) = why ∧ t.get (ACC_SESS_remain x) = 0
    (ctlReached s = true → ∀ (w : CtxId) (m : BitVec 4) (e d : Bool),
      (s.blockOk w 13 = false → ∀ c ∈ [Instr.accPoll w m, .accEnd w e d], exec c s = .next (s.violate w 3 (BitVec.ofNat 32 ACC_CMD.addr))) ∧
      (w ≠ 0 → ∀ c ∈ [Instr.accResume w, .clrlock w], exec c s = .next (s.violate w 3 (BitVec.ofNat 32 ACC_CMD.addr))) ∧
      (s.blockOk w 13 = true → gatedOff s ACC_CMD.addr = false →
        exec (.accPoll w m) s = .next { s with acc := { a with queue := a.queue ++
          (([0, 1, 2, 3] : List Nat).filter fun i => m.toNat.testBit i && s.bit (ACC_LF_en i)).map AccReq.ant } } ∧
        Completes (.accEnd w e d) s fun t => RegsBut [ACC_SESS 0, ACC_SESS 1] s t ∧ t.acc = a ∧
          (e = true → s.bit (ACC_SESS_active 0) = true → Ended t 0 3) ∧ (e = false → t.rd (ACC_SESS 0) = s.rd (ACC_SESS 0)) ∧
          (d = true → s.bit (ACC_SESS_active 1) = true → Ended t 1 3) ∧ (d = false → t.rd (ACC_SESS 1) = s.rd (ACC_SESS 1)))) ∧
    (ctlReached s = true → gatedOff s ACC_CMD.addr = false →
      exec (.accResume 0) s = .next { (s.putB ACC_STATUS_pstop false).wr ACC_PARKED 0 with acc := { a with parkedStored := 0 } } ∧
      Completes (.clrlock 0) s fun t => t.acc = { a with locked := false } ∧ t.get ACC_STATUS_failcnt = 0 ∧ t.get ACC_STATUS_lockm = 0 ∧
        OnlyRegs [ACC_STATUS] { s with acc := { a with locked := false } } t) ∧
    (∀ (w : CtxId) (k : Fin 8),
      (ctlReached s = true → w ≠ 0 → exec (.keyRevoke w k) s = .next (s.violate w 3 (BitVec.ofNat 32 (ACC_KEY_CTL k).addr))) ∧
      (ctlReached s = true → gatedOff s (ACC_KEY_CTL k).addr = false → exec (.keyRevoke 0 k) s = .next (s.putB (ACC_KEY_CTL_en k) false)) ∧
      (candOf s k = none → exec (.candidateExpire k) s = .next s) ∧
      (candOf s k ≠ none → Completes (.candidateExpire k) s fun t => candOf t k = none ∧ t.bit (ACC_KEY_CTL_cand k) = false ∧
        t.rd (ACC_KEY_CNT k) = s.rd (ACC_KEY_CNT k) ∧ ∀ j, j ≠ k.val → candOf t j = candOf s j)) ∧
    (∀ i q, a.queue = .ant i :: q → free →
      let bits : BitVec 24 := BitVec.ofNat 16 (s.get (ACC_LF_wakeid i)) ++ BitVec.ofNat 8 i
      exec .lfWakeBurst s = .next { s with acc := { a with phase := .burst, req := some (.ant i), queue := q, lfBits := bits } }) ∧
    (a.queue = [] ∨ ¬ free → exec .lfWakeBurst s = .next s) ∧
    (perRuns s = true → a.phase = .burst →
      let dest : Word := match a.req with | some (.key k) => s.rd (ACC_KEY_ID k) | _ => 0xFFFFFFFF
      Completes .rangingRequest s fun t => t.acc = { a with phase := .waiting, challenge := t.acc.challenge, sentId := dest } ∧ t.regs = s.regs) ∧
    (∀ k q, perRuns s = true → a.queue = .key k :: q → free → Completes .rangingRequest s fun t => t.regs = s.regs ∧
      t.acc = { a with phase := .waiting, challenge := t.acc.challenge, sentId := s.rd (ACC_KEY_ID k), req := some (.key k), queue := q }) ∧
    (perRuns s = false ∨ (a.phase ≠ .burst ∧ (a.queue = [] ∨ ¬ free)) → exec .rangingRequest s = .next s) ∧
    (∀ f : Nat,
      let window := max 1 (min 80 (s.get ACC_RNG_CFG_win)) * 400000
      (a.phase = .waiting → io = true → f ≤ window → exec (.rangingReply f) s = .next { s with acc := { a with phase := .reading, flight := f } }) ∧
      (a.phase = .waiting → io = true → window < f → exec (.rangingReply f) s = exec .noReply s) ∧
      (a.phase ≠ .waiting ∨ io = false → exec (.rangingReply f) s = .next s)) ∧
    (a.phase ≠ .waiting → exec .noReply s = .next s) ∧
    (a.phase = .waiting → Completes .noReply s fun t => t.get ACC_LAST_verdict = 10 ∧ t.get ACC_STATUS_failcnt = s.get ACC_STATUS_failcnt ∧
      t.acc.req = none ∧ t.acc.phase = (if a.waitAnn then .announce else .idle) ∧
      (a.failRun < 2 → t.acc.failRun = a.failRun + 1 ∧ t.raiseQ = s.raiseQ) ∧
      (2 ≤ a.failRun → t.acc.failRun = 0 ∧ t.raiseQ = s.raiseQ ++ [⟨146, false, false, 0⟩])) ∧
    (¬ hears → exec .announce s = .next s) ∧
    (hears → inPark s = false → a.phase = .idle → exec .announce s = .next { s with acc := { a with phase := .announce } }) ∧
    (hears → inPark s = false → a.phase ≠ .idle → exec .announce s = .next { s with acc := { a with waitAnn := true } }) ∧
    (hears → inPark s = true → Completes .announce s fun t => t.acc = { a with waitAnn := true } ∧ (s.bit ACC_CFG_btnwake = false → t.regs = s.regs) ∧
      (s.bit ACC_CFG_btnwake = true → wakeable s = true → t.pwr.wake = true ∧ bitOf (t.rd PWR_WAKEMASK) 6 = true)) ∧
    (let on := s.bit ACC_CFG_en = true ∧ a.locked = false ∧ s.bit ACC_STATUS_pstop = false
     (on → let l := antennas s (s.get ACC_POLL_amask)
       exec .probe s = .next { s with acc := { a with probes := l, carrier := ! l.isEmpty } }) ∧ (¬ on → exec .probe s = .next s)) ∧
    (∀ i : Fin 4, (i.val ∉ a.probes ∨ io = false → exec (.presence i) s = .next s) ∧
      (i.val ∈ a.probes → io = true → inPark s = false → Completes (.presence i) s fun t => 
        t.acc = { a with probes := a.probes.filter (i.val < ·), carrier := ! (a.probes.filter (i.val < ·)).isEmpty } ∧ t.regs = s.regs ∧
        (bitOf (s.rd ACC_EVEN) 7 = true → t.evq = s.evq ++ [⟨762, 7 + 256 * i, none⟩]))) ∧
    (a.locked = false ∨ dieRuns s = false → exec .lockoutEnd s = .next s) ∧
    (a.locked = true → dieRuns s = true → Completes .lockoutEnd s fun t => t.acc = { a with locked := false } ∧
      t.get ACC_STATUS_lockm = min 4 (s.get ACC_STATUS_lockm + 1) ∧ t.get ACC_STATUS_failcnt = s.get ACC_STATUS_failcnt) ∧
    (∀ d : Bool,
      let x := b2n d
      (s.bit (ACC_SESS_active x) = false → exec (.sessionTimeout d) s = .next s) ∧
      (s.bit (ACC_SESS_active x) = true → Completes (.sessionTimeout d) s fun t => Ended t x 2 ∧ t.acc = a ∧ RegsBut [ACC_SESS x] s t ∧
        (bitOf (s.rd ACC_EVEN) 2 = true → t.evq = s.evq ++ [⟨762, 2 + 256 * (32 * x + 2), none⟩]))) ∧
    (let n := min (2 ^ 32 - 1) ((s.rd ACC_PARKED).toNat + 1)
     let limit := 1440 * max 1 (min 60 (s.get ACC_POLL_stopdays))
     (s.bit PWR_STATUS_ign = true ∨ dieRuns s = false → exec .parkedTimerTick s = .next s) ∧
     (s.bit PWR_STATUS_ign = false → dieRuns s = true → Completes .parkedTimerTick s fun t => (t.rd ACC_PARKED).toNat = n ∧
       t.bit ACC_STATUS_pstop = (decide (limit ≤ n) || s.bit ACC_STATUS_pstop) ∧ RegsBut [ACC_PARKED, ACC_STATUS] s t ∧
       (10 ∣ n → t.acc.parkedStored = BitVec.ofNat 32 n) ∧ (¬ 10 ∣ n → t.acc = a)))

namespace Sys2Proof.Machine

/-- The MAC of a message under the key of slot `k` and a challenge (R393, R396): the first 4 bytes of the AES-128 encryption. -/
def messageMac (s : State) (k : Nat) (id : Word) (cmd : Byte) (delay : BitVec 24) (n challenge : Word) : Word :=
  (Config.aes128 (keySlot s (16 + k)).bytes (id ++ cmd ++ delay ++ n ++ challenge)).extractLsb' 96 32

/-- The tests 1 to 8 of R398 on a message for a slot in use: its verdict, or none where the message reaches order 9. -/
def earlyVerdict (s : State) (k : Nat) (n : Word) (mac : Bool) : Option Nat :=
  let d := (n - s.rd (ACC_KEY_CNT k)).toNat
  if mac = false then some 4
  else if d = 0 ∨ 2 ^ 31 ≤ d then some 6
  else if candOf s k ≠ none ∧ (candOf s k).map (· + 1) = some n then none
  else if d ≤ 256 then none
  else if d ≤ 8192 then some 3
  else some 7

end Sys2Proof.Machine

/-- Messages are judged by the tests of R398 in order (R398 to R402, R411). A message ends its exchange and is counted, with its verdict in ACC_LAST. During a lock-out it
is verdict 11, malformed 12, of no key in use 5; then the MAC, the counter window and the candidate; one that reaches order 9 sets the counter and drops
the candidate; a reply is then judged by its excess and its distance. A failed attempt counts, and the fifth locks out; an accepted message clears the
counts and opens the session of its antenna, or the entry session of a button. The MAC is that of the slot's key over the message and, for a reply, the
challenge (R396). With VIO1 out of range the port clocks in a message of zeros; without the peripheral clock it clocks in none (R430). It rests in part on the model's choices of log entry 43. -/
def Obligations.KeyMessagesAreJudged : Prop :=
  ∀ (s : State) (id : Word) (cmd : Byte) (delay : BitVec 24) (n mac : Word),
    let m := Instr.keyMessage id cmd delay n mac
    let a := s.acc
    let reply : Bool := a.phase == .reading
    let live : Prop := perRuns s = true ∧ (a.phase = .reading ∨ a.phase = .announce)
    let malformed : Prop := if reply then cmd ≠ 0 else cmd = 0 ∨ 0x3F < cmd.toNat ∨ delay ≠ 0
    let e : Int := (a.flight : Int) - delay.toNat - sgn 16 (s.get ACC_RNG_CFG_cal)
    let cm : Nat := ⌊(max 0 e : ℚ) * 1199 / 640⌋.toNat
    let Judged (v : Nat) (t : State) : Prop := t.get ACC_LAST_verdict = v ∧ t.bit ACC_LAST_button = ! reply ∧ t.get ACC_LAST_cmd = cmd.toNat ∧
      t.get ACC_LAST_count = (s.get ACC_LAST_count + 1) % 256 ∧ t.acc.req = none ∧ t.acc.phase = (if a.waitAnn then .announce else .idle)
    let KeysKept (t : State) : Prop := ∀ k : Fin 8, t.rd (ACC_KEY_CNT k) = s.rd (ACC_KEY_CNT k) ∧ t.rd (ACC_KEY_ID k) = s.rd (ACC_KEY_ID k)
    let SessKept (t : State) : Prop := ∀ x : Fin 2, t.rd (ACC_SESS x) = s.rd (ACC_SESS x)
    let NoFail (t : State) : Prop := t.get ACC_STATUS_failcnt = s.get ACC_STATUS_failcnt ∧ t.get ACC_STATUS_lockm = s.get ACC_STATUS_lockm ∧ t.acc.locked = a.locked
    let Failed (t : State) : Prop := SessKept t ∧ t.get ACC_STATUS_lockm = s.get ACC_STATUS_lockm ∧
      (s.get ACC_STATUS_failcnt < 4 → t.get ACC_STATUS_failcnt = s.get ACC_STATUS_failcnt + 1 ∧ t.acc.locked = a.locked) ∧
      (s.get ACC_STATUS_failcnt = 4 → t.get ACC_STATUS_failcnt = 0 ∧ t.acc.locked = true ∧ ⟨145, false, false, 0⟩ ∈ t.raiseQ ∧
        (s.get ACC_STATUS_lockm ≤ 4 → t.get ACC_STATUS_remain = 240 * 2 ^ s.get ACC_STATUS_lockm))
    (¬ live → exec m s = .next s) ∧
    (s.pwr.io1 = false → exec m s = exec (.keyMessage 0 0 0 0 0) s) ∧
    (s.pwr.io1 = true → live → a.locked = true → Completes m s fun t => Judged 11 t ∧ KeysKept t ∧ SessKept t ∧ NoFail t) ∧
    (s.pwr.io1 = true → live → a.locked = false →
      (malformed → Completes m s fun t => Judged 12 t ∧ KeysKept t ∧ SessKept t ∧ NoFail t) ∧
      (¬ malformed → id = 0xFFFFFFFF ∨ (∀ k : Fin 8, s.bit (ACC_KEY_CTL_en k) = false ∨ s.rd (ACC_KEY_ID k) ≠ id) → Completes m s fun t =>
        Judged 5 t ∧ KeysKept t ∧ Failed t) ∧
      (∀ k : Fin 8, ¬ malformed → id ≠ 0xFFFFFFFF → s.bit (ACC_KEY_CTL_en k) = true → s.rd (ACC_KEY_ID k) = id →
        (∀ j : Fin 8, j < k → s.bit (ACC_KEY_CTL_en j) = false ∨ s.rd (ACC_KEY_ID j) ≠ id) →
        let macOk : Bool := messageMac s k id cmd delay n (if reply then a.challenge else 0) == mac
        let resync : Bool := decide ((candOf s k).map (· + 1) = some n)
        let Set (t : State) : Prop := t.rd (ACC_KEY_CNT k) = n ∧ candOf t k = none ∧ t.get ACC_LAST_key = k
        let Opens (x : Nat) (t : State) : Prop := t.bit (ACC_SESS_active x) = true ∧ t.get (ACC_SESS_key x) = k ∧ t.get (ACC_SESS_why x) = 0 ∧
          t.get (ACC_SESS_remain x) = max 1 (min 600 (s.get (if x = 1 then ACC_SESS_TMO_drive else ACC_SESS_TMO_entry))) ∧ t.rd ACC_PARKED = 0
        (∀ v, earlyVerdict s k n macOk = some v → Completes m s fun t => Judged v t ∧ KeysKept t ∧ t.get ACC_LAST_key = k ∧ SessKept t ∧
          (v = 4 ∨ v = 6 → Failed t) ∧ (v = 3 ∨ v = 7 → NoFail t) ∧ (v = 3 → candOf t k = some n) ∧ (v ≠ 3 → candOf t k = candOf s k)) ∧
        (earlyVerdict s k n macOk = none →
          (reply = true → e < -(s.get ACC_RNG_BOUND_early : Int) → Completes m s fun t => Judged 9 t ∧ Set t ∧ Failed t) ∧
          (reply = true → -(s.get ACC_RNG_BOUND_early : Int) ≤ e → s.get ACC_RNG_BOUND_bound < cm → Completes m s fun t =>
            Judged 8 t ∧ Set t ∧ Failed t ∧ t.get ACC_LAST_RNG_dist = min 65535 cm) ∧
          (reply = false ∨ (-(s.get ACC_RNG_BOUND_early : Int) ≤ e ∧ cm ≤ s.get ACC_RNG_BOUND_bound) → Completes m s fun t =>
            Judged (if resync then 2 else 1) t ∧ Set t ∧ t.get ACC_STATUS_failcnt = 0 ∧ t.get ACC_STATUS_lockm = 0 ∧ t.acc.locked = false ∧
              (reply = true → ∀ i, i < 4 → a.req = some (.ant i) → Opens (s.get (ACC_LF_auth i)) t) ∧
              (reply = true → ∀ j, a.req = some (.key j) → Opens 0 t) ∧
              (reply = false → cmd = 2 ∨ cmd = 3 → (s.bit ACC_CFG_btnrange = false → Opens 0 t) ∧
                (s.bit ACC_CFG_btnrange = true → t.acc.queue = .key k :: a.queue ∧ SessKept t)) ∧
              (reply = false → cmd ≠ 2 → cmd ≠ 3 → SessKept t ∧ t.acc.queue = a.queue)))))

/-! ## Sealed meter (16_sealed_meter.md) -/

/-- The sealed meter (R416 to R425, R427, R429). On the ZN9640-A1 a request is taken on an idle mailbox, which clears the last block, and with a silent meter ends with code 3;
a write while busy only sets s_lostreq. The answer is the block of R423 with the counter one up, or code 1 or 2 with no block; the energy registers never
fall; LOG data, the flags and the grid bit are those of the instant the request reached the meter (R424). An overrange episode that begins is
logged. Grid phase moves the axes to the meter's count while they hear it; loss and return of each line, silence and restoring, the self-check and the supply loss are
logged as the rules say, and show while the meter is heard, or as soon as it is. While VMTR is down the meter itself does nothing. On the ZN9640-A0 none of it does anything. It rests in part on the model's choices of log entry 44. -/
def Obligations.SealedMeter : Prop :=
  ∀ s : State,
    let a1 (c : Instr) (P : State → Prop) : Prop := Completes c s fun t => if Config.meterFitted = true then P t else t = s
    let m := s.mtr
    let busy := s.bit MTR_RESULT_busy
    let off := m.supplyLost.isSome
    let link := s.bit MTR_STATUS_link
    let grid := m.grid
    let heard : Prop := mtrRuns s = true ∧ link = true
    let Ends (code : Nat) (t : State) : Prop := t.bit MTR_RESULT_busy = false ∧ t.get MTR_RESULT_code = code ∧ t.mtr.req = none ∧
      t.get MTR_RESULT_seq = (s.get MTR_RESULT_seq + 1) % 256
    let Logs (t : State) (time code v : Nat) : Prop := m.log.length ≤ 4094 → t.mtr.log = m.log ++ [⟨m.next, time, code, v⟩] ∧ t.mtr.next = m.next + 1
    let Event (t : State) (code : Nat) : Prop := bitOf (s.rd MTR_EVEN) code = true → ⟨763, code, none⟩ ∈ t.evq
    (ctlReached s = true → ∀ (w : CtxId) (first : BitVec 16), ∀ p ∈ [(1, 0, Instr.mtrEnergy w), (2, 0, .mtrInstant w), (3, first.toNat, .mtrLog w first), (4, 0, .mtrSeal w), (5, 0, .mtrKey w)],
      (s.blockOk w 14 = false → exec p.2.2 s = .next (s.violate w 3 (BitVec.ofNat 32 MTR_REQ.addr))) ∧
      (s.blockOk w 14 = true → a1 p.2.2 fun t =>
        (busy = true → t = s.putB MTR_STATUS_s_lostreq true) ∧
        (busy = false → (∀ k : Fin 73, t.rd (MTR_RESP k) = 0) ∧ t.mtr.ctr = m.ctr ∧ t.mtr.log = m.log ∧
          (link = true → t.bit MTR_RESULT_busy = true ∧ t.mtr.req = some ⟨p.1, p.2.1, m.imp, m.exp, m.grid, m.overs, m.log⟩) ∧ (link = false → Ends 3 t)))) ∧
    (∀ (time imp exp : BitVec 64) (inst : List Word),
      let rsp := Instr.mtrResponse time imp exp inst
      (off = true ∨ m.req = none ∨ link = false ∨ mtrRuns s = false → exec rsp s = .next s) ∧
      (∀ q : MtrReq, off = false → m.req = some q → link = true → mtrRuns s = true →
        let m' := { m with imp := max m.imp imp.toNat, exp := max m.exp exp.toNat }
        let data := mtrData q imp.toNat exp.toNat inst
        let kept : Prop := q.arg = 0 ∨ ∃ r ∈ q.log, r.index = q.arg
        let body := [1, BitVec.ofNat 8 q.op] ++ leBytes 2 data.2.length ++ leBytes 8 Config.meterSerial.toNat ++ leBytes 8 (m.ctr + 1) ++
          leBytes 4 (s.rd MTR_NONCE_LO).toNat ++ leBytes 4 (s.rd MTR_NONCE_HI).toNat ++ leBytes 8 time.toNat ++ data.2
        (q.op = 2 → data.2.length = 52 ∧ (data.2.getD 48 0).toNat = q.overs % 256 ∧ (data.2.getD 49 0).getLsbD 0 = q.grid) ∧
        (1 ≤ q.op → q.op ≤ 5 → q.op ≠ 3 ∨ kept → a1 rsp fun t => Ends 0 t ∧ t.mtr = { m' with ctr := m.ctr + 1, req := none } ∧ Event t 1 ∧
          data.1 = 0 ∧ t.get MTR_RESULT_length = 100 + data.2.length ∧
          ∀ i : Nat, i < 292 → byteOf (t.rd (MTR_RESP (i / 4))) (i % 4) = (body ++ (List.range 64).map (Config.meterSign body)).getD i 0) ∧
        (q.op = 0 ∨ 5 < q.op → a1 rsp fun t => Ends 1 t ∧ t.mtr = { m' with req := none } ∧ t.get MTR_RESULT_length = 0) ∧
        (q.op = 3 → ¬ kept → a1 rsp fun t => Ends 2 t ∧ t.mtr = { m' with req := none } ∧ t.get MTR_RESULT_length = 0))) ∧
    (∀ c : MeterTick,
      let up := Instr.gridPhaseUpdate c
      let m' := mtrOver m c.time.toNat c.overs.toNat
      let at_ := 64 * c.count.val
      (off = true → exec up s = .next s) ∧
      (m.log.length ≤ 4087 → ∃ l, m'.log = m.log ++ l ∧ l.map (fun r => (r.time, r.code, r.value)) =
        ((List.range 8).filter fun i => c.overs.toNat.testBit i && ! m.overs.testBit i).map fun i => (c.time.toNat, 5, i)) ∧
      (off = false → grid = false → a1 up fun t => t = { s with mtr := m' }) ∧
      (off = false → grid = true → takesPhase s = false → a1 up fun t => t = { s with mtr := { m' with phase := at_ } }) ∧
      (off = false → grid = true → takesPhase s = true → a1 up fun t => t.mtr = { m' with phase := at_ } ∧ t.wm = s.wm ∧
        (∀ n : Fin 8, 2 ≤ n.val → usesMeter s n = true → (s.axis n).lost = false → (t.axis n).pos % 65536 = at_ ∧ (t.axis n).qual = (s.axis n).qual) ∧
        (∀ n : Fin 8, n.val < 2 ∨ usesMeter s n = false ∨ (s.axis n).lost = true → t.axis n = s.axis n))) ∧
    (∀ (v : MeterLine) (c : Fin 1024),
      let time := v.time.toNat
      let out : Prop := v.line.val ∈ m.linesOut
      let lost := Instr.gridLost v
      let back := Instr.gridReturn v c
      (off = true → exec lost s = .next s ∧ exec back s = .next s) ∧
      (v.line ≠ 0 → (out → exec lost s = .next s) ∧ (¬ out → exec back s = .next s) ∧
        (off = false → ¬ out → a1 lost fun t => v.line.val ∈ t.mtr.linesOut ∧ Logs t time 3 (v.line + 1) ∧ t = { s with mtr := t.mtr }) ∧
        (off = false → out → a1 back fun t => v.line.val ∉ t.mtr.linesOut ∧ Logs t time 4 (v.line + 1) ∧ t = { s with mtr := t.mtr })) ∧
      (v.line = 0 → (grid = false → exec lost s = .next s) ∧ (grid = true → exec back s = .next s) ∧
        (off = false → grid = true → a1 lost fun t => t.mtr.grid = false ∧ t.tln = s.tln ∧ Logs t time 3 1 ∧
          (heard → t.bit MTR_STATUS_grid = false ∧ (s.bit MTR_STATUS_grid = true → Event t 2)) ∧ (¬ heard → t.regs = s.regs ∧ t.evq = s.evq)) ∧
        (off = false → grid = false → a1 back fun t => t.mtr.grid = true ∧ t.mtr.phase = 64 * c ∧ Logs t time 4 1 ∧
          (heard → t.bit MTR_STATUS_grid = true ∧ (s.bit MTR_STATUS_grid = false → Event t 3)) ∧ (¬ heard → t.regs = s.regs ∧ t.evq = s.evq) ∧
          (takesPhase s = true → ∀ n : Fin 8, 2 ≤ n.val → usesMeter s n = true → (s.axis n).lost = false → (t.axis n).pos % 65536 = 64 * c)))) ∧
    (∀ time : BitVec 64,
      (link = false ∨ mtrRuns s = false → exec .meterSilent s = .next s) ∧
      (link = true → mtrRuns s = true → a1 .meterSilent fun t => t.bit MTR_STATUS_link = false ∧ ⟨28, false, false, 0⟩ ∈ t.raiseQ ∧ Event t 4 ∧
        (busy = true → Ends 3 t) ∧ t.mtr.log = m.log ∧
        (∀ n : Fin 8, 2 ≤ n.val → usesMeter s n = true → (t.axis n).lost = true ∧ (t.axis n).pos = (s.axis n).pos ∧
          ((s.axis n).lost = false → (t.axis n).qual = 3))) ∧
      (a1 (.meterLinkRestore time) fun t => (m.supplyLost = none → t.mtr = m) ∧
        (∀ e, m.supplyLost = some e → Logs t time.toNat 2 e ∧ t.mtr.supplyLost = none) ∧
        (link = true ∨ mtrRuns s = false → t = { s with mtr := t.mtr }) ∧
        (link = false → mtrRuns s = true → t.bit MTR_STATUS_link = true ∧ Event t 5 ∧
          t.bit MTR_STATUS_grid = grid ∧ (s.bit MTR_STATUS_grid ≠ grid → Event t (if grid then 3 else 2)) ∧
          t.get MTR_STATUS_linkloss = min 255 (s.get MTR_STATUS_linkloss + 1) ∧
          (∀ n : Fin 8, 2 ≤ n.val → usesMeter s n = true → (t.axis n).lost = false ∧ (t.axis n).pos = (s.axis n).pos))) ∧
      (off = true → ∀ k : Byte, exec (.meterSelfCheckFail time k) s = .next s) ∧
      (off = false → ∀ k : Byte, a1 (.meterSelfCheckFail time k) fun t => t.mtr.failed = true ∧ Logs t time.toNat 6 k.toNat ∧
        (heard → t.bit MTR_STATUS_fault = true ∧ t.raiseQ = s.raiseQ ++ [⟨29, false, false, 0⟩] ∧ RegsBut [MTR_STATUS] s t) ∧
        (¬ heard → t = { s with mtr := t.mtr }))) ∧
    (∀ imp exp : BitVec 64, (off = true → exec (.meterSupplyLoss imp exp) s = .next s) ∧ (off = false → a1 (.meterSupplyLoss imp exp) fun t =>
      t = { s with mtr := { m with imp := max m.imp imp.toNat, exp := max m.exp exp.toNat, supplyLost := some (max m.imp imp.toNat) } }))

/-! ## Clocks (17_clocks.md) -/

namespace Sys2Proof.Machine

/-- Why gate `b` does not take its written value, when the gates below it stand as in `g` and the others as in `s` (R440): 0 it does, 1 a child is on,
2 its parent is off, 3 its block is in use. -/
def gateWhy (s : State) (g v : Word) (b : Nat) : Nat :=
  let parent : Nat := if b < 6 then 0 else if b < 20 then 1 else if b < 28 then 2 else if b < 30 then 3 else 4
  if bitOf v b = bitOf (s.rd CLK_GATE) b then 0
  else if bitOf v b then (if b = 0 ∨ bitOf g parent = true then 0 else 2)
  else if b = 0 then (if [1, 2, 3, 4, 5].any fun k => gateOn s k then 1 else 0)
  else if b < 5 then (if (List.range 32).any fun k => decide (8 ≤ k ∧ (if k < 20 then 1 else if k < 28 then 2 else if k < 30 then 3 else 4) = b) && gateOn s k then 1 else 0)
  else if leafInUse s b then 3 else 0

end Sys2Proof.Machine

/-- Clocks (R432, R433, R435, R437, R438, R440, R443, R454). Only context 0 writes the block. src = 1 needs PLL0; the sequencer takes a target, queues a second, and shows
the OP when it is done; src = 0 moves to FIRC at once. A crystal that becomes stable at a start clocks A1, which is Locked again. A crystal that becomes stable, fails to start or fails, a PLL that locks or fails, and a failing LPO or
FIRC show, post their event to context 0 and raise their source; with the crystal the backbone ports that are Up and the running segments fall into siding (R438). As PLL1
locks, the port accesses that waited for it take effect in their order (R454). XTALSEL needs an aged crystal. A write of CLK_GATE is judged gate by gate: a refused
gate and the leaf of a managed bus keep their state, and the lowest refusal is recorded. It rests in part on the model's choices of log entries 45, 73 and 74. -/
def Obligations.ClocksAndGates : Prop :=
  ∀ s : State,
    let c := s.clk
    let busy := s.bit CLK_STATUS_opbusy
    let src := s.bit CLK_CORE_src
    let xtal := s.get CLK_STATUS_xtal
    let Shown (t : State) (code src : Nat) : Prop := t.evq = s.evq ++ [⟨765, code, none⟩] ∧ t.raiseQ = s.raiseQ ++ [⟨src, false, false, 0⟩]
    (ctlReached s = true → ∀ (w : CtxId) (b : Bool) (op : Fin 4) (v : Word), w ≠ 0 →
      (∀ i ∈ [Instr.coreSrcSelect w b, .opChange w op], exec i s = .next (s.violate w 3 (BitVec.ofNat 32 CLK_CORE.addr))) ∧
      exec (.xtalsel w b) s = .next (s.violate w 3 (BitVec.ofNat 32 CLK_CMD.addr)) ∧
      exec (.gateWrite w v) s = .next (s.violate w 3 (BitVec.ofNat 32 CLK_GATE.addr))) ∧
    (ctlReached s = true → s.bit CLK_STATUS_pll0 = false → exec (.coreSrcSelect 0 true) s = .next (s.put CLK_STATUS_cmdres 1)) ∧
    (ctlReached s = true → s.bit CLK_STATUS_pll0 = true → src = false → busy = false → s.bit CLK_STATUS_src = false → Completes (.coreSrcSelect 0 true) s fun t =>
      t.bit CLK_CORE_src = true ∧ t.bit CLK_STATUS_opbusy = true ∧ t.clk = { c with target := opWanted s, queued := none } ∧
        t.get CLK_STATUS_cmdres = 0 ∧ t.bit CLK_STATUS_src = false) ∧
    (ctlReached s = true → src = true → Completes (.coreSrcSelect 0 false) s fun t => t.bit CLK_CORE_src = false ∧ t.bit CLK_STATUS_src = false ∧ t.bit CLK_STATUS_opbusy = false ∧
      t.clk = { c with queued := none } ∧ t.get CLK_STATUS_cmdres = 0 ∧ t.get CLK_CORE_op = s.get CLK_CORE_op ∧ RegsBut [CLK_CORE, CLK_STATUS] s t) ∧
    (ctlReached s = true → ∀ op : Fin 4, s.pwr.phase ≠ .doze →
      (src = false → exec (.opChange 0 op) s = .next (s.put CLK_CORE_op op)) ∧
      (src = true → busy = true → exec (.opChange 0 op) s = .next { s.put CLK_CORE_op op with clk := { c with queued := some op } }) ∧
      (src = true → busy = false → s.bit CLK_STATUS_src = true → s.get CLK_STATUS_op = op → exec (.opChange 0 op) s = .next (s.put CLK_CORE_op op)) ∧
      (src = true → busy = false → s.bit CLK_STATUS_src = false ∨ s.get CLK_STATUS_op ≠ op → Completes (.opChange 0 op) s fun t =>
        t.get CLK_CORE_op = op ∧ t.bit CLK_STATUS_opbusy = true ∧ t.clk = { c with target := op, queued := none } ∧ RegsBut [CLK_CORE, CLK_STATUS] s t)) ∧
    (busy = false → exec .opChangeDone s = .next s) ∧
    (busy = true → Completes .opChangeDone s fun t => t.bit CLK_STATUS_src = true ∧ t.get CLK_STATUS_op = c.target % 4 ∧ t.clk.queued = none ∧
      (c.queued = none → t.bit CLK_STATUS_opbusy = false) ∧
      (∀ q, c.queued = some q → (q = c.target % 4 → t.bit CLK_STATUS_opbusy = false) ∧
        (q ≠ c.target % 4 → t.bit CLK_STATUS_opbusy = true ∧ t.clk.target = q))) ∧
    (clkRuns s = false → ∀ i ∈ [Instr.xtalStable, .pllLock false, .pllLock true, .xtalStartFail, .xtalFail, .pll0Fail, .pll1Fail, .lpoFail, .fircFail],
      exec i s = .next s) ∧
    (clkRuns s = true →
      (xtal = 0 → Completes .xtalStable s fun t => t.get CLK_STATUS_xtal = 1 ∧ t.bit CLK_STATUS_xsel = true ∧
        (t.axis 1).qual = 0 ∧ (∀ n, n ≠ 1 → t.axis n = s.axis n) ∧ t = { s with regs := t.regs, tln := t.tln } ∧ RegsBut [CLK_STATUS] s t) ∧
      (xtal = 2 → Completes .xtalStable s fun t => t.get CLK_STATUS_xtal = 1 ∧ t.bit CLK_STATUS_xsel = s.bit CLK_STATUS_xsel ∧
        t.evq = s.evq ++ [⟨765, 6, none⟩] ∧ t.raiseQ = s.raiseQ) ∧
      (xtal = 1 ∨ xtal = 3 → exec .xtalStable s = .next s) ∧
      (∀ one : Bool, xtal = 0 ∨ xtal = 3 → exec (.pllLock one) s = .next s) ∧
      (xtal = 1 ∨ xtal = 2 → exec (.pllLock false) s = .next (s.putB CLK_STATUS_pll0 true)) ∧
      (xtal = 1 ∨ xtal = 2 → s.bit CLK_STATUS_pll1 = false → Completes (.pllLock true) s fun t => ∃ u, t = servePosts u ∧
        u.bit CLK_STATUS_pll1 = true ∧ u.bit PWR_STATUS_pllwait = false ∧ u.tln.parked = 0 ∧ u.wm = s.wm ∧ u.cpu = s.cpu) ∧
      (xtal = 1 ∨ xtal = 2 → s.bit CLK_STATUS_pll1 = true → exec (.pllLock true) s = .next (servePosts s)) ∧
      (let Down (n : Fin 2) : List Raise := if ethState s n = 2 then [⟨133 + n.val, false, false, 0⟩] else []
       let Lost (t : State) (code : Nat) : Prop := t.get CLK_STATUS_xtal = 2 ∧ t.bit CLK_STATUS_xsel = false ∧ t.bit CLK_STATUS_s_xfail = true ∧
         (t.axis 1).qual = 2 ∧ (t.axis 1).pos = (s.axis 1).pos ∧ (∃ l, t.evq = s.evq ++ ⟨765, code, none⟩ :: l) ∧
         t.raiseQ = s.raiseQ ++ [⟨11, false, false, 0⟩] ++ Down 0 ++ Down 1 ∧
         (∀ n : Fin 2, ethState t n = (if ethState s n = 2 then 3 else ethState s n) ∧ t1sState t n = (if t1sState s n = 1 then 3 else t1sState s n)) ∧
         RegsBut [CLK_STATUS, ETH_P_STATUS 0, ETH_P_STATUS 1, ETH_P_COUNT 0, ETH_P_COUNT 1, T1S_S_STATUS 0, T1S_S_STATUS 1] s t
       (xtal = 0 → Completes .xtalStartFail s fun t => Lost t 2) ∧ (xtal ≠ 0 → exec .xtalStartFail s = .next s) ∧
       (xtal = 1 → Completes .xtalFail s fun t => Lost t 1) ∧ (xtal ≠ 1 → exec .xtalFail s = .next s)) ∧
      (s.bit CLK_STATUS_pll0 = true → Completes .pll0Fail s fun t => t.bit CLK_STATUS_pll0 = false ∧ t.bit CLK_STATUS_s_pll0 = true ∧
        t.bit CLK_CORE_src = false ∧ t.bit CLK_STATUS_src = false ∧ Shown t 3 12 ∧ (s.pwr.phase = .doze → t.pwr.phase = .run) ∧
        (s.pwr.phase ≠ .doze → t.pwr = s.pwr)) ∧
      (s.bit CLK_STATUS_pll0 = false → exec .pll0Fail s = .next s) ∧
      (s.bit CLK_STATUS_pll1 = true → Completes .pll1Fail s fun t => t.bit CLK_STATUS_pll1 = false ∧ t.bit CLK_STATUS_s_pll1 = true ∧ Shown t 4 13 ∧
        RegsBut [CLK_STATUS] s t) ∧
      (s.bit CLK_STATUS_pll1 = false → exec .pll1Fail s = .next s) ∧
      (c.lpoBad = false → Completes .lpoFail s fun t => t.bit CLK_STATUS_lpo = false ∧ t.bit CLK_STATUS_s_lpo = true ∧ t.clk.lpoBad = true ∧ Shown t 5 14) ∧
      (c.lpoBad = true → exec .lpoFail s = .next s) ∧
      (c.fircBad = false → Completes .fircFail s fun t => t.bit CLK_STATUS_firc = false ∧ t.bit CLK_STATUS_s_firc = true ∧ t.clk.fircBad = true ∧
        (xtal = 1 → Shown t 7 15) ∧ (xtal ≠ 1 → t.evq = s.evq ∧ t.raiseQ = s.raiseQ)) ∧
      (c.fircBad = true → exec .fircFail s = .next s)) ∧
    (ctlReached s = true → xtal = 1 → Completes (.xtalsel 0 true) s fun t => t.bit CLK_STATUS_xsel = true ∧ (t.axis 1).qual = 0 ∧ t.get CLK_STATUS_cmdres = 0 ∧
      t.clk.switching = (c.switching || ! s.bit CLK_STATUS_xsel)) ∧
    (ctlReached s = true → exec (.xtalsel 0 false) s = .next (s.put CLK_STATUS_cmdres 2)) ∧
    (ctlReached s = true → xtal ≠ 1 → exec (.xtalsel 0 true) s = .next (s.put CLK_STATUS_cmdres 2)) ∧
    (exec .referenceSwitchDone s = .next { s with clk := { c with switching := false } }) ∧
    (ctlReached s = true → ∀ v : Word, Completes (.gateWrite 0 v) s fun t =>
      let g := t.rd CLK_GATE
      let refused (b : Nat) : Prop := b < 32 ∧ b ≠ 6 ∧ b ≠ 7 ∧ leafManaged s b = false ∧ gateWhy s g v b ≠ 0
      (∀ b, b < 32 → b ≠ 6 → b ≠ 7 → (leafManaged s b = true ∨ refused b → bitOf g b = bitOf (s.rd CLK_GATE) b) ∧
        (leafManaged s b = false → ¬ refused b → bitOf g b = bitOf v b)) ∧
      ((∀ b, ¬ refused b) → t.rd CLK_GATE_RESULT = 0) ∧
      (∀ b, refused b → (∀ k, k < b → ¬ refused k) → t.bit CLK_GATE_RESULT_refused = true ∧ t.get CLK_GATE_RESULT_bit = b ∧
        t.get CLK_GATE_RESULT_why = gateWhy s g v b) ∧
      OnlyRegs [CLK_GATE, CLK_GATE_RESULT] s t)

/-! ## Power states, resets and start-up (18_power_states_reset_startup.md) -/

namespace Sys2Proof.Machine

/-- A frame has gone to power die `d`, where a link carries frames and there is room for one (R17, R28). -/
def FrameTo (s t : State) (d : Nat) : Prop :=
  let x := s.dir d false
  (dieLinked s d = true → x.unacked.length < 8 → t.dir d false = { x with next := x.next + 1, unacked := x.unacked ++ [(x.next, .idle)] }) ∧
    (dieLinked s d = false ∨ 8 ≤ x.unacked.length → t.dir d false = x)

/-- A PWR command has finished with a code. -/
def PwrCode (s t : State) (code : Nat) : Prop := t.get PWR_CMD_RESULT_code = code ∧ t.bit PWR_CMD_RESULT_busy = false ∧
  t.get PWR_CMD_RESULT_seq = (s.get PWR_CMD_RESULT_seq + 1) % 256

/-- The handshake has ended without entry (R448). -/
def HsEnded (s t : State) (block reason : Nat) : Prop := t.bit PWR_STATUS_hs = false ∧ t.pwr.target = none ∧ t.pwr.phase = s.pwr.phase ∧
  t.get PWR_HS_block = block ∧ t.get PWR_HS_reason = reason ∧ PwrCode s t 2

end Sys2Proof.Machine

/-- PWR_CMD and the entry handshake (R445 to R449). Only context 0 commands, and while a command runs only ABORT is heard. DOZE and RUN move between Run and Doze with their
refusals; PARK and OFF start a handshake from Run or Doze unless the outfit forbids it or a block refuses; it commits where every block answers Ack, and
ends without entry on a refusal, which stands before every other cause (R448), on ABORT, or when a block is still at Delay after 50 ms. The commit to Park
sends a frame to each die, and the counts of the inputs start anew. It rests in part on the model's choices of log entry 55. -/
def Obligations.PowerCommandsAndHandshake : Prop :=
  ∀ s : State,
    let ph := s.pwr.phase
    let busy := s.bit PWR_CMD_RESULT_busy
    let hs := s.bit PWR_STATUS_hs
    let standing := s.pwr.target.bind (hsRefusal s)
    (ctlReached s = true → ∀ (w : CtxId) (k : Byte), ∀ i ∈ [Instr.doze w, .run w, .park w, .off w, .abort w, .softwareReset w k],
      (w ≠ 0 → exec i s = .next (s.violate w 3 (BitVec.ofNat 32 PWR_CMD.addr))) ∧
      (w = 0 → busy = true → i ≠ .abort w → exec i s = .next s)) ∧
    (ctlReached s = true → busy = false →
      (ph ≠ .run → Completes (.doze 0) s fun t => PwrCode s t 1 ∧ OnlyRegs [PWR_CMD_RESULT] s t) ∧
      (ph = .run → s.bit CLK_CORE_src = false → Completes (.doze 0) s fun t => PwrCode s t 5 ∧ OnlyRegs [PWR_CMD_RESULT] s t) ∧
      (ph = .run → s.bit CLK_CORE_src = true → forbidsDoze s = true → Completes (.doze 0) s fun t => PwrCode s t 3 ∧ OnlyRegs [PWR_CMD_RESULT] s t) ∧
      (ph = .run → s.bit CLK_CORE_src = true → forbidsDoze s = false → Completes (.doze 0) s fun t => PwrCode s t 0 ∧ t.pwr.phase = .doze ∧
        t.get PWR_STATUS_state = 1 ∧ t.get CLK_CORE_op = s.get CLK_CORE_op ∧
        (s.bit CLK_STATUS_opbusy = false → s.bit CLK_STATUS_src = false ∨ s.get CLK_STATUS_op ≠ 3 → t.bit CLK_STATUS_opbusy = true ∧ t.clk.target = 3)) ∧
      (ph ≠ .doze → Completes (.run 0) s fun t => PwrCode s t 1 ∧ OnlyRegs [PWR_CMD_RESULT] s t) ∧
      (ph = .doze → Completes (.run 0) s fun t => PwrCode s t 0 ∧ t.pwr.phase = .run ∧ t.get PWR_STATUS_state = 0 ∧
        (s.bit CLK_STATUS_opbusy = false → s.bit CLK_STATUS_src = true → s.get CLK_STATUS_op ≠ s.get CLK_CORE_op →
          t.bit CLK_STATUS_opbusy = true ∧ t.clk.target = s.get CLK_CORE_op)) ∧
      (∀ p ∈ [(true, Instr.park 0), (false, .off 0)],
        let forbidden := if p.1 then forbidsPark s else forbidsOff s
        let answers := hsRefusal { s with pwr := { s.pwr with expired := [] }, net := { s.net with nmg := { s.net.nmg with woke := false } } } p.1
        (ph ≠ .run → ph ≠ .doze → Completes p.2 s fun t => PwrCode s t 1 ∧ OnlyRegs [PWR_CMD_RESULT] s t) ∧
        (ph = .run ∨ ph = .doze → forbidden = true → Completes p.2 s fun t => PwrCode s t 3 ∧ OnlyRegs [PWR_CMD_RESULT] s t) ∧
        (ph = .run ∨ ph = .doze → forbidden = false → answers = none → Completes p.2 s fun t => t.bit PWR_STATUS_hs = true ∧
          t.bit PWR_CMD_RESULT_busy = true ∧ t.pwr = { s.pwr with target := some p.1, expired := [] } ∧ RegsBut [PWR_STATUS, PWR_CMD_RESULT] s t) ∧
        (∀ b r, ph = .run ∨ ph = .doze → forbidden = false → answers = some (b, r) → Completes p.2 s fun t => HsEnded s t b r)) ∧
      (Completes (.abort 0) s fun t => PwrCode s t 1 ∧ OnlyRegs [PWR_CMD_RESULT] s t) ∧
      (∀ k : Byte, k ≠ 0x5A → Completes (.softwareReset 0 k) s fun t => PwrCode s t 4 ∧ OnlyRegs [PWR_CMD_RESULT] s t)) ∧
    (ctlReached s = true → busy = true → hs = true → Completes (.abort 0) s fun t =>
      let e := standing.getD (0, 0xFE)
      HsEnded s t e.1 e.2) ∧
    (ctlReached s = true → busy = true → hs = false → exec (.abort 0) s = .next s) ∧
    (s.pwr.target = none → exec .handshakeCommit s = .next s) ∧
    (∀ park : Bool, s.pwr.target = some park →
      (∀ b r, hs = true → hsRefusal s park = some (b, r) → Completes .handshakeCommit s fun t => HsEnded s t b r) ∧
      (hsRefusal s park = none → hsDelays s ≠ [] → exec .handshakeCommit s = .next s) ∧
      (hsRefusal s park = none → hsDelays s = [] → Completes .handshakeCommit s fun t => t.bit PWR_STATUS_hs = false ∧ t.pwr.target = none ∧
        t.pwr.wake = false ∧ (park = true → t.pwr.phase = .parking ∧ t.get PWR_STATUS_state = 2 ∧ t.rd PWR_WAKEMASK = 0 ∧ t.cpu = s.cpu ∧
          (∀ d : Fin 2, FrameTo s t d) ∧ ∀ i : Fin 96, (t.din1 i).parkCnt = 0 ∧ (t.din1 i).count = 0 ∧ (t.din1 i).pulse = false) ∧
        (park = false → t.pwr.phase = .offing ∧ t.get PWR_STATUS_state = 3 ∧ ∀ u : Fin 12, (t.canc u).pend = []))) ∧
    (hs = false → s.pwr.target = none → exec .handshakeTimeout s = .next s ∧ ∀ b, exec (.delayRefuseExpire b) s = .next s) ∧
    (∀ park : Bool, hs = true → s.pwr.target = some park →
      (∀ b : Fin 16, b ≠ 1 → b ≠ 3 → b ≠ 5 → exec (.delayRefuseExpire b) s = .next s) ∧
      (∀ b : Fin 16, b = 1 ∨ b = 3 ∨ b = 5 →
        let s' := { s with pwr := { s.pwr with expired := b.val :: s.pwr.expired } }
        (hsRefusal s' park = none → exec (.delayRefuseExpire b) s = .next s') ∧
        (∀ c r, hsRefusal s' park = some (c, r) → Completes (.delayRefuseExpire b) s fun t => HsEnded s t c r)) ∧
      (let s' := { s with pwr := { s.pwr with expired := [1, 3, 5] ++ s.pwr.expired } }
       (∀ c r, hsRefusal s' park = some (c, r) → Completes .handshakeTimeout s fun t => HsEnded s t c r) ∧
       (hsRefusal s' park = none → hsDelays s' = [] → exec .handshakeTimeout s = .next s') ∧
       (∀ c l, hsRefusal s' park = none → hsDelays s' = c :: l → Completes .handshakeTimeout s fun t => HsEnded s t c 0xFF)))

/-- Park, wakes, Off and power failure (R54, R58, R407, R450 to R457). Park entry stops the clocks, drives the lands of R58 low and counts; the beat sends a frame to each die; an armed request is latched
with its code and A0, and the first one leaves Park on FIRC, at once where it was latched before the entry was complete; the raises latched meanwhile are
processed then (R480). IGN, a land of die A, shows its level, restarts the parked timer and asks for its wake. Entry to Off opens every
output of the dies that are on, and what the control die held is lost but for MRAM (R444),
unless a full test comes first; an armed source in Off is kept for the cold start. The power-fail warning ends a handshake, a refusal that stands first (R448), tells the ledger and raises its source; its end clears both. It rests in part on the model's choices of log entries 53 and 56. -/
def Obligations.ParkWakeAndOff : Prop :=
  ∀ s : State,
    let ph := s.pwr.phase
    (ph ≠ .parking → exec .parkEntry s = .next s) ∧
    (ph = .parking → s.pwr.wake = true → Completes .parkEntry s fun t => t.pwr.phase = .run ∧ t.pwr.wake = false ∧ t.get PWR_STATUS_state = 0 ∧
      t.get PWR_STATUS_parks = (s.get PWR_STATUS_parks + 1) % 65536 ∧ t.bit PWR_STATUS_pllwait = true ∧ t.get CLK_STATUS_xtal = 0) ∧
    (ph = .parking → s.pwr.wake = false → Completes .parkEntry s fun t => t.pwr.phase = .park ∧ t.get PWR_STATUS_parks = (s.get PWR_STATUS_parks + 1) % 65536 ∧
      t.get CLK_STATUS_xtal = 3 ∧ t.bit CLK_STATUS_pll0 = false ∧ t.bit CLK_STATUS_pll1 = false ∧ t.bit CLK_CORE_src = false ∧ ethState t 0 = 0 ∧
      ethState t 1 = 0 ∧ (∀ f ∈ t.net.ethQ, f ∈ s.net.ethQ ∧ f.port ≠ 0 ∧ f.port ≠ 1) ∧ t.cpu = s.cpu ∧ t.tln = { s.tln with pulseHigh := false } ∧ t.clk.pin = false ∧ t.pwr.alivePin = false ∧
      (∀ k : Fin 4, (t.st k).lat = false) ∧ t.wm = s.wm ∧ t.ldg = s.ldg ∧ t.psw = s.psw ∧ t.din = s.din ∧ t.lnk = s.lnk ∧
      RegsBut [PWR_STATUS, CLK_STATUS, CLK_CORE, ETH_P_STATUS 0, ETH_P_STATUS 1, ETH_P_COUNT 0, ETH_P_COUNT 1] s t) ∧
    (ph ≠ .park → exec .parkBeat s = .next s) ∧
    (ph = .park → Completes .parkBeat s fun t => t = { s with lnk := t.lnk } ∧ ∀ d : Fin 2, FrameTo s t d) ∧
    (∀ (code : Fin 16) (detail : BitVec 7) (same : Bool),
      let req := Instr.wakeRequest code detail same
      let armed := wakeArmed s code detail.toNat = true
      let taken : Prop := ph = .parking ∨ ph = .park
      let Recorded (t : State) : Prop := t.get PWR_WAKESRC_code = code ∧ t.get PWR_WAKESRC_detail = detail.toNat ∧
        (t.rd PWR_WAKETS_LO).toNat = (s.axis 0).pos % 2 ^ 32 ∧
        t.get PWR_WAKETS_HI_pos = (s.axis 0).pos / 2 ^ 32 % 65536 ∧ t.get PWR_WAKETS_HI_qual = (s.axis 0).qual % 4
      (¬ armed ∨ ¬ taken → exec req s = .next s) ∧
      (armed → taken → Completes req s fun t => bitOf (t.rd PWR_WAKEMASK) code = true ∧ t.pwr = { s.pwr with wake := true } ∧
        RegsBut [PWR_WAKEMASK, PWR_WAKESRC, PWR_WAKETS_LO, PWR_WAKETS_HI] s t ∧ (code = 4 → detail.toNat ∈ t.net.nmg.parkWake) ∧
        (s.pwr.wake = false → Recorded t ∧ t.bit PWR_WAKESRC_more = false) ∧
        (s.pwr.wake = true → same = false → t.rd PWR_WAKESRC = s.rd PWR_WAKESRC) ∧
        (s.pwr.wake = true → same = true → t.bit PWR_WAKESRC_more = true ∧ (code.val < s.get PWR_WAKESRC_code → Recorded t) ∧
          (s.get PWR_WAKESRC_code ≤ code → t.get PWR_WAKESRC_code = s.get PWR_WAKESRC_code)))) ∧
    (ph ≠ .park ∨ s.pwr.wake = false → exec .wake s = .next s) ∧
    (ph = .park → s.pwr.wake = true → Completes .wake s fun t => t.pwr.phase = .run ∧ t.pwr.wake = false ∧ t.get PWR_STATUS_state = 0 ∧
      t.bit PWR_STATUS_pllwait = true ∧ t.get PWR_WAKESRC_wakes = min 65535 (s.get PWR_WAKESRC_wakes + 1) ∧
      t.get CLK_STATUS_xtal = 0 ∧ t.bit CLK_STATUS_src = false ∧
      (s.net.nmg.parkWake = [] → s.mtr.failed = false → (∀ b : Fin 22, busState s b = 1 → busNeed s b = false) →
        (s.raiseQ = [] → PwrCode s t 0 ∧ t.raiseQ = [] ∧ t.wm = s.wm ∧ t.ldg = s.ldg) ∧
        (∀ r : Raise, s.raiseQ = [r] → r.src < 256 → srcReserved r.src = false → s.bit (FLT_SRC_raised r.src) = false → s.bit (FLT_SRC_wire r.src) = false →
          raiseClass s r.src r.wire = 0 → t.get (FLT_SRC_count r.src) = (s.count (FLT_SRC_count r.src)).get (FLT_SRC_count r.src) ∧ t.raiseQ = []))) ∧
    (let away : Prop := ph = .off ∨ ph = .offing
     let dieA := (s.die 0).on
     (dieA = false → exec .ignRise s = .next s ∧ exec .ignFall s = .next s) ∧
     (dieA = true → ¬ away → Completes .ignRise s fun t => t.bit PWR_STATUS_ign = true ∧ t.rd ACC_PARKED = 0 ∧ t.acc = { s.acc with parkedStored := 0 } ∧
       (ph = .park ∨ ph = .parking → s.bit PWR_CFG_ignrise = true → t.pwr.wake = true ∧ bitOf (t.rd PWR_WAKEMASK) 1 = true) ∧
       (ph ≠ .park → ph ≠ .parking → t.pwr = s.pwr)) ∧
     (dieA = true → away → Completes .ignRise s fun t => t.bit PWR_STATUS_ign = true ∧ t.rd ACC_PARKED = 0 ∧ t.acc = { s.acc with parkedStored := 0 } ∧
       t.pwr = { s.pwr with offWake := if s.bit PWR_CFG_offign then some (s.pwr.offWake.getD (1, 0)) else s.pwr.offWake }) ∧
     (dieA = true → Completes .ignFall s fun t => t.bit PWR_STATUS_ign = false ∧
       (ph = .park ∨ ph = .parking → s.bit PWR_CFG_ignfall = true → t.pwr.wake = true ∧ bitOf (t.rd PWR_WAKEMASK) 2 = true) ∧
       (s.bit PWR_CFG_ignfall = false → OnlyRegs [PWR_STATUS] s t)) ∧
     (¬ away ∨ dieA = false → ∀ i, exec (.offWake i) s = .next s) ∧
     (away → dieA = true → (s.bit PWR_CFG_offign = true → Completes (.offWake none) s fun t => t = { s with pwr := { s.pwr with offWake := some (s.pwr.offWake.getD (1, 0)) } }) ∧
       (s.bit PWR_CFG_offign = false → exec (.offWake none) s = .next s) ∧
       ∀ i : Fin 96,
         let ok := (s.die (dinDie i)).on && s.bit PWR_CFG_offin && s.bit (DIN_IN_CFG_wake i) && s.bit (DIN_IN_CFG_pol i)
         (ok = true → Completes (.offWake (some i)) s fun t => t = { s with pwr := { s.pwr with offWake := some (s.pwr.offWake.getD (3, i.val)) } }) ∧
         (ok = false → exec (.offWake (some i)) s = .next s))) ∧
    (ph ≠ .offing ∨ s.bist.running ≠ none → exec .offEntry s = .next s) ∧
    (ph = .offing → s.bist.running = none →
      (s.bit BIST_CFG_offtest = true → Completes .offEntry s fun t => t.bist.running = some (true, false) ∧ t.pwr.phase = .offing ∧
        t.pwr.alivePin = false ∧ (warnedFor s 600000 = false → t.evr.buf = []) ∧ t.psw = s.psw) ∧
      (s.bit BIST_CFG_offtest = false → Completes .offEntry s fun t => t.pwr.phase = .off ∧ t.pwr.alivePin = false ∧ t.evr.buf = [] ∧ t.wm = s.wm ∧
        t.cpu = { CpuSt.init with mram := t.cpu.mram, mramErr := t.cpu.mramErr } ∧ t.ldg.tickets = [] ∧ t.tln = TlnSt.init ∧ t.net = NetSt.init ∧
        (∀ c : Fin 104, (s.die (dieOf c)).on = true → (t.chan c).out = ⟨0, 0⟩) ∧
        (∀ k : Fin 48, (s.die (k / 24)).on = true → (t.sink k).mode = .off) ∧
        ∀ i : Fin 96, (s.die (dinDie i)).on = true → (t.din1 i).pulse = false)) ∧
    (s.bit PWR_STATUS_pfw = true ∨ ph = .off ∨ ph = .inReset → exec .powerFailWarning s = .next s) ∧
    (s.bit PWR_STATUS_pfw = false → ph ≠ .off → ph ≠ .inReset → s.bist.running ≠ some (true, false) → Completes .powerFailWarning s fun t =>
      t.bit PWR_STATUS_pfw = true ∧ t.ldg = { s.ldg with pfw := true } ∧ ⟨63, false, false, 0⟩ ∈ t.raiseQ ∧ t.psw = s.psw ∧
        (s.bit PWR_STATUS_hs = true → let e := (s.pwr.target.bind (hsRefusal s)).getD (0, 0xFD)
          HsEnded s t e.1 e.2)) ∧
    (exec .powerFailClear s = .next { s.putB PWR_STATUS_pfw false with ldg := { s.ldg with pfw := false } })

namespace Sys2Proof.Machine

/-- A reset has initialised the control die (R442, R459): `supply` for a cold or supply reset, `restart` where the crystal and the PLLs start again, `cold`
where the retained logic of the control die lost its supply. Die A keeps offign and offin; the power dies go on. A flush that ran may have written some of its
words (R490); A1 stays Free-run where the crystal runs and is not selected (R178), and a crystal that Park stopped starts again (R432). -/
def Cleared (s t : State) (supply restart cold : Bool) : Prop :=
  let xtal := s.get CLK_STATUS_xtal
  let free : Prop := restart = false ∧ (xtal = 1 ∨ xtal = 2) ∧ s.bit CLK_STATUS_xsel = false
  t.pending = s.pending ∧ t.pwr.alivePin = false ∧ t.bit FLT_STATUS_alive = false ∧
    (∀ r : Rg, ∀ p ∈ [(TSK_STATUS.addr, 0x10000), (TLN_STATUS.addr, 0x10000), (LDG_STATUS.addr, 0x10000), ((CAN_CTRL 0).addr, 0xC0000), ((LIN_CTRL 0).addr, 0x80000),
      (ETH_CFG.addr, 0x10000), ((T1S_S_CTRL 0).addr, 0x10000), (NMG_AWAKE.addr, 0x10000), (LCL_SPI.addr, 0x10000)],
      p.1 ≤ r.addr → r.addr < p.1 + p.2 → t.rd r = r.reset) ∧
    t.cpu = { CpuSt.init with mram := t.cpu.mram, mramErr := t.cpu.mramErr } ∧
    (s.ldg.writing = none → t.ldg.journal = s.ldg.journal ∧ (s.evr.flushing = false → t.cpu.mram = s.cpu.mram ∧ t.cpu.mramErr = s.cpu.mramErr)) ∧
    t.ldg.tickets = [] ∧ (¬ free → t.tln = TlnSt.init) ∧ (free → (t.axis 1).qual = 2 ∧ t.tln = { TlnSt.init with axes := t.tln.axes }) ∧
    t.net = NetSt.init ∧ t.can.ctl = [] ∧ t.can.msg = [] ∧ t.evq = [] ∧ t.raiseQ = [] ∧ t.lnk = LnkSt.init ∧
    t.led.stitch = [] ∧ t.led.fmem = [] ∧ t.led.fbad = [] ∧ t.led.sinks = s.led.sinks ∧ (∀ m : Fin 2, (t.mat m) = { s.mat m with copies := [] }) ∧
    t.psw = s.psw ∧ t.mtr = { s.mtr with req := none, ctr := t.mtr.ctr } ∧ s.mtr.ctr ≤ t.mtr.ctr ∧ t.mtr.ctr ≤ s.mtr.ctr + 1 ∧
    (s.mtr.req = none → t.mtr.ctr = s.mtr.ctr) ∧ t.acc.locked = s.acc.locked ∧ t.evr.buf = (if supply then [] else s.evr.buf) ∧
    (∀ k : Fin 8, t.rd (ACC_KEY_ID k) = s.rd (ACC_KEY_ID k) ∧ t.rd (ACC_KEY_CNT k) = s.rd (ACC_KEY_CNT k) ∧ t.bit (ACC_KEY_CTL_en k) = s.bit (ACC_KEY_CTL_en k)) ∧
    (∀ k, t.wm.marks.find k = if cold = true ∧ stageOnDie k = 2 then none else s.wm.marks.find k) ∧
    t.get FLT_STATUS_mode = (if s.get FLT_STATUS_mode = 2 ∧ supply = false then 2 else 0) ∧
    t.bit PWR_STATUS_ign = s.bit PWR_STATUS_ign ∧ t.bit PWR_CFG_offign = s.bit PWR_CFG_offign ∧ t.bit PWR_CFG_offin = s.bit PWR_CFG_offin ∧
    t.bit CLK_CORE_src = false ∧ t.bit CLK_STATUS_src = false ∧
    (if restart ∨ xtal = 3 then t.rd CLK_STATUS = 0 else t.get CLK_STATUS_xtal = xtal ∧ t.bit CLK_STATUS_pll0 = s.bit CLK_STATUS_pll0 ∧
      t.bit CLK_STATUS_pll1 = s.bit CLK_STATUS_pll1)

/-- The control die has been reset by a cause of R458 (R442, R458, R459): 0 cold, 1 supply, 2 RESET_N, 3 software, 4 clock loss, 5 activation. -/
def WasReset (s t : State) (cause : Nat) : Prop :=
  t.pwr.phase = .starting ∧ t.pwr.tested = false ∧ t.pwr.supply = decide (cause < 2) ∧
    (∀ b < 32, bitOf (t.rd PWR_RSTCAUSE) b = (decide (b = cause) || (decide (2 ≤ cause) && bitOf (s.rd PWR_RSTCAUSE) b))) ∧
    t.rd PWR_CYCLES = (if cause < 2 then s.rd PWR_CYCLES + 1 else s.rd PWR_CYCLES) ∧
    Cleared s t (decide (cause < 2)) (decide (cause < 2 ∨ cause = 4)) (decide (cause = 0))

end Sys2Proof.Machine

/-- Resets, the self-test and start-up (R439, R442, R456, R458 to R460, R504, R506, R508). Each reset comes under its own condition and initialises the control die as R459 says; a cold start records its
source. A supply below its limit and the loss of every clock initialise the die the same way and hold it in reset with ALIVE low. Start-up ends at once in Stop, waits for the test that the stored
verdict asks for, and else ends with context 0 of the active bank or with the recovery ROM. The first packet of context 0 starts ALIVE, but not in Safe or
Stop, and the trial timer of a bank on trial (R460, R474, R520). An activation reset waits for the SPI answer of its message (R515), and what was raised and queued before it goes first. A test ends with its verdict and the power-cycle count; a full one lists the uncorrectable words of MRAM too (R502). A shutdown
test stops on a wake request that has been latched (R503). It rests in part on the model's choices of log entries 50, 51, 56 and 82. -/
def Obligations.ResetsAndStartUp : Prop :=
  ∀ s : State,
    let ph := s.pwr.phase
    let Held (t : State) (supply lost : Bool) : Prop := t.pwr.phase = .inReset ∧ t.clk.lost = lost ∧ t.rd PWR_RSTCAUSE = s.rd PWR_RSTCAUSE ∧
      t.rd PWR_CYCLES = s.rd PWR_CYCLES ∧ Cleared s t supply supply false
    (ctlReached s = true → s.bit PWR_CMD_RESULT_busy = false → Completes (.softwareReset 0 0x5A) s fun t => WasReset s t 3) ∧
    (Completes .coldReset s fun t => WasReset s t 0 ∧ t.pwr.offWake = none ∧ t.get PWR_WAKESRC_code = (s.pwr.offWake.getD (0, 0)).1 % 16 ∧
      t.get PWR_WAKESRC_detail = (s.pwr.offWake.getD (0, 0)).2 % 128 ∧ t.rd PWR_WAKETS_LO = 0 ∧ t.rd PWR_WAKETS_HI = 0xC0000000 ∧ t.rd PWR_WAKEMASK = 0) ∧
    (ph = .inReset → s.clk.lost = false → Completes .supplyReset s fun t => WasReset s t 1) ∧
    (ph ≠ .inReset ∨ s.clk.lost = true → exec .supplyReset s = .next s) ∧
    (ph ≠ .off → ph ≠ .inReset → Completes .resetNAssert s fun t => WasReset s t 2) ∧
    (ph = .off ∨ ph = .inReset → exec .resetNAssert s = .next s) ∧
    (ph = .inReset → s.clk.lost = true → Completes .clockLossRelease s fun t => WasReset s t 4 ∧ t.clk.lost = false) ∧
    (ph ≠ .inReset ∨ s.clk.lost = false → exec .clockLossRelease s = .next s) ∧
    (let waits : Prop := s.upd.resetWaits = true ∧ spiUpdateWaits s = true
     let before := settleAll s.raiseQ.length s
     (s.upd.resetDue = true → ¬ waits → Completes .activationReset s fun t => WasReset (ethDrain before.net.ethQ.length before) t 5 ∧ t.upd.resetDue = false ∧
       (s.raiseQ = [] → s.net.ethQ = [] → WasReset s t 5)) ∧
     (s.upd.resetDue = false ∨ waits → exec .activationReset s = .next s)) ∧
    (ph ≠ .off → Completes .supplyResetAssert s fun t => Held t true false) ∧
    (ph = .off → exec .supplyResetAssert s = .next s) ∧
    (s.clk.fircBad = true → s.get CLK_STATUS_xtal ≠ 1 → clkRuns s = true → Completes .clockLoss s fun t => Held t false true) ∧
    (s.clk.fircBad = false ∨ s.get CLK_STATUS_xtal = 1 ∨ clkRuns s = false → exec .clockLoss s = .next s) ∧
    (∀ g0 g1 : Bool,
      let start := Instr.startUp g0 g1
      (ph ≠ .starting ∨ s.bist.running ≠ none → exec start s = .next s) ∧
      (ph = .starting → s.bist.running = none → s.pwr.tested = false → s.get FLT_STATUS_mode = 2 → Completes start s fun t => t.pwr.phase = .run ∧ t.cpu = s.cpu ∧
        t.upd = s.upd ∧ t.ldg = s.ldg) ∧
      (∀ full : Bool, ph = .starting → s.bist.running = none → s.pwr.tested = false → s.get FLT_STATUS_mode ≠ 2 → s.pwr.supply = true → testAtStart s = some full →
        Completes start s fun t => t.bist.running = some (full, true) ∧ t.pwr.phase = .starting ∧ t.pwr.tested = true ∧
          t.cpu = { s.cpu with mramErr := t.cpu.mramErr } ∧ t.rd BIST_PREV = s.rd BIST_VERDICT ∧ t.bist.applied = s.bist.repairs) ∧
      (ph = .starting → s.bist.running = none → s.pwr.tested = true → s.pwr.supply = false → s.bist.unfit = false →
        let ok := (loadImage (settingsDone (applyRepairs s)) fun b => if b = 0 then g0 else g1).2
        Completes start s fun t => t.pwr.phase = .run ∧ t.get PWR_STATUS_state = 0 ∧ t.bit LDG_STATUS_recovering = true ∧ t.upd.rom = ! ok ∧
          t.pwr.first = ok ∧ t.bist.applied = s.bist.repairs ∧ (ok = true → ((t.ctx 0).mode = .ready ∨ (t.ctx 0).mode = .resident) ∧ t.get (TSK_CTX_CFG_prio 0) = 15))) ∧
    (s.pwr.first = true → (s.ctx 0).packet = none → canIssue s 0 = true → ∀ (gd : Guard) (rd rs : GReg), Completes (.mov 0 .A gd rd rs) s fun t =>
      t.pwr = { s.pwr with first := false } ∧ t.bit FLT_STATUS_alive = (s.bit FLT_STATUS_alive || s.get FLT_STATUS_mode == 0) ∧
      (bankState s (activeBank s) = 3 → t.bit UPD_STATUS_trial = true ∧ t.upd = { s.upd with trialStarted := true, trialAt := (s.axis 1).pos }) ∧
      (bankState s (activeBank s) ≠ 3 → t.bit UPD_STATUS_trial = s.bit UPD_STATUS_trial ∧ t.upd = s.upd)) ∧
    (∀ (lf : BitVec 13) (fs : List MemFail),
      (s.bist.running = none → exec (.selfTestEnd lf fs) s = .next s) ∧
      (∀ full : Bool, s.bist.running = some (full, true) → ph ≠ .offing →
        let read := fs.filter fun f => if full then f.mem < 8 else f.mem < 3 || f.mem == 6
        let lost := if full then s.cpu.mramErr.filter fun e => e.2 == 2 else []
        Completes (.selfTestEnd lf fs) s fun t => t.bist.running = none ∧
          t.get BIST_VERDICT_kind = (if full then 2 else 1) ∧ t.bit BIST_VERDICT_origin = true ∧ t.get BIST_VERDICT_lfail = lf.toNat ∧
          t.get BIST_VERDICT_nfail = min 255 (read.length + lost.length) ∧ t.rd BIST_VCYCLES = s.rd PWR_CYCLES ∧ t.bit BIST_CFG_nextfull = false ∧
          (lf ≠ 0 → t.get BIST_VERDICT_result = 2) ∧ (lf = 0 → read = [] → lost = [] → t.get BIST_VERDICT_result = 0 ∧ t.bist.repairs = s.bist.repairs) ∧
          (lf = 0 → read ≠ [] → t.get BIST_VERDICT_result = 1 ∨ t.get BIST_VERDICT_result = 3) ∧ s.bist.repairs <+: t.bist.repairs) ∧
      (∀ full, s.bist.running = some (full, false) → ph = .offing → Completes (.selfTestEnd lf fs) s fun t => t.pwr.phase = .off ∧ t.bit BIST_VERDICT_origin = false ∧
        t.rd BIST_VCYCLES = s.rd PWR_CYCLES ∧ t.bit BIST_CFG_nextfull = s.bit BIST_CFG_nextfull)) ∧
    (s.bist.running ≠ some (true, false) ∨ s.pwr.offWake = none → exec .selfTestAbort s = .next s) ∧
    (s.bist.running = some (true, false) → s.pwr.offWake ≠ none → ph = .offing → Completes .selfTestAbort s fun t => t.bist.running = none ∧ t.get BIST_VERDICT_result = 4 ∧
      t.rd BIST_VCYCLES = s.rd PWR_CYCLES ∧ t.pwr.phase = .off)

/-! ## Signal box and monitors (19_signal_box.md) -/

/-- A source raises (R463, R464, R465, R468). A reserved source, and a source that is raised already, change nothing. A raise of class 0 is only
counted. A raise of class 1 with no record open opens the record of the next sequence number (1 after 0xFFFF_FFFF) in the slot of that number
modulo 32; with a record open it is merged: the merged count rises, saturating, the source's mask bit is set, and the record keeps its number. A
return to idle ends raised and wire. While the box has no clock a raise is latched (R480). It rests in part on the model's choices of log entry 12. -/
def Obligations.RaisesOpenOrJoinRecords : Prop :=
  ∀ (s : State) (src : Fin 256) (hold : Bool) (d : Word),
    (srcReserved src = true → exec (.sourceRaise src false hold d) s = .next s) ∧
    (srcReserved src = false → clkRuns s = false → exec (.sourceRaise src false hold d) s = .next { s with raiseQ := s.raiseQ ++ [⟨src.val, false, hold, d⟩] }) ∧
    (srcReserved src = false → clkRuns s = true → s.bit (FLT_SRC_wire src) = false → s.bit (FLT_SRC_raised src) = true →
      exec (.sourceRaise src false hold d) s = .next s) ∧
    (srcReserved src = false → clkRuns s = true → s.bit (FLT_SRC_wire src) = false → s.bit (FLT_SRC_raised src) = false →
      (s.get (FLT_SRC_class src) = 0 → exec (.sourceRaise src false hold d) s =
        .next (((s.count (FLT_SRC_count src)).putB (FLT_SRC_raised src) hold).putB (FLT_SRC_wire src) false)) ∧
      (s.get (FLT_SRC_class src) = 1 → s.bit FLT_STATUS_open = false → Completes (.sourceRaise src false hold d) s fun t =>
        let q := if s.get FLT_NEWEST_seq = 0xFFFFFFFF then 1 else s.get FLT_NEWEST_seq + 1
        t.get FLT_NEWEST_seq = q ∧ t.bit FLT_STATUS_open = true ∧ t.get FLT_STATUS_hcls = 1 ∧ t.rd (FLT_REC_W (q % 32) 0) = BitVec.ofNat 32 q ∧
          t.rd (FLT_REC_W (q % 32) 1) = BitVec.ofNat 32 (2 ^ 31 + 2 ^ 24 + 2 ^ 16 + src) ∧
          t.rd (FLT_REC_W (q % 32) (8 + src / 32)) = 1#32 <<< (src.val % 32) ∧ t.bit (FLT_SRC_raised src) = hold ∧ t.cpu.dmem = s.cpu.dmem) ∧
      (s.get (FLT_SRC_class src) = 1 → s.bit FLT_STATUS_open = true → Completes (.sourceRaise src false hold d) s fun t =>
        let k := s.get FLT_NEWEST_seq % 32
        t.get FLT_NEWEST_seq = s.get FLT_NEWEST_seq ∧ t.bit FLT_STATUS_open = true ∧
          getBits (t.rd (FLT_REC_W k 2)) 31 16 = min 65535 (getBits (s.rd (FLT_REC_W k 2)) 31 16 + 1) ∧
          t.rd (FLT_REC_W k (8 + src / 32)) = s.rd (FLT_REC_W k (8 + src / 32)) ||| 1#32 <<< (src.val % 32) ∧
          t.bit (FLT_SRC_raised src) = hold ∧ t = { s with regs := t.regs })) ∧
    (Completes (.sourceReturnToIdle src) s fun t => t.bit (FLT_SRC_raised src) = false ∧ t.bit (FLT_SRC_wire src) = false ∧
      t = { s with regs := t.regs, raiseQ := t.raiseQ, pwr := { s.pwr with rails := t.pwr.rails } } ∧ RegsBut [(FLT_SRC_raised src).r] s t ∧
        (∀ e ∈ t.pwr.rails, e.1 ≠ src.val) ∧ (∀ e ∈ s.pwr.rails, e.1 ≠ src.val → e ∈ t.pwr.rails))

/-- FLT_CMD by context 0 (R469, R473). CLOSE with a record open closes it; with none it ends with code 1. CLEARSAFE in Normal ends with
code 3; in Safe with a record open, SAFE_N low, a source raised at class 3 or higher or a wire fault it ends with code 2; else the mode is Normal
and ALIVE toggles. Autoclose closes an open record of class 0 or 1 where a time is set. -/
def Obligations.FltCommandsCloseAndClear : Prop :=
  ∀ s : State,
    (s.bit FLT_STATUS_open = true →
      (ctlReached s = true → Completes (.close 0) s fun t => t.bit FLT_STATUS_open = false ∧ t.get FLT_STATUS_hcls = 0 ∧ t.get FLT_CMD_RESULT_code = 0 ∧
        t.bit ⟨FLT_REC_W (s.get FLT_NEWEST_seq % 32) 1, 31, 31⟩ = false ∧ t.cpu.dmem = s.cpu.dmem ∧ t.psw = s.psw) ∧
      (clkRuns s = true → s.get FLT_STATUS_hcls ≤ 1 → s.get FLT_CFG_autoclose ≠ 0 → Completes .recordAutoclose s fun t =>
        t.bit FLT_STATUS_open = false ∧ t.get FLT_STATUS_hcls = 0 ∧ t.cpu.dmem = s.cpu.dmem ∧ t.psw = s.psw)) ∧
    (ctlReached s = true → s.bit FLT_STATUS_open = false → exec (.close 0) s = .next ((s.wrap FLT_CMD_RESULT_seq).put FLT_CMD_RESULT_code 1)) ∧
    (ctlReached s = true → s.get FLT_STATUS_mode = 0 → exec (.clearsafe 0) s = .next ((s.wrap FLT_CMD_RESULT_seq).put FLT_CMD_RESULT_code 3)) ∧
    (ctlReached s = true → s.get FLT_STATUS_mode = 1 → mayClearSafe s = true → exec (.clearsafe 0) s =
      .next ((((s.put FLT_STATUS_mode 0).putB FLT_STATUS_alive true).wrap FLT_CMD_RESULT_seq).put FLT_CMD_RESULT_code 0)) ∧
    (ctlReached s = true → s.get FLT_STATUS_mode = 1 → mayClearSafe s = false → exec (.clearsafe 0) s = .next ((s.wrap FLT_CMD_RESULT_seq).put FLT_CMD_RESULT_code 2)) ∧
    (mayClearSafe s = true ↔ s.bit FLT_STATUS_open = false ∧ s.bit FLT_STATUS_safen = false ∧
      ∀ k : Fin 256, s.bit (FLT_SRC_wire k) = false ∧ (s.bit (FLT_SRC_raised k) = true → min 4 (s.get (FLT_SRC_class k)) < 3))

/-- ALIVE, the watchdog, SAFE_N and the wires into the box (R30, R474, R475, R481). ALIVE changes level while it toggles and the box has its clock; the watchdog, where it
is enabled, raises source 3 once its window has run by A1, less the 1 % of FIRC (R474), and starts the window again, as key 0xA5 does; FLT_SWRAISE raises source 192 + index; SAFE_N low raises source 1
until it is high; a mismatch of the dispatcher raises source 2. It rests in part on the model's choices of log entries 12, 14 and 75. -/
def Obligations.AliveWatchdogAndSafeN : Prop :=
  ∀ s : State,
    (s.bit FLT_STATUS_alive = false ∨ clkRuns s = false → exec .aliveToggle s = .next s) ∧
    (s.bit FLT_STATUS_alive = true → clkRuns s = true → exec .aliveToggle s = .next (s.modPwr fun p => { p with alivePin := ! p.alivePin })) ∧
    (let elapsed : Prop := perRuns s = false ∨ s.pwr.kickAt + 495000 * max 1 (s.get FLT_ALIVE_win) ≤ a1Now s
     (clkRuns s = false ∨ s.bit FLT_ALIVE_kick = false ∨ ¬ elapsed → exec .watchdogExpire s = .next s) ∧
     (clkRuns s = true → s.bit FLT_ALIVE_kick = true → elapsed → exec .watchdogExpire s =
      .next { s with raiseQ := s.raiseQ ++ [⟨3, false, false, 0⟩], pwr := { s.pwr with kickAt := a1Now s } })) ∧
    (ctlReached s = true → exec (.aliveKick 0) s = .next (s.modPwr fun p => { p with kickAt := a1Now s })) ∧
    (ctlReached s = true → ∀ (w : CtxId) (i : Fin 64), s.blockOk w 3 = true → exec (.swraise w i) s = .next { s with raiseQ := s.raiseQ ++ [⟨192 + i.val, false, false, 0⟩] }) ∧
    (wakeable s = false → exec .safeNLow s =
      .next { s.putB FLT_STATUS_safen true with raiseQ := s.raiseQ ++ [⟨1, false, true, 0⟩] }) ∧
    (Completes .safeNHigh s fun t => t.bit FLT_STATUS_safen = false ∧ t.bit (FLT_SRC_raised 1) = false ∧
      t = { s with regs := t.regs, raiseQ := t.raiseQ, pwr := { s.pwr with rails := t.pwr.rails } } ∧ RegsBut [FLT_STATUS, (FLT_SRC_raised 1).r] s t) ∧
    exec .dispatcherMismatch s = .next { s with raiseQ := s.raiseQ ++ [⟨2, false, false, 0⟩] }

/-- The monitors (R477 to R479). A temperature above its threshold sets s_hi and raises its source, once; from 5 K below the threshold the source
is idle. A rail that has stayed outside its band, in 20 µV, for the time of R478 raises its source, VCORE not while the operating point changes. The eighth slow measurement of a process monitor
in a row raises its source. Each shows its reading. It rests in part on the model's choices of log entries 12 and 75. -/
def Obligations.MonitorsRaiseTheirSources : Prop :=
  (∀ (s : State) (t : Fin 14) (temp : BitVec 10), clkRuns s = true →
    (sgn 10 (s.get (MON_TEMP_hi t)) < temp.toInt → s.bit (FLT_SRC_raised (32 + t)) = false → exec (.tempSample t temp) s =
      .next { (s.put (MON_TEMP_temp t) temp.toNat).putB (MON_TEMP_s_hi t) true with raiseQ := s.raiseQ ++ [⟨32 + t.val, false, true, 0⟩] }) ∧
    (temp.toInt ≤ sgn 10 (s.get (MON_TEMP_hi t)) - 10 → Completes (.tempSample t temp) s fun u =>
      u.get (MON_TEMP_temp t) = temp.toNat ∧ u.bit (FLT_SRC_raised (32 + t)) = false)) ∧
  (∀ (s : State) (r : Fin 7) (v : BitVec 12) (below above : Bool), clkRuns s = true → ¬ (r = 2 ∧ s.bit CLK_STATUS_opbusy = true) →
    let core := if s.bit CLK_STATUS_src then [800, 720, 650, 600].getD (s.get CLK_STATUS_op) 600 else 720
    let band : Nat × Nat := [(210000, 280000), (210000, 280000), (core * 95 / 2, core * 54), (85500, 94500), (57000, 63000), (85500, 180000), (150000, 275000)].getD r (0, 0)
    let lo : Bool := decide (100 * v.toNat < band.1)
    let hi : Bool := decide (band.2 < 100 * v.toNat)
    Completes (.railFault r v below above) s fun u => u.get (MON_RAIL_v r) = v.toNat ∧ u.bit (MON_RAIL_under r) = lo ∧
      u.bit (MON_RAIL_over r) = hi ∧ ((lo && below || hi && above) = true → s.bit (FLT_SRC_raised (46 + r)) = false →
        u.raiseQ = s.raiseQ ++ [⟨46 + r.val, false, true, 0⟩]) ∧
      ((lo || hi) = false → u.bit (FLT_SRC_raised (46 + r)) = false)) ∧
  (∀ (s : State) (m : Fin 4) (f : BitVec 16), clkRuns s = true → Completes (.pmMeasure m f true) s fun u =>
    u.get (MON_PM_f m) = f.toNat ∧ u.bit (MON_PM_slow m) = true ∧ u.bit (MON_PM_s_slow m) = true ∧
      SMap.get 0 u.pwr.slow m = min 8 (SMap.get 0 s.pwr.slow m + 1) ∧
      (SMap.get 0 s.pwr.slow m = 7 → s.bit (FLT_SRC_raised (53 + m)) = false → u.raiseQ = s.raiseQ ++ [⟨53 + m.val, false, true, 0⟩]))

/-! ## Event recorder (20_event_recorder.md) -/

/-- The event recorder (R482, R484, R486 to R489, R492, R495, R498, R499). A context without the block bit may not post, and no context but 0 commands.
A post of a code below 0x80 ends with result 3. A post that finds the current page open and room in it and in the buffer enters one record: its length, code,
sequence number, offset and padded payload, with zeros for data outside the windows, and result 1. With the buffer full it is refused with result 2 and
counted, and the first refusal raises source 147. A flush starts where anything is unflushed, and when it is done the bytes stand in the ring after each
other, and a charged one has drawn them from the budget, in 1/31,250,000 of a byte; none is done in Park or later than 1.2 ms after the power-fail warning
(R450, R491). Setting the calendar starts a page with its anchor. The scan ends with the newest anchor, a page after it, and the start-up record; what it reads of MRAM it corrects where it can. It rests in part on the model's choices of log entry 46. -/
def Obligations.RecorderRecordsAndFlushes : Prop :=
  ∀ s : State,
    let e := s.evr
    (ctlReached s = true → ∀ (w : CtxId) (code len : Byte),
      let post := Instr.post w code len
      let at_ := (s.rd (own w EVR_PADDR)).toNat / 4 * 4
      let n := min 244 len.toNat
      let open_ (d : List Byte) : Prop := ∃ p q, e.page = some p ∧ e.seq = some q ∧ e.fresh = false ∧ e.lost = 0 ∧ e.scanning = false ∧ offsetMs s < 2 ^ 32 ∧
        e.off + 8 + (postPay w d).length ≤ 4096 ∧ unflushed s + 8 + (postPay w d).length ≤ 65536
      let Entered (d : List Byte) (t : State) : Prop := ∀ p q, e.page = some p → e.seq = some q →
        t.evr.buf = e.buf ++ [⟨p, e.off, q + 1, recBytes code.toNat (q + 1) (offsetMs s) (postPay w d)⟩] ∧ t.evr.seq = some (q + 1) ∧
        t.evr.off = e.off + 8 + (postPay w d).length ∧ t.rd EVR_NEWEST = q + 1 ∧ t.rd (own w EVR_PRES) = BitVec.ofNat 32 (1 * 2 ^ 30) ∧
        t.rd (own w EVR_PSEQ) = q + 1 ∧ t.cpu.dmem = s.cpu.dmem ∧ t.cpu.mram = s.cpu.mram
      (s.blockOk w 7 = false → exec post s = .next (s.violate w 3 (BitVec.ofNat 32 EVR_POST.addr))) ∧
      (s.blockOk w 7 = true → code < 0x80 → exec post s = .next (s.wr (own w EVR_PRES) (BitVec.ofNat 32 (3 * 2 ^ 30)))) ∧
      (s.blockOk w 7 = true → 0x80 ≤ code →
        (at_ + n ≤ dSize → s.covered w at_ n false = true → n ≠ 0 → open_ (s.dBytes at_ n) → Completes post s fun t => Entered (s.dBytes at_ n) t ∧
          RegsBut [EVR_NEWEST, own w EVR_PRES, own w EVR_PSEQ] s t) ∧
        (dSize ≤ at_ → n ≠ 0 → open_ (List.replicate n 0) → Completes post s fun t => Entered (List.replicate n 0) t ∧
          t.get (TSK_CTX_VIOL_count w) = min 0xFFFF (s.get (TSK_CTX_VIOL_count w) + 1)) ∧
        (at_ + n ≤ dSize → s.covered w at_ n false = true → 65536 ≤ unflushed s → e.scanning = false → Completes post s fun t =>
          t.evr = { e with lost := e.lost + 1 } ∧ t.rd (own w EVR_PRES) = BitVec.ofNat 32 (2 * 2 ^ 30) ∧
          t.get EVR_LOST_count = min 0xFFFF (s.get EVR_LOST_count + 1) ∧ RegsBut [EVR_LOST, own w EVR_PRES] s t ∧
          t.raiseQ = s.raiseQ ++ (if e.lost = 0 then [⟨147, false, false, 0⟩] else [])))) ∧
    (ctlReached s = true → ∀ w : CtxId,
      (w ≠ 0 → exec (.flush w) s = .next (s.violate w 3 (BitVec.ofNat 32 EVR_CMD.addr)) ∧
        ∀ hi, exec (.calendarSet w hi) s = .next (s.violate w 3 (BitVec.ofNat 32 EVR_CAL_HI.addr)))) ∧
    (ctlReached s = true → e.buf = [] → exec (.flush 0) s = .next s) ∧
    (ctlReached s = true → e.buf ≠ [] → exec (.flush 0) s = .next { s with evr := { e with flushing := true, charged := ! e.flushing || e.charged } }) ∧
    (e.flushing = false ∨ ctlReached s = false ∨ warnedFor s 600000 = true → exec .flushDone s = .next s) ∧
    (e.flushing = true → ctlReached s = true → warnedFor s 600000 = false → Completes .flushDone s fun t =>
      t.evr = { e with buf := [], flushing := false, charged := false, budget := t.evr.budget, budgetAt := a1Now s } ∧
      t.evr.budget = min (65536 * 31250000) (e.budget + 65536 * (a1Now s - e.budgetAt)) - (if e.charged = true then 31250000 * unflushed s else 0) ∧
      (∀ r, e.buf = [r] → r.off + r.bytes.length ≤ 4096 → t.mBytes (ringAt r.page + r.off) r.bytes.length = r.bytes ∧ t.rd EVR_FLUSHED = r.seq ∧
        (r.off + r.bytes.length + 8 ≤ 4096 → t.mByte (ringAt r.page + r.off + r.bytes.length) = 0) ∧
        ∀ a, a < ringAt r.page + r.off ∨ ringAt r.page + r.off + r.bytes.length + 8 ≤ a → t.mByte a = s.mByte a) ∧
      t.cpu.dmem = s.cpu.dmem ∧ RegsBut [EVR_FLUSHED] s t) ∧
    (ctlReached s = true → ∀ hi : BitVec 16, Completes (.calendarSet 0 hi) s fun t =>
      t.evr.cal = some (hi.toNat * 2 ^ 32 + (s.rd EVR_CAL_LO).toNat, a1Now s) ∧
      (e.scanning = true → t.evr = { e with cal := t.evr.cal } ∧ t.regs = s.regs) ∧
      (e.scanning = false → unflushed s ≤ 65496 → t.evr.page = some (nextPage s) ∧ t.evr.off = 40 ∧ t.rd EVR_PAGE = BitVec.ofNat 32 (nextPage s) ∧
        t.evr.seq = some (nextSeq s) ∧ t.rd EVR_NEWEST = nextSeq s ∧ t.evr.buf.length = e.buf.length + 1 ∧
        (∀ r, t.evr.buf.getLast? = some r → r.page = nextPage s ∧ r.off = 0 ∧ r.seq = nextSeq s ∧
          r.bytes.take 16 = [5, 1] ++ leBytes 2 ((nextSeq s).toNat % 65536) ++ leBytes 4 0 ++ leBytes 4 (nextPage s) ++ leBytes 4 (nextSeq s).toNat))) ∧
    (s.pwr.phase = .off → exec .opsecSave s = .next s) ∧
    (s.pwr.phase ≠ .off → exec .opsecSave s = .next { s with evr := { e with opSaved := opSeconds s } }) ∧
    (e.scanning = false → exec .recorderScanEnd s = .next s) ∧
    (e.scanning = true → e.buf = [] → e.waiting = [] → e.lost = 0 → Completes .recorderScanEnd s fun t => t.evr.scanning = false ∧
      t.evr.buf.length = 2 ∧ t.evr.off = 64 ∧ t.evr.page = some (match newestPage s with | some n => (n + 1) % pageCount | none => 0) ∧
      t.cpu = { s.cpu with mramErr := t.cpu.mramErr } ∧ (s.cpu.mramErr = [] → t.cpu = s.cpu) ∧ (∀ e ∈ t.cpu.mramErr, e ∈ s.cpu.mramErr) ∧
      ∀ r, t.evr.buf.getLast? = some r → r.off = 40 ∧ r.bytes.take 2 = [3, 5])

/-! ## Firmware update and recovery (22_firmware_update.md) -/

namespace Sys2Proof.Machine

/-- A frame of an update message passes the tests of R236 for session `k`, whose counter is within its recorded block, and the session may send it
(R515), or the recovery ROM runs. -/
def Heard (s : State) (h : ZHdr) (k : Nat) : Prop :=
  ctlReached s = true ∧ s.bit LDG_CTRL_en = true ∧ linkServes s h.link = true ∧ sessionOf s h = some k ∧ h.ver = 1 ∧ h.lenOk = true ∧ h.ctr.msb = false ∧
    h.tagOk = true ∧ sessionsReady s = true ∧ ctrFresh (s.sess k) h.ctr.toNat = true ∧ s.bit LDG_STATUS_scanning = false ∧
    (s.sess k).send / 2 ^ 24 = (s.sess k).blk ∧ (s.upd.rom = true ∨ (s.get UPD_CFG_zlp).testBit k = true)

/-- The body of a BEGIN (R515): kind, a byte, number of blocks. -/
def beginBody (kind z : Byte) (n : BitVec 16) : List Byte := [kind, z] ++ beBytes 2 n.toNat
/-- The body of a DATA (R514): block, offset, length, two bytes, the bytes. -/
def dataBody (blk off z : BitVec 16) (d : List Byte) : List Byte :=
  beBytes 2 blk.toNat ++ beBytes 2 off.toNat ++ beBytes 2 d.length ++ beBytes 2 z.toNat ++ d

/-- An update message was answered (R515) with a code and a detail, and with the bank states that `u` shows. -/
def UpdAns (s t u : State) (h : ZHdr) (k type code : Nat) (detail : Word) : Prop :=
  Answered s t h k (.update type code (bankState u (stagingBank u)) (activeBank u) (u.get UPD_STATUS_fail) detail)

/-- Session `k` can send: the counter is within its recorded block (R236). -/
def CanAnswer (s : State) (k : Nat) : Prop := (s.sess k).send / 2 ^ 24 = (s.sess k).blk

/-- An update message that waited at place `i` was answered (R373, R515). -/
def LateAns (s t u : State) (h : ZHdr) (k i type code : Nat) (detail : Word) : Prop :=
  let b : ZBody := .update type code (bankState u (stagingBank u)) (activeBank u) (u.get UPD_STATUS_fail) detail
  if h.link = .spi then Answered s t h k b
  else (t.sess k).send = (s.sess k).send + 1 ∧ t.ldg.spiQ = s.ldg.spiQ ∧ PlaceFilled s t h.src i (ansOf s h k b)

/-- A command of context 0 has ended (UPD_CMD_RESULT). -/
def UpdCode (s t : State) (code : Nat) : Prop := t.bit UPD_CMD_RESULT_busy = false ∧ t.get UPD_CMD_RESULT_code = code ∧
  t.get UPD_CMD_RESULT_seq = (s.get UPD_CMD_RESULT_seq + 1) % 256

end Sys2Proof.Machine

/-- Staging and checking (R512 to R516, R518, R527). A message whose body has not its form is answered with code 3, and one of a session without its bit
with code 11, either with the detail of its message. BEGIN makes the bank that is not active Staging with an empty bitmap, and is refused while a command runs, while a bank is Trial or
Fallback, or where it is malformed. DATA enters its bytes where the bank is Staging. STATUS answers with the first missing block. CHECK starts where every
block has been received, and ends with the first failure of R516 or with the bank Valid. UPD_CMD is for context 0 alone, ignored while it is busy, and its BEGIN,
WRITE and CHECK do the same; a block write enters the whole block when it completes. It rests in part on the model's choices of log entry 47. -/
def Obligations.UpdateStagingAndChecks : Prop :=
  ∀ s : State,
    let b := stagingBank s
    let busy : Prop := s.upd.job.isSome = true
    let first : Word := match missing s with
      | x :: _ => if bankState s b = 1 then BitVec.ofNat 32 x else 0xFFFFFFFF
      | [] => 0xFFFFFFFF
    let detail (type : Nat) (body : List Byte) : Word := if type = 0x31 then BitVec.ofNat 32 (missing s).length else if type = 0x33 then first
      else if type = 0x35 then BitVec.ofNat 32 (beField body 0 1) else 0
    let trial : Prop := bankState s 0 = 3 ∨ bankState s 1 = 3 ∨ bankState s 0 = 5 ∨ bankState s 1 = 5
    let Kept (t : State) : Prop := t.upd = s.upd ∧ t.cpu = s.cpu ∧ t.regs = s.regs
    let Begun (t : State) (kind n : Nat) : Prop := bankState t b = 1 ∧ activeBank t = activeBank s ∧ bankState t (activeBank s) = bankState s (activeBank s) ∧
      bankOf t b = Bank.init ∧ bankOf t (activeBank s) = bankOf s (activeBank s) ∧ t.upd.kind = kind ∧ t.upd.bytes = [] ∧ t.upd.units = [] ∧
      t.get UPD_STAGE_total = n ∧ t.get UPD_STAGE_have = 0 ∧ t.cpu = s.cpu ∧ RegsBut [UPD_STATUS, UPD_STAGE, UPD_CMD_RESULT] s t
    let Entered (t : State) (blk off : Nat) (d : List Byte) : Prop :=
      (∀ j, j < d.length → SMap.get 0 t.upd.bytes (4096 * blk + off + j) = d.getD j 0) ∧
      (∀ a, a < 4096 * blk + off ∨ 4096 * blk + off + d.length ≤ a → SMap.get 0 t.upd.bytes a = SMap.get 0 s.upd.bytes a) ∧
      (∀ u, SMap.get false t.upd.units u = (decide (256 * blk + off / 16 ≤ u ∧ u < 256 * blk + off / 16 + d.length / 16) || SMap.get false s.upd.units u)) ∧
      t.get UPD_STAGE_have = (blocksTotal s - (missing t).length) % 1024 ∧ t.cpu = s.cpu ∧ RegsBut [UPD_STAGE, UPD_CMD_RESULT] s t
    (∀ (h : ZHdr) (k type : Nat) (body : List Byte) (i : Instr), Served s h k → (s.get UPD_CFG_zlp).testBit k = false → 0x30 ≤ type → Brings i h type body →
      Completes i s fun t => UpdAns s t s h k type 11 (detail type body) ∧ Kept t) ∧
    (∀ (h : ZHdr) (k : Nat), Heard s h k →
      (∀ (body : List Byte),
        let Malformed (type : Nat) : Prop := ∀ i, Brings i h type body → Completes i s fun t => UpdAns s t s h k type 3 (detail type body) ∧ Kept t
        (body.length ≠ 4 → Malformed 0x30) ∧
        (body.length < 8 ∨ body.length ≠ 8 + beField body 4 2 → Malformed 0x31) ∧
        (body ≠ [] → Malformed 0x32 ∧ Malformed 0x33 ∧ Malformed 0x34 ∧ Malformed 0x36) ∧
        (keysetSized body = false → Malformed 0x35)) ∧
      (∀ (kind z : Byte) (n : BitVec 16) (msg : Instr), Brings msg h 0x30 (beginBody kind z n) →
        (busy → Completes msg s fun t => UpdAns s t s h k 0x30 2 0 ∧ Kept t) ∧
        (¬ busy → trial → Completes msg s fun t => UpdAns s t s h k 0x30 1 0 ∧ Kept t) ∧
        (¬ busy → ¬ trial → (kind ≠ 1 ∧ kind ≠ 2) ∨ n = 0 ∨ 1023 < n.toNat → Completes msg s fun t => UpdAns s t s h k 0x30 3 0 ∧ Kept t) ∧
        (¬ busy → ¬ trial → kind = 1 ∨ kind = 2 → n ≠ 0 → n.toNat ≤ 1023 → Completes msg s fun t =>
          UpdAns s t t h k 0x30 0 0 ∧ Begun t kind.toNat n.toNat)) ∧
      (∀ (blk off z : BitVec 16) (d : List Byte) (msg : Instr), d.length < 65536 → Brings msg h 0x31 (dataBody blk off z d) →
        let m := d.length
        let form : Prop := off.toNat % 16 = 0 ∧ m % 16 = 0 ∧ 16 ≤ m ∧ m ≤ 1008 ∧ off.toNat + m ≤ 4096 ∧ blk.toNat < blocksTotal s
        let left := BitVec.ofNat 32 (missing s).length
        (busy → Completes msg s fun t => UpdAns s t s h k 0x31 2 left ∧ Kept t) ∧
        (¬ busy → bankState s b ≠ 1 → Completes msg s fun t => UpdAns s t s h k 0x31 1 left ∧ Kept t) ∧
        (¬ busy → bankState s b = 1 → ¬ form → Completes msg s fun t => UpdAns s t s h k 0x31 3 left ∧ Kept t) ∧
        (¬ busy → bankState s b = 1 → form → Completes msg s fun t =>
          UpdAns s t t h k 0x31 0 (BitVec.ofNat 32 (missing t).length) ∧ Entered t blk.toNat off.toNat d)) ∧
      (busy → Completes (.check h []) s fun t => UpdAns s t s h k 0x32 2 0 ∧ Kept t) ∧
      (¬ busy → bankState s b ≠ 1 ∨ missing s ≠ [] → Completes (.check h []) s fun t => UpdAns s t s h k 0x32 1 0 ∧ Kept t) ∧
      (¬ busy → bankState s b = 1 → missing s = [] → Completes (.check h []) s fun t =>
        t.upd = { s.upd with job := some (.check (some (⟨h.link, h.src, k⟩, s.ldg.reqId))) } ∧ t.ldg.sent = s.ldg.sent ∧ t.ldg.spiQ = s.ldg.spiQ ∧
          t.regs = s.regs ∧ PlaceTaken s t h) ∧
      (∀ x xs, bankState s b = 1 → missing s = x :: xs → Completes (.status h []) s fun t => UpdAns s t s h k 0x33 0 (BitVec.ofNat 32 x) ∧ Kept t) ∧
      (bankState s b ≠ 1 ∨ missing s = [] → Completes (.status h []) s fun t => UpdAns s t s h k 0x33 0 0xFFFFFFFF ∧ Kept t)) ∧
    (∀ (w : CtxId) (kind : Fin 4) (n : BitVec 10), ∀ i ∈ [Instr.updBegin w kind n, .updWrite w n, .updCheck w, .updActivate w, .confirm w, .saverec w],
      (ctlReached s = false → exec i s = .next s) ∧ (ctlReached s = true → w ≠ 0 → exec i s = .next (s.violate w 3 (BitVec.ofNat 32 UPD_CMD.addr))) ∧
        (w = 0 → s.bit UPD_CMD_RESULT_busy = true → exec i s = .next s)) ∧
    (ctlReached s = true → s.bit UPD_CMD_RESULT_busy = false →
      (busy → ∀ (kind : Fin 4) (n : BitVec 10), ∀ i ∈ [Instr.updBegin 0 kind n, .updWrite 0 n, .updCheck 0, .confirm 0, .saverec 0],
        Completes i s fun t => UpdCode s t 2 ∧ OnlyRegs [UPD_CMD_RESULT] s t) ∧
      (¬ busy → ∀ (kind : Fin 4) (n : BitVec 10),
        (trial → Completes (.updBegin 0 kind n) s fun t => UpdCode s t 1 ∧ OnlyRegs [UPD_CMD_RESULT] s t) ∧
        (¬ trial → kind = 0 ∨ kind = 3 ∨ n = 0 → Completes (.updBegin 0 kind n) s fun t => UpdCode s t 3 ∧ OnlyRegs [UPD_CMD_RESULT] s t) ∧
        (¬ trial → kind = 1 ∨ kind = 2 → n ≠ 0 → Completes (.updBegin 0 kind n) s fun t => UpdCode s t 0 ∧ Begun t kind n.toNat) ∧
        (bankState s b ≠ 1 → Completes (.updWrite 0 n) s fun t => UpdCode s t 1 ∧ OnlyRegs [UPD_CMD_RESULT] s t) ∧
        (bankState s b = 1 → blocksTotal s ≤ n.toNat → Completes (.updWrite 0 n) s fun t => UpdCode s t 3 ∧ OnlyRegs [UPD_CMD_RESULT] s t) ∧
        (bankState s b = 1 → n.toNat < blocksTotal s → Completes (.updWrite 0 n) s fun t => t.bit UPD_CMD_RESULT_busy = true ∧
          RegsBut [UPD_CMD_RESULT] s t ∧ t.cpu = s.cpu ∧ ∃ d, t.upd = { s.upd with job := some (.write n.toNat d) } ∧ d.length = 4096 ∧
            ∀ j, (s.rd UPD_ARG).toNat / 4 * 4 + 4096 ≤ dSize → j < 4096 → d.getD j 0 = s.dByte ((s.rd UPD_ARG).toNat / 4 * 4 + j)) ∧
        (bankState s b ≠ 1 ∨ missing s ≠ [] → Completes (.updCheck 0) s fun t => UpdCode s t 1 ∧ OnlyRegs [UPD_CMD_RESULT] s t) ∧
        (bankState s b = 1 → missing s = [] → exec (.updCheck 0) s =
          .next (({ s with upd := { s.upd with job := some (.check none) } }).putB UPD_CMD_RESULT_busy true)))) ∧
    ((∀ blk d, s.upd.job ≠ some (.write blk d)) → exec .blockWriteDone s = .next s) ∧
    (∀ blk d, s.upd.job = some (.write blk d) → Completes .blockWriteDone s fun t => UpdCode s t 0 ∧ t.upd.job = none ∧ Entered t blk 0 d) ∧
    ∀ (hdr sig : Bool) (bad : Option (Fin 1024)) (dig copied : Bool) (segs : List Seg),
      let done := Instr.checkDone hdr sig bad dig copied segs
      let good : Prop := hdr = true ∧ headersOk s.upd.kind (blocksTotal s) segs = true
      let roll : Prop := ∀ g ∈ segs, s.get (UPD_ROLL_version g.tenant) ≤ g.version
      let Fails (code : Nat) (detail : Word) : Prop :=
        (s.upd.job = some (.check none) → Completes done s fun t => UpdCode s t code ∧ t.upd = { s.upd with job := none } ∧ RegsBut [UPD_CMD_RESULT] s t) ∧
        (∀ (h : ZHdr) (k i : Nat), s.upd.job = some (.check (some (⟨h.link, h.src, k⟩, i))) → CanAnswer s k → Completes done s fun t =>
          LateAns s t s h k i 0x32 code detail ∧ t.upd = { s.upd with job := none } ∧ RegsBut [ETH_P_COUNT h.link.port] s t ∧
            (h.link = .spi ∨ (∃ g ∈ s.net.ethQ, g.msg = .later i) → t.regs = s.regs))
      let Passes (l : List Seg) (P : State → Prop) : Prop :=
        let V (t : State) : Prop := bankState t b = 2 ∧ activeBank t = activeBank s ∧ (bankOf t b).segs = l ∧ (bankOf t b).kind = s.upd.kind ∧ t.upd.job = none ∧
          bankOf t (activeBank s) = bankOf s (activeBank s) ∧ t.cpu.dmem = s.cpu.dmem ∧ P t
        (s.upd.job = some (.check none) → Completes done s fun t => UpdCode s t 0 ∧ V t) ∧
        (∀ (h : ZHdr) (k i : Nat), s.upd.job = some (.check (some (⟨h.link, h.src, k⟩, i))) → CanAnswer s k → Completes done s fun t =>
          LateAns s t t h k i 0x32 0 0 ∧ V t)
      ((∀ r, s.upd.job ≠ some (.check r)) → exec done s = .next s) ∧
      (¬ good → Fails 3 0) ∧
      (good → sig = false → Fails 4 0) ∧
      (∀ x, good → sig = true → bad = some x → Fails 6 (BitVec.ofNat 32 x)) ∧
      (good → sig = true → bad = none → dig = false → Fails 5 0) ∧
      (good → sig = true → bad = none → dig = true → ¬ roll → Fails 7 0) ∧
      (good → sig = true → bad = none → dig = true → roll → layoutOk segs = false → Fails 8 0) ∧
      (good → sig = true → bad = none → dig = true → roll → layoutOk segs = true →
        (s.upd.kind = 1 → (∀ e ∈ s.upd.bytes, e.1 < 4096 * blocksTotal s) → Passes segs fun t =>
          ∀ a, a < 0x400000 * b ∨ 0x400000 * (b + 1) ≤ a → t.mByte a = s.mByte a) ∧
        (s.upd.kind ≠ 1 → bankIn s 4 = none → Fails 1 0) ∧
        (∀ g c, s.upd.kind ≠ 1 → segs = [g] → bankIn s 4 = some c →
          let all := g :: (bankOf s c).segs.filter fun x => x.tenant ≠ g.tenant
          let lost := copied || bankLost s c (bankOf s c).segs
          (lost = true → Fails 6 0) ∧ (lost = false → layoutOk all = false → Fails 8 0) ∧
          (lost = false → layoutOk all = true → Passes all fun _ => True)))

/-- Activation, trial, keys and settings (R520 to R526). ACTIVATE is refused in the order of R520; a device package makes the staging bank Trial and active
and the other Fallback, with an activation reset due, and a tenant package loads beside the running tenant, whose contexts then restart at their new
entries with the trial running; an uncorrectable word of the segment fails the load and makes the bank Invalid (R519). The reset that a message causes waits for its
answer at the SPI host port (R515). A trial that expires makes the Trial bank Invalid and the Fallback bank Confirmed and active, and counts the failure. CONFIRM confirms the Trial
bank, retires the other and raises the rollback versions. KEYSET installs a key that R524 admits. REVERT is for the recovery ROM. SAVEREC saves what the
recovery record holds. A settings write is all or nothing, in the tenant's own half. It rests in part on the model's choices of log entries 7, 48, 49 and 82. -/
def Obligations.ActivationKeysAndSettings : Prop :=
  ∀ s : State,
    let b := stagingBank s
    let a := activeBank s
    let x := bankOf s b
    let busy : Prop := s.upd.job.isSome = true
    let device : Prop := x.kind = 1 ∨ s.upd.rom = true
    let wrong : Prop := bankState s b ≠ 2 ∨ s.bit PWR_STATUS_hs = true ∨ s.get FLT_STATUS_mode ≠ 0
    let short : Prop := ∃ d, d < 2 ∧ max 50 (min 1000 (s.get (PSW_DIE_CFG_hold d))) < 160
    let sameSet (g : Seg) : Prop := ∀ c, (∃ o, (c, o) ∈ g.table) ↔ c ∈ s.liveCtxs ∧ s.tenant c = g.tenant
    let meets (g : Seg) : Prop := ∃ c ∈ s.liveCtxs, c ≠ 0 ∧ s.get (TSK_CTX_CODEWIN_base c) ≤ s.get (TSK_CTX_CODEWIN_limit c) ∧ g.load < 32 * (s.get (TSK_CTX_CODEWIN_limit c) + 1) ∧
      32 * s.get (TSK_CTX_CODEWIN_base c) < g.load + 2048 * g.blocks
    let Kept (t : State) : Prop := t.upd = s.upd ∧ t.cpu = s.cpu ∧ t.regs = s.regs
    let late (h : ZHdr) (due : Bool) : Bool := s.upd.resetWaits || (due && decide (h.link = .spi))
    let KeptFor (h : ZHdr) (t : State) : Prop := t.upd = { s.upd with resetWaits := late h s.upd.resetDue } ∧ t.cpu = s.cpu ∧ t.regs = s.regs
    let Switched (t : State) : Prop := bankState t b = 3 ∧ bankState t a = 5 ∧ activeBank t = b ∧ t.upd.bank0 = s.upd.bank0 ∧ t.upd.bank1 = s.upd.bank1
    let Answers (code : Nat) : Prop := (∀ (h : ZHdr) (k : Nat), Heard s h k → Completes (.activate h []) s fun t => UpdAns s t s h k 0x34 code 0 ∧ KeptFor h t) ∧
      (ctlReached s = true → s.bit UPD_CMD_RESULT_busy = false → Completes (.updActivate 0) s fun t => UpdCode s t code ∧ OnlyRegs [UPD_CMD_RESULT] s t)
    (wrong → Answers 1) ∧
    (¬ wrong → busy → Answers 2) ∧
    (¬ wrong → ¬ busy → device → short → Answers 9) ∧
    (∀ g l, ¬ wrong → ¬ busy → ¬ device → x.segs = g :: l → (¬ sameSet g → Answers 10) ∧ (sameSet g → meets g → Answers 8)) ∧
    (¬ wrong → ¬ busy → device → ¬ short →
      let Resets (t : State) : Prop := Switched t ∧ t.upd.resetDue = true ∧ t.upd.trialStarted = false ∧ t.cpu.ctxs = s.cpu.ctxs ∧ t.cpu.dmem = s.cpu.dmem ∧
        t.psw = s.psw ∧ t.ldg.tickets = s.ldg.tickets
      (∀ (h : ZHdr) (k : Nat), Heard s h k → Completes (.activate h []) s fun t => UpdAns s t s h k 0x34 0 0 ∧ Resets t ∧
        t.upd.resetWaits = late h true) ∧
      (ctlReached s = true → s.bit UPD_CMD_RESULT_busy = false → Completes (.updActivate 0) s fun t => UpdCode s t 0 ∧ Resets t)) ∧
    (∀ g l, ¬ wrong → ¬ busy → ¬ device → x.segs = g :: l → sameSet g → ¬ meets g →
      (∀ (h : ZHdr) (k : Nat), Heard s h k → Completes (.activate h []) s fun t => UpdAns s t s h k 0x34 0 0 ∧
        t.upd = { s.upd with job := some (.load (some ⟨h.link, h.src, k⟩)), resetWaits := late h s.upd.resetDue } ∧ t.regs = s.regs ∧ t.cpu = s.cpu) ∧
      (ctlReached s = true → s.bit UPD_CMD_RESULT_busy = false → exec (.updActivate 0) s =
        .next (({ s with upd := { s.upd with job := some (.load none) } }).putB UPD_CMD_RESULT_busy true))) ∧
    ((∀ r, s.upd.job ≠ some (.load r)) → exec .tenantSegmentLoaded s = .next s) ∧
    (∀ r g l, s.upd.job = some (.load r) → x.segs = g :: l → bankLost s b [g] = true → Completes .tenantSegmentLoaded s fun t =>
      bankState t b = 7 ∧ activeBank t = a ∧ t.upd = { s.upd with job := none } ∧ t.cpu = { s.cpu with mramErr := t.cpu.mramErr } ∧ (r = none → UpdCode s t 6)) ∧
    (∀ r g l, s.upd.job = some (.load r) → x.segs = g :: l → bankLost s b [g] = false → g.tenant < 32 → g.load % 2048 = 0 → g.load + 2048 * g.blocks ≤ 2097152 → 0 < g.blocks →
      (g.table.map (·.1)).Nodup → (∀ e ∈ g.table, e.1 < 512 ∧ g.load + e.2 < 2097152) → (∀ c, s.tenant c = g.tenant → (s.ctx c).mode ≠ .resident) →
      Completes .tenantSegmentLoaded s fun t => Switched t ∧ t.get UPD_STATUS_tenant = g.tenant ∧ t.bit UPD_STATUS_trial = true ∧ t.upd.trialStarted = true ∧
        t.upd.trialAt = a1Now s ∧ t.upd.job = none ∧ t.cpu.loaded = s.cpu.loaded ++ [loadSeg s b 33 g] ∧
        (∀ e ∈ g.table, t.get (TSK_CTX_CODEWIN_base e.1) = g.load / 32 ∧ t.get (TSK_CTX_CODEWIN_limit e.1) = (g.load + 2048 * g.blocks) / 32 - 1 ∧
          t.get (TSK_CTX_ENTRY_pc e.1) = g.load + e.2) ∧
        (r = none → UpdCode s t 0)) ∧
    (s.bit UPD_STATUS_trial = false → exec .trialExpire s = .next s) ∧
    (s.bit UPD_STATUS_trial = true →
      (bankState s 0 ≠ 3 → bankState s 1 ≠ 3 → exec .trialExpire s = .next s) ∧
      (∀ n o : Fin 2, bankState s n = 3 → bankState s o = 5 → Completes .trialExpire s fun t => bankState t n = 7 ∧ bankState t o = 4 ∧ activeBank t = o ∧
        t.get UPD_STATUS_fail = min 3 (s.get UPD_STATUS_fail + 1) ∧ t.bit UPD_STATUS_trial = false ∧ t.upd.resetDue = true ∧ t.upd.kept = [] ∧
        ⟨148, false, false, 0⟩ ∈ t.raiseQ ∧ t.cpu.ctxs = s.cpu.ctxs ∧ t.cpu.dmem = s.cpu.dmem ∧ t.psw = s.psw)) ∧
    (ctlReached s = true → s.bit UPD_CMD_RESULT_busy = false → ¬ busy →
      (bankState s 0 ≠ 3 → bankState s 1 ≠ 3 → Completes (.confirm 0) s fun t => UpdCode s t 1 ∧ OnlyRegs [UPD_CMD_RESULT] s t) ∧
      (∀ n o : Fin 2, bankState s n = 3 → bankState s o = 5 → (∀ g ∈ (bankOf s n).segs, g.tenant < 32 ∧ g.version < 65536) → Completes (.confirm 0) s fun t =>
        UpdCode s t 0 ∧ bankState t n = 4 ∧ bankState t o = 6 ∧ activeBank t = a ∧ t.get UPD_STATUS_fail = 0 ∧ t.bit UPD_STATUS_trial = false ∧
          t.upd = { s.upd with kept := [], trialStarted := false } ∧ t.cpu = s.cpu ∧
          ∀ k, k < 32 → s.get (UPD_ROLL_version k) ≤ t.get (UPD_ROLL_version k) ∧ (∀ g ∈ (bankOf s n).segs, g.tenant = k → g.version ≤ t.get (UPD_ROLL_version k)) ∧
            ((∀ g ∈ (bankOf s n).segs, g.tenant ≠ k) → t.get (UPD_ROLL_version k) = s.get (UPD_ROLL_version k))) ∧
      (Completes (.saverec 0) s fun t => UpdCode s t 0 ∧ t.upd = { s.upd with record := some (recoveryRegs.map s.rd) } ∧ RegsBut [UPD_CMD_RESULT] s t)) ∧
    (∀ (h : ZHdr) (k : Nat), Heard s h k →
      (∀ (slot chg rest key : List Byte) (wrapOk sigOk : Bool), keysetSized (slot ++ chg ++ rest) = true →
        let msg := Instr.keyset h slot chg rest key wrapOk sigOk
        let body := slot ++ chg ++ rest
        let n := beField body 0 1
        let ctr := beField body 4 4
        let inUse : Prop := 16 ≤ n ∧ n < 24 ∧ s.bit (ACC_KEY_CTL_en (n - 16)) = true
        let first : Prop := (n = 24 ∨ n = 25) ∧ (keySlot s n).bytes = []
        let fits : Prop := n < 26 ∧ key.length = (if n < 24 then 16 else if n = 24 then 32 else 64) ∧ wrapOk = true
        let signed : Prop := (keySlot s n).ctr < ctr ∧ sigOk = true ∧ (keySlot s 24).bytes ≠ [] ∧ (keySlot s 25).bytes ≠ []
        let Code (c : Nat) : Prop := Completes msg s fun t => UpdAns s t s h k 0x35 c (BitVec.ofNat 32 n) ∧ Kept t
        (busy → Code 2) ∧ (¬ busy → inUse → Code 1) ∧ (¬ busy → ¬ inUse → ¬ (fits ∧ (first ∨ signed)) → Code 12) ∧
        (¬ busy → ¬ inUse → fits → first ∨ signed → Completes msg s fun t => UpdAns { s with upd := t.upd } t s h k 0x35 0 (BitVec.ofNat 32 n) ∧ keySlot t n = ⟨key, ctr⟩ ∧
          (∀ j, j ≠ n → keySlot t j = keySlot s j) ∧ t.upd = { s.upd with keys := t.upd.keys } ∧ t.regs = s.regs ∧ t.cpu = s.cpu)) ∧
      (s.upd.rom = false ∨ (bankState s 0 ≠ 4 ∧ bankState s 1 ≠ 4) → Completes (.revert h []) s fun t => UpdAns s t s h k 0x36 1 0 ∧ KeptFor h t) ∧
      (∀ n : Fin 2, s.upd.rom = true → bankState s n = 4 → bankState s (1 - n) ≠ 4 → Completes (.revert h []) s fun t => UpdAns s t t h k 0x36 0 0 ∧
        activeBank t = n ∧ t.get UPD_STATUS_fail = 0 ∧ t.upd = { s.upd with resetDue := true, resetWaits := late h true } ∧ RegsBut [UPD_STATUS] s t ∧ t.cpu = s.cpu)) ∧
    (∀ (w : CtxId) (off : BitVec 14) (len : BitVec 9),
      let set := Instr.settingsWrite w off len
      let o := off.toNat
      let n := len.toNat
      let src := (s.rd (own w UPD_SETADDR)).toNat
      let form : Prop := 2 ≤ o ∧ 0 < n ∧ n ≤ 256 ∧ o + n ≤ 0x4000
      (ctlReached s = false → exec set s = .next s) ∧
      (ctlReached s = true → s.blockOk w 8 = false → exec set s = .next (s.violate w 3 (BitVec.ofNat 32 UPD_SETCMD.addr))) ∧
      (ctlReached s = true → s.blockOk w 8 = true →
        (s.upd.sets.isSome = true → exec set s = .next (s.wr (own w UPD_SETRES) (BitVec.ofNat 32 (3 * 2 ^ 30)))) ∧
        (s.upd.sets = none → ¬ form → exec set s = .next (s.wr (own w UPD_SETRES) (BitVec.ofNat 32 (2 * 2 ^ 30)))) ∧
        (s.upd.sets = none → form → src + n ≤ dSize → s.covered w src n false = true → exec set s =
          .next { s with upd := { s.upd with sets := some ⟨w, s.tenant w, o, s.dBytes src n⟩ } }) ∧
        (s.upd.sets = none → form → dSize ≤ src → Completes set s fun t =>
          t.upd = { s.upd with sets := some ⟨w, s.tenant w, o, List.replicate n 0⟩ } ∧
            t.get (TSK_CTX_VIOL_count w) = min 0xFFFF (s.get (TSK_CTX_VIOL_count w) + 1) ∧ t.cpu = s.cpu))) ∧
    (s.upd.sets = none ∨ dieRuns s = false → exec .settingsWriteDone s = .next s) ∧
    (∀ j, s.upd.sets = some j → dieRuns s = true → Completes .settingsWriteDone s fun t => t.upd = { s.upd with sets := none } ∧
      let at_ := 0xA80000 + 0x8000 * j.tenant + j.off
      t.mBytes at_ j.bytes.length = j.bytes ∧ (∀ i, i < at_ ∨ at_ + j.bytes.length ≤ i → t.mByte i = s.mByte i) ∧
      t.rd (own j.ctx UPD_SETRES) = BitVec.ofNat 32 (1 * 2 ^ 30) ∧ RegsBut [own j.ctx UPD_SETRES] s t)

/-! ## Outfits (23_outfits_and_mode_interplay.md) -/

/-- Changing outfits (R528 to R541). Only context 0 commands. CHANGE is refused with the lowest code of R538, changing nothing but the record of code 0x21, or copies the descriptor
and is Staging, with the fields of each power die in a staging frame; CANCEL discards a change that is Staging or Armed. With both dies' acknowledgements, which a die sends once it has the fields, it is Armed, and with now = 1 it commits at once, else
where a period of the changing roster starts. A commit gives every field of R529 its value, those of a power die as its commit frame reaches it ahead of every other frame (R532), puts the target in force and clears dirty; where a check of R534 fails
it is abandoned with its reason, and nothing is written. It rests in part on the model's choices of log entries 10, 52 and 77. -/
def Obligations.OutfitsChangeWhole : Prop :=
  ∀ s : State,
    let o := s.out
    let inForce : Prop := s.get SYS_OUT_STATUS_cur ≠ 0x3F
    let cur := s.get SYS_OUT_STATUS_cur
    let st := s.get SYS_OUT_STATUS_state
    let roster := s.get SYS_OUT_CFG_roster
    let rosterGood : Prop := s.bit (TLN_ROS_CFG_en roster) = true ∧ s.get (TLN_ROS_CFG_axis roster) = 1
    let served : Prop := s.get (PSW_DIE_STATE_state 0) = 0 ∧ s.get (PSW_DIE_STATE_state 1) = 0
    let hs : Prop := s.bit PWR_STATUS_hs = true
    let stop : Prop := s.get FLT_STATUS_mode = 2
    let doze : Prop := s.pwr.phase = .doze
    let taken : Prop := ∀ e : Fin 2, o.onDie.find e ≠ none ∧ o.onDie.find e = o.staged
    let dozes (d : List Word) : Prop := bitOf (d.getD 0 0) 0 = true
    (∀ (w : CtxId) (t : Fin 32) (now : Bool), w ≠ 0 → ∀ i ∈ [Instr.change w t now, .cancel w],
      (ctlReached s = false → exec i s = .next s) ∧ (ctlReached s = true → exec i s = .next (s.violate w 3 (BitVec.ofNat 32 SYS_OUT_CMD.addr)))) ∧
    (ctlReached s = true → ∀ (t : Fin 32) (now : Bool),
      let d := descriptor s t
      let ending (u : State) (code : Nat) : State := (u.wrap SYS_OUT_CMD_RESULT_seq).put SYS_OUT_CMD_RESULT_code code
      let Refused (code : Nat) : Prop := exec (.change 0 t now) s =
        .next (blockRec (ending s code) 0x21 ([cur, t.val, code, 0].map (BitVec.ofNat 8) ++ leBytes 4 (s.rd SYS_OUT_STATUS).toNat))
      let c1 : Prop := st ≠ 0 ∨ hs ∨ s.pwr.phase = .parking ∨ s.pwr.phase = .offing ∨ stop
      let c2 : Prop := bitOf (d.getD 0 0) 31 = false
      let c3 : Prop := inForce ∧ cur ≠ t ∧ bitOf ((o.force.getD []).getD 1 0) t = false
      let c4 : Prop := roster ≠ 0 ∧ bitOf (d.getD (8 + roster / 32) 0) (roster % 32) = false
      let c5 : Prop := doze ∧ ¬ dozes d
      let c6 : Prop := now = true ∧ inForce ∧ cur ≠ t
      let c8 : Prop := now = false ∧ (roster = 0 ∨ ¬ rosterGood)
      (c1 → Refused 1) ∧ (¬ c1 → c2 → Refused 2) ∧ (¬ c1 → ¬ c2 → c3 → Refused 3) ∧ (¬ c1 → ¬ c2 → ¬ c3 → c4 → Refused 4) ∧
      (¬ c1 → ¬ c2 → ¬ c3 → ¬ c4 → c5 → Refused 5) ∧ (¬ c1 → ¬ c2 → ¬ c3 → ¬ c4 → ¬ c5 → c6 → Refused 6) ∧
      (¬ c1 → ¬ c2 → ¬ c3 → ¬ c4 → ¬ c5 → ¬ c6 → ¬ served → Refused 7) ∧
      (¬ c1 → ¬ c2 → ¬ c3 → ¬ c4 → ¬ c5 → ¬ c6 → served → c8 → Refused 8) ∧
      (¬ c1 → ¬ c2 → ¬ c3 → ¬ c4 → ¬ c5 → ¬ c6 → served → ¬ c8 → Completes (.change 0 t now) s fun u =>
        u.get SYS_OUT_STATUS_state = 1 ∧ u.get SYS_OUT_STATUS_target = t ∧ u.get SYS_OUT_STATUS_cur = cur ∧ u.get SYS_OUT_CMD_RESULT_code = 0 ∧
          u = { s with regs := u.regs, out := { o with staged := some d, now := now, onDie := u.out.onDie }, lnk := u.lnk } ∧
          RegsBut [SYS_OUT_STATUS, SYS_OUT_CMD_RESULT] s u ∧ ∀ e : Fin 2,
            (dieReached s e = true → linkClear s e = true → u.out.onDie.find e = some d) ∧
            (dieReached s e = true → linkClear s e = false → u.dir e false = (queueFrame s e false (.staging d)).dir e false ∧
              u.out.onDie.find e = o.onDie.find e) ∧
            (dieReached s e = false → u.dir e false = s.dir e false ∧ u.out.onDie.find e = o.onDie.find e))) ∧
    (ctlReached s = true → st = 0 → exec (.cancel 0) s = .next ((s.wrap SYS_OUT_CMD_RESULT_seq).put SYS_OUT_CMD_RESULT_code 1)) ∧
    (ctlReached s = true → st ≠ 0 → Completes (.cancel 0) s fun t => t.get SYS_OUT_STATUS_state = 0 ∧ t.get SYS_OUT_STATUS_target = 0x3F ∧ t.get SYS_OUT_STATUS_last = 3 ∧
      t.get SYS_OUT_STATUS_cur = cur ∧ t.get SYS_OUT_CMD_RESULT_code = 0 ∧ t = { s with regs := t.regs, out := { o with staged := none, now := false } } ∧
        RegsBut [SYS_OUT_STATUS, SYS_OUT_CMD_RESULT] s t) ∧
    (st ≠ 1 ∨ ¬ taken ∨ ctlReached s = false → exec .stagingAck s = .next s) ∧
    (st = 1 → taken → ctlReached s = true → o.now = false → exec .stagingAck s = .next (s.put SYS_OUT_STATUS_state 2)) ∧
    (∀ d, st = 1 → taken → ctlReached s = true → o.now = true → o.staged = some d →
      let good : Prop := served ∧ ¬ hs ∧ ¬ (doze ∧ ¬ dozes d) ∧ ¬ stop
      let why : Nat := if s.get (PSW_DIE_STATE_state 0) ≠ 0 ∨ s.get (PSW_DIE_STATE_state 1) ≠ 0 then 1 else if s.bit PWR_STATUS_hs = true then 2
        else if s.pwr.phase = .doze ∧ bitOf (d.getD 0 0) 0 = false then 3 else 5
      let target := s.get SYS_OUT_STATUS_target
      (¬ good → Completes .stagingAck s fun t => t.get SYS_OUT_STATUS_state = 0 ∧ t.get SYS_OUT_STATUS_last = 2 ∧ t.get SYS_OUT_STATUS_why = why ∧
        t.get SYS_OUT_STATUS_cur = cur ∧ t.out = { o with staged := none, now := false } ∧ t.psw = s.psw ∧ t.tln = s.tln ∧ t.cpu = s.cpu ∧
        ∀ n, n < 512 → t.rd (LDG_TRK_CFG n) = s.rd (LDG_TRK_CFG n)) ∧
      (good → Completes .stagingAck s fun t => t.get SYS_OUT_STATUS_state = 0 ∧ t.get SYS_OUT_STATUS_last = 1 ∧ t.get SYS_OUT_STATUS_target = 0x3F ∧
        t.bit SYS_OUT_STATUS_dirty = false ∧ t.get SYS_OUT_STATUS_count = (s.get SYS_OUT_STATUS_count + 1) % 256 ∧ t.get SYS_OUT_STATUS_cur = target ∧
        t.out = { t.out with staged := none, now := false, force := some d } ∧ t.cpu.dmem = s.cpu.dmem ∧
        (let now (e : Nat) : Prop := dieReached s e = true ∧ linkClear s e = true
         (∀ e : Fin 2, dieReached s e = true → linkClear s e = false →
           t.dir e false = (viaDieFirst s e .commit id).dir e false ∧ t.out.onDie.find e = some d) ∧
         (∀ e : Fin 2, now e → t.get (PSW_DIE_CFG_hold e) = (if e = 0 then getBits (d.getD 3 0) 9 0 else getBits (d.getD 3 0) 25 16) ∧
           t.get (LED_M_CFG_class e) = getBits (d.getD 36 0) (2 * e + 1) (2 * e) ∧ t.out.onDie.find e = none) ∧
         (∀ c, c < 104 → now (dieOf c) → t.get (PSW_CH_SAFE_class c) = (if isFollower s c then s.get (PSW_CH_SAFE_class c)
           else getBits (d.getD (26 + c / 16) 0) (2 * (c % 16) + 1) (2 * (c % 16)))) ∧
         (∀ c, c < 104 → ¬ now (dieOf c) → t.get (PSW_CH_SAFE_class c) = s.get (PSW_CH_SAFE_class c)) ∧
         (∀ k, k < 48 → now (k / 24) → t.get (LED_K_CFG_class k) = getBits (d.getD (33 + k / 16) 0) (2 * (k % 16) + 1) (2 * (k % 16))) ∧
         (∀ k, k < 48 → ¬ now (k / 24) → t.get (LED_K_CFG_class k) = s.get (LED_K_CFG_class k))) ∧
        t.bit ACC_CFG_en = (bitOf (d.getD 0 0) 3 && target != 7) ∧ t.get ACC_POLL_amask = getBits (d.getD 2 0) 31 28 ∧
        t.get ACC_POLL_per = getBits (d.getD 2 0) 15 0 ∧ t.get PSW_BUD_CFG_ceiling = getBits (d.getD 7 0) 15 0 ∧
        (∀ n, n < 22 → t.bit (NMG_BUS_CFG_wake n) = bitOf (d.getD 4 0) n ∧
          t.get (NMG_BUS_CFG_pin n) = getBits (d.getD (5 + n / 16) 0) (2 * (n % 16) + 1) (2 * (n % 16))) ∧
        (∀ r, 1 ≤ r → r < 64 → t.bit (TLN_ROS_CFG_en r) = bitOf (d.getD (8 + r / 32) 0) (r % 32)) ∧
        (∀ n, n < 512 → t.bit (LDG_TRK_CFG_open n) = bitOf (d.getD (10 + n / 32) 0) (n % 32)) ∧
        (∀ c, c < 104 → t.get (PSW_CH_STATE_cmd c) = s.get (PSW_CH_STATE_cmd c) ∧
          t.get (PSW_BUD_prio c) = (byteOf (d.getD ((0xAC + c) / 4) 0) (c % 4)).toNat / 64 ∧
          t.get (PSW_BUD_floor c) = (byteOf (d.getD ((0xAC + c) / 4) 0) (c % 4)).toNat % 32))) ∧
    (∀ (r : Fin 64) (d : List Word) (n : Nat) (due : Due), tlnRuns s = true → (∃ ds, s.tln.due = due :: ds) → due.kind = .period r n → st = 2 → roster = r →
      o.now = false → o.staged = some d → served → ¬ hs → ¬ (doze ∧ ¬ dozes d) → rosterGood → ¬ stop →
      Completes (.rosterPeriodStart r) s fun t => t.get SYS_OUT_STATUS_state = 0 ∧ t.get SYS_OUT_STATUS_last = 1 ∧
        t.get SYS_OUT_STATUS_cur = s.get SYS_OUT_STATUS_target ∧ t.out = { t.out with staged := none, now := false, force := some d } ∧ t.bit ACC_CFG_en = (bitOf (d.getD 0 0) 3 && s.get SYS_OUT_STATUS_target != 7))

/-! ## Register writes (01_architecture.md, 06_tasks_and_tenants.md) -/

/-- A write of a register or of context memory by a port (R6, R8, R12 to R14, R23, R163, R164, R251). Bits 1:0 of the address are ignored. A write to the MRAM window, a write to context
memory by a context other than 0, a write outside every block and a write without the block bit are ignored and count as violations of kinds 5, 5, 2 and 3. A write
narrower than 32 bits changes nothing. A write sets RW bits, clears WC bits where it holds 1, and leaves every other bit; a power die that is not reached
takes none, and one whose links do not carry it at once takes it with its frame. A write to a block that waits for PLL1, a write to a block of the power dies while writes to it are on their
way to the other die, and one behind a waiting access of its context to the block are kept, with their tickets (R109, R454). Context 0 writes a word of a frame whose context is not Resident, below
word 0xE0: reserved words, reserved fields and g0 stay 0, and bit 0 of PRED stays 1. It rests in part on the model's choices of log entries 10, 57 and 74. -/
def Obligations.RegisterWritesFollowTypeCodes : Prop :=
  ∀ (s : State) (c : CtxId) (addr v : Word) (narrow : Bool),
    let a := addr.toNat / 4 * 4
    let write := Instr.registerWrite c addr v narrow
    (ctlReached s = false → exec write s = .next s) ∧ (ctlReached s = true →
    let Denied (kind : Nat) : Prop := exec write s = .next (s.violate c kind (BitVec.ofNat 32 a))
    let frame : Prop := 0x20000000 ≤ a ∧ a < 0x20020000
    let ok : Prop := portDenied s c a true = none
    let waits := mustWait s c (.write a v)
    (ok → narrow = true → exec write s = .next s) ∧
    (ok → narrow = false → waits = true → exec write s =
      .next { s with cpu := { s.cpu with posted := s.cpu.posted ++ [⟨c, .write a v, (s.ctx c).bound, s.cpu.stamp⟩], stamp := s.cpu.stamp + 1 } }) ∧
    (∀ b, blockAt a = some b → b = 5 ∨ b = 15 ∨ b = 16 ∨ b = 18 → s.bit PWR_STATUS_pllwait = true → waits = true) ∧
    (∀ p ∈ s.cpu.posted, p.ctx = c.val → p.op.block = blockAt a → waits = true) ∧
    (0x10000000 ≤ a → a < 0x10C00000 → Denied 5) ∧
    (frame → c ≠ 0 → Denied 5) ∧
    (a < 0x10000000 ∨ 0x10C00000 ≤ a → ¬ frame → blockAt a = none → Denied 2) ∧
    (∀ b, blockAt a = some b → b ≠ 21 → s.blockOk c b = false → Denied 3) ∧
    (blockAt a = some 21 → c ≠ 0 → a % 0x10000 < 0x100 ∨ 0x120 ≤ a % 0x10000 → Denied 3) ∧
    (frame → c = 0 →
      let n := (a - 0x20000000) / 256
      let w := a % 256 / 4
      ((s.ctx n).mode = .resident ∨ 56 ≤ w → waits = false → exec write s = .next s) ∧
      (narrow = false → waits = false → (s.ctx n).mode ≠ .resident → w < 56 → Completes write s fun t => t.frame n w = (v &&& (frameBits w).1) ||| (frameBits w).2 ∧
        (∀ m k, k < 64 → m ≠ n ∨ k ≠ w → t.frame m k = s.frame m k) ∧ t = { s with cpu := { s.cpu with frames := t.cpu.frames } })) ∧
    (∀ p ∈ [(SYS_WRD_BASE, 0xFFFFC000#32), (LDG_CTRL, 0x81FFFFFF), (EVR_CAL_LO, 0xFFFFFFFF), (UPD_ARG, 0xFFFFFFFF), (UPD_CFG, 0xFFFF00FF),
        (PWR_CFG, 0x0F00001F), (FLT_ALIVE, 0x80FFFFFF), (BIST_CFG, 0xC0000000)], a = p.1.addr → c = 0 →
      (narrow = false → waits = false → exec write s = .next (s.wr p.1 ((s.rd p.1 &&& ~~~ p.2) ||| (v &&& p.2))))) ∧
    (a = CLK_STATUS.addr → c = 0 → narrow = false → waits = false → exec write s = .next (s.wr CLK_STATUS (s.rd CLK_STATUS &&& ~~~ (0xFE &&& v)))) ∧
    (∀ r ∈ [SYS_ID, EVR_NEWEST, UPD_STATUS, FLT_NEWEST], a = r.addr → c = 0 → waits = false → Completes write s fun t => t.rd r = s.rd r ∧ OnlyRegs [r] s t) ∧
    (∀ i : Fin 96, a = (DIN_IN_PARK i).addr → c = 0 → narrow = false → waits = false →
      (dieReached s (dinDie i) = false → exec write s = .next s) ∧
      (dieReached s (dinDie i) = true → linkClear s (dinDie i) = true →
        exec write s = .next (exchange (s.wr (DIN_IN_PARK i) ((s.rd (DIN_IN_PARK i) &&& ~~~ 0x0F0F0FFF#32) ||| (v &&& 0x0F0F0FFF))) (dinDie i))) ∧
      (dieReached s (dinDie i) = true → linkClear s (dinDie i) = false →
        exec write s = .next (queueFrame s (dinDie i) false (.write c a v)))))

/-! ## Invariants of the machine -/

/-- The machine right after reset meets the invariant: its memories, its contexts and its tickets stand in their one canonical form. It rests in part on the model's choices of log entries 5, 50 and 58. -/
def Obligations.ResetMeetsTheInvariant : Prop := Inv State.reset = true ∧ State.reset.pending = []

/-- Every step keeps the invariant: whatever command stands in front, and whatever the idle block does, data SRAM, MRAM, context memory, frame memory, CAN message RAM and the
10BASE-T1S buffers keep their canonical form, and the stores of contexts and tickets keep theirs. It rests in part on the model's choices of log entry 4. -/
def Obligations.EveryStepKeepsTheInvariant : Prop :=
  ∀ s t : State, Inv s = true → step s = .next t → Inv t = true
end

