-- ==== Sys2Proof/Laws/Field.lean ====
section
/-! SUPPORT. The laws of bit fields: what a field reads after it, or another field of the word, has been set. -/
namespace Sys2Proof.Machine
open Sys2Proof

theorem getLsbD_maskBits (hi lo i : Nat) (h : hi < 32) (hlo : lo ≤ hi) : (maskBits hi lo).getLsbD i = decide (lo ≤ i ∧ i ≤ hi) := by
  unfold maskBits
  by_cases hi32 : i < 32
  · rw [BitVec.getLsbD_shiftLeft]
    by_cases hl : i < lo
    · simp [hl]
    · have hl' : lo ≤ i := Nat.le_of_not_lt hl
      simp only [hi32, hl, decide_true, decide_false, Bool.not_false, Bool.true_and, BitVec.getLsbD_ushiftRight, BitVec.getLsbD_allOnes, hl', true_and,
        decide_eq_decide]
      omega
  · have h1 : 32 ≤ i := Nat.le_of_not_lt hi32
    rw [BitVec.getLsbD_of_ge _ _ h1]
    symm
    rw [decide_eq_false_iff_not]
    omega

/-- A bit of a word with a field set: the number's bit inside the field, the word's own outside. -/
theorem getLsbD_setBits (w : Word) (hi lo n i : Nat) (h : hi < 32) (hlo : lo ≤ hi) :
    (setBits w hi lo n).getLsbD i = if lo ≤ i ∧ i ≤ hi then n.testBit (i - lo) else w.getLsbD i := by
  unfold setBits
  rw [BitVec.getLsbD_or, BitVec.getLsbD_and, BitVec.getLsbD_and, getLsbD_maskBits _ _ _ h hlo]
  by_cases hi32 : i < 32
  · rw [BitVec.getLsbD_not, getLsbD_maskBits _ _ _ h hlo]
    split
    · rename_i hc
      have h2 : ¬ i < lo := by omega
      have h3 : i - lo < 32 := by omega
      have h4 : (BitVec.ofNat 32 n <<< lo).getLsbD i = n.testBit (i - lo) := by
        rw [BitVec.getLsbD_shiftLeft, BitVec.getLsbD_ofNat]; simp [hi32, h2, h3]
      rw [h4]; simp [hc]
    · rename_i hc
      simp [hc, hi32]
  · have h1 : 32 ≤ i := Nat.le_of_not_lt hi32
    have h2 : ¬ (lo ≤ i ∧ i ≤ hi) := by omega
    simp [BitVec.getLsbD_of_ge _ _ h1, h2]

theorem testBit_getBits (w : Word) (hi lo i : Nat) (h : hi < 32) :
    (getBits w hi lo).testBit i = (decide (i ≤ hi - lo) && w.getLsbD (lo + i)) := by
  unfold getBits
  rw [BitVec.testBit_toNat, BitVec.getLsbD_and, BitVec.getLsbD_ushiftRight, BitVec.getLsbD_ushiftRight, BitVec.getLsbD_allOnes, Bool.and_comm]
  congr 1
  rw [decide_eq_decide]
  omega

/-- A field that has been set reads the number's low bits. -/
theorem getBits_setBits_same (w : Word) (hi lo n : Nat) (h : hi < 32) (hl : lo ≤ hi) :
    getBits (setBits w hi lo n) hi lo = n % 2 ^ (hi - lo + 1) := by
  apply Nat.eq_of_testBit_eq
  intro i
  rw [testBit_getBits _ _ _ _ h, getLsbD_setBits _ _ _ _ _ h hl, Nat.testBit_mod_two_pow]
  by_cases hi' : i ≤ hi - lo
  · have h1 : lo ≤ lo + i ∧ lo + i ≤ hi := by omega
    have h2 : i < hi - lo + 1 := by omega
    simp [hi', h1, h2]
  · have h2 : ¬ i < hi - lo + 1 := by omega
    simp [hi', h2]

/-- A field that lies apart from the one set reads as before. -/
theorem getBits_setBits_other (w : Word) (hi lo n hi' lo' : Nat) (h : hi < 32) (hlo : lo ≤ hi) (h' : hi' < 32) (hl : lo' ≤ hi') (hd : hi' < lo ∨ hi < lo') :
    getBits (setBits w hi lo n) hi' lo' = getBits w hi' lo' := by
  apply Nat.eq_of_testBit_eq
  intro i
  rw [testBit_getBits _ _ _ _ h', testBit_getBits _ _ _ _ h', getLsbD_setBits _ _ _ _ _ h hlo]
  by_cases hi'' : i ≤ hi' - lo'
  · have h1 : ¬ (lo ≤ lo' + i ∧ lo' + i ≤ hi) := by omega
    simp [h1]
  · simp [hi'']

theorem getBits_lt (w : Word) (hi lo : Nat) : getBits w hi lo < 2 ^ (hi - lo + 1) := by
  unfold getBits
  rw [BitVec.toNat_and]
  refine Nat.lt_of_le_of_lt Nat.and_le_right ?_
  rw [BitVec.toNat_ushiftRight, BitVec.toNat_allOnes, Nat.shiftRight_eq_div_pow, Nat.div_lt_iff_lt_mul (by positivity), ← Nat.pow_add]
  calc 2 ^ 32 - 1 < 2 ^ 32 := by norm_num
    _ ≤ 2 ^ (hi - lo + 1 + (31 - (hi - lo))) := Nat.pow_le_pow_right (by norm_num) (by omega)

end Sys2Proof.Machine
end

