-- ==== Sys2Proof/Laws/Sparse.lean ====
section
/-! SUPPORT. The laws of the sparse stores: what a read after a write gives, and that every operation keeps the canonical form. -/
namespace Sys2Proof.Machine
open Sys2Proof

theorem SMap.find_ins_same {α : Type} (m : SMap α) (k : Nat) (v : α) : (m.ins k v).find k = some v := by
  induction m with
  | nil => simp [SMap.ins, SMap.find]
  | cons e m ih =>
    obtain ⟨k', v'⟩ := e
    simp only [SMap.ins]
    split
    · simp [SMap.find]
    · split
      · simp [SMap.find]
      · rename_i h; simp [SMap.find, Ne.symm h, ih]

theorem SMap.find_ins_other {α : Type} (m : SMap α) (k j : Nat) (v : α) (h : j ≠ k) : (m.ins k v).find j = m.find j := by
  induction m with
  | nil => simp [SMap.ins, SMap.find, Ne.symm h]
  | cons e m ih =>
    obtain ⟨k', v'⟩ := e
    simp only [SMap.ins]
    split
    · simp [SMap.find, Ne.symm h]
    · split
      · subst_vars; simp [SMap.find, Ne.symm h]
      · simp only [SMap.find]; split <;> simp_all

theorem SMap.find_erase_same {α : Type} (m : SMap α) (k : Nat) : (m.erase k).find k = none := by
  unfold SMap.erase
  induction m with
  | nil => rfl
  | cons e m ih =>
    rw [List.filter_cons]
    split
    · rename_i h; simp only [decide_eq_true_eq] at h; simp only [SMap.find, h, ite_false]; exact ih
    · exact ih

theorem SMap.find_erase_other {α : Type} (m : SMap α) (k j : Nat) (h : j ≠ k) : (m.erase k).find j = m.find j := by
  unfold SMap.erase
  induction m with
  | nil => rfl
  | cons e m ih =>
    rw [List.filter_cons]
    split
    · simp only [SMap.find, ih]
    · rename_i h'
      simp only [decide_eq_true_eq, not_not] at h'
      rw [ih, SMap.find, if_neg (by rw [h']; exact Ne.symm h)]

@[simp] theorem SMap.get_set_same {α : Type} [DecidableEq α] (d : α) (m : SMap α) (k : Nat) (v : α) : (m.set d k v).get d k = v := by
  unfold SMap.set SMap.get
  split
  · rename_i h; simp [SMap.find_erase_same, h]
  · simp [SMap.find_ins_same]

theorem SMap.get_set_other {α : Type} [DecidableEq α] (d e : α) (m : SMap α) (k j : Nat) (v : α) (h : j ≠ k) :
    (m.set d k v).get e j = m.get e j := by
  unfold SMap.set SMap.get
  split
  · rw [SMap.find_erase_other m k j h]
  · rw [SMap.find_ins_other m k j v h]

theorem SMap.mem_ins {α : Type} {m : SMap α} {k : Nat} {v : α} {e : Nat × α} (h : e ∈ m.ins k v) : e = (k, v) ∨ e ∈ m := by
  induction m with
  | nil => simp [SMap.ins] at h; exact .inl h
  | cons e' m ih =>
    simp only [SMap.ins] at h
    split at h
    · simpa using h
    · split at h
      · rcases List.mem_cons.1 h with h | h
        · exact .inl h
        · exact .inr (List.mem_cons_of_mem _ h)
      · rcases List.mem_cons.1 h with h | h
        · exact .inr (h ▸ List.mem_cons_self)
        · exact (ih h).imp_right (List.mem_cons_of_mem _)

theorem SMap.sorted_ins {α : Type} (m : SMap α) (k : Nat) (v : α) (h : m.sorted = true) : (m.ins k v).sorted = true := by
  induction m with
  | nil => simp [SMap.ins, SMap.sorted]
  | cons e m ih =>
    obtain ⟨k', v'⟩ := e
    simp only [SMap.sorted, Bool.and_eq_true, List.all_eq_true, decide_eq_true_eq] at h
    simp only [SMap.ins]
    split
    · rename_i hk
      simp only [SMap.sorted, Bool.and_eq_true, List.all_eq_true, decide_eq_true_eq, List.mem_cons]
      refine ⟨?_, ?_, h.2⟩
      · rintro x (rfl | hx)
        · exact hk
        · exact Nat.lt_trans hk (h.1 x hx)
      · exact h.1
    · split
      · subst_vars
        simpa [SMap.sorted] using h
      · rename_i h1 h2
        simp only [SMap.sorted, Bool.and_eq_true, List.all_eq_true, decide_eq_true_eq]
        refine ⟨fun x hx => ?_, ih h.2⟩
        rcases SMap.mem_ins hx with rfl | hx
        · exact Nat.lt_of_le_of_ne (Nat.le_of_not_lt h1) (Ne.symm h2)
        · exact h.1 x hx

theorem SMap.sorted_filter {α : Type} (m : SMap α) (p : Nat × α → Bool) (h : m.sorted = true) : SMap.sorted (m.filter p) = true := by
  induction m with
  | nil => rfl
  | cons e m ih =>
    obtain ⟨k', v'⟩ := e
    simp only [SMap.sorted, Bool.and_eq_true, List.all_eq_true, decide_eq_true_eq] at h
    rw [List.filter_cons]
    split
    · simp only [SMap.sorted, Bool.and_eq_true, List.all_eq_true, decide_eq_true_eq]
      exact ⟨fun x hx => h.1 x (List.mem_filter.1 hx).1, ih h.2⟩
    · exact ih h.2

/-- Writing a key keeps the canonical form, whatever the other keys read as. -/
theorem SMap.wfBy_set {α : Type} [DecidableEq α] (d : Nat → α) (m : SMap α) (k : Nat) (v : α) (h : SMap.wfBy d m = true) :
    SMap.wfBy d (m.set (d k) k v) = true := by
  simp only [SMap.wfBy, Bool.and_eq_true, List.all_eq_true, decide_eq_true_eq] at h ⊢
  unfold SMap.set
  split
  · exact ⟨SMap.sorted_filter _ _ h.1, fun x hx => h.2 x (List.mem_filter.1 hx).1⟩
  · rename_i hv
    refine ⟨SMap.sorted_ins _ _ _ h.1, fun x hx => ?_⟩
    rcases SMap.mem_ins hx with rfl | hx
    · exact hv
    · exact h.2 x hx

theorem SMap.wf_eq_wfBy {α : Type} [DecidableEq α] (d : α) (m : SMap α) : SMap.wf d m = SMap.wfBy (fun _ => d) m := rfl

/-- Writing a key keeps the canonical form. -/
theorem SMap.wf_set {α : Type} [DecidableEq α] (d : α) (m : SMap α) (k : Nat) (v : α) (h : SMap.wf d m = true) :
    SMap.wf d (m.set d k v) = true := SMap.wfBy_set (fun _ => d) m k v h

/-- Leaving entries out keeps the canonical form. -/
theorem SMap.wf_filter {α : Type} [DecidableEq α] (d : α) (m : SMap α) (p : Nat × α → Bool) (h : SMap.wf d m = true) :
    SMap.wf d (m.filter p) = true := by
  simp only [SMap.wf, Bool.and_eq_true, List.all_eq_true, decide_eq_true_eq] at h ⊢
  exact ⟨SMap.sorted_filter _ _ h.1, fun x hx => h.2 x (List.mem_filter.1 hx).1⟩

end Sys2Proof.Machine
end

