-- ==== Sys2Proof/Laws/Memory.lean ====
section
/-! SUPPORT. The laws of the memories: what a read gives after a write, and that every memory operation keeps the canonical form. -/
namespace Sys2Proof.Machine
open Sys2Proof

variable (s : State)

/-! ## Reading after writing -/

@[simp] theorem State.ctx_setCtx_same (c : Nat) (x : Ctx) : (s.setCtx c x).ctx c = x := SMap.get_set_same _ _ _ _

theorem State.ctx_setCtx_other (c d : Nat) (x : Ctx) (h : d ≠ c) : (s.setCtx c x).ctx d = s.ctx d := SMap.get_set_other _ _ _ _ _ _ h

@[simp] theorem State.ctx_modCtx_same (c : Nat) (f : Ctx → Ctx) : (s.modCtx c f).ctx c = f (s.ctx c) := s.ctx_setCtx_same c _

theorem State.ctx_modCtx_other (c d : Nat) (f : Ctx → Ctx) (h : d ≠ c) : (s.modCtx c f).ctx d = s.ctx d := s.ctx_setCtx_other c d _ h

@[simp] theorem State.frame_setFrame_same (c w : Nat) (v : Word) : (s.setFrame c w v).frame c w = v := SMap.get_set_same _ _ _ _

/-- Another word of a frame, or a word of another frame, reads as before. -/
theorem State.frame_setFrame_other (c w d u : Nat) (v : Word) (hw : w < 64) (hu : u < 64) (h : (d, u) ≠ (c, w)) :
    (s.setFrame c w v).frame d u = s.frame d u := by
  refine SMap.get_set_other _ _ _ _ _ _ fun e => h ?_
  have hd : d = c := by omega
  have hu' : u = w := by omega
  rw [hd, hu']

@[simp] theorem State.dByte_setDByte_same (a : Nat) (v : Byte) : (s.setDByte a v).dByte a = v := SMap.get_set_same _ _ _ _

theorem State.dByte_setDByte_other (a b : Nat) (v : Byte) (h : b ≠ a) : (s.setDByte a v).dByte b = s.dByte b := SMap.get_set_other _ _ _ _ _ _ h

@[simp] theorem State.mByte_setMByte_same (a : Nat) (v : Byte) : (s.setMByte a v).mByte a = v := SMap.get_set_same _ _ _ _

theorem State.mByte_setMByte_other (a b : Nat) (v : Byte) (h : b ≠ a) : (s.setMByte a v).mByte b = s.mByte b := SMap.get_set_other _ _ _ _ _ _ h

/-- A store of selected bytes leaves every byte outside its word alone. -/
theorem State.dByte_setDBytes_other (a b : Nat) (be : BitVec 4) (v : Word) (h : b < a ∨ a + 4 ≤ b) : (s.setDBytes a be v).dByte b = s.dByte b := by
  have hf (i : Nat) (hi : i < 4) (s : State) : (if be.getLsbD i then s.setDByte (a + i) (byteOf v i) else s).dByte b = s.dByte b := by
    split
    · exact State.dByte_setDByte_other _ _ _ _ (by omega)
    · rfl
  unfold State.setDBytes
  rw [hf 3 (by omega), hf 2 (by omega), hf 1 (by omega), hf 0 (by omega)]

/-- A store of selected bytes leaves the bytes of its word that are not selected alone, and writes the others. -/
theorem State.dByte_setDBytes (a i : Nat) (be : BitVec 4) (v : Word) (hi : i < 4) :
    (s.setDBytes a be v).dByte (a + i) = if be.getLsbD i then byteOf v i else s.dByte (a + i) := by
  have hg (j : Nat) (s : State) : (if be.getLsbD j then s.setDByte (a + j) (byteOf v j) else s).dByte (a + i) =
      if j = i then (if be.getLsbD i then byteOf v i else s.dByte (a + i)) else s.dByte (a + i) := by
    by_cases hj : j = i
    · subst hj
      simp only [if_true]
      split <;> simp
    · rw [if_neg hj]
      split
      · exact State.dByte_setDByte_other _ _ _ _ (by omega)
      · rfl
  unfold State.setDBytes
  rw [hg 3, hg 2, hg 1, hg 0]
  interval_cases i <;> simp

theorem State.setMBytes_other (a b : Nat) (l : List Byte) (h : b < a ∨ a + l.length ≤ b) : (s.setMBytes a l).mByte b = s.mByte b := by
  induction l generalizing s a with
  | nil => rfl
  | cons x l ih =>
    simp only [List.length_cons] at h
    rw [State.setMBytes, ih _ _ (by omega), State.mByte_setMByte_other _ _ _ _ (by omega)]

@[simp] theorem State.fByte_setFByte_same (n b o : Nat) (v : Byte) : (s.setFByte n b o v).fByte n b o = v := SMap.get_set_same _ _ _ _

theorem State.fByte_setFByte_other (n b o m c p : Nat) (v : Byte) (h : fkey m c p ≠ fkey n b o) : (s.setFByte n b o v).fByte m c p = s.fByte m c p :=
  SMap.get_set_other _ _ _ _ _ _ h

/-! ## The canonical form -/

/-- The memories right after reset list nothing. -/
theorem Memory.wf_reset : Memory.wf State.reset = true := by decide

/-- A change that leaves the six memories alone keeps their form. -/
theorem Memory.wf_of_eq {s t : State} (h1 : t.cpu.dmem = s.cpu.dmem) (h2 : t.cpu.mram = s.cpu.mram) (h3 : t.cpu.frames = s.cpu.frames)
    (h4 : t.led.fmem = s.led.fmem) (h5 : t.can.msg = s.can.msg) (h6 : t.net.t1s.mem = s.net.t1s.mem) (h : Memory.wf s = true) : Memory.wf t = true := by
  unfold Memory.wf at h ⊢
  rw [h1, h2, h3, h4, h5, h6]
  exact h

variable {s}

theorem Memory.wf_setDByte (a : Nat) (v : Byte) (h : Memory.wf s = true) : Memory.wf (s.setDByte a v) = true := by
  simp only [Memory.wf, Bool.and_eq_true] at h ⊢
  exact ⟨⟨⟨⟨⟨SMap.wf_set _ _ _ _ h.1.1.1.1.1, h.1.1.1.1.2⟩, h.1.1.1.2⟩, h.1.1.2⟩, h.1.2⟩, h.2⟩

theorem Memory.wf_setMByte (a : Nat) (v : Byte) (h : Memory.wf s = true) : Memory.wf (s.setMByte a v) = true := by
  simp only [Memory.wf, Bool.and_eq_true] at h ⊢
  exact ⟨⟨⟨⟨⟨h.1.1.1.1.1, SMap.wfBy_set _ _ _ _ h.1.1.1.1.2⟩, h.1.1.1.2⟩, h.1.1.2⟩, h.1.2⟩, h.2⟩

theorem Memory.wf_setFrame (c w : Nat) (v : Word) (h : Memory.wf s = true) : Memory.wf (s.setFrame c w v) = true := by
  simp only [Memory.wf, Bool.and_eq_true] at h ⊢
  exact ⟨⟨⟨⟨⟨h.1.1.1.1.1, h.1.1.1.1.2⟩, SMap.wf_set _ _ _ _ h.1.1.1.2⟩, h.1.1.2⟩, h.1.2⟩, h.2⟩

theorem Memory.wf_setFByte (n b o : Nat) (v : Byte) (h : Memory.wf s = true) : Memory.wf (s.setFByte n b o v) = true := by
  simp only [Memory.wf, Bool.and_eq_true] at h ⊢
  exact ⟨⟨⟨⟨⟨h.1.1.1.1.1, h.1.1.1.1.2⟩, h.1.1.1.2⟩, SMap.wf_set _ _ _ _ h.1.1.2⟩, h.1.2⟩, h.2⟩

theorem Memory.wf_setCanWord (u w : Nat) (v : Word) (h : Memory.wf s = true) : Memory.wf (s.setCanWord u w v) = true := by
  unfold State.setCanWord
  split
  · exact h
  simp only [Memory.wf, Bool.and_eq_true] at h ⊢
  exact ⟨⟨⟨⟨⟨h.1.1.1.1.1, h.1.1.1.1.2⟩, h.1.1.1.2⟩, h.1.1.2⟩, SMap.wf_set _ _ _ _ h.1.2⟩, h.2⟩

theorem Memory.wf_setT1sWord (o : Nat) (v : Word) (h : Memory.wf s = true) : Memory.wf (setT1sWord s o v) = true := by
  simp only [Memory.wf, Bool.and_eq_true] at h ⊢
  exact ⟨⟨⟨⟨⟨h.1.1.1.1.1, h.1.1.1.1.2⟩, h.1.1.1.2⟩, h.1.1.2⟩, h.1.2⟩, SMap.wf_set _ _ _ _ h.2⟩

/-- Entries of MRAM left out keep the form. -/
theorem Memory.wf_filterMram (p : Nat × Byte → Bool) (h : Memory.wf s = true) :
    Memory.wf { s with cpu := { s.cpu with mram := s.cpu.mram.filter p } } = true := by
  simp only [Memory.wf, Bool.and_eq_true] at h ⊢
  refine ⟨⟨⟨⟨⟨h.1.1.1.1.1, ?_⟩, h.1.1.1.2⟩, h.1.1.2⟩, h.1.2⟩, h.2⟩
  have h := h.1.1.1.1.2
  simp only [SMap.wfBy, Bool.and_eq_true, List.all_eq_true, decide_eq_true_eq] at h ⊢
  exact ⟨SMap.sorted_filter _ _ h.1, fun x hx => h.2 x (List.mem_filter.1 hx).1⟩

theorem Memory.wf_setDBytes (a : Nat) (be : BitVec 4) (v : Word) (h : Memory.wf s = true) : Memory.wf (s.setDBytes a be v) = true := by
  have hf (i : Nat) {s : State} (h : Memory.wf s = true) :
      Memory.wf (if be.getLsbD i then s.setDByte (a + i) (byteOf v i) else s) = true := by
    split
    · exact Memory.wf_setDByte _ _ h
    · exact h
  exact hf 3 (hf 2 (hf 1 (hf 0 h)))

theorem Memory.wf_setDWord (a : Nat) (v : Word) (h : Memory.wf s = true) : Memory.wf (s.setDWord a v) = true := Memory.wf_setDBytes _ _ _ h

theorem Memory.wf_setMBytes (a : Nat) (l : List Byte) (h : Memory.wf s = true) : Memory.wf (s.setMBytes a l) = true := by
  induction l generalizing s a with
  | nil => exact h
  | cons x l ih => exact ih _ (Memory.wf_setMByte _ _ h)

/-- A run of operations that each keep the form keeps it. -/
theorem Memory.wf_foldl {α : Type} (f : State → α → State) (hf : ∀ s a, Memory.wf s = true → Memory.wf (f s a) = true) (l : List α)
    (h : Memory.wf s = true) : Memory.wf (l.foldl f s) = true := by
  induction l generalizing s with
  | nil => exact h
  | cons x l ih => exact ih (hf _ _ h)

theorem Memory.wf_setFrames (c w : Nat) (l : List Word) (h : Memory.wf s = true) : Memory.wf (setFrames s c w l) = true := by
  induction l generalizing s w with
  | nil => exact h
  | cons x l ih => exact ih _ (Memory.wf_setFrame _ _ _ h)

/-- Reading a span of MRAM corrects its marks and raises its errors; its bytes stay. -/
theorem Memory.wf_mramSweep (w n : Nat) (h : Memory.wf s = true) : Memory.wf (mramSweep s w n) = true :=
  Memory.wf_foldl _ (fun _ _ h => by split <;> exact h) _ h

/-- One 64-bit write of the recorder keeps the form. -/
theorem Memory.wf_mramPut (w : MWrite) (h : Memory.wf s = true) : Memory.wf (mramPut s w) = true :=
  Memory.wf_setMBytes w.1 w.2 h

theorem Memory.wf_copyHalf (src dst : Nat) (h : Memory.wf s = true) : Memory.wf (copyHalf s src dst) = true :=
  Memory.wf_foldl _ (fun _ _ h => Memory.wf_setMByte _ _ h) _ (Memory.wf_filterMram _ (Memory.wf_mramSweep _ _ h))

theorem Memory.wf_storeBank (b : Nat) (l : List Seg) (h : Memory.wf s = true) : Memory.wf (storeBank s b l) = true :=
  Memory.wf_foldl _ (fun _ _ h => Memory.wf_setMByte _ _ h) _ (Memory.wf_filterMram _ h)

/-- A replaced context keeps the invariant. -/
theorem Inv.setCtx (c : Nat) (x : Ctx) (h : Inv s = true) : Inv (s.setCtx c x) = true := by
  simp only [Inv, Bool.and_eq_true] at h ⊢
  exact ⟨⟨h.1.1, SMap.wf_set _ _ _ _ h.1.2⟩, h.2⟩

/-- A register written keeps the invariant. -/
theorem Inv.wr (r : Rg) (v : Word) (h : Inv s = true) : Inv (s.wr r v) = true := h

/-- A change that leaves the memories, the contexts and the tickets alone keeps the invariant. -/
theorem Inv.of_eq {t : State} (hm : Memory.wf s = true → Memory.wf t = true) (hc : t.cpu.ctxs = s.cpu.ctxs) (hl : t.ldg.tickets = s.ldg.tickets)
    (h : Inv s = true) : Inv t = true := by
  simp only [Inv, Bool.and_eq_true] at h ⊢
  rw [hc, hl]
  exact ⟨⟨hm h.1.1, h.1.2⟩, h.2⟩

/-- A ticket written keeps the invariant. -/
theorem Inv.setTicket (i : Nat) (k : Ticket) (h : Inv s = true) : Inv (s.setTicket i k) = true := by
  simp only [Inv, Bool.and_eq_true] at h ⊢
  exact ⟨h.1, SMap.sorted_ins _ _ _ h.2⟩

end Sys2Proof.Machine
end

