-- ==== Sys2Proof/Laws/Regs.lean ====
section
/-! SUPPORT. The laws of registers and fields: what a read gives after a write. -/
namespace Sys2Proof.Machine
open Sys2Proof

variable (s : State)

@[simp] theorem State.rd_wr_same (r : Rg) (v : Word) : (s.wr r v).rd r = v := SMap.get_set_same _ _ _ _

theorem State.rd_wr_other (r q : Rg) (v : Word) (h : q.addr ≠ r.addr) : (s.wr r v).rd q = s.rd q := SMap.get_set_other _ _ _ _ _ _ h

theorem State.rd_put_other (f : Fd) (n : Nat) (q : Rg) (h : q.addr ≠ f.r.addr) : (s.put f n).rd q = s.rd q := s.rd_wr_other _ _ _ h

theorem State.rd_putB_other (f : Fd) (b : Bool) (q : Rg) (h : q.addr ≠ f.r.addr) : (s.putB f b).rd q = s.rd q := s.rd_wr_other _ _ _ h

theorem State.rd_put_same (f : Fd) (n : Nat) : (s.put f n).rd f.r = setBits (s.rd f.r) f.hi f.lo n := s.rd_wr_same _ _

/-- A field reads what was put into it, in its width. -/
theorem State.get_put_same (f : Fd) (n : Nat) (h : f.hi < 32) (hl : f.lo ≤ f.hi) : (s.put f n).get f = n % 2 ^ (f.hi - f.lo + 1) := by
  unfold State.get
  rw [State.rd_put_same, getBits_setBits_same _ _ _ _ h hl]

theorem State.bit_putB_same (f : Fd) (b : Bool) (h : f.hi < 32) (hw : f.lo = f.hi) : (s.putB f b).bit f = b := by
  unfold State.bit State.putB
  rw [State.get_put_same _ _ _ h (Nat.le_of_eq hw), hw]
  cases b <;> simp [b2n]

/-- A field of another register reads as before. -/
theorem State.get_put_reg (f g : Fd) (n : Nat) (h : g.r.addr ≠ f.r.addr) : (s.put f n).get g = s.get g := by
  unfold State.get
  rw [State.rd_put_other _ _ _ _ h]

/-- Another field of the same register reads as before. -/
theorem State.get_put_fld (f g : Fd) (n : Nat) (hr : g.r = f.r) (h : f.hi < 32) (hlo : f.lo ≤ f.hi) (h' : g.hi < 32) (hl : g.lo ≤ g.hi) (hd : g.hi < f.lo ∨ f.hi < g.lo) :
    (s.put f n).get g = s.get g := by
  unfold State.get
  rw [hr, State.rd_put_same, getBits_setBits_other _ _ _ _ _ _ h hlo h' hl hd]

theorem State.get_lt (f : Fd) : s.get f < 2 ^ (f.hi - f.lo + 1) := getBits_lt _ _ _

end Sys2Proof.Machine
end

