-- ==== Sys2Proof/Laws/Shared.lean ====
section
/-! SUPPORT. What each shared operation can do, said once: a step, a checked register access, a violation, the issue of a syllable. -/
namespace Sys2Proof.Machine
open Sys2Proof Reg

variable (s : State)

/-! ## The step -/

theorem step_cons (c : Instr) (cs : List Instr) (h : s.pending = c :: cs) : step s = exec c { s with pending := cs } := by
  unfold step
  rw [h]

theorem step_nil (h : s.pending = []) : step s = .next (idle s) := by
  unfold step
  rw [h]

/-! ## Register accesses -/

/-- While the control die is in reset or without power no access is made. -/
theorem State.granted_held (w : Nat) (ok : Bool) (r : Rg) (f : State → State) (hr : ctlReached s = false) : s.granted w ok r f = s := by
  simp [State.granted, hr]

/-- An access that is granted and finds its leaf on is performed. -/
theorem State.granted_ok (w : Nat) (r : Rg) (f : State → State) (hr : ctlReached s = true) (h : gatedOff s r.addr = false) :
    s.granted w true r f = f s := by
  simp [State.granted, hr, h]

/-- An access without its grant is only counted. -/
theorem State.granted_refused (w : Nat) (r : Rg) (f : State → State) (hr : ctlReached s = true) :
    s.granted w false r f = s.violate w 3 (BitVec.ofNat 32 r.addr) := by
  simp [State.granted, hr]

/-- An access behind a leaf that is off only sets s_gated. -/
theorem State.granted_gated (w : Nat) (r : Rg) (f : State → State) (hr : ctlReached s = true) (h : gatedOff s r.addr = true) :
    s.granted w true r f = s.putB CLK_STATUS_s_gated true := by
  simp [State.granted, hr, h]

/-- Everything a checked access can do. -/
theorem State.granted_cases (w : Nat) (ok : Bool) (r : Rg) (f : State → State) :
    (ctlReached s = false ∧ s.granted w ok r f = s) ∨
    (ctlReached s = true ∧ ok = false ∧ s.granted w ok r f = s.violate w 3 (BitVec.ofNat 32 r.addr)) ∨
    (ctlReached s = true ∧ ok = true ∧ gatedOff s r.addr = true ∧ s.granted w ok r f = s.putB CLK_STATUS_s_gated true) ∨
    (ctlReached s = true ∧ ok = true ∧ gatedOff s r.addr = false ∧ s.granted w ok r f = f s) := by
  cases hr : ctlReached s with
  | false => exact .inl ⟨rfl, s.granted_held w ok r f hr⟩
  | true =>
    cases ok with
    | false => exact .inr (.inl ⟨rfl, rfl, s.granted_refused w r f hr⟩)
    | true =>
      cases h : gatedOff s r.addr with
      | true => exact .inr (.inr (.inl ⟨rfl, rfl, rfl, s.granted_gated w r f hr h⟩))
      | false => exact .inr (.inr (.inr ⟨rfl, rfl, rfl, s.granted_ok w r f hr h⟩))

/-- Everything that can become of an action or a write on its way to a power die: ignored, performed at once, or queued. -/
theorem viaDie_cases (d : Nat) (b : FrameBody) (f : State → State) :
    (dieReached s d = false ∧ viaDie s d b f = s) ∨
    (dieReached s d = true ∧ linkClear s d = true ∧ viaDie s d b f = exchange (f s) d) ∨
    (dieReached s d = true ∧ linkClear s d = false ∧ viaDie s d b f = queueFrame s d false b) := by
  unfold viaDie
  cases dieReached s d <;> cases linkClear s d <;> simp

/-- A queued frame changes the die links alone. -/
theorem queueFrame_only (d : Nat) (up : Bool) (b : FrameBody) : queueFrame s d up b = { s with lnk := (queueFrame s d up b).lnk } := rfl

/-- Filling the frames of a direction changes the die links alone. -/
theorem fillDir_only (d : Nat) (up : Bool) : fillDir s d up = { s with lnk := (fillDir s d up).lnk } := rfl

/-- Everything that can become of a frame that goes ahead of every other: ignored, performed at once, or put before what waits. -/
theorem viaDieFirst_cases (d : Nat) (b : FrameBody) (f : State → State) :
    (dieReached s d = false ∧ viaDieFirst s d b f = s) ∨
    (dieReached s d = true ∧ linkClear s d = true ∧ viaDieFirst s d b f = exchange (f s) d) ∨
    (dieReached s d = true ∧ linkClear s d = false ∧
      viaDieFirst s d b f = fillDir (s.setDir d false { s.dir d false with waiting := b :: (s.dir d false).waiting }) d false) := by
  unfold viaDieFirst
  cases dieReached s d <;> cases linkClear s d <;> simp

/-- Everything that can become of what a power die tells the control die: lost, heard at once, or queued. -/
theorem dieTells_cases (d : Nat) (b : FrameBody) (f : State → State) :
    dieTells s d b f = s ∨ dieTells s d b f = f s ∨ dieTells s d b f = queueFrame s d true b := by
  unfold dieTells
  split
  · exact .inl rfl
  · exact .inl rfl
  · exact .inl rfl
  · split
    · exact .inr (.inl rfl)
    · exact .inr (.inr rfl)

/-- An access that waits is kept with its ticket behind those that wait, and nothing else changes. -/
theorem post_only (c : Nat) (op : PostedOp) : post s c op =
    { s with cpu := { s.cpu with posted := s.cpu.posted ++ [⟨c, op, (s.ctx c).bound, s.cpu.stamp⟩], stamp := s.cpu.stamp + 1 } } := rfl

/-- A frame and its report change the die links alone. -/
theorem exchange_only (d : Nat) : exchange s d = { s with lnk := (exchange s d).lnk } := rfl

theorem State.iff_cases (b : Bool) (f : State → State) : (b = true ∧ s.iff b f = f s) ∨ (b = false ∧ s.iff b f = s) := by
  cases b <;> simp [State.iff]

/-- A violation changes registers alone. -/
theorem State.violate_only (c kind : Nat) (addr : Word) : s.violate c kind addr = { s with regs := (s.violate c kind addr).regs } := by
  unfold State.violate
  dsimp only
  split <;> rfl

theorem State.violateCap_only (c : Nat) : s.violateCap c = { s with regs := (s.violateCap c).regs, freeCtr := s.freeCtr + 1 } := by
  unfold State.violateCap State.drawn
  rw [s.violate_only]

/-! ## Queues between blocks -/

@[simp] theorem State.raise_raiseQ (src : Nat) (d : Word) : (s.raise src d).raiseQ = s.raiseQ ++ [⟨src, false, stays src, d⟩] := rfl
@[simp] theorem State.raiseWire_raiseQ (src : Nat) : (s.raiseWire src).raiseQ = s.raiseQ ++ [⟨src, true, true, 0⟩] := rfl
@[simp] theorem State.event_evq (src pay : Nat) : (s.event src pay).evq = s.evq ++ [⟨src, pay % 16384, none⟩] := rfl
@[simp] theorem State.eventTo_evq (src pay ctx inp : Nat) : (s.eventTo src pay ctx inp).evq = s.evq ++ [⟨src, pay % 16384, some (ctx, inp)⟩] := rfl
@[simp] theorem State.drawn_freeCtr (s : State) : s.drawn.freeCtr = s.freeCtr + 1 := rfl

/-! ## Results and issue -/

/-- A result goes to its own context alone. -/
theorem produce_other (c d e : Nat) (t : Target) (h : e ≠ c) : (produce s c d t).ctx e = s.ctx e := s.ctx_modCtx_other c e _ h

/-- A syllable of slot B in an open packet that its WIDEN does not spell is not issued. -/
theorem issue_unspelt (c gd : Nat) (spell : Option Widen → Bool) (f : Option Widen → State → State) (k : Packet) (hk : (s.ctx c).packet = some k)
    (h : spell k.widen = false) : issue c .B spell gd f s = s := by
  unfold issue
  simp [hk, h]

/-- A syllable of slot B in an open packet: its effect if its guard holds, then the packet ends. -/
theorem issue_B (c gd : Nat) (spell : Option Widen → Bool) (f : Option Widen → State → State) (k : Packet) (hk : (s.ctx c).packet = some k)
    (hv : k.void = false) (h : spell k.widen = true) :
    issue c .B spell gd f s = closePacket (if guardHolds (s.ctx c).regs gd k.widen then f k.widen s else s) c := by
  unfold issue
  simp [hk, h, hv]

/-- A syllable of slot A: a packet is opened; where one is, the effect follows if the guard holds. -/
theorem issue_A (c gd : Nat) (spell : Option Widen → Bool) (f : Option Widen → State → State) (k : Packet)
    (hk : ((openPacket s c).ctx c).packet = some k) (hv : k.void = false) (h : spell none = true) :
    issue c .A spell gd f s = if guardHolds ((openPacket s c).ctx c).regs gd none then f none (openPacket s c) else openPacket s c := by
  unfold issue
  simp [hk, h, hv]

end Sys2Proof.Machine
end

