-- ==== Sys2Proof/Laws/State.lean ====
section
/-! SUPPORT. What each basic update of the state leaves alone, one lemma per field and update, and what it sets. -/
namespace Sys2Proof.Machine
open Sys2Proof
variable (s : State)

@[simp] theorem State.wr_pending (r : Rg) (v : Word) : (s.wr r v).pending = s.pending := rfl
@[simp] theorem State.wr_evq (r : Rg) (v : Word) : (s.wr r v).evq = s.evq := rfl
@[simp] theorem State.wr_raiseQ (r : Rg) (v : Word) : (s.wr r v).raiseQ = s.raiseQ := rfl
@[simp] theorem State.wr_freeCtr (r : Rg) (v : Word) : (s.wr r v).freeCtr = s.freeCtr := rfl
@[simp] theorem State.wr_cpu (r : Rg) (v : Word) : (s.wr r v).cpu = s.cpu := rfl
@[simp] theorem State.wr_tln (r : Rg) (v : Word) : (s.wr r v).tln = s.tln := rfl
@[simp] theorem State.wr_ldg (r : Rg) (v : Word) : (s.wr r v).ldg = s.ldg := rfl
@[simp] theorem State.wr_wm (r : Rg) (v : Word) : (s.wr r v).wm = s.wm := rfl
@[simp] theorem State.wr_psw (r : Rg) (v : Word) : (s.wr r v).psw = s.psw := rfl
@[simp] theorem State.wr_led (r : Rg) (v : Word) : (s.wr r v).led = s.led := rfl
@[simp] theorem State.wr_din (r : Rg) (v : Word) : (s.wr r v).din = s.din := rfl
@[simp] theorem State.wr_can (r : Rg) (v : Word) : (s.wr r v).can = s.can := rfl
@[simp] theorem State.wr_net (r : Rg) (v : Word) : (s.wr r v).net = s.net := rfl
@[simp] theorem State.wr_pwr (r : Rg) (v : Word) : (s.wr r v).pwr = s.pwr := rfl
@[simp] theorem State.wr_lnk (r : Rg) (v : Word) : (s.wr r v).lnk = s.lnk := rfl
@[simp] theorem State.wr_acc (r : Rg) (v : Word) : (s.wr r v).acc = s.acc := rfl
@[simp] theorem State.wr_mtr (r : Rg) (v : Word) : (s.wr r v).mtr = s.mtr := rfl
@[simp] theorem State.wr_clk (r : Rg) (v : Word) : (s.wr r v).clk = s.clk := rfl
@[simp] theorem State.wr_evr (r : Rg) (v : Word) : (s.wr r v).evr = s.evr := rfl
@[simp] theorem State.wr_upd (r : Rg) (v : Word) : (s.wr r v).upd = s.upd := rfl
@[simp] theorem State.wr_bist (r : Rg) (v : Word) : (s.wr r v).bist = s.bist := rfl
@[simp] theorem State.wr_out (r : Rg) (v : Word) : (s.wr r v).out = s.out := rfl
@[simp] theorem State.put_pending (f : Fd) (n : Nat) : (s.put f n).pending = s.pending := rfl
@[simp] theorem State.put_evq (f : Fd) (n : Nat) : (s.put f n).evq = s.evq := rfl
@[simp] theorem State.put_raiseQ (f : Fd) (n : Nat) : (s.put f n).raiseQ = s.raiseQ := rfl
@[simp] theorem State.put_freeCtr (f : Fd) (n : Nat) : (s.put f n).freeCtr = s.freeCtr := rfl
@[simp] theorem State.put_cpu (f : Fd) (n : Nat) : (s.put f n).cpu = s.cpu := rfl
@[simp] theorem State.put_tln (f : Fd) (n : Nat) : (s.put f n).tln = s.tln := rfl
@[simp] theorem State.put_ldg (f : Fd) (n : Nat) : (s.put f n).ldg = s.ldg := rfl
@[simp] theorem State.put_wm (f : Fd) (n : Nat) : (s.put f n).wm = s.wm := rfl
@[simp] theorem State.put_psw (f : Fd) (n : Nat) : (s.put f n).psw = s.psw := rfl
@[simp] theorem State.put_led (f : Fd) (n : Nat) : (s.put f n).led = s.led := rfl
@[simp] theorem State.put_din (f : Fd) (n : Nat) : (s.put f n).din = s.din := rfl
@[simp] theorem State.put_can (f : Fd) (n : Nat) : (s.put f n).can = s.can := rfl
@[simp] theorem State.put_net (f : Fd) (n : Nat) : (s.put f n).net = s.net := rfl
@[simp] theorem State.put_pwr (f : Fd) (n : Nat) : (s.put f n).pwr = s.pwr := rfl
@[simp] theorem State.put_lnk (f : Fd) (n : Nat) : (s.put f n).lnk = s.lnk := rfl
@[simp] theorem State.put_acc (f : Fd) (n : Nat) : (s.put f n).acc = s.acc := rfl
@[simp] theorem State.put_mtr (f : Fd) (n : Nat) : (s.put f n).mtr = s.mtr := rfl
@[simp] theorem State.put_clk (f : Fd) (n : Nat) : (s.put f n).clk = s.clk := rfl
@[simp] theorem State.put_evr (f : Fd) (n : Nat) : (s.put f n).evr = s.evr := rfl
@[simp] theorem State.put_upd (f : Fd) (n : Nat) : (s.put f n).upd = s.upd := rfl
@[simp] theorem State.put_bist (f : Fd) (n : Nat) : (s.put f n).bist = s.bist := rfl
@[simp] theorem State.put_out (f : Fd) (n : Nat) : (s.put f n).out = s.out := rfl
@[simp] theorem State.putB_pending (f : Fd) (b : Bool) : (s.putB f b).pending = s.pending := rfl
@[simp] theorem State.putB_evq (f : Fd) (b : Bool) : (s.putB f b).evq = s.evq := rfl
@[simp] theorem State.putB_raiseQ (f : Fd) (b : Bool) : (s.putB f b).raiseQ = s.raiseQ := rfl
@[simp] theorem State.putB_freeCtr (f : Fd) (b : Bool) : (s.putB f b).freeCtr = s.freeCtr := rfl
@[simp] theorem State.putB_cpu (f : Fd) (b : Bool) : (s.putB f b).cpu = s.cpu := rfl
@[simp] theorem State.putB_tln (f : Fd) (b : Bool) : (s.putB f b).tln = s.tln := rfl
@[simp] theorem State.putB_ldg (f : Fd) (b : Bool) : (s.putB f b).ldg = s.ldg := rfl
@[simp] theorem State.putB_wm (f : Fd) (b : Bool) : (s.putB f b).wm = s.wm := rfl
@[simp] theorem State.putB_psw (f : Fd) (b : Bool) : (s.putB f b).psw = s.psw := rfl
@[simp] theorem State.putB_led (f : Fd) (b : Bool) : (s.putB f b).led = s.led := rfl
@[simp] theorem State.putB_din (f : Fd) (b : Bool) : (s.putB f b).din = s.din := rfl
@[simp] theorem State.putB_can (f : Fd) (b : Bool) : (s.putB f b).can = s.can := rfl
@[simp] theorem State.putB_net (f : Fd) (b : Bool) : (s.putB f b).net = s.net := rfl
@[simp] theorem State.putB_pwr (f : Fd) (b : Bool) : (s.putB f b).pwr = s.pwr := rfl
@[simp] theorem State.putB_lnk (f : Fd) (b : Bool) : (s.putB f b).lnk = s.lnk := rfl
@[simp] theorem State.putB_acc (f : Fd) (b : Bool) : (s.putB f b).acc = s.acc := rfl
@[simp] theorem State.putB_mtr (f : Fd) (b : Bool) : (s.putB f b).mtr = s.mtr := rfl
@[simp] theorem State.putB_clk (f : Fd) (b : Bool) : (s.putB f b).clk = s.clk := rfl
@[simp] theorem State.putB_evr (f : Fd) (b : Bool) : (s.putB f b).evr = s.evr := rfl
@[simp] theorem State.putB_upd (f : Fd) (b : Bool) : (s.putB f b).upd = s.upd := rfl
@[simp] theorem State.putB_bist (f : Fd) (b : Bool) : (s.putB f b).bist = s.bist := rfl
@[simp] theorem State.putB_out (f : Fd) (b : Bool) : (s.putB f b).out = s.out := rfl
@[simp] theorem State.count_pending (f : Fd) : (s.count f).pending = s.pending := rfl
@[simp] theorem State.count_evq (f : Fd) : (s.count f).evq = s.evq := rfl
@[simp] theorem State.count_raiseQ (f : Fd) : (s.count f).raiseQ = s.raiseQ := rfl
@[simp] theorem State.count_freeCtr (f : Fd) : (s.count f).freeCtr = s.freeCtr := rfl
@[simp] theorem State.count_cpu (f : Fd) : (s.count f).cpu = s.cpu := rfl
@[simp] theorem State.count_tln (f : Fd) : (s.count f).tln = s.tln := rfl
@[simp] theorem State.count_ldg (f : Fd) : (s.count f).ldg = s.ldg := rfl
@[simp] theorem State.count_wm (f : Fd) : (s.count f).wm = s.wm := rfl
@[simp] theorem State.count_psw (f : Fd) : (s.count f).psw = s.psw := rfl
@[simp] theorem State.count_led (f : Fd) : (s.count f).led = s.led := rfl
@[simp] theorem State.count_din (f : Fd) : (s.count f).din = s.din := rfl
@[simp] theorem State.count_can (f : Fd) : (s.count f).can = s.can := rfl
@[simp] theorem State.count_net (f : Fd) : (s.count f).net = s.net := rfl
@[simp] theorem State.count_pwr (f : Fd) : (s.count f).pwr = s.pwr := rfl
@[simp] theorem State.count_lnk (f : Fd) : (s.count f).lnk = s.lnk := rfl
@[simp] theorem State.count_acc (f : Fd) : (s.count f).acc = s.acc := rfl
@[simp] theorem State.count_mtr (f : Fd) : (s.count f).mtr = s.mtr := rfl
@[simp] theorem State.count_clk (f : Fd) : (s.count f).clk = s.clk := rfl
@[simp] theorem State.count_evr (f : Fd) : (s.count f).evr = s.evr := rfl
@[simp] theorem State.count_upd (f : Fd) : (s.count f).upd = s.upd := rfl
@[simp] theorem State.count_bist (f : Fd) : (s.count f).bist = s.bist := rfl
@[simp] theorem State.count_out (f : Fd) : (s.count f).out = s.out := rfl
@[simp] theorem State.wrap_pending (f : Fd) : (s.wrap f).pending = s.pending := rfl
@[simp] theorem State.wrap_evq (f : Fd) : (s.wrap f).evq = s.evq := rfl
@[simp] theorem State.wrap_raiseQ (f : Fd) : (s.wrap f).raiseQ = s.raiseQ := rfl
@[simp] theorem State.wrap_freeCtr (f : Fd) : (s.wrap f).freeCtr = s.freeCtr := rfl
@[simp] theorem State.wrap_cpu (f : Fd) : (s.wrap f).cpu = s.cpu := rfl
@[simp] theorem State.wrap_tln (f : Fd) : (s.wrap f).tln = s.tln := rfl
@[simp] theorem State.wrap_ldg (f : Fd) : (s.wrap f).ldg = s.ldg := rfl
@[simp] theorem State.wrap_wm (f : Fd) : (s.wrap f).wm = s.wm := rfl
@[simp] theorem State.wrap_psw (f : Fd) : (s.wrap f).psw = s.psw := rfl
@[simp] theorem State.wrap_led (f : Fd) : (s.wrap f).led = s.led := rfl
@[simp] theorem State.wrap_din (f : Fd) : (s.wrap f).din = s.din := rfl
@[simp] theorem State.wrap_can (f : Fd) : (s.wrap f).can = s.can := rfl
@[simp] theorem State.wrap_net (f : Fd) : (s.wrap f).net = s.net := rfl
@[simp] theorem State.wrap_pwr (f : Fd) : (s.wrap f).pwr = s.pwr := rfl
@[simp] theorem State.wrap_lnk (f : Fd) : (s.wrap f).lnk = s.lnk := rfl
@[simp] theorem State.wrap_acc (f : Fd) : (s.wrap f).acc = s.acc := rfl
@[simp] theorem State.wrap_mtr (f : Fd) : (s.wrap f).mtr = s.mtr := rfl
@[simp] theorem State.wrap_clk (f : Fd) : (s.wrap f).clk = s.clk := rfl
@[simp] theorem State.wrap_evr (f : Fd) : (s.wrap f).evr = s.evr := rfl
@[simp] theorem State.wrap_upd (f : Fd) : (s.wrap f).upd = s.upd := rfl
@[simp] theorem State.wrap_bist (f : Fd) : (s.wrap f).bist = s.bist := rfl
@[simp] theorem State.wrap_out (f : Fd) : (s.wrap f).out = s.out := rfl
@[simp] theorem State.raise_regs (src : Nat) (d : Word) : (s.raise src d).regs = s.regs := rfl
@[simp] theorem State.raise_pending (src : Nat) (d : Word) : (s.raise src d).pending = s.pending := rfl
@[simp] theorem State.raise_evq (src : Nat) (d : Word) : (s.raise src d).evq = s.evq := rfl
@[simp] theorem State.raise_freeCtr (src : Nat) (d : Word) : (s.raise src d).freeCtr = s.freeCtr := rfl
@[simp] theorem State.raise_cpu (src : Nat) (d : Word) : (s.raise src d).cpu = s.cpu := rfl
@[simp] theorem State.raise_tln (src : Nat) (d : Word) : (s.raise src d).tln = s.tln := rfl
@[simp] theorem State.raise_ldg (src : Nat) (d : Word) : (s.raise src d).ldg = s.ldg := rfl
@[simp] theorem State.raise_wm (src : Nat) (d : Word) : (s.raise src d).wm = s.wm := rfl
@[simp] theorem State.raise_psw (src : Nat) (d : Word) : (s.raise src d).psw = s.psw := rfl
@[simp] theorem State.raise_led (src : Nat) (d : Word) : (s.raise src d).led = s.led := rfl
@[simp] theorem State.raise_din (src : Nat) (d : Word) : (s.raise src d).din = s.din := rfl
@[simp] theorem State.raise_can (src : Nat) (d : Word) : (s.raise src d).can = s.can := rfl
@[simp] theorem State.raise_net (src : Nat) (d : Word) : (s.raise src d).net = s.net := rfl
@[simp] theorem State.raise_pwr (src : Nat) (d : Word) : (s.raise src d).pwr = s.pwr := rfl
@[simp] theorem State.raise_lnk (src : Nat) (d : Word) : (s.raise src d).lnk = s.lnk := rfl
@[simp] theorem State.raise_acc (src : Nat) (d : Word) : (s.raise src d).acc = s.acc := rfl
@[simp] theorem State.raise_mtr (src : Nat) (d : Word) : (s.raise src d).mtr = s.mtr := rfl
@[simp] theorem State.raise_clk (src : Nat) (d : Word) : (s.raise src d).clk = s.clk := rfl
@[simp] theorem State.raise_evr (src : Nat) (d : Word) : (s.raise src d).evr = s.evr := rfl
@[simp] theorem State.raise_upd (src : Nat) (d : Word) : (s.raise src d).upd = s.upd := rfl
@[simp] theorem State.raise_bist (src : Nat) (d : Word) : (s.raise src d).bist = s.bist := rfl
@[simp] theorem State.raise_out (src : Nat) (d : Word) : (s.raise src d).out = s.out := rfl
@[simp] theorem State.raiseWire_regs (src : Nat) : (s.raiseWire src).regs = s.regs := rfl
@[simp] theorem State.raiseWire_pending (src : Nat) : (s.raiseWire src).pending = s.pending := rfl
@[simp] theorem State.raiseWire_evq (src : Nat) : (s.raiseWire src).evq = s.evq := rfl
@[simp] theorem State.raiseWire_freeCtr (src : Nat) : (s.raiseWire src).freeCtr = s.freeCtr := rfl
@[simp] theorem State.raiseWire_cpu (src : Nat) : (s.raiseWire src).cpu = s.cpu := rfl
@[simp] theorem State.raiseWire_tln (src : Nat) : (s.raiseWire src).tln = s.tln := rfl
@[simp] theorem State.raiseWire_ldg (src : Nat) : (s.raiseWire src).ldg = s.ldg := rfl
@[simp] theorem State.raiseWire_wm (src : Nat) : (s.raiseWire src).wm = s.wm := rfl
@[simp] theorem State.raiseWire_psw (src : Nat) : (s.raiseWire src).psw = s.psw := rfl
@[simp] theorem State.raiseWire_led (src : Nat) : (s.raiseWire src).led = s.led := rfl
@[simp] theorem State.raiseWire_din (src : Nat) : (s.raiseWire src).din = s.din := rfl
@[simp] theorem State.raiseWire_can (src : Nat) : (s.raiseWire src).can = s.can := rfl
@[simp] theorem State.raiseWire_net (src : Nat) : (s.raiseWire src).net = s.net := rfl
@[simp] theorem State.raiseWire_pwr (src : Nat) : (s.raiseWire src).pwr = s.pwr := rfl
@[simp] theorem State.raiseWire_lnk (src : Nat) : (s.raiseWire src).lnk = s.lnk := rfl
@[simp] theorem State.raiseWire_acc (src : Nat) : (s.raiseWire src).acc = s.acc := rfl
@[simp] theorem State.raiseWire_mtr (src : Nat) : (s.raiseWire src).mtr = s.mtr := rfl
@[simp] theorem State.raiseWire_clk (src : Nat) : (s.raiseWire src).clk = s.clk := rfl
@[simp] theorem State.raiseWire_evr (src : Nat) : (s.raiseWire src).evr = s.evr := rfl
@[simp] theorem State.raiseWire_upd (src : Nat) : (s.raiseWire src).upd = s.upd := rfl
@[simp] theorem State.raiseWire_bist (src : Nat) : (s.raiseWire src).bist = s.bist := rfl
@[simp] theorem State.raiseWire_out (src : Nat) : (s.raiseWire src).out = s.out := rfl
@[simp] theorem State.event_regs (src pay : Nat) : (s.event src pay).regs = s.regs := rfl
@[simp] theorem State.event_pending (src pay : Nat) : (s.event src pay).pending = s.pending := rfl
@[simp] theorem State.event_raiseQ (src pay : Nat) : (s.event src pay).raiseQ = s.raiseQ := rfl
@[simp] theorem State.event_freeCtr (src pay : Nat) : (s.event src pay).freeCtr = s.freeCtr := rfl
@[simp] theorem State.event_cpu (src pay : Nat) : (s.event src pay).cpu = s.cpu := rfl
@[simp] theorem State.event_tln (src pay : Nat) : (s.event src pay).tln = s.tln := rfl
@[simp] theorem State.event_ldg (src pay : Nat) : (s.event src pay).ldg = s.ldg := rfl
@[simp] theorem State.event_wm (src pay : Nat) : (s.event src pay).wm = s.wm := rfl
@[simp] theorem State.event_psw (src pay : Nat) : (s.event src pay).psw = s.psw := rfl
@[simp] theorem State.event_led (src pay : Nat) : (s.event src pay).led = s.led := rfl
@[simp] theorem State.event_din (src pay : Nat) : (s.event src pay).din = s.din := rfl
@[simp] theorem State.event_can (src pay : Nat) : (s.event src pay).can = s.can := rfl
@[simp] theorem State.event_net (src pay : Nat) : (s.event src pay).net = s.net := rfl
@[simp] theorem State.event_pwr (src pay : Nat) : (s.event src pay).pwr = s.pwr := rfl
@[simp] theorem State.event_lnk (src pay : Nat) : (s.event src pay).lnk = s.lnk := rfl
@[simp] theorem State.event_acc (src pay : Nat) : (s.event src pay).acc = s.acc := rfl
@[simp] theorem State.event_mtr (src pay : Nat) : (s.event src pay).mtr = s.mtr := rfl
@[simp] theorem State.event_clk (src pay : Nat) : (s.event src pay).clk = s.clk := rfl
@[simp] theorem State.event_evr (src pay : Nat) : (s.event src pay).evr = s.evr := rfl
@[simp] theorem State.event_upd (src pay : Nat) : (s.event src pay).upd = s.upd := rfl
@[simp] theorem State.event_bist (src pay : Nat) : (s.event src pay).bist = s.bist := rfl
@[simp] theorem State.event_out (src pay : Nat) : (s.event src pay).out = s.out := rfl
@[simp] theorem State.eventTo_regs (src pay c i : Nat) : (s.eventTo src pay c i).regs = s.regs := rfl
@[simp] theorem State.eventTo_pending (src pay c i : Nat) : (s.eventTo src pay c i).pending = s.pending := rfl
@[simp] theorem State.eventTo_raiseQ (src pay c i : Nat) : (s.eventTo src pay c i).raiseQ = s.raiseQ := rfl
@[simp] theorem State.eventTo_freeCtr (src pay c i : Nat) : (s.eventTo src pay c i).freeCtr = s.freeCtr := rfl
@[simp] theorem State.eventTo_cpu (src pay c i : Nat) : (s.eventTo src pay c i).cpu = s.cpu := rfl
@[simp] theorem State.eventTo_tln (src pay c i : Nat) : (s.eventTo src pay c i).tln = s.tln := rfl
@[simp] theorem State.eventTo_ldg (src pay c i : Nat) : (s.eventTo src pay c i).ldg = s.ldg := rfl
@[simp] theorem State.eventTo_wm (src pay c i : Nat) : (s.eventTo src pay c i).wm = s.wm := rfl
@[simp] theorem State.eventTo_psw (src pay c i : Nat) : (s.eventTo src pay c i).psw = s.psw := rfl
@[simp] theorem State.eventTo_led (src pay c i : Nat) : (s.eventTo src pay c i).led = s.led := rfl
@[simp] theorem State.eventTo_din (src pay c i : Nat) : (s.eventTo src pay c i).din = s.din := rfl
@[simp] theorem State.eventTo_can (src pay c i : Nat) : (s.eventTo src pay c i).can = s.can := rfl
@[simp] theorem State.eventTo_net (src pay c i : Nat) : (s.eventTo src pay c i).net = s.net := rfl
@[simp] theorem State.eventTo_pwr (src pay c i : Nat) : (s.eventTo src pay c i).pwr = s.pwr := rfl
@[simp] theorem State.eventTo_lnk (src pay c i : Nat) : (s.eventTo src pay c i).lnk = s.lnk := rfl
@[simp] theorem State.eventTo_acc (src pay c i : Nat) : (s.eventTo src pay c i).acc = s.acc := rfl
@[simp] theorem State.eventTo_mtr (src pay c i : Nat) : (s.eventTo src pay c i).mtr = s.mtr := rfl
@[simp] theorem State.eventTo_clk (src pay c i : Nat) : (s.eventTo src pay c i).clk = s.clk := rfl
@[simp] theorem State.eventTo_evr (src pay c i : Nat) : (s.eventTo src pay c i).evr = s.evr := rfl
@[simp] theorem State.eventTo_upd (src pay c i : Nat) : (s.eventTo src pay c i).upd = s.upd := rfl
@[simp] theorem State.eventTo_bist (src pay c i : Nat) : (s.eventTo src pay c i).bist = s.bist := rfl
@[simp] theorem State.eventTo_out (src pay c i : Nat) : (s.eventTo src pay c i).out = s.out := rfl
@[simp] theorem State.drawn_regs : (s.drawn ).regs = s.regs := rfl
@[simp] theorem State.drawn_pending : (s.drawn ).pending = s.pending := rfl
@[simp] theorem State.drawn_evq : (s.drawn ).evq = s.evq := rfl
@[simp] theorem State.drawn_raiseQ : (s.drawn ).raiseQ = s.raiseQ := rfl
@[simp] theorem State.drawn_cpu : (s.drawn ).cpu = s.cpu := rfl
@[simp] theorem State.drawn_tln : (s.drawn ).tln = s.tln := rfl
@[simp] theorem State.drawn_ldg : (s.drawn ).ldg = s.ldg := rfl
@[simp] theorem State.drawn_wm : (s.drawn ).wm = s.wm := rfl
@[simp] theorem State.drawn_psw : (s.drawn ).psw = s.psw := rfl
@[simp] theorem State.drawn_led : (s.drawn ).led = s.led := rfl
@[simp] theorem State.drawn_din : (s.drawn ).din = s.din := rfl
@[simp] theorem State.drawn_can : (s.drawn ).can = s.can := rfl
@[simp] theorem State.drawn_net : (s.drawn ).net = s.net := rfl
@[simp] theorem State.drawn_pwr : (s.drawn ).pwr = s.pwr := rfl
@[simp] theorem State.drawn_lnk : (s.drawn ).lnk = s.lnk := rfl
@[simp] theorem State.drawn_acc : (s.drawn ).acc = s.acc := rfl
@[simp] theorem State.drawn_mtr : (s.drawn ).mtr = s.mtr := rfl
@[simp] theorem State.drawn_clk : (s.drawn ).clk = s.clk := rfl
@[simp] theorem State.drawn_evr : (s.drawn ).evr = s.evr := rfl
@[simp] theorem State.drawn_upd : (s.drawn ).upd = s.upd := rfl
@[simp] theorem State.drawn_bist : (s.drawn ).bist = s.bist := rfl
@[simp] theorem State.drawn_out : (s.drawn ).out = s.out := rfl
@[simp] theorem State.stamped_regs : (s.stamped ).regs = s.regs := rfl
@[simp] theorem State.stamped_pending : (s.stamped ).pending = s.pending := rfl
@[simp] theorem State.stamped_evq : (s.stamped ).evq = s.evq := rfl
@[simp] theorem State.stamped_raiseQ : (s.stamped ).raiseQ = s.raiseQ := rfl
@[simp] theorem State.stamped_freeCtr : (s.stamped ).freeCtr = s.freeCtr := rfl
@[simp] theorem State.stamped_tln : (s.stamped ).tln = s.tln := rfl
@[simp] theorem State.stamped_ldg : (s.stamped ).ldg = s.ldg := rfl
@[simp] theorem State.stamped_wm : (s.stamped ).wm = s.wm := rfl
@[simp] theorem State.stamped_psw : (s.stamped ).psw = s.psw := rfl
@[simp] theorem State.stamped_led : (s.stamped ).led = s.led := rfl
@[simp] theorem State.stamped_din : (s.stamped ).din = s.din := rfl
@[simp] theorem State.stamped_can : (s.stamped ).can = s.can := rfl
@[simp] theorem State.stamped_net : (s.stamped ).net = s.net := rfl
@[simp] theorem State.stamped_pwr : (s.stamped ).pwr = s.pwr := rfl
@[simp] theorem State.stamped_lnk : (s.stamped ).lnk = s.lnk := rfl
@[simp] theorem State.stamped_acc : (s.stamped ).acc = s.acc := rfl
@[simp] theorem State.stamped_mtr : (s.stamped ).mtr = s.mtr := rfl
@[simp] theorem State.stamped_clk : (s.stamped ).clk = s.clk := rfl
@[simp] theorem State.stamped_evr : (s.stamped ).evr = s.evr := rfl
@[simp] theorem State.stamped_upd : (s.stamped ).upd = s.upd := rfl
@[simp] theorem State.stamped_bist : (s.stamped ).bist = s.bist := rfl
@[simp] theorem State.stamped_out : (s.stamped ).out = s.out := rfl
@[simp] theorem State.setCtx_regs (c : Nat) (x : Ctx) : (s.setCtx c x).regs = s.regs := rfl
@[simp] theorem State.setCtx_pending (c : Nat) (x : Ctx) : (s.setCtx c x).pending = s.pending := rfl
@[simp] theorem State.setCtx_evq (c : Nat) (x : Ctx) : (s.setCtx c x).evq = s.evq := rfl
@[simp] theorem State.setCtx_raiseQ (c : Nat) (x : Ctx) : (s.setCtx c x).raiseQ = s.raiseQ := rfl
@[simp] theorem State.setCtx_freeCtr (c : Nat) (x : Ctx) : (s.setCtx c x).freeCtr = s.freeCtr := rfl
@[simp] theorem State.setCtx_tln (c : Nat) (x : Ctx) : (s.setCtx c x).tln = s.tln := rfl
@[simp] theorem State.setCtx_ldg (c : Nat) (x : Ctx) : (s.setCtx c x).ldg = s.ldg := rfl
@[simp] theorem State.setCtx_wm (c : Nat) (x : Ctx) : (s.setCtx c x).wm = s.wm := rfl
@[simp] theorem State.setCtx_psw (c : Nat) (x : Ctx) : (s.setCtx c x).psw = s.psw := rfl
@[simp] theorem State.setCtx_led (c : Nat) (x : Ctx) : (s.setCtx c x).led = s.led := rfl
@[simp] theorem State.setCtx_din (c : Nat) (x : Ctx) : (s.setCtx c x).din = s.din := rfl
@[simp] theorem State.setCtx_can (c : Nat) (x : Ctx) : (s.setCtx c x).can = s.can := rfl
@[simp] theorem State.setCtx_net (c : Nat) (x : Ctx) : (s.setCtx c x).net = s.net := rfl
@[simp] theorem State.setCtx_pwr (c : Nat) (x : Ctx) : (s.setCtx c x).pwr = s.pwr := rfl
@[simp] theorem State.setCtx_lnk (c : Nat) (x : Ctx) : (s.setCtx c x).lnk = s.lnk := rfl
@[simp] theorem State.setCtx_acc (c : Nat) (x : Ctx) : (s.setCtx c x).acc = s.acc := rfl
@[simp] theorem State.setCtx_mtr (c : Nat) (x : Ctx) : (s.setCtx c x).mtr = s.mtr := rfl
@[simp] theorem State.setCtx_clk (c : Nat) (x : Ctx) : (s.setCtx c x).clk = s.clk := rfl
@[simp] theorem State.setCtx_evr (c : Nat) (x : Ctx) : (s.setCtx c x).evr = s.evr := rfl
@[simp] theorem State.setCtx_upd (c : Nat) (x : Ctx) : (s.setCtx c x).upd = s.upd := rfl
@[simp] theorem State.setCtx_bist (c : Nat) (x : Ctx) : (s.setCtx c x).bist = s.bist := rfl
@[simp] theorem State.setCtx_out (c : Nat) (x : Ctx) : (s.setCtx c x).out = s.out := rfl
@[simp] theorem State.modCtx_regs (c : Nat) (f : Ctx → Ctx) : (s.modCtx c f).regs = s.regs := rfl
@[simp] theorem State.modCtx_pending (c : Nat) (f : Ctx → Ctx) : (s.modCtx c f).pending = s.pending := rfl
@[simp] theorem State.modCtx_evq (c : Nat) (f : Ctx → Ctx) : (s.modCtx c f).evq = s.evq := rfl
@[simp] theorem State.modCtx_raiseQ (c : Nat) (f : Ctx → Ctx) : (s.modCtx c f).raiseQ = s.raiseQ := rfl
@[simp] theorem State.modCtx_freeCtr (c : Nat) (f : Ctx → Ctx) : (s.modCtx c f).freeCtr = s.freeCtr := rfl
@[simp] theorem State.modCtx_tln (c : Nat) (f : Ctx → Ctx) : (s.modCtx c f).tln = s.tln := rfl
@[simp] theorem State.modCtx_ldg (c : Nat) (f : Ctx → Ctx) : (s.modCtx c f).ldg = s.ldg := rfl
@[simp] theorem State.modCtx_wm (c : Nat) (f : Ctx → Ctx) : (s.modCtx c f).wm = s.wm := rfl
@[simp] theorem State.modCtx_psw (c : Nat) (f : Ctx → Ctx) : (s.modCtx c f).psw = s.psw := rfl
@[simp] theorem State.modCtx_led (c : Nat) (f : Ctx → Ctx) : (s.modCtx c f).led = s.led := rfl
@[simp] theorem State.modCtx_din (c : Nat) (f : Ctx → Ctx) : (s.modCtx c f).din = s.din := rfl
@[simp] theorem State.modCtx_can (c : Nat) (f : Ctx → Ctx) : (s.modCtx c f).can = s.can := rfl
@[simp] theorem State.modCtx_net (c : Nat) (f : Ctx → Ctx) : (s.modCtx c f).net = s.net := rfl
@[simp] theorem State.modCtx_pwr (c : Nat) (f : Ctx → Ctx) : (s.modCtx c f).pwr = s.pwr := rfl
@[simp] theorem State.modCtx_lnk (c : Nat) (f : Ctx → Ctx) : (s.modCtx c f).lnk = s.lnk := rfl
@[simp] theorem State.modCtx_acc (c : Nat) (f : Ctx → Ctx) : (s.modCtx c f).acc = s.acc := rfl
@[simp] theorem State.modCtx_mtr (c : Nat) (f : Ctx → Ctx) : (s.modCtx c f).mtr = s.mtr := rfl
@[simp] theorem State.modCtx_clk (c : Nat) (f : Ctx → Ctx) : (s.modCtx c f).clk = s.clk := rfl
@[simp] theorem State.modCtx_evr (c : Nat) (f : Ctx → Ctx) : (s.modCtx c f).evr = s.evr := rfl
@[simp] theorem State.modCtx_upd (c : Nat) (f : Ctx → Ctx) : (s.modCtx c f).upd = s.upd := rfl
@[simp] theorem State.modCtx_bist (c : Nat) (f : Ctx → Ctx) : (s.modCtx c f).bist = s.bist := rfl
@[simp] theorem State.modCtx_out (c : Nat) (f : Ctx → Ctx) : (s.modCtx c f).out = s.out := rfl
@[simp] theorem State.setFrame_regs (c w : Nat) (v : Word) : (s.setFrame c w v).regs = s.regs := rfl
@[simp] theorem State.setFrame_pending (c w : Nat) (v : Word) : (s.setFrame c w v).pending = s.pending := rfl
@[simp] theorem State.setFrame_evq (c w : Nat) (v : Word) : (s.setFrame c w v).evq = s.evq := rfl
@[simp] theorem State.setFrame_raiseQ (c w : Nat) (v : Word) : (s.setFrame c w v).raiseQ = s.raiseQ := rfl
@[simp] theorem State.setFrame_freeCtr (c w : Nat) (v : Word) : (s.setFrame c w v).freeCtr = s.freeCtr := rfl
@[simp] theorem State.setFrame_tln (c w : Nat) (v : Word) : (s.setFrame c w v).tln = s.tln := rfl
@[simp] theorem State.setFrame_ldg (c w : Nat) (v : Word) : (s.setFrame c w v).ldg = s.ldg := rfl
@[simp] theorem State.setFrame_wm (c w : Nat) (v : Word) : (s.setFrame c w v).wm = s.wm := rfl
@[simp] theorem State.setFrame_psw (c w : Nat) (v : Word) : (s.setFrame c w v).psw = s.psw := rfl
@[simp] theorem State.setFrame_led (c w : Nat) (v : Word) : (s.setFrame c w v).led = s.led := rfl
@[simp] theorem State.setFrame_din (c w : Nat) (v : Word) : (s.setFrame c w v).din = s.din := rfl
@[simp] theorem State.setFrame_can (c w : Nat) (v : Word) : (s.setFrame c w v).can = s.can := rfl
@[simp] theorem State.setFrame_net (c w : Nat) (v : Word) : (s.setFrame c w v).net = s.net := rfl
@[simp] theorem State.setFrame_pwr (c w : Nat) (v : Word) : (s.setFrame c w v).pwr = s.pwr := rfl
@[simp] theorem State.setFrame_lnk (c w : Nat) (v : Word) : (s.setFrame c w v).lnk = s.lnk := rfl
@[simp] theorem State.setFrame_acc (c w : Nat) (v : Word) : (s.setFrame c w v).acc = s.acc := rfl
@[simp] theorem State.setFrame_mtr (c w : Nat) (v : Word) : (s.setFrame c w v).mtr = s.mtr := rfl
@[simp] theorem State.setFrame_clk (c w : Nat) (v : Word) : (s.setFrame c w v).clk = s.clk := rfl
@[simp] theorem State.setFrame_evr (c w : Nat) (v : Word) : (s.setFrame c w v).evr = s.evr := rfl
@[simp] theorem State.setFrame_upd (c w : Nat) (v : Word) : (s.setFrame c w v).upd = s.upd := rfl
@[simp] theorem State.setFrame_bist (c w : Nat) (v : Word) : (s.setFrame c w v).bist = s.bist := rfl
@[simp] theorem State.setFrame_out (c w : Nat) (v : Word) : (s.setFrame c w v).out = s.out := rfl
@[simp] theorem State.setDByte_regs (a : Nat) (v : Byte) : (s.setDByte a v).regs = s.regs := rfl
@[simp] theorem State.setDByte_pending (a : Nat) (v : Byte) : (s.setDByte a v).pending = s.pending := rfl
@[simp] theorem State.setDByte_evq (a : Nat) (v : Byte) : (s.setDByte a v).evq = s.evq := rfl
@[simp] theorem State.setDByte_raiseQ (a : Nat) (v : Byte) : (s.setDByte a v).raiseQ = s.raiseQ := rfl
@[simp] theorem State.setDByte_freeCtr (a : Nat) (v : Byte) : (s.setDByte a v).freeCtr = s.freeCtr := rfl
@[simp] theorem State.setDByte_tln (a : Nat) (v : Byte) : (s.setDByte a v).tln = s.tln := rfl
@[simp] theorem State.setDByte_ldg (a : Nat) (v : Byte) : (s.setDByte a v).ldg = s.ldg := rfl
@[simp] theorem State.setDByte_wm (a : Nat) (v : Byte) : (s.setDByte a v).wm = s.wm := rfl
@[simp] theorem State.setDByte_psw (a : Nat) (v : Byte) : (s.setDByte a v).psw = s.psw := rfl
@[simp] theorem State.setDByte_led (a : Nat) (v : Byte) : (s.setDByte a v).led = s.led := rfl
@[simp] theorem State.setDByte_din (a : Nat) (v : Byte) : (s.setDByte a v).din = s.din := rfl
@[simp] theorem State.setDByte_can (a : Nat) (v : Byte) : (s.setDByte a v).can = s.can := rfl
@[simp] theorem State.setDByte_net (a : Nat) (v : Byte) : (s.setDByte a v).net = s.net := rfl
@[simp] theorem State.setDByte_pwr (a : Nat) (v : Byte) : (s.setDByte a v).pwr = s.pwr := rfl
@[simp] theorem State.setDByte_lnk (a : Nat) (v : Byte) : (s.setDByte a v).lnk = s.lnk := rfl
@[simp] theorem State.setDByte_acc (a : Nat) (v : Byte) : (s.setDByte a v).acc = s.acc := rfl
@[simp] theorem State.setDByte_mtr (a : Nat) (v : Byte) : (s.setDByte a v).mtr = s.mtr := rfl
@[simp] theorem State.setDByte_clk (a : Nat) (v : Byte) : (s.setDByte a v).clk = s.clk := rfl
@[simp] theorem State.setDByte_evr (a : Nat) (v : Byte) : (s.setDByte a v).evr = s.evr := rfl
@[simp] theorem State.setDByte_upd (a : Nat) (v : Byte) : (s.setDByte a v).upd = s.upd := rfl
@[simp] theorem State.setDByte_bist (a : Nat) (v : Byte) : (s.setDByte a v).bist = s.bist := rfl
@[simp] theorem State.setDByte_out (a : Nat) (v : Byte) : (s.setDByte a v).out = s.out := rfl
@[simp] theorem State.setMByte_regs (a : Nat) (v : Byte) : (s.setMByte a v).regs = s.regs := rfl
@[simp] theorem State.setMByte_pending (a : Nat) (v : Byte) : (s.setMByte a v).pending = s.pending := rfl
@[simp] theorem State.setMByte_evq (a : Nat) (v : Byte) : (s.setMByte a v).evq = s.evq := rfl
@[simp] theorem State.setMByte_raiseQ (a : Nat) (v : Byte) : (s.setMByte a v).raiseQ = s.raiseQ := rfl
@[simp] theorem State.setMByte_freeCtr (a : Nat) (v : Byte) : (s.setMByte a v).freeCtr = s.freeCtr := rfl
@[simp] theorem State.setMByte_tln (a : Nat) (v : Byte) : (s.setMByte a v).tln = s.tln := rfl
@[simp] theorem State.setMByte_ldg (a : Nat) (v : Byte) : (s.setMByte a v).ldg = s.ldg := rfl
@[simp] theorem State.setMByte_wm (a : Nat) (v : Byte) : (s.setMByte a v).wm = s.wm := rfl
@[simp] theorem State.setMByte_psw (a : Nat) (v : Byte) : (s.setMByte a v).psw = s.psw := rfl
@[simp] theorem State.setMByte_led (a : Nat) (v : Byte) : (s.setMByte a v).led = s.led := rfl
@[simp] theorem State.setMByte_din (a : Nat) (v : Byte) : (s.setMByte a v).din = s.din := rfl
@[simp] theorem State.setMByte_can (a : Nat) (v : Byte) : (s.setMByte a v).can = s.can := rfl
@[simp] theorem State.setMByte_net (a : Nat) (v : Byte) : (s.setMByte a v).net = s.net := rfl
@[simp] theorem State.setMByte_pwr (a : Nat) (v : Byte) : (s.setMByte a v).pwr = s.pwr := rfl
@[simp] theorem State.setMByte_lnk (a : Nat) (v : Byte) : (s.setMByte a v).lnk = s.lnk := rfl
@[simp] theorem State.setMByte_acc (a : Nat) (v : Byte) : (s.setMByte a v).acc = s.acc := rfl
@[simp] theorem State.setMByte_mtr (a : Nat) (v : Byte) : (s.setMByte a v).mtr = s.mtr := rfl
@[simp] theorem State.setMByte_clk (a : Nat) (v : Byte) : (s.setMByte a v).clk = s.clk := rfl
@[simp] theorem State.setMByte_evr (a : Nat) (v : Byte) : (s.setMByte a v).evr = s.evr := rfl
@[simp] theorem State.setMByte_upd (a : Nat) (v : Byte) : (s.setMByte a v).upd = s.upd := rfl
@[simp] theorem State.setMByte_bist (a : Nat) (v : Byte) : (s.setMByte a v).bist = s.bist := rfl
@[simp] theorem State.setMByte_out (a : Nat) (v : Byte) : (s.setMByte a v).out = s.out := rfl
@[simp] theorem State.modAcc_regs (f : AccSt → AccSt) : (s.modAcc f).regs = s.regs := rfl
@[simp] theorem State.modAcc_pending (f : AccSt → AccSt) : (s.modAcc f).pending = s.pending := rfl
@[simp] theorem State.modAcc_evq (f : AccSt → AccSt) : (s.modAcc f).evq = s.evq := rfl
@[simp] theorem State.modAcc_raiseQ (f : AccSt → AccSt) : (s.modAcc f).raiseQ = s.raiseQ := rfl
@[simp] theorem State.modAcc_freeCtr (f : AccSt → AccSt) : (s.modAcc f).freeCtr = s.freeCtr := rfl
@[simp] theorem State.modAcc_cpu (f : AccSt → AccSt) : (s.modAcc f).cpu = s.cpu := rfl
@[simp] theorem State.modAcc_tln (f : AccSt → AccSt) : (s.modAcc f).tln = s.tln := rfl
@[simp] theorem State.modAcc_ldg (f : AccSt → AccSt) : (s.modAcc f).ldg = s.ldg := rfl
@[simp] theorem State.modAcc_wm (f : AccSt → AccSt) : (s.modAcc f).wm = s.wm := rfl
@[simp] theorem State.modAcc_psw (f : AccSt → AccSt) : (s.modAcc f).psw = s.psw := rfl
@[simp] theorem State.modAcc_led (f : AccSt → AccSt) : (s.modAcc f).led = s.led := rfl
@[simp] theorem State.modAcc_din (f : AccSt → AccSt) : (s.modAcc f).din = s.din := rfl
@[simp] theorem State.modAcc_can (f : AccSt → AccSt) : (s.modAcc f).can = s.can := rfl
@[simp] theorem State.modAcc_net (f : AccSt → AccSt) : (s.modAcc f).net = s.net := rfl
@[simp] theorem State.modAcc_pwr (f : AccSt → AccSt) : (s.modAcc f).pwr = s.pwr := rfl
@[simp] theorem State.modAcc_lnk (f : AccSt → AccSt) : (s.modAcc f).lnk = s.lnk := rfl
@[simp] theorem State.modAcc_mtr (f : AccSt → AccSt) : (s.modAcc f).mtr = s.mtr := rfl
@[simp] theorem State.modAcc_clk (f : AccSt → AccSt) : (s.modAcc f).clk = s.clk := rfl
@[simp] theorem State.modAcc_evr (f : AccSt → AccSt) : (s.modAcc f).evr = s.evr := rfl
@[simp] theorem State.modAcc_upd (f : AccSt → AccSt) : (s.modAcc f).upd = s.upd := rfl
@[simp] theorem State.modAcc_bist (f : AccSt → AccSt) : (s.modAcc f).bist = s.bist := rfl
@[simp] theorem State.modAcc_out (f : AccSt → AccSt) : (s.modAcc f).out = s.out := rfl
@[simp] theorem State.modAcc_acc (f : AccSt → AccSt) : (s.modAcc f).acc = f s.acc := rfl
@[simp] theorem State.modBist_regs (f : BistSt → BistSt) : (s.modBist f).regs = s.regs := rfl
@[simp] theorem State.modBist_pending (f : BistSt → BistSt) : (s.modBist f).pending = s.pending := rfl
@[simp] theorem State.modBist_evq (f : BistSt → BistSt) : (s.modBist f).evq = s.evq := rfl
@[simp] theorem State.modBist_raiseQ (f : BistSt → BistSt) : (s.modBist f).raiseQ = s.raiseQ := rfl
@[simp] theorem State.modBist_freeCtr (f : BistSt → BistSt) : (s.modBist f).freeCtr = s.freeCtr := rfl
@[simp] theorem State.modBist_cpu (f : BistSt → BistSt) : (s.modBist f).cpu = s.cpu := rfl
@[simp] theorem State.modBist_tln (f : BistSt → BistSt) : (s.modBist f).tln = s.tln := rfl
@[simp] theorem State.modBist_ldg (f : BistSt → BistSt) : (s.modBist f).ldg = s.ldg := rfl
@[simp] theorem State.modBist_wm (f : BistSt → BistSt) : (s.modBist f).wm = s.wm := rfl
@[simp] theorem State.modBist_psw (f : BistSt → BistSt) : (s.modBist f).psw = s.psw := rfl
@[simp] theorem State.modBist_led (f : BistSt → BistSt) : (s.modBist f).led = s.led := rfl
@[simp] theorem State.modBist_din (f : BistSt → BistSt) : (s.modBist f).din = s.din := rfl
@[simp] theorem State.modBist_can (f : BistSt → BistSt) : (s.modBist f).can = s.can := rfl
@[simp] theorem State.modBist_net (f : BistSt → BistSt) : (s.modBist f).net = s.net := rfl
@[simp] theorem State.modBist_pwr (f : BistSt → BistSt) : (s.modBist f).pwr = s.pwr := rfl
@[simp] theorem State.modBist_lnk (f : BistSt → BistSt) : (s.modBist f).lnk = s.lnk := rfl
@[simp] theorem State.modBist_acc (f : BistSt → BistSt) : (s.modBist f).acc = s.acc := rfl
@[simp] theorem State.modBist_mtr (f : BistSt → BistSt) : (s.modBist f).mtr = s.mtr := rfl
@[simp] theorem State.modBist_clk (f : BistSt → BistSt) : (s.modBist f).clk = s.clk := rfl
@[simp] theorem State.modBist_evr (f : BistSt → BistSt) : (s.modBist f).evr = s.evr := rfl
@[simp] theorem State.modBist_upd (f : BistSt → BistSt) : (s.modBist f).upd = s.upd := rfl
@[simp] theorem State.modBist_out (f : BistSt → BistSt) : (s.modBist f).out = s.out := rfl
@[simp] theorem State.modBist_bist (f : BistSt → BistSt) : (s.modBist f).bist = f s.bist := rfl
@[simp] theorem State.modClk_regs (f : ClkSt → ClkSt) : (s.modClk f).regs = s.regs := rfl
@[simp] theorem State.modClk_pending (f : ClkSt → ClkSt) : (s.modClk f).pending = s.pending := rfl
@[simp] theorem State.modClk_evq (f : ClkSt → ClkSt) : (s.modClk f).evq = s.evq := rfl
@[simp] theorem State.modClk_raiseQ (f : ClkSt → ClkSt) : (s.modClk f).raiseQ = s.raiseQ := rfl
@[simp] theorem State.modClk_freeCtr (f : ClkSt → ClkSt) : (s.modClk f).freeCtr = s.freeCtr := rfl
@[simp] theorem State.modClk_cpu (f : ClkSt → ClkSt) : (s.modClk f).cpu = s.cpu := rfl
@[simp] theorem State.modClk_tln (f : ClkSt → ClkSt) : (s.modClk f).tln = s.tln := rfl
@[simp] theorem State.modClk_ldg (f : ClkSt → ClkSt) : (s.modClk f).ldg = s.ldg := rfl
@[simp] theorem State.modClk_wm (f : ClkSt → ClkSt) : (s.modClk f).wm = s.wm := rfl
@[simp] theorem State.modClk_psw (f : ClkSt → ClkSt) : (s.modClk f).psw = s.psw := rfl
@[simp] theorem State.modClk_led (f : ClkSt → ClkSt) : (s.modClk f).led = s.led := rfl
@[simp] theorem State.modClk_din (f : ClkSt → ClkSt) : (s.modClk f).din = s.din := rfl
@[simp] theorem State.modClk_can (f : ClkSt → ClkSt) : (s.modClk f).can = s.can := rfl
@[simp] theorem State.modClk_net (f : ClkSt → ClkSt) : (s.modClk f).net = s.net := rfl
@[simp] theorem State.modClk_pwr (f : ClkSt → ClkSt) : (s.modClk f).pwr = s.pwr := rfl
@[simp] theorem State.modClk_lnk (f : ClkSt → ClkSt) : (s.modClk f).lnk = s.lnk := rfl
@[simp] theorem State.modClk_acc (f : ClkSt → ClkSt) : (s.modClk f).acc = s.acc := rfl
@[simp] theorem State.modClk_mtr (f : ClkSt → ClkSt) : (s.modClk f).mtr = s.mtr := rfl
@[simp] theorem State.modClk_evr (f : ClkSt → ClkSt) : (s.modClk f).evr = s.evr := rfl
@[simp] theorem State.modClk_upd (f : ClkSt → ClkSt) : (s.modClk f).upd = s.upd := rfl
@[simp] theorem State.modClk_bist (f : ClkSt → ClkSt) : (s.modClk f).bist = s.bist := rfl
@[simp] theorem State.modClk_out (f : ClkSt → ClkSt) : (s.modClk f).out = s.out := rfl
@[simp] theorem State.modClk_clk (f : ClkSt → ClkSt) : (s.modClk f).clk = f s.clk := rfl
@[simp] theorem State.modLnk_regs (f : LnkSt → LnkSt) : (s.modLnk f).regs = s.regs := rfl
@[simp] theorem State.modLnk_pending (f : LnkSt → LnkSt) : (s.modLnk f).pending = s.pending := rfl
@[simp] theorem State.modLnk_evq (f : LnkSt → LnkSt) : (s.modLnk f).evq = s.evq := rfl
@[simp] theorem State.modLnk_raiseQ (f : LnkSt → LnkSt) : (s.modLnk f).raiseQ = s.raiseQ := rfl
@[simp] theorem State.modLnk_freeCtr (f : LnkSt → LnkSt) : (s.modLnk f).freeCtr = s.freeCtr := rfl
@[simp] theorem State.modLnk_cpu (f : LnkSt → LnkSt) : (s.modLnk f).cpu = s.cpu := rfl
@[simp] theorem State.modLnk_tln (f : LnkSt → LnkSt) : (s.modLnk f).tln = s.tln := rfl
@[simp] theorem State.modLnk_ldg (f : LnkSt → LnkSt) : (s.modLnk f).ldg = s.ldg := rfl
@[simp] theorem State.modLnk_wm (f : LnkSt → LnkSt) : (s.modLnk f).wm = s.wm := rfl
@[simp] theorem State.modLnk_psw (f : LnkSt → LnkSt) : (s.modLnk f).psw = s.psw := rfl
@[simp] theorem State.modLnk_led (f : LnkSt → LnkSt) : (s.modLnk f).led = s.led := rfl
@[simp] theorem State.modLnk_din (f : LnkSt → LnkSt) : (s.modLnk f).din = s.din := rfl
@[simp] theorem State.modLnk_can (f : LnkSt → LnkSt) : (s.modLnk f).can = s.can := rfl
@[simp] theorem State.modLnk_net (f : LnkSt → LnkSt) : (s.modLnk f).net = s.net := rfl
@[simp] theorem State.modLnk_pwr (f : LnkSt → LnkSt) : (s.modLnk f).pwr = s.pwr := rfl
@[simp] theorem State.modLnk_acc (f : LnkSt → LnkSt) : (s.modLnk f).acc = s.acc := rfl
@[simp] theorem State.modLnk_mtr (f : LnkSt → LnkSt) : (s.modLnk f).mtr = s.mtr := rfl
@[simp] theorem State.modLnk_clk (f : LnkSt → LnkSt) : (s.modLnk f).clk = s.clk := rfl
@[simp] theorem State.modLnk_evr (f : LnkSt → LnkSt) : (s.modLnk f).evr = s.evr := rfl
@[simp] theorem State.modLnk_upd (f : LnkSt → LnkSt) : (s.modLnk f).upd = s.upd := rfl
@[simp] theorem State.modLnk_bist (f : LnkSt → LnkSt) : (s.modLnk f).bist = s.bist := rfl
@[simp] theorem State.modLnk_out (f : LnkSt → LnkSt) : (s.modLnk f).out = s.out := rfl
@[simp] theorem State.modLnk_lnk (f : LnkSt → LnkSt) : (s.modLnk f).lnk = f s.lnk := rfl
@[simp] theorem State.modEvr_regs (f : EvrSt → EvrSt) : (s.modEvr f).regs = s.regs := rfl
@[simp] theorem State.modEvr_pending (f : EvrSt → EvrSt) : (s.modEvr f).pending = s.pending := rfl
@[simp] theorem State.modEvr_evq (f : EvrSt → EvrSt) : (s.modEvr f).evq = s.evq := rfl
@[simp] theorem State.modEvr_raiseQ (f : EvrSt → EvrSt) : (s.modEvr f).raiseQ = s.raiseQ := rfl
@[simp] theorem State.modEvr_freeCtr (f : EvrSt → EvrSt) : (s.modEvr f).freeCtr = s.freeCtr := rfl
@[simp] theorem State.modEvr_cpu (f : EvrSt → EvrSt) : (s.modEvr f).cpu = s.cpu := rfl
@[simp] theorem State.modEvr_tln (f : EvrSt → EvrSt) : (s.modEvr f).tln = s.tln := rfl
@[simp] theorem State.modEvr_ldg (f : EvrSt → EvrSt) : (s.modEvr f).ldg = s.ldg := rfl
@[simp] theorem State.modEvr_wm (f : EvrSt → EvrSt) : (s.modEvr f).wm = s.wm := rfl
@[simp] theorem State.modEvr_psw (f : EvrSt → EvrSt) : (s.modEvr f).psw = s.psw := rfl
@[simp] theorem State.modEvr_led (f : EvrSt → EvrSt) : (s.modEvr f).led = s.led := rfl
@[simp] theorem State.modEvr_din (f : EvrSt → EvrSt) : (s.modEvr f).din = s.din := rfl
@[simp] theorem State.modEvr_can (f : EvrSt → EvrSt) : (s.modEvr f).can = s.can := rfl
@[simp] theorem State.modEvr_net (f : EvrSt → EvrSt) : (s.modEvr f).net = s.net := rfl
@[simp] theorem State.modEvr_pwr (f : EvrSt → EvrSt) : (s.modEvr f).pwr = s.pwr := rfl
@[simp] theorem State.modEvr_lnk (f : EvrSt → EvrSt) : (s.modEvr f).lnk = s.lnk := rfl
@[simp] theorem State.modEvr_acc (f : EvrSt → EvrSt) : (s.modEvr f).acc = s.acc := rfl
@[simp] theorem State.modEvr_mtr (f : EvrSt → EvrSt) : (s.modEvr f).mtr = s.mtr := rfl
@[simp] theorem State.modEvr_clk (f : EvrSt → EvrSt) : (s.modEvr f).clk = s.clk := rfl
@[simp] theorem State.modEvr_upd (f : EvrSt → EvrSt) : (s.modEvr f).upd = s.upd := rfl
@[simp] theorem State.modEvr_bist (f : EvrSt → EvrSt) : (s.modEvr f).bist = s.bist := rfl
@[simp] theorem State.modEvr_out (f : EvrSt → EvrSt) : (s.modEvr f).out = s.out := rfl
@[simp] theorem State.modEvr_evr (f : EvrSt → EvrSt) : (s.modEvr f).evr = f s.evr := rfl
@[simp] theorem State.modLed_regs (f : LedSt → LedSt) : (s.modLed f).regs = s.regs := rfl
@[simp] theorem State.modLed_pending (f : LedSt → LedSt) : (s.modLed f).pending = s.pending := rfl
@[simp] theorem State.modLed_evq (f : LedSt → LedSt) : (s.modLed f).evq = s.evq := rfl
@[simp] theorem State.modLed_raiseQ (f : LedSt → LedSt) : (s.modLed f).raiseQ = s.raiseQ := rfl
@[simp] theorem State.modLed_freeCtr (f : LedSt → LedSt) : (s.modLed f).freeCtr = s.freeCtr := rfl
@[simp] theorem State.modLed_cpu (f : LedSt → LedSt) : (s.modLed f).cpu = s.cpu := rfl
@[simp] theorem State.modLed_tln (f : LedSt → LedSt) : (s.modLed f).tln = s.tln := rfl
@[simp] theorem State.modLed_ldg (f : LedSt → LedSt) : (s.modLed f).ldg = s.ldg := rfl
@[simp] theorem State.modLed_wm (f : LedSt → LedSt) : (s.modLed f).wm = s.wm := rfl
@[simp] theorem State.modLed_psw (f : LedSt → LedSt) : (s.modLed f).psw = s.psw := rfl
@[simp] theorem State.modLed_din (f : LedSt → LedSt) : (s.modLed f).din = s.din := rfl
@[simp] theorem State.modLed_can (f : LedSt → LedSt) : (s.modLed f).can = s.can := rfl
@[simp] theorem State.modLed_net (f : LedSt → LedSt) : (s.modLed f).net = s.net := rfl
@[simp] theorem State.modLed_pwr (f : LedSt → LedSt) : (s.modLed f).pwr = s.pwr := rfl
@[simp] theorem State.modLed_lnk (f : LedSt → LedSt) : (s.modLed f).lnk = s.lnk := rfl
@[simp] theorem State.modLed_acc (f : LedSt → LedSt) : (s.modLed f).acc = s.acc := rfl
@[simp] theorem State.modLed_mtr (f : LedSt → LedSt) : (s.modLed f).mtr = s.mtr := rfl
@[simp] theorem State.modLed_clk (f : LedSt → LedSt) : (s.modLed f).clk = s.clk := rfl
@[simp] theorem State.modLed_evr (f : LedSt → LedSt) : (s.modLed f).evr = s.evr := rfl
@[simp] theorem State.modLed_upd (f : LedSt → LedSt) : (s.modLed f).upd = s.upd := rfl
@[simp] theorem State.modLed_bist (f : LedSt → LedSt) : (s.modLed f).bist = s.bist := rfl
@[simp] theorem State.modLed_out (f : LedSt → LedSt) : (s.modLed f).out = s.out := rfl
@[simp] theorem State.modLed_led (f : LedSt → LedSt) : (s.modLed f).led = f s.led := rfl
@[simp] theorem State.modLdg_regs (f : LdgSt → LdgSt) : (s.modLdg f).regs = s.regs := rfl
@[simp] theorem State.modLdg_pending (f : LdgSt → LdgSt) : (s.modLdg f).pending = s.pending := rfl
@[simp] theorem State.modLdg_evq (f : LdgSt → LdgSt) : (s.modLdg f).evq = s.evq := rfl
@[simp] theorem State.modLdg_raiseQ (f : LdgSt → LdgSt) : (s.modLdg f).raiseQ = s.raiseQ := rfl
@[simp] theorem State.modLdg_freeCtr (f : LdgSt → LdgSt) : (s.modLdg f).freeCtr = s.freeCtr := rfl
@[simp] theorem State.modLdg_cpu (f : LdgSt → LdgSt) : (s.modLdg f).cpu = s.cpu := rfl
@[simp] theorem State.modLdg_tln (f : LdgSt → LdgSt) : (s.modLdg f).tln = s.tln := rfl
@[simp] theorem State.modLdg_wm (f : LdgSt → LdgSt) : (s.modLdg f).wm = s.wm := rfl
@[simp] theorem State.modLdg_psw (f : LdgSt → LdgSt) : (s.modLdg f).psw = s.psw := rfl
@[simp] theorem State.modLdg_led (f : LdgSt → LdgSt) : (s.modLdg f).led = s.led := rfl
@[simp] theorem State.modLdg_din (f : LdgSt → LdgSt) : (s.modLdg f).din = s.din := rfl
@[simp] theorem State.modLdg_can (f : LdgSt → LdgSt) : (s.modLdg f).can = s.can := rfl
@[simp] theorem State.modLdg_net (f : LdgSt → LdgSt) : (s.modLdg f).net = s.net := rfl
@[simp] theorem State.modLdg_pwr (f : LdgSt → LdgSt) : (s.modLdg f).pwr = s.pwr := rfl
@[simp] theorem State.modLdg_lnk (f : LdgSt → LdgSt) : (s.modLdg f).lnk = s.lnk := rfl
@[simp] theorem State.modLdg_acc (f : LdgSt → LdgSt) : (s.modLdg f).acc = s.acc := rfl
@[simp] theorem State.modLdg_mtr (f : LdgSt → LdgSt) : (s.modLdg f).mtr = s.mtr := rfl
@[simp] theorem State.modLdg_clk (f : LdgSt → LdgSt) : (s.modLdg f).clk = s.clk := rfl
@[simp] theorem State.modLdg_evr (f : LdgSt → LdgSt) : (s.modLdg f).evr = s.evr := rfl
@[simp] theorem State.modLdg_upd (f : LdgSt → LdgSt) : (s.modLdg f).upd = s.upd := rfl
@[simp] theorem State.modLdg_bist (f : LdgSt → LdgSt) : (s.modLdg f).bist = s.bist := rfl
@[simp] theorem State.modLdg_out (f : LdgSt → LdgSt) : (s.modLdg f).out = s.out := rfl
@[simp] theorem State.modLdg_ldg (f : LdgSt → LdgSt) : (s.modLdg f).ldg = f s.ldg := rfl
@[simp] theorem State.modMtr_regs (f : MtrSt → MtrSt) : (s.modMtr f).regs = s.regs := rfl
@[simp] theorem State.modMtr_pending (f : MtrSt → MtrSt) : (s.modMtr f).pending = s.pending := rfl
@[simp] theorem State.modMtr_evq (f : MtrSt → MtrSt) : (s.modMtr f).evq = s.evq := rfl
@[simp] theorem State.modMtr_raiseQ (f : MtrSt → MtrSt) : (s.modMtr f).raiseQ = s.raiseQ := rfl
@[simp] theorem State.modMtr_freeCtr (f : MtrSt → MtrSt) : (s.modMtr f).freeCtr = s.freeCtr := rfl
@[simp] theorem State.modMtr_cpu (f : MtrSt → MtrSt) : (s.modMtr f).cpu = s.cpu := rfl
@[simp] theorem State.modMtr_tln (f : MtrSt → MtrSt) : (s.modMtr f).tln = s.tln := rfl
@[simp] theorem State.modMtr_ldg (f : MtrSt → MtrSt) : (s.modMtr f).ldg = s.ldg := rfl
@[simp] theorem State.modMtr_wm (f : MtrSt → MtrSt) : (s.modMtr f).wm = s.wm := rfl
@[simp] theorem State.modMtr_psw (f : MtrSt → MtrSt) : (s.modMtr f).psw = s.psw := rfl
@[simp] theorem State.modMtr_led (f : MtrSt → MtrSt) : (s.modMtr f).led = s.led := rfl
@[simp] theorem State.modMtr_din (f : MtrSt → MtrSt) : (s.modMtr f).din = s.din := rfl
@[simp] theorem State.modMtr_can (f : MtrSt → MtrSt) : (s.modMtr f).can = s.can := rfl
@[simp] theorem State.modMtr_net (f : MtrSt → MtrSt) : (s.modMtr f).net = s.net := rfl
@[simp] theorem State.modMtr_pwr (f : MtrSt → MtrSt) : (s.modMtr f).pwr = s.pwr := rfl
@[simp] theorem State.modMtr_lnk (f : MtrSt → MtrSt) : (s.modMtr f).lnk = s.lnk := rfl
@[simp] theorem State.modMtr_acc (f : MtrSt → MtrSt) : (s.modMtr f).acc = s.acc := rfl
@[simp] theorem State.modMtr_clk (f : MtrSt → MtrSt) : (s.modMtr f).clk = s.clk := rfl
@[simp] theorem State.modMtr_evr (f : MtrSt → MtrSt) : (s.modMtr f).evr = s.evr := rfl
@[simp] theorem State.modMtr_upd (f : MtrSt → MtrSt) : (s.modMtr f).upd = s.upd := rfl
@[simp] theorem State.modMtr_bist (f : MtrSt → MtrSt) : (s.modMtr f).bist = s.bist := rfl
@[simp] theorem State.modMtr_out (f : MtrSt → MtrSt) : (s.modMtr f).out = s.out := rfl
@[simp] theorem State.modMtr_mtr (f : MtrSt → MtrSt) : (s.modMtr f).mtr = f s.mtr := rfl
@[simp] theorem State.modNet_regs (f : NetSt → NetSt) : (s.modNet f).regs = s.regs := rfl
@[simp] theorem State.modNet_pending (f : NetSt → NetSt) : (s.modNet f).pending = s.pending := rfl
@[simp] theorem State.modNet_evq (f : NetSt → NetSt) : (s.modNet f).evq = s.evq := rfl
@[simp] theorem State.modNet_raiseQ (f : NetSt → NetSt) : (s.modNet f).raiseQ = s.raiseQ := rfl
@[simp] theorem State.modNet_freeCtr (f : NetSt → NetSt) : (s.modNet f).freeCtr = s.freeCtr := rfl
@[simp] theorem State.modNet_cpu (f : NetSt → NetSt) : (s.modNet f).cpu = s.cpu := rfl
@[simp] theorem State.modNet_tln (f : NetSt → NetSt) : (s.modNet f).tln = s.tln := rfl
@[simp] theorem State.modNet_ldg (f : NetSt → NetSt) : (s.modNet f).ldg = s.ldg := rfl
@[simp] theorem State.modNet_wm (f : NetSt → NetSt) : (s.modNet f).wm = s.wm := rfl
@[simp] theorem State.modNet_psw (f : NetSt → NetSt) : (s.modNet f).psw = s.psw := rfl
@[simp] theorem State.modNet_led (f : NetSt → NetSt) : (s.modNet f).led = s.led := rfl
@[simp] theorem State.modNet_din (f : NetSt → NetSt) : (s.modNet f).din = s.din := rfl
@[simp] theorem State.modNet_can (f : NetSt → NetSt) : (s.modNet f).can = s.can := rfl
@[simp] theorem State.modNet_pwr (f : NetSt → NetSt) : (s.modNet f).pwr = s.pwr := rfl
@[simp] theorem State.modNet_lnk (f : NetSt → NetSt) : (s.modNet f).lnk = s.lnk := rfl
@[simp] theorem State.modNet_acc (f : NetSt → NetSt) : (s.modNet f).acc = s.acc := rfl
@[simp] theorem State.modNet_mtr (f : NetSt → NetSt) : (s.modNet f).mtr = s.mtr := rfl
@[simp] theorem State.modNet_clk (f : NetSt → NetSt) : (s.modNet f).clk = s.clk := rfl
@[simp] theorem State.modNet_evr (f : NetSt → NetSt) : (s.modNet f).evr = s.evr := rfl
@[simp] theorem State.modNet_upd (f : NetSt → NetSt) : (s.modNet f).upd = s.upd := rfl
@[simp] theorem State.modNet_bist (f : NetSt → NetSt) : (s.modNet f).bist = s.bist := rfl
@[simp] theorem State.modNet_out (f : NetSt → NetSt) : (s.modNet f).out = s.out := rfl
@[simp] theorem State.modNet_net (f : NetSt → NetSt) : (s.modNet f).net = f s.net := rfl
@[simp] theorem State.modOut_regs (f : OutSt → OutSt) : (s.modOut f).regs = s.regs := rfl
@[simp] theorem State.modOut_pending (f : OutSt → OutSt) : (s.modOut f).pending = s.pending := rfl
@[simp] theorem State.modOut_evq (f : OutSt → OutSt) : (s.modOut f).evq = s.evq := rfl
@[simp] theorem State.modOut_raiseQ (f : OutSt → OutSt) : (s.modOut f).raiseQ = s.raiseQ := rfl
@[simp] theorem State.modOut_freeCtr (f : OutSt → OutSt) : (s.modOut f).freeCtr = s.freeCtr := rfl
@[simp] theorem State.modOut_cpu (f : OutSt → OutSt) : (s.modOut f).cpu = s.cpu := rfl
@[simp] theorem State.modOut_tln (f : OutSt → OutSt) : (s.modOut f).tln = s.tln := rfl
@[simp] theorem State.modOut_ldg (f : OutSt → OutSt) : (s.modOut f).ldg = s.ldg := rfl
@[simp] theorem State.modOut_wm (f : OutSt → OutSt) : (s.modOut f).wm = s.wm := rfl
@[simp] theorem State.modOut_psw (f : OutSt → OutSt) : (s.modOut f).psw = s.psw := rfl
@[simp] theorem State.modOut_led (f : OutSt → OutSt) : (s.modOut f).led = s.led := rfl
@[simp] theorem State.modOut_din (f : OutSt → OutSt) : (s.modOut f).din = s.din := rfl
@[simp] theorem State.modOut_can (f : OutSt → OutSt) : (s.modOut f).can = s.can := rfl
@[simp] theorem State.modOut_net (f : OutSt → OutSt) : (s.modOut f).net = s.net := rfl
@[simp] theorem State.modOut_pwr (f : OutSt → OutSt) : (s.modOut f).pwr = s.pwr := rfl
@[simp] theorem State.modOut_lnk (f : OutSt → OutSt) : (s.modOut f).lnk = s.lnk := rfl
@[simp] theorem State.modOut_acc (f : OutSt → OutSt) : (s.modOut f).acc = s.acc := rfl
@[simp] theorem State.modOut_mtr (f : OutSt → OutSt) : (s.modOut f).mtr = s.mtr := rfl
@[simp] theorem State.modOut_clk (f : OutSt → OutSt) : (s.modOut f).clk = s.clk := rfl
@[simp] theorem State.modOut_evr (f : OutSt → OutSt) : (s.modOut f).evr = s.evr := rfl
@[simp] theorem State.modOut_upd (f : OutSt → OutSt) : (s.modOut f).upd = s.upd := rfl
@[simp] theorem State.modOut_bist (f : OutSt → OutSt) : (s.modOut f).bist = s.bist := rfl
@[simp] theorem State.modOut_out (f : OutSt → OutSt) : (s.modOut f).out = f s.out := rfl
@[simp] theorem State.modPwr_regs (f : PwrSt → PwrSt) : (s.modPwr f).regs = s.regs := rfl
@[simp] theorem State.modPwr_pending (f : PwrSt → PwrSt) : (s.modPwr f).pending = s.pending := rfl
@[simp] theorem State.modPwr_evq (f : PwrSt → PwrSt) : (s.modPwr f).evq = s.evq := rfl
@[simp] theorem State.modPwr_raiseQ (f : PwrSt → PwrSt) : (s.modPwr f).raiseQ = s.raiseQ := rfl
@[simp] theorem State.modPwr_freeCtr (f : PwrSt → PwrSt) : (s.modPwr f).freeCtr = s.freeCtr := rfl
@[simp] theorem State.modPwr_cpu (f : PwrSt → PwrSt) : (s.modPwr f).cpu = s.cpu := rfl
@[simp] theorem State.modPwr_tln (f : PwrSt → PwrSt) : (s.modPwr f).tln = s.tln := rfl
@[simp] theorem State.modPwr_ldg (f : PwrSt → PwrSt) : (s.modPwr f).ldg = s.ldg := rfl
@[simp] theorem State.modPwr_wm (f : PwrSt → PwrSt) : (s.modPwr f).wm = s.wm := rfl
@[simp] theorem State.modPwr_psw (f : PwrSt → PwrSt) : (s.modPwr f).psw = s.psw := rfl
@[simp] theorem State.modPwr_led (f : PwrSt → PwrSt) : (s.modPwr f).led = s.led := rfl
@[simp] theorem State.modPwr_din (f : PwrSt → PwrSt) : (s.modPwr f).din = s.din := rfl
@[simp] theorem State.modPwr_can (f : PwrSt → PwrSt) : (s.modPwr f).can = s.can := rfl
@[simp] theorem State.modPwr_net (f : PwrSt → PwrSt) : (s.modPwr f).net = s.net := rfl
@[simp] theorem State.modPwr_lnk (f : PwrSt → PwrSt) : (s.modPwr f).lnk = s.lnk := rfl
@[simp] theorem State.modPwr_acc (f : PwrSt → PwrSt) : (s.modPwr f).acc = s.acc := rfl
@[simp] theorem State.modPwr_mtr (f : PwrSt → PwrSt) : (s.modPwr f).mtr = s.mtr := rfl
@[simp] theorem State.modPwr_clk (f : PwrSt → PwrSt) : (s.modPwr f).clk = s.clk := rfl
@[simp] theorem State.modPwr_evr (f : PwrSt → PwrSt) : (s.modPwr f).evr = s.evr := rfl
@[simp] theorem State.modPwr_upd (f : PwrSt → PwrSt) : (s.modPwr f).upd = s.upd := rfl
@[simp] theorem State.modPwr_bist (f : PwrSt → PwrSt) : (s.modPwr f).bist = s.bist := rfl
@[simp] theorem State.modPwr_out (f : PwrSt → PwrSt) : (s.modPwr f).out = s.out := rfl
@[simp] theorem State.modPwr_pwr (f : PwrSt → PwrSt) : (s.modPwr f).pwr = f s.pwr := rfl
@[simp] theorem State.modUpd_regs (f : UpdSt → UpdSt) : (s.modUpd f).regs = s.regs := rfl
@[simp] theorem State.modUpd_pending (f : UpdSt → UpdSt) : (s.modUpd f).pending = s.pending := rfl
@[simp] theorem State.modUpd_evq (f : UpdSt → UpdSt) : (s.modUpd f).evq = s.evq := rfl
@[simp] theorem State.modUpd_raiseQ (f : UpdSt → UpdSt) : (s.modUpd f).raiseQ = s.raiseQ := rfl
@[simp] theorem State.modUpd_freeCtr (f : UpdSt → UpdSt) : (s.modUpd f).freeCtr = s.freeCtr := rfl
@[simp] theorem State.modUpd_cpu (f : UpdSt → UpdSt) : (s.modUpd f).cpu = s.cpu := rfl
@[simp] theorem State.modUpd_tln (f : UpdSt → UpdSt) : (s.modUpd f).tln = s.tln := rfl
@[simp] theorem State.modUpd_ldg (f : UpdSt → UpdSt) : (s.modUpd f).ldg = s.ldg := rfl
@[simp] theorem State.modUpd_wm (f : UpdSt → UpdSt) : (s.modUpd f).wm = s.wm := rfl
@[simp] theorem State.modUpd_psw (f : UpdSt → UpdSt) : (s.modUpd f).psw = s.psw := rfl
@[simp] theorem State.modUpd_led (f : UpdSt → UpdSt) : (s.modUpd f).led = s.led := rfl
@[simp] theorem State.modUpd_din (f : UpdSt → UpdSt) : (s.modUpd f).din = s.din := rfl
@[simp] theorem State.modUpd_can (f : UpdSt → UpdSt) : (s.modUpd f).can = s.can := rfl
@[simp] theorem State.modUpd_net (f : UpdSt → UpdSt) : (s.modUpd f).net = s.net := rfl
@[simp] theorem State.modUpd_pwr (f : UpdSt → UpdSt) : (s.modUpd f).pwr = s.pwr := rfl
@[simp] theorem State.modUpd_lnk (f : UpdSt → UpdSt) : (s.modUpd f).lnk = s.lnk := rfl
@[simp] theorem State.modUpd_acc (f : UpdSt → UpdSt) : (s.modUpd f).acc = s.acc := rfl
@[simp] theorem State.modUpd_mtr (f : UpdSt → UpdSt) : (s.modUpd f).mtr = s.mtr := rfl
@[simp] theorem State.modUpd_clk (f : UpdSt → UpdSt) : (s.modUpd f).clk = s.clk := rfl
@[simp] theorem State.modUpd_evr (f : UpdSt → UpdSt) : (s.modUpd f).evr = s.evr := rfl
@[simp] theorem State.modUpd_bist (f : UpdSt → UpdSt) : (s.modUpd f).bist = s.bist := rfl
@[simp] theorem State.modUpd_out (f : UpdSt → UpdSt) : (s.modUpd f).out = s.out := rfl
@[simp] theorem State.modUpd_upd (f : UpdSt → UpdSt) : (s.modUpd f).upd = f s.upd := rfl
@[simp] theorem State.setItem_regs (k : Nat) (x : Item) : (s.setItem k x).regs = s.regs := rfl
@[simp] theorem State.setItem_pending (k : Nat) (x : Item) : (s.setItem k x).pending = s.pending := rfl
@[simp] theorem State.setItem_evq (k : Nat) (x : Item) : (s.setItem k x).evq = s.evq := rfl
@[simp] theorem State.setItem_raiseQ (k : Nat) (x : Item) : (s.setItem k x).raiseQ = s.raiseQ := rfl
@[simp] theorem State.setItem_freeCtr (k : Nat) (x : Item) : (s.setItem k x).freeCtr = s.freeCtr := rfl
@[simp] theorem State.setItem_cpu (k : Nat) (x : Item) : (s.setItem k x).cpu = s.cpu := rfl
@[simp] theorem State.setItem_ldg (k : Nat) (x : Item) : (s.setItem k x).ldg = s.ldg := rfl
@[simp] theorem State.setItem_wm (k : Nat) (x : Item) : (s.setItem k x).wm = s.wm := rfl
@[simp] theorem State.setItem_psw (k : Nat) (x : Item) : (s.setItem k x).psw = s.psw := rfl
@[simp] theorem State.setItem_led (k : Nat) (x : Item) : (s.setItem k x).led = s.led := rfl
@[simp] theorem State.setItem_din (k : Nat) (x : Item) : (s.setItem k x).din = s.din := rfl
@[simp] theorem State.setItem_can (k : Nat) (x : Item) : (s.setItem k x).can = s.can := rfl
@[simp] theorem State.setItem_net (k : Nat) (x : Item) : (s.setItem k x).net = s.net := rfl
@[simp] theorem State.setItem_pwr (k : Nat) (x : Item) : (s.setItem k x).pwr = s.pwr := rfl
@[simp] theorem State.setItem_lnk (k : Nat) (x : Item) : (s.setItem k x).lnk = s.lnk := rfl
@[simp] theorem State.setItem_acc (k : Nat) (x : Item) : (s.setItem k x).acc = s.acc := rfl
@[simp] theorem State.setItem_mtr (k : Nat) (x : Item) : (s.setItem k x).mtr = s.mtr := rfl
@[simp] theorem State.setItem_clk (k : Nat) (x : Item) : (s.setItem k x).clk = s.clk := rfl
@[simp] theorem State.setItem_evr (k : Nat) (x : Item) : (s.setItem k x).evr = s.evr := rfl
@[simp] theorem State.setItem_upd (k : Nat) (x : Item) : (s.setItem k x).upd = s.upd := rfl
@[simp] theorem State.setItem_bist (k : Nat) (x : Item) : (s.setItem k x).bist = s.bist := rfl
@[simp] theorem State.setItem_out (k : Nat) (x : Item) : (s.setItem k x).out = s.out := rfl
@[simp] theorem State.setAxis_regs (n : Nat) (x : Axis) : (s.setAxis n x).regs = s.regs := rfl
@[simp] theorem State.setAxis_pending (n : Nat) (x : Axis) : (s.setAxis n x).pending = s.pending := rfl
@[simp] theorem State.setAxis_evq (n : Nat) (x : Axis) : (s.setAxis n x).evq = s.evq := rfl
@[simp] theorem State.setAxis_raiseQ (n : Nat) (x : Axis) : (s.setAxis n x).raiseQ = s.raiseQ := rfl
@[simp] theorem State.setAxis_freeCtr (n : Nat) (x : Axis) : (s.setAxis n x).freeCtr = s.freeCtr := rfl
@[simp] theorem State.setAxis_cpu (n : Nat) (x : Axis) : (s.setAxis n x).cpu = s.cpu := rfl
@[simp] theorem State.setAxis_ldg (n : Nat) (x : Axis) : (s.setAxis n x).ldg = s.ldg := rfl
@[simp] theorem State.setAxis_wm (n : Nat) (x : Axis) : (s.setAxis n x).wm = s.wm := rfl
@[simp] theorem State.setAxis_psw (n : Nat) (x : Axis) : (s.setAxis n x).psw = s.psw := rfl
@[simp] theorem State.setAxis_led (n : Nat) (x : Axis) : (s.setAxis n x).led = s.led := rfl
@[simp] theorem State.setAxis_din (n : Nat) (x : Axis) : (s.setAxis n x).din = s.din := rfl
@[simp] theorem State.setAxis_can (n : Nat) (x : Axis) : (s.setAxis n x).can = s.can := rfl
@[simp] theorem State.setAxis_net (n : Nat) (x : Axis) : (s.setAxis n x).net = s.net := rfl
@[simp] theorem State.setAxis_pwr (n : Nat) (x : Axis) : (s.setAxis n x).pwr = s.pwr := rfl
@[simp] theorem State.setAxis_lnk (n : Nat) (x : Axis) : (s.setAxis n x).lnk = s.lnk := rfl
@[simp] theorem State.setAxis_acc (n : Nat) (x : Axis) : (s.setAxis n x).acc = s.acc := rfl
@[simp] theorem State.setAxis_mtr (n : Nat) (x : Axis) : (s.setAxis n x).mtr = s.mtr := rfl
@[simp] theorem State.setAxis_clk (n : Nat) (x : Axis) : (s.setAxis n x).clk = s.clk := rfl
@[simp] theorem State.setAxis_evr (n : Nat) (x : Axis) : (s.setAxis n x).evr = s.evr := rfl
@[simp] theorem State.setAxis_upd (n : Nat) (x : Axis) : (s.setAxis n x).upd = s.upd := rfl
@[simp] theorem State.setAxis_bist (n : Nat) (x : Axis) : (s.setAxis n x).bist = s.bist := rfl
@[simp] theorem State.setAxis_out (n : Nat) (x : Axis) : (s.setAxis n x).out = s.out := rfl
@[simp] theorem State.setRos_regs (r : Nat) (x : Roster) : (s.setRos r x).regs = s.regs := rfl
@[simp] theorem State.setRos_pending (r : Nat) (x : Roster) : (s.setRos r x).pending = s.pending := rfl
@[simp] theorem State.setRos_evq (r : Nat) (x : Roster) : (s.setRos r x).evq = s.evq := rfl
@[simp] theorem State.setRos_raiseQ (r : Nat) (x : Roster) : (s.setRos r x).raiseQ = s.raiseQ := rfl
@[simp] theorem State.setRos_freeCtr (r : Nat) (x : Roster) : (s.setRos r x).freeCtr = s.freeCtr := rfl
@[simp] theorem State.setRos_cpu (r : Nat) (x : Roster) : (s.setRos r x).cpu = s.cpu := rfl
@[simp] theorem State.setRos_ldg (r : Nat) (x : Roster) : (s.setRos r x).ldg = s.ldg := rfl
@[simp] theorem State.setRos_wm (r : Nat) (x : Roster) : (s.setRos r x).wm = s.wm := rfl
@[simp] theorem State.setRos_psw (r : Nat) (x : Roster) : (s.setRos r x).psw = s.psw := rfl
@[simp] theorem State.setRos_led (r : Nat) (x : Roster) : (s.setRos r x).led = s.led := rfl
@[simp] theorem State.setRos_din (r : Nat) (x : Roster) : (s.setRos r x).din = s.din := rfl
@[simp] theorem State.setRos_can (r : Nat) (x : Roster) : (s.setRos r x).can = s.can := rfl
@[simp] theorem State.setRos_net (r : Nat) (x : Roster) : (s.setRos r x).net = s.net := rfl
@[simp] theorem State.setRos_pwr (r : Nat) (x : Roster) : (s.setRos r x).pwr = s.pwr := rfl
@[simp] theorem State.setRos_lnk (r : Nat) (x : Roster) : (s.setRos r x).lnk = s.lnk := rfl
@[simp] theorem State.setRos_acc (r : Nat) (x : Roster) : (s.setRos r x).acc = s.acc := rfl
@[simp] theorem State.setRos_mtr (r : Nat) (x : Roster) : (s.setRos r x).mtr = s.mtr := rfl
@[simp] theorem State.setRos_clk (r : Nat) (x : Roster) : (s.setRos r x).clk = s.clk := rfl
@[simp] theorem State.setRos_evr (r : Nat) (x : Roster) : (s.setRos r x).evr = s.evr := rfl
@[simp] theorem State.setRos_upd (r : Nat) (x : Roster) : (s.setRos r x).upd = s.upd := rfl
@[simp] theorem State.setRos_bist (r : Nat) (x : Roster) : (s.setRos r x).bist = s.bist := rfl
@[simp] theorem State.setRos_out (r : Nat) (x : Roster) : (s.setRos r x).out = s.out := rfl
@[simp] theorem State.setTicket_regs (h : Nat) (t : Ticket) : (s.setTicket h t).regs = s.regs := rfl
@[simp] theorem State.setTicket_pending (h : Nat) (t : Ticket) : (s.setTicket h t).pending = s.pending := rfl
@[simp] theorem State.setTicket_evq (h : Nat) (t : Ticket) : (s.setTicket h t).evq = s.evq := rfl
@[simp] theorem State.setTicket_raiseQ (h : Nat) (t : Ticket) : (s.setTicket h t).raiseQ = s.raiseQ := rfl
@[simp] theorem State.setTicket_freeCtr (h : Nat) (t : Ticket) : (s.setTicket h t).freeCtr = s.freeCtr := rfl
@[simp] theorem State.setTicket_cpu (h : Nat) (t : Ticket) : (s.setTicket h t).cpu = s.cpu := rfl
@[simp] theorem State.setTicket_tln (h : Nat) (t : Ticket) : (s.setTicket h t).tln = s.tln := rfl
@[simp] theorem State.setTicket_wm (h : Nat) (t : Ticket) : (s.setTicket h t).wm = s.wm := rfl
@[simp] theorem State.setTicket_psw (h : Nat) (t : Ticket) : (s.setTicket h t).psw = s.psw := rfl
@[simp] theorem State.setTicket_led (h : Nat) (t : Ticket) : (s.setTicket h t).led = s.led := rfl
@[simp] theorem State.setTicket_din (h : Nat) (t : Ticket) : (s.setTicket h t).din = s.din := rfl
@[simp] theorem State.setTicket_can (h : Nat) (t : Ticket) : (s.setTicket h t).can = s.can := rfl
@[simp] theorem State.setTicket_net (h : Nat) (t : Ticket) : (s.setTicket h t).net = s.net := rfl
@[simp] theorem State.setTicket_pwr (h : Nat) (t : Ticket) : (s.setTicket h t).pwr = s.pwr := rfl
@[simp] theorem State.setTicket_lnk (h : Nat) (t : Ticket) : (s.setTicket h t).lnk = s.lnk := rfl
@[simp] theorem State.setTicket_acc (h : Nat) (t : Ticket) : (s.setTicket h t).acc = s.acc := rfl
@[simp] theorem State.setTicket_mtr (h : Nat) (t : Ticket) : (s.setTicket h t).mtr = s.mtr := rfl
@[simp] theorem State.setTicket_clk (h : Nat) (t : Ticket) : (s.setTicket h t).clk = s.clk := rfl
@[simp] theorem State.setTicket_evr (h : Nat) (t : Ticket) : (s.setTicket h t).evr = s.evr := rfl
@[simp] theorem State.setTicket_upd (h : Nat) (t : Ticket) : (s.setTicket h t).upd = s.upd := rfl
@[simp] theorem State.setTicket_bist (h : Nat) (t : Ticket) : (s.setTicket h t).bist = s.bist := rfl
@[simp] theorem State.setTicket_out (h : Nat) (t : Ticket) : (s.setTicket h t).out = s.out := rfl
@[simp] theorem State.setChan_regs (c : Nat) (x : Chan) : (s.setChan c x).regs = s.regs := rfl
@[simp] theorem State.setChan_pending (c : Nat) (x : Chan) : (s.setChan c x).pending = s.pending := rfl
@[simp] theorem State.setChan_evq (c : Nat) (x : Chan) : (s.setChan c x).evq = s.evq := rfl
@[simp] theorem State.setChan_raiseQ (c : Nat) (x : Chan) : (s.setChan c x).raiseQ = s.raiseQ := rfl
@[simp] theorem State.setChan_freeCtr (c : Nat) (x : Chan) : (s.setChan c x).freeCtr = s.freeCtr := rfl
@[simp] theorem State.setChan_cpu (c : Nat) (x : Chan) : (s.setChan c x).cpu = s.cpu := rfl
@[simp] theorem State.setChan_tln (c : Nat) (x : Chan) : (s.setChan c x).tln = s.tln := rfl
@[simp] theorem State.setChan_ldg (c : Nat) (x : Chan) : (s.setChan c x).ldg = s.ldg := rfl
@[simp] theorem State.setChan_wm (c : Nat) (x : Chan) : (s.setChan c x).wm = s.wm := rfl
@[simp] theorem State.setChan_led (c : Nat) (x : Chan) : (s.setChan c x).led = s.led := rfl
@[simp] theorem State.setChan_din (c : Nat) (x : Chan) : (s.setChan c x).din = s.din := rfl
@[simp] theorem State.setChan_can (c : Nat) (x : Chan) : (s.setChan c x).can = s.can := rfl
@[simp] theorem State.setChan_net (c : Nat) (x : Chan) : (s.setChan c x).net = s.net := rfl
@[simp] theorem State.setChan_pwr (c : Nat) (x : Chan) : (s.setChan c x).pwr = s.pwr := rfl
@[simp] theorem State.setChan_lnk (c : Nat) (x : Chan) : (s.setChan c x).lnk = s.lnk := rfl
@[simp] theorem State.setChan_acc (c : Nat) (x : Chan) : (s.setChan c x).acc = s.acc := rfl
@[simp] theorem State.setChan_mtr (c : Nat) (x : Chan) : (s.setChan c x).mtr = s.mtr := rfl
@[simp] theorem State.setChan_clk (c : Nat) (x : Chan) : (s.setChan c x).clk = s.clk := rfl
@[simp] theorem State.setChan_evr (c : Nat) (x : Chan) : (s.setChan c x).evr = s.evr := rfl
@[simp] theorem State.setChan_upd (c : Nat) (x : Chan) : (s.setChan c x).upd = s.upd := rfl
@[simp] theorem State.setChan_bist (c : Nat) (x : Chan) : (s.setChan c x).bist = s.bist := rfl
@[simp] theorem State.setChan_out (c : Nat) (x : Chan) : (s.setChan c x).out = s.out := rfl
@[simp] theorem State.setSess_regs (k : Nat) (x : Sess) : (s.setSess k x).regs = s.regs := rfl
@[simp] theorem State.setSess_pending (k : Nat) (x : Sess) : (s.setSess k x).pending = s.pending := rfl
@[simp] theorem State.setSess_evq (k : Nat) (x : Sess) : (s.setSess k x).evq = s.evq := rfl
@[simp] theorem State.setSess_raiseQ (k : Nat) (x : Sess) : (s.setSess k x).raiseQ = s.raiseQ := rfl
@[simp] theorem State.setSess_freeCtr (k : Nat) (x : Sess) : (s.setSess k x).freeCtr = s.freeCtr := rfl
@[simp] theorem State.setSess_cpu (k : Nat) (x : Sess) : (s.setSess k x).cpu = s.cpu := rfl
@[simp] theorem State.setSess_tln (k : Nat) (x : Sess) : (s.setSess k x).tln = s.tln := rfl
@[simp] theorem State.setSess_wm (k : Nat) (x : Sess) : (s.setSess k x).wm = s.wm := rfl
@[simp] theorem State.setSess_psw (k : Nat) (x : Sess) : (s.setSess k x).psw = s.psw := rfl
@[simp] theorem State.setSess_led (k : Nat) (x : Sess) : (s.setSess k x).led = s.led := rfl
@[simp] theorem State.setSess_din (k : Nat) (x : Sess) : (s.setSess k x).din = s.din := rfl
@[simp] theorem State.setSess_can (k : Nat) (x : Sess) : (s.setSess k x).can = s.can := rfl
@[simp] theorem State.setSess_net (k : Nat) (x : Sess) : (s.setSess k x).net = s.net := rfl
@[simp] theorem State.setSess_pwr (k : Nat) (x : Sess) : (s.setSess k x).pwr = s.pwr := rfl
@[simp] theorem State.setSess_lnk (k : Nat) (x : Sess) : (s.setSess k x).lnk = s.lnk := rfl
@[simp] theorem State.setSess_acc (k : Nat) (x : Sess) : (s.setSess k x).acc = s.acc := rfl
@[simp] theorem State.setSess_mtr (k : Nat) (x : Sess) : (s.setSess k x).mtr = s.mtr := rfl
@[simp] theorem State.setSess_clk (k : Nat) (x : Sess) : (s.setSess k x).clk = s.clk := rfl
@[simp] theorem State.setSess_evr (k : Nat) (x : Sess) : (s.setSess k x).evr = s.evr := rfl
@[simp] theorem State.setSess_upd (k : Nat) (x : Sess) : (s.setSess k x).upd = s.upd := rfl
@[simp] theorem State.setSess_bist (k : Nat) (x : Sess) : (s.setSess k x).bist = s.bist := rfl
@[simp] theorem State.setSess_out (k : Nat) (x : Sess) : (s.setSess k x).out = s.out := rfl
@[simp] theorem State.setDir_regs (d : Nat) (up : Bool) (x : LinkDir) : (s.setDir d up x).regs = s.regs := rfl
@[simp] theorem State.setDir_pending (d : Nat) (up : Bool) (x : LinkDir) : (s.setDir d up x).pending = s.pending := rfl
@[simp] theorem State.setDir_evq (d : Nat) (up : Bool) (x : LinkDir) : (s.setDir d up x).evq = s.evq := rfl
@[simp] theorem State.setDir_raiseQ (d : Nat) (up : Bool) (x : LinkDir) : (s.setDir d up x).raiseQ = s.raiseQ := rfl
@[simp] theorem State.setDir_freeCtr (d : Nat) (up : Bool) (x : LinkDir) : (s.setDir d up x).freeCtr = s.freeCtr := rfl
@[simp] theorem State.setDir_cpu (d : Nat) (up : Bool) (x : LinkDir) : (s.setDir d up x).cpu = s.cpu := rfl
@[simp] theorem State.setDir_tln (d : Nat) (up : Bool) (x : LinkDir) : (s.setDir d up x).tln = s.tln := rfl
@[simp] theorem State.setDir_ldg (d : Nat) (up : Bool) (x : LinkDir) : (s.setDir d up x).ldg = s.ldg := rfl
@[simp] theorem State.setDir_wm (d : Nat) (up : Bool) (x : LinkDir) : (s.setDir d up x).wm = s.wm := rfl
@[simp] theorem State.setDir_psw (d : Nat) (up : Bool) (x : LinkDir) : (s.setDir d up x).psw = s.psw := rfl
@[simp] theorem State.setDir_led (d : Nat) (up : Bool) (x : LinkDir) : (s.setDir d up x).led = s.led := rfl
@[simp] theorem State.setDir_din (d : Nat) (up : Bool) (x : LinkDir) : (s.setDir d up x).din = s.din := rfl
@[simp] theorem State.setDir_can (d : Nat) (up : Bool) (x : LinkDir) : (s.setDir d up x).can = s.can := rfl
@[simp] theorem State.setDir_net (d : Nat) (up : Bool) (x : LinkDir) : (s.setDir d up x).net = s.net := rfl
@[simp] theorem State.setDir_pwr (d : Nat) (up : Bool) (x : LinkDir) : (s.setDir d up x).pwr = s.pwr := rfl
@[simp] theorem State.setDir_acc (d : Nat) (up : Bool) (x : LinkDir) : (s.setDir d up x).acc = s.acc := rfl
@[simp] theorem State.setDir_mtr (d : Nat) (up : Bool) (x : LinkDir) : (s.setDir d up x).mtr = s.mtr := rfl
@[simp] theorem State.setDir_clk (d : Nat) (up : Bool) (x : LinkDir) : (s.setDir d up x).clk = s.clk := rfl
@[simp] theorem State.setDir_evr (d : Nat) (up : Bool) (x : LinkDir) : (s.setDir d up x).evr = s.evr := rfl
@[simp] theorem State.setDir_upd (d : Nat) (up : Bool) (x : LinkDir) : (s.setDir d up x).upd = s.upd := rfl
@[simp] theorem State.setDir_bist (d : Nat) (up : Bool) (x : LinkDir) : (s.setDir d up x).bist = s.bist := rfl
@[simp] theorem State.setDir_out (d : Nat) (up : Bool) (x : LinkDir) : (s.setDir d up x).out = s.out := rfl
@[simp] theorem State.modT1s_regs (n : Nat) (f : T1sSeg → T1sSeg) : (s.modT1s n f).regs = s.regs := rfl
@[simp] theorem State.modT1s_pending (n : Nat) (f : T1sSeg → T1sSeg) : (s.modT1s n f).pending = s.pending := rfl
@[simp] theorem State.modT1s_evq (n : Nat) (f : T1sSeg → T1sSeg) : (s.modT1s n f).evq = s.evq := rfl
@[simp] theorem State.modT1s_raiseQ (n : Nat) (f : T1sSeg → T1sSeg) : (s.modT1s n f).raiseQ = s.raiseQ := rfl
@[simp] theorem State.modT1s_freeCtr (n : Nat) (f : T1sSeg → T1sSeg) : (s.modT1s n f).freeCtr = s.freeCtr := rfl
@[simp] theorem State.modT1s_cpu (n : Nat) (f : T1sSeg → T1sSeg) : (s.modT1s n f).cpu = s.cpu := rfl
@[simp] theorem State.modT1s_tln (n : Nat) (f : T1sSeg → T1sSeg) : (s.modT1s n f).tln = s.tln := rfl
@[simp] theorem State.modT1s_ldg (n : Nat) (f : T1sSeg → T1sSeg) : (s.modT1s n f).ldg = s.ldg := rfl
@[simp] theorem State.modT1s_wm (n : Nat) (f : T1sSeg → T1sSeg) : (s.modT1s n f).wm = s.wm := rfl
@[simp] theorem State.modT1s_psw (n : Nat) (f : T1sSeg → T1sSeg) : (s.modT1s n f).psw = s.psw := rfl
@[simp] theorem State.modT1s_led (n : Nat) (f : T1sSeg → T1sSeg) : (s.modT1s n f).led = s.led := rfl
@[simp] theorem State.modT1s_din (n : Nat) (f : T1sSeg → T1sSeg) : (s.modT1s n f).din = s.din := rfl
@[simp] theorem State.modT1s_can (n : Nat) (f : T1sSeg → T1sSeg) : (s.modT1s n f).can = s.can := rfl
@[simp] theorem State.modT1s_pwr (n : Nat) (f : T1sSeg → T1sSeg) : (s.modT1s n f).pwr = s.pwr := rfl
@[simp] theorem State.modT1s_lnk (n : Nat) (f : T1sSeg → T1sSeg) : (s.modT1s n f).lnk = s.lnk := rfl
@[simp] theorem State.modT1s_acc (n : Nat) (f : T1sSeg → T1sSeg) : (s.modT1s n f).acc = s.acc := rfl
@[simp] theorem State.modT1s_mtr (n : Nat) (f : T1sSeg → T1sSeg) : (s.modT1s n f).mtr = s.mtr := rfl
@[simp] theorem State.modT1s_clk (n : Nat) (f : T1sSeg → T1sSeg) : (s.modT1s n f).clk = s.clk := rfl
@[simp] theorem State.modT1s_evr (n : Nat) (f : T1sSeg → T1sSeg) : (s.modT1s n f).evr = s.evr := rfl
@[simp] theorem State.modT1s_upd (n : Nat) (f : T1sSeg → T1sSeg) : (s.modT1s n f).upd = s.upd := rfl
@[simp] theorem State.modT1s_bist (n : Nat) (f : T1sSeg → T1sSeg) : (s.modT1s n f).bist = s.bist := rfl
@[simp] theorem State.modT1s_out (n : Nat) (f : T1sSeg → T1sSeg) : (s.modT1s n f).out = s.out := rfl
@[simp] theorem State.modCan_regs (u : Nat) (f : CanCtl → CanCtl) : (s.modCan u f).regs = s.regs := rfl
@[simp] theorem State.modCan_pending (u : Nat) (f : CanCtl → CanCtl) : (s.modCan u f).pending = s.pending := rfl
@[simp] theorem State.modCan_evq (u : Nat) (f : CanCtl → CanCtl) : (s.modCan u f).evq = s.evq := rfl
@[simp] theorem State.modCan_raiseQ (u : Nat) (f : CanCtl → CanCtl) : (s.modCan u f).raiseQ = s.raiseQ := rfl
@[simp] theorem State.modCan_freeCtr (u : Nat) (f : CanCtl → CanCtl) : (s.modCan u f).freeCtr = s.freeCtr := rfl
@[simp] theorem State.modCan_cpu (u : Nat) (f : CanCtl → CanCtl) : (s.modCan u f).cpu = s.cpu := rfl
@[simp] theorem State.modCan_tln (u : Nat) (f : CanCtl → CanCtl) : (s.modCan u f).tln = s.tln := rfl
@[simp] theorem State.modCan_ldg (u : Nat) (f : CanCtl → CanCtl) : (s.modCan u f).ldg = s.ldg := rfl
@[simp] theorem State.modCan_wm (u : Nat) (f : CanCtl → CanCtl) : (s.modCan u f).wm = s.wm := rfl
@[simp] theorem State.modCan_psw (u : Nat) (f : CanCtl → CanCtl) : (s.modCan u f).psw = s.psw := rfl
@[simp] theorem State.modCan_led (u : Nat) (f : CanCtl → CanCtl) : (s.modCan u f).led = s.led := rfl
@[simp] theorem State.modCan_din (u : Nat) (f : CanCtl → CanCtl) : (s.modCan u f).din = s.din := rfl
@[simp] theorem State.modCan_net (u : Nat) (f : CanCtl → CanCtl) : (s.modCan u f).net = s.net := rfl
@[simp] theorem State.modCan_pwr (u : Nat) (f : CanCtl → CanCtl) : (s.modCan u f).pwr = s.pwr := rfl
@[simp] theorem State.modCan_lnk (u : Nat) (f : CanCtl → CanCtl) : (s.modCan u f).lnk = s.lnk := rfl
@[simp] theorem State.modCan_acc (u : Nat) (f : CanCtl → CanCtl) : (s.modCan u f).acc = s.acc := rfl
@[simp] theorem State.modCan_mtr (u : Nat) (f : CanCtl → CanCtl) : (s.modCan u f).mtr = s.mtr := rfl
@[simp] theorem State.modCan_clk (u : Nat) (f : CanCtl → CanCtl) : (s.modCan u f).clk = s.clk := rfl
@[simp] theorem State.modCan_evr (u : Nat) (f : CanCtl → CanCtl) : (s.modCan u f).evr = s.evr := rfl
@[simp] theorem State.modCan_upd (u : Nat) (f : CanCtl → CanCtl) : (s.modCan u f).upd = s.upd := rfl
@[simp] theorem State.modCan_bist (u : Nat) (f : CanCtl → CanCtl) : (s.modCan u f).bist = s.bist := rfl
@[simp] theorem State.modCan_out (u : Nat) (f : CanCtl → CanCtl) : (s.modCan u f).out = s.out := rfl
@[simp] theorem State.setCanWord_regs (u w : Nat) (v : Word) : (s.setCanWord u w v).regs = s.regs := by unfold State.setCanWord; split <;> rfl
@[simp] theorem State.setCanWord_pending (u w : Nat) (v : Word) : (s.setCanWord u w v).pending = s.pending := by unfold State.setCanWord; split <;> rfl
@[simp] theorem State.setCanWord_evq (u w : Nat) (v : Word) : (s.setCanWord u w v).evq = s.evq := by unfold State.setCanWord; split <;> rfl
@[simp] theorem State.setCanWord_raiseQ (u w : Nat) (v : Word) : (s.setCanWord u w v).raiseQ = s.raiseQ := by unfold State.setCanWord; split <;> rfl
@[simp] theorem State.setCanWord_freeCtr (u w : Nat) (v : Word) : (s.setCanWord u w v).freeCtr = s.freeCtr := by unfold State.setCanWord; split <;> rfl
@[simp] theorem State.setCanWord_cpu (u w : Nat) (v : Word) : (s.setCanWord u w v).cpu = s.cpu := by unfold State.setCanWord; split <;> rfl
@[simp] theorem State.setCanWord_tln (u w : Nat) (v : Word) : (s.setCanWord u w v).tln = s.tln := by unfold State.setCanWord; split <;> rfl
@[simp] theorem State.setCanWord_ldg (u w : Nat) (v : Word) : (s.setCanWord u w v).ldg = s.ldg := by unfold State.setCanWord; split <;> rfl
@[simp] theorem State.setCanWord_wm (u w : Nat) (v : Word) : (s.setCanWord u w v).wm = s.wm := by unfold State.setCanWord; split <;> rfl
@[simp] theorem State.setCanWord_psw (u w : Nat) (v : Word) : (s.setCanWord u w v).psw = s.psw := by unfold State.setCanWord; split <;> rfl
@[simp] theorem State.setCanWord_led (u w : Nat) (v : Word) : (s.setCanWord u w v).led = s.led := by unfold State.setCanWord; split <;> rfl
@[simp] theorem State.setCanWord_din (u w : Nat) (v : Word) : (s.setCanWord u w v).din = s.din := by unfold State.setCanWord; split <;> rfl
@[simp] theorem State.setCanWord_net (u w : Nat) (v : Word) : (s.setCanWord u w v).net = s.net := by unfold State.setCanWord; split <;> rfl
@[simp] theorem State.setCanWord_pwr (u w : Nat) (v : Word) : (s.setCanWord u w v).pwr = s.pwr := by unfold State.setCanWord; split <;> rfl
@[simp] theorem State.setCanWord_lnk (u w : Nat) (v : Word) : (s.setCanWord u w v).lnk = s.lnk := by unfold State.setCanWord; split <;> rfl
@[simp] theorem State.setCanWord_acc (u w : Nat) (v : Word) : (s.setCanWord u w v).acc = s.acc := by unfold State.setCanWord; split <;> rfl
@[simp] theorem State.setCanWord_mtr (u w : Nat) (v : Word) : (s.setCanWord u w v).mtr = s.mtr := by unfold State.setCanWord; split <;> rfl
@[simp] theorem State.setCanWord_clk (u w : Nat) (v : Word) : (s.setCanWord u w v).clk = s.clk := by unfold State.setCanWord; split <;> rfl
@[simp] theorem State.setCanWord_evr (u w : Nat) (v : Word) : (s.setCanWord u w v).evr = s.evr := by unfold State.setCanWord; split <;> rfl
@[simp] theorem State.setCanWord_upd (u w : Nat) (v : Word) : (s.setCanWord u w v).upd = s.upd := by unfold State.setCanWord; split <;> rfl
@[simp] theorem State.setCanWord_bist (u w : Nat) (v : Word) : (s.setCanWord u w v).bist = s.bist := by unfold State.setCanWord; split <;> rfl
@[simp] theorem State.setCanWord_out (u w : Nat) (v : Word) : (s.setCanWord u w v).out = s.out := by unfold State.setCanWord; split <;> rfl
@[simp] theorem State.modDin_regs (i : Nat) (f : DinIn → DinIn) : (s.modDin i f).regs = s.regs := rfl
@[simp] theorem State.modDin_pending (i : Nat) (f : DinIn → DinIn) : (s.modDin i f).pending = s.pending := rfl
@[simp] theorem State.modDin_evq (i : Nat) (f : DinIn → DinIn) : (s.modDin i f).evq = s.evq := rfl
@[simp] theorem State.modDin_raiseQ (i : Nat) (f : DinIn → DinIn) : (s.modDin i f).raiseQ = s.raiseQ := rfl
@[simp] theorem State.modDin_freeCtr (i : Nat) (f : DinIn → DinIn) : (s.modDin i f).freeCtr = s.freeCtr := rfl
@[simp] theorem State.modDin_cpu (i : Nat) (f : DinIn → DinIn) : (s.modDin i f).cpu = s.cpu := rfl
@[simp] theorem State.modDin_tln (i : Nat) (f : DinIn → DinIn) : (s.modDin i f).tln = s.tln := rfl
@[simp] theorem State.modDin_ldg (i : Nat) (f : DinIn → DinIn) : (s.modDin i f).ldg = s.ldg := rfl
@[simp] theorem State.modDin_wm (i : Nat) (f : DinIn → DinIn) : (s.modDin i f).wm = s.wm := rfl
@[simp] theorem State.modDin_psw (i : Nat) (f : DinIn → DinIn) : (s.modDin i f).psw = s.psw := rfl
@[simp] theorem State.modDin_led (i : Nat) (f : DinIn → DinIn) : (s.modDin i f).led = s.led := rfl
@[simp] theorem State.modDin_can (i : Nat) (f : DinIn → DinIn) : (s.modDin i f).can = s.can := rfl
@[simp] theorem State.modDin_net (i : Nat) (f : DinIn → DinIn) : (s.modDin i f).net = s.net := rfl
@[simp] theorem State.modDin_pwr (i : Nat) (f : DinIn → DinIn) : (s.modDin i f).pwr = s.pwr := rfl
@[simp] theorem State.modDin_lnk (i : Nat) (f : DinIn → DinIn) : (s.modDin i f).lnk = s.lnk := rfl
@[simp] theorem State.modDin_acc (i : Nat) (f : DinIn → DinIn) : (s.modDin i f).acc = s.acc := rfl
@[simp] theorem State.modDin_mtr (i : Nat) (f : DinIn → DinIn) : (s.modDin i f).mtr = s.mtr := rfl
@[simp] theorem State.modDin_clk (i : Nat) (f : DinIn → DinIn) : (s.modDin i f).clk = s.clk := rfl
@[simp] theorem State.modDin_evr (i : Nat) (f : DinIn → DinIn) : (s.modDin i f).evr = s.evr := rfl
@[simp] theorem State.modDin_upd (i : Nat) (f : DinIn → DinIn) : (s.modDin i f).upd = s.upd := rfl
@[simp] theorem State.modDin_bist (i : Nat) (f : DinIn → DinIn) : (s.modDin i f).bist = s.bist := rfl
@[simp] theorem State.modDin_out (i : Nat) (f : DinIn → DinIn) : (s.modDin i f).out = s.out := rfl

end Sys2Proof.Machine
end

