-- ==== Sys2Proof/Machine/Lands.lean ====
section
/-! DEFINITION. The states of the lands (R54 to R58), read from the state of the device. -/
namespace Sys2Proof.Machine
open Sys2Proof Reg

/-- The lands of R58 by their rows; a channel, sink, input, antenna or port by its number. -/
inductive Land where
  | out (c : Nat) | ledk (k : Nat) | din (i : Nat) | ign
  | can | lin | bb | ts | lf (a : Nat) | alive | safeN | resetN | xtal
  | txd | rxd | fsync | stClk | stDat | stLat (n : Nat) | ckout | tpulse
  | rngTx | rngClk | rngRx | spiIn | spiSdo | i2c | meter
deriving DecidableEq, Repr

/-- What a land does: follow its block or the outfit; a switch open; a level; an input; and the states R58 names for transceivers. -/
inductive LandDoes where
  | used | opened | level (high : Bool) | input | wettingOff
  | recessive | recessiveStandby | standby | sleeping | phyOff | highZ | floats | burst | oscillating | stopped | measuring | unpowered
  /-- a clock: the source of CLK_CKOUT.sel, high for `high` of every `of` of its cycles (R443) -/
  | clock (sel high of : Nat)
deriving DecidableEq, Repr

/-- The power domain of a land (R54). -/
inductive PowerDomain where
  | pa | pb | ctl | io1 | io2 | mtr
deriving DecidableEq, Repr

/-- The domain of a land (R54, R58). -/
def Land.domain : Land → PowerDomain
  | .out c => if dieOf c = 0 then .pa else .pb
  | .ledk k => if sinkDie k = 0 then .pa else .pb
  | .din i => if dinDie i = 0 then .pa else .pb
  | .ign => .pa
  | .txd | .rxd | .fsync | .stClk | .stDat | .stLat _ | .ckout | .tpulse => .io2
  | .rngTx | .rngClk | .rngRx | .spiIn | .spiSdo | .i2c => .io1
  | .meter => .mtr
  | _ => .ctl

/-- Whether a power domain is on (R54). -/
def powerOn (s : State) : PowerDomain → Bool
  | .pa => (s.die 0).on
  | .pb => (s.die 1).on
  | .ctl => ctlOn s
  | .io1 => ctlOn s && s.pwr.io1
  | .io2 => ctlOn s && s.pwr.io2
  | .mtr => Config.meterFitted && mtrOn s

/-- Whether a channel, sink or input land is held by its domain or by Off: R55, and the column Off of R58. -/
def dieLand (s : State) (l : Land) (other : LandDoes) : LandDoes := if powerOn s l.domain && s.pwr.phase != .off then .used else other

/-- A land in the power state Off (R58). -/
def landOff (s : State) : Land → LandDoes
  | .can | .lin => .unpowered
  | .bb | .ts => .highZ
  | .xtal => .unpowered
  | .ign => .input
  | .meter => if powerOn s .mtr then .measuring else .floats
  | _ => .floats

/-- A land while the control die is in reset (R58). -/
def landReset (s : State) : Land → LandDoes
  | .can => .recessiveStandby
  | .lin => .recessive
  | .bb | .ts => .phyOff
  | .lf _ | .alive | .stClk | .stDat | .stLat _ | .ckout | .tpulse | .rngTx | .rngClk => .level false
  | .txd => .level true
  | .xtal => .oscillating
  | .spiSdo | .i2c => .highZ
  | .meter => if powerOn s .mtr then .measuring else .floats
  | _ => .input

/-- Whether antenna `a` has the burst of a request or the carrier of a probe (R405, R406). -/
def bursting (s : State) (a : Nat) : Bool := (s.acc.phase == .burst && s.acc.req == some (.ant a)) || (s.acc.carrier && s.acc.probes.head? == some a)

/-- A land in Park (R58). -/
def landPark (s : State) : Land → LandDoes
  | .can => .standby
  | .lin | .ts => .sleeping
  | .bb => .phyOff
  | .lf a => if bursting s a then .burst else .level false
  | .xtal => .stopped
  | l => landReset s l

/-- A land while the device runs: the levels that the state holds, inputs, and lands that follow their block. SPI_SDO is high impedance while CS_N
is high (R386), as it is between the commands, each of which is a whole transaction. -/
def landRun (s : State) : Land → LandDoes
  | .alive => .level s.pwr.alivePin
  | .ckout =>
    if s.get CLK_CKOUT_mode = 2 then .level s.clk.pin
    else if ckRuns s then .clock (getBits s.clk.ckout 26 24) (ckShape s).1 (ckShape s).2
    else .level false
  | .tpulse => .level s.tln.pulseHigh
  | .stLat n => .level (s.st n).lat
  | .lf a => if bursting s a then .burst else .level false
  | .safeN | .resetN | .ign | .rxd | .fsync | .rngRx | .spiIn => .input
  | .spiSdo => .highZ
  | .xtal => if 2 ≤ s.get CLK_STATUS_xtal then .stopped else .oscillating
  | .meter => if powerOn s .mtr then .measuring else .floats
  | _ => .used

/-- What a land does (R54 to R58, R461): a channel, sink or input by its power die; another by the power state, at high impedance while its I/O
supply is out of range, and while VSUP_C holds the control die in reset from below 2.5 V, on its way down or up. -/
def landDoes (s : State) (l : Land) : LandDoes :=
  match l with
  | .out _ | .ledk _ => dieLand s l .opened
  | .din _ => dieLand s l .wettingOff
  | _ =>
    if s.pwr.phase = .off then landOff s l
    else if (l.domain = .io1 ∧ ! s.pwr.io1) ∨ (l.domain = .io2 ∧ ! s.pwr.io2) then .highZ
    else if ! ctlOn s ∧ l.domain ≠ .mtr ∧ l ≠ .ign ∧ Config.vsupLow s.freeCtr then .highZ
    else
      match s.pwr.phase with
      | .inReset | .starting => landReset s l
      | .park => landPark s l
      | _ => landRun s l

end Sys2Proof.Machine
end

