-- ==== Sys2Proof/Tests/Slice0.lean ====
section
/-! SUPPORT. The model's own tests: for every statement with hypotheses one witness that they can be met together (`wit_<statement>`), a smoke test of every well-formedness check, and worked examples of the spec. -/

namespace Sys2Proof.Tests
open Sys2Proof Sys2Proof.Machine Sys2Proof.Machine.Reg

/-! ## States to test in -/

/-- A context in a lane. -/
def resident : Ctx := { Ctx.init with mode := .resident }
/-- The device running, context 0 in a lane, every die link in traffic. -/
def base : State :=
  let s := { State.reset.setCtx 0 resident with pwr := { State.reset.pwr with phase := .run } }
  setLink (setLink (setLink (setLink s 0 0) 1 0) 2 0) 3 0
/-- A context before slot B under a WIDEN. -/
def inB (w : Option Widen) (s : State := base) (c : Nat := 0) : State := s.modCtx c fun x => { x with packet := some ⟨false, w, none⟩ }
/-- The registers of context 0 changed. -/
def withRegs (f : CRegs → CRegs) (s : State := base) : State := s.modCtx 0 fun x => { x with regs := f x.regs }
/-- A power die changed. -/
def withDie (d : Nat) (f : DieSt → DieSt) (s : State := base) : State := s.setDie d (f (s.die d))

/-- Both power dies Served, with their feed groups present. -/
def dies : State :=
  let f (d : DieSt) : DieSt := { d with on := true, away := false, lost1 := false, lost2 := false }
  ((withDie 1 f (withDie 0 f)).put (PSW_DIE_STATE_state 0) 0).put (PSW_DIE_STATE_state 1) 0
/-- The lighting leaf clocked. -/
def lit : State := dies.wr CLK_GATE 0xFFFFFFFF
/-- The device in a power state. -/
def phased (p : PwrPhase) (s : State := lit) : State := { s with pwr := { s.pwr with phase := p } }
/-- The peripheral clock running. -/
def clocked (s : State := lit) : State := s.putB CLK_STATUS_pll1 true
/-- The power-fail warning given when A1 stood at 0, with A1 now at a position. -/
def warnedAt (n : Nat) (s : State := lit) : State := (s.putB PWR_STATUS_pfw true).setAxis 1 { Axis.init with pos := n }
/-- Die `d` with an idle frame under way, so that a frame to it waits. -/
def linkBusy (d : Nat) (s : State) : State := s.setDir d false { s.dir d false with next := 1, unacked := [(0, .idle)] }

/-! ## Every hypothesis is met -/

theorem wit_StepRunsFrontCommand : ({ base with pending := [.dispatcherMismatch, .resetNAssert] } : State).pending = [.dispatcherMismatch, .resetNAssert] := rfl

theorem wit_LinkCommandsAndRetraining :
    ctlReached base = true ∧ ctlReached (phased .park base) = false ∧ base.bit SYS_LINK_STATUS_busy = false ∧ linkState (setLink base 3 1) 3 = 1 ∧
    (linkState (setLink base 1 1) 0 ≠ 1 ∧ linkState (setLink base 1 1) (otherLink 0) ≠ 0) ∧
    (linkState base 3 ≠ 1 ∧ linkState base (otherLink 3) = 0) ∧ linkState (setLink base 2 2) 2 = 2 ∧
    (setLink base 2 2 |>.modLnk fun l => { l with rejoin := some 2 }).lnk.rejoin = some 2 ∧ dieRuns (phased .inReset base) = false := by decide

theorem wit_DieLinkFramesAndFaults :
    let on := withDie 1 fun x => { x with on := true }
    let kept (n : Nat) (s : State := on) : State := s.setDir 1 true { s.dir 1 true with unacked := (List.range n).map fun i => (i, .idle) }
    let acting : State := on.setDir 1 false { on.dir 1 false with expect := 7, unacked := [(7, .action 103 2 9 (some (511, 5)) true (some (3, 9)))] }
    let run (n : Nat) : State := on.modLnk fun l => { l with runs := SMap.set 0 l.runs 7 n }
    (dieLinked (kept 7) 1 = true ∧ ((kept 7).dir 1 true).unacked.length < 8 ∧ dieLinked (kept 8) 1 = true ∧ 8 ≤ ((kept 8).dir 1 true).unacked.length ∧
      7 ∈ ((kept 8).dir 1 true).unacked.map (·.1)) ∧
    ((kept 8).dir 1 true).expect = 0 ∧ (acting.dir 1 false).expect = 7 ∧
    ((acting.dir 1 false).unacked.find? fun e => e.1 == 7) = some (7, .action 103 2 9 (some (511, 5)) true (some (3, 9))) ∧ linkState acting 3 = 0 ∧ (acting.die (linkDie 3)).on = true ∧
    (linkState (run 14) 3 = 0 ∧ ((run 14).die (linkDie 3)).on = true ∧ SMap.get 0 (run 14).lnk.runs 7 ≠ 15 ∧ linkState (run 15) 3 = 0 ∧
      SMap.get 0 (run 15).lnk.runs 7 = 15 ∧ linkState (setLink on 3 2) 3 ≠ 0 ∧ ((withDie 1 fun x => { x with on := false }).die (linkDie 3)).on = false) := by decide

theorem wit_SuppliesAndPowerDies :
    ((withDie 1 fun x => { x with on := true }).die 1).on = true ∧ (withDie 1 fun x => { x with on := true }).bit (PSW_DIE_STATE_ovshut 1) = false ∧
    ctlOn (phased .off base) = false ∧ ctlOn base = true ∧
    let off := withDie 1 fun x => { x with on := false }
    let on := withDie 1 fun x => { x with on := true, away := false }
    let st (n : Nat) : State := on.put (PSW_DIE_STATE_state 1) n
    let waits : State := on.setDir 1 false { on.dir 1 false with waiting := [.action 103 2 9 none false (some (3, 9))] }
    (off.die 1).on = false ∧ (on.die 1).on = true ∧ (on.die 1).away = false ∧ dieState (st 0) 1 = 0 ∧ dieState (st 1) 1 = 1 ∧
    (dieState (st 2) 1 = 2 ∧ ((st 2).putB (PSW_DIE_STATE_fresh 1) false).bit (PSW_DIE_STATE_fresh 1) = false) ∧
    (ctlReached on = true ∧ linkClear on 1 = true ∧ linkClear waits 1 = false ∧ linkClear (setLink (setLink on 2 1) 3 1) 1 = false) ∧
    (let w := waits.setItem 3 { Item.init with gen := 9 };
      (w.dir 1 false).waiting = [.action 103 2 9 none false (some (3, 9))] ∧ (w.item 3).gen = 9 ∧ (w.item 4).gen ≠ 9) ∧ ((withDie 1 fun x => { x with on := true, away := true }).die 1).away = true := by decide

/-- Before slot B: an open packet under any WIDEN, in no delay position. -/
theorem before_inB (w : Option Widen) (s : State) (c : Nat) : Before (inB w s c) c w .B := by
  have e : (inB w s c).ctx c = { s.ctx c with packet := some ⟨false, w, none⟩ } := s.ctx_modCtx_same c _
  exact ⟨none, by simp only [e]⟩

/-- Context 0 stands before slot A, and under any WIDEN before slot B. -/
theorem before_base (w : Option Widen) : Before base 0 none .A ∧ Before (inB w) 0 w .B := ⟨by simp only [Before]; decide, before_inB _ _ _⟩

theorem wit_AluSyllablesWithoutWiden :
    (Before base 0 none .A ∧ ((atIssue base 0 .A).ctx 0).regs.pr 0 = true) ∧ (Before (inB none) 0 none .B ∧ ((inB none).ctx 0).regs.pr 0 = true) ∧
    ((∀ i : Nat, 32 - 31 ≤ i → i < 32 → (1 : Word).getLsbD i = false) ∧ (1 : Word).getLsbD (31 - 31) = true) ∧ (0x80000000 : Word).getLsbD (31 - 0) = true :=
  ⟨⟨(before_base none).1, by decide⟩, ⟨(before_base none).2, by decide⟩, ⟨fun i h h' => by interval_cases i <;> decide, by decide⟩, by decide⟩

theorem wit_AluSyllablesUnderWiden :
    (∀ w, Before (inB w) 0 w .B) ∧ (((base.ctx 0).regs.pr 0 != false) = true ∧ ((base.ctx 0).regs.pr 7 != true) = true) ∧
    (0x1B &&& 0xEF = (0x0B : Byte) ∧ 0x0C &&& 0xEF = (0x0C : Byte) ∧ 0x1D &&& 0xEF = (0x0D : Byte)) :=
  ⟨fun _ => before_inB _ _ _, by decide, by decide⟩

theorem wit_GuardsAndPredicateSyllables :
    Before base 0 none .A ∧ ((tick base 0).ctx 0).regs.pr 3 = false ∧ Before (inB none) 0 none .B ∧ ((inB none).ctx 0).regs.pr 3 = false ∧
    ((tick base 0).ctx 0).regs.pr 0 = true ∧ ((inB none).ctx 0).regs.pr 0 = true :=
  ⟨(before_base none).1, by decide, (before_base none).2, by decide, by decide, by decide⟩

theorem wit_LoadsStoresAndTheirViolations :
    let s := withRegs fun r => { r with g := [(14, 0xC00000), (15, 0xBFFFFC)] };
    let at_ (size imm : Nat) (n : Nat) : Nat := ((s.ctx 0).regs.rg n + BitVec.ofNat 32 (size * (imm % 16))).toNat / size * size;
    (∀ w, Before (inB w s) 0 w .B) ∧ guardHolds (s.ctx 0).regs 0 (some ⟨false, 0, 0x9F⟩) = true ∧ guardHolds (s.ctx 0).regs 0 none = true ∧
      (at_ 4 0 15 = 0xBFFFFC ∧ at_ 4 0 15 < 0xC00000 ∧ s.covered 0 0xBFFFFC 4 true = true ∧ SMap.get 0 s.cpu.dmemErr (0xBFFFFC / 4) = 0) ∧
      (at_ 2 0x9F 15 = 0xC0001A ∧ at_ 4 0 14 = 0xC00000) ∧
      SMap.get 0 ({ s with cpu := { s.cpu with dmemErr := [(0xBFFFFC / 4, 1)] } } : State).cpu.dmemErr (0xBFFFFC / 4) = 1 ∧
    (let u := base.setCtx 511 resident;
      Before (inB none u 511) 511 none .B ∧ (inB none u 511).covered 511 0xBFFFFC 4 false = false) :=
  ⟨fun _ => before_inB _ _ _, by decide, by decide, by decide, by decide, by decide, before_inB _ _ _, by decide⟩

theorem wit_AccumulatorSyllables :
    let s (a : Acc) : State := withRegs fun r => { r with a1 := a, g := [(1, 1), (2, 0xFFFFFFFF)] };
    (∀ a w, Before (inB w (s a)) 0 w .B) ∧ ((s 0).ctx 0).regs.pr 0 = true ∧
    (let r := ((s (BitVec.ofInt 72 (2 ^ 71 - 1))).ctx 0).regs;
      (r.acc 1).toInt + (r.rg 2).toInt * (r.rg 1).toInt < 2 ^ 71 ∧ 2 ^ 71 ≤ (r.acc 1).toInt + (r.rg 1).toInt * (r.rg 1).toInt) ∧
    (let r := ((s (BitVec.ofInt 72 (-2 ^ 71))).ctx 0).regs;
      (r.acc 1).toInt - (r.rg 1).toInt * (r.rg 1).toInt < -2 ^ 71) ∧
    (0xD2 &&& 0x7C = (0x50 : Byte) ∧ (0xD2 : Byte).toNat % 4 * 16 + 8 ≤ 40 ∧ 0xE2 &&& 0x7C = (0x60 : Byte) ∧ 0xF3 &&& 0x7C = (0x70 : Byte)) :=
  ⟨fun _ _ => before_inB _ _ _, by decide, by decide, by decide, by decide⟩

theorem wit_TransfersAndWiden :
    (Before base 0 none .A ∧ ((tick base 0).ctx 0).regs.branch = none ∧ ((tick base 0).ctx 0).regs.pr 0 = (! false) ∧
      ((tick base 0).ctx 0).regs.pr 3 = false) ∧
    (let s := withRegs fun r => { r with branch := some ⟨0x1FFFFE, true⟩ };
      Before s 0 none .A ∧ ((tick s 0).ctx 0).regs.branch ≠ none) :=
  ⟨⟨(before_base none).1, by decide, by decide, by decide⟩, by simp only [Before]; decide, by decide⟩

theorem wit_TrapAndUndefinedSyllableStop : SMap.sorted base.cpu.ctxs = true ∧ Before base 0 none .A ∧ undefinedSyl .A none 0x0700 = true ∧ undefinedSyl .A none 0x09FF = true ∧
    (15 : GReg) ≠ 0 ∧ (0x9F : Byte).toNat / 16 = 9 ∧ 0x90 &&& 0x7F = (0x10 : Byte) ∧ (0xCF : Byte).toNat / 16 = 12 ∧ ¬ ((0 : BitVec 2) = 0 ∧ false = true) :=
  ⟨by decide, (before_base none).1, by decide, by decide, by decide⟩

theorem wit_PortAndLedgerSyllables :
    ((∀ w, Before (inB w) 0 w .B) ∧ (base.ctx 0).regs.pr 0 = true ∧ portDenied base 0 0x40000000 false = none ∧ base.axisOk 0 7 = true ∧
      (base.ctx 0).regs.rg 15 = 0) ∧
    (portDenied base 511 0x40050008 false = some 3 ∧ portDenied base 0 0xFFFFFFFC false = some 2 ∧ base.axisOk 511 7 = false) ∧
    (let u := (withRegs fun r => { r with g := [(1, 4096)] }).setTicket 4096 ⟨511, 5, [], .dispatched, 0, 0, false⟩;
      namesTicket u ((u.ctx 0).regs.rg 1) = some ⟨511, 5, [], .dispatched, 0, 0, false⟩ ∧ u.trackOk 0 511 = true ∧ u.trackOk 511 511 = false ∧
        namesTicket u 0 = none) ∧
    (let u := dies.modCtx 0 fun x => { x with reads := [(2, .port (DIN_IN_ADC 95).addr 4), (3, .answer 7)] };
      (u.ctx 0).reads.find 2 = some (.port (DIN_IN_ADC 95).addr 4) ∧ readReady u 0 (DIN_IN_ADC 95).addr = true ∧
      readReady (u.setDir 1 false { u.dir 1 false with next := 1, unacked := [(0, .write 0 (DIN_IN_CFG 95).addr 0)] }) 0 (DIN_IN_ADC 95).addr = false ∧
      ctlReached u = true ∧ ctlReached (phased .park u) = false ∧ readReady u 0 CLK_STATUS.addr = true ∧ readReady u 0 (CAN_STATUS 11).addr = true ∧
      readReady (u.putB PWR_STATUS_pllwait true) 0 (CAN_STATUS 11).addr = false ∧ readReady (post u 0 (.write (DIN_IN_CFG 0).addr 0)) 0 (DIN_IN_ADC 95).addr = false ∧
      (u.ctx 0).reads.find 3 = some (.answer 7) ∧ (u.ctx 0).mode = .resident ∧ (u.ctx 0).swapping = false ∧ (u.ctx 0).reads.find 0 = none) ∧
    (let u := base.modCtx 511 fun x => { x with reads := [(0, .answer 7)] };
      (u.ctx 511).reads.find 0 = some (.answer 7) ∧ (u.ctx 511).mode ≠ .resident) ∧
    (let u := inB (some ⟨false, 0, 0x80⟩) (base.putB PWR_STATUS_pllwait true);
      let v := inB (some ⟨false, 0, 0x80⟩) (post base 0 (.write (TLN_AX_SETL 2).addr 5));
      Before u 0 (some ⟨false, 0, 0x80⟩) .B ∧ mustWait u 0 (.tarm 3 0 0 0 0) = true ∧ mustWait u 0 (.tcancel 3 0) = true ∧ mustWait u 0 (.tread 3 7) = true ∧
        Before v 0 (some ⟨false, 0, 0x80⟩) .B ∧ mustWait v 0 (.tread 3 7) = true ∧ mustWait v 511 (.tread 3 7) = false ∧ mustWait base 0 (.tread 3 7) = false) ∧
    ((base.modCtx 0 fun x => { x with reads := [(3, .waits 7)] }).ctx 0).reads.find 3 = some (.waits 7) :=
  ⟨⟨fun _ => before_inB _ _ _, by decide, by decide, by decide, by decide⟩, by decide, by decide, by decide, by decide,
    ⟨before_inB _ _ _, by decide, by decide, by decide, before_inB _ _ _, by decide, by decide, by decide⟩, by decide⟩

/-- A context in a mode, with an event or none at input 3. -/
def ctxAt (n : Nat) (m : CtxMode) (ev : List Ev := []) (s : State := base) : State := s.setCtx n { Ctx.init with mode := m, in3 := ⟨ev, 0, false⟩ }

theorem wit_ContextCommands :
    ctlReached base = true ∧ base.bit TSK_CMD_RESULT_busy = false ∧ ((ctxAt 511 .empty).ctx 511).mode = .empty ∧ ((ctxAt 511 .waiting).ctx 511).mode = .waiting ∧
    ((ctxAt 1 .ready).ctx 1).mode = .ready ∧
    (((ctxAt 511 .stopped).ctx 511).mode = .stopped ∧ inact (ctxAt 511 .stopped) 511 = false ∧ ((ctxAt 511 .stopped).ctx 511).firstInp = none) ∧
    (((ctxAt 1 .siding).ctx 1).mode = .siding ∧ ((ctxAt 1 .siding).ctx 1).firstInp = none) ∧ (ctxAt 1 .siding [⟨511, 4096⟩]).bit TSK_CMD_RESULT_busy = false := by
  decide

/-- No route leads to a context of a machine whose routes are as after reset. -/
theorem wit_ContextCommands_routes : routed (ctxAt 1 .siding) 1 = false := by decide +kernel

theorem wit_TskCommandProtocol :
    ctlReached base = true ∧ ctlReached (phased .inReset) = false ∧ ctlReached (phased .off) = false ∧ (base.putB TSK_CMD_RESULT_busy true).bit TSK_CMD_RESULT_busy = true ∧
    (base.putB TSK_CMD_RESULT_busy true).ldg.drained = [] ∧ (511 : CtxId) ≠ 0 := by decide

theorem wit_TenantAndPairCommands :
    let tn (m : CtxMode) : State := (ctxAt 511 m).put (TSK_CTX_CFG_tenant 511) 15;
    SMap.sorted base.cpu.ctxs = true ∧ ctlReached base = true ∧ base.bit TSK_CMD_RESULT_busy = false ∧
    (((tn .waiting).ctx 511).mode ≠ .empty ∧ (tn .waiting).tenant 511 = 15) ∧
    (((tn .siding).ctx 511).mode = .siding ∧ (tn .siding).tenant 511 = 15 ∧ ((tn .siding).ctx 511).firstInp = none) ∧
    (pairUp (setPairState base 7 0) 7 = true ∧ 1 < (pairsUp (setPairState (setPairState base 7 0) 6 0)).length) ∧
    (let s := (List.range 7).foldl (fun s p => setPairState s (p + 1) 1) base; pairUp s 0 = true ∧ (pairsUp s).length ≤ 1) ∧ (∀ e ∈ base.cpu.ctxs, e.2.mode ≠ .siding) ∧
    pairState (setPairState base 7 2) 7 = 2 ∧ pairState (setPairState base 7 1) 7 ≠ 0 ∧ pairState (setPairState base 7 1) 7 = 1 ∧
    pairState (setPairState base 7 1) 7 ≠ 2 ∧ pairUp (setPairState base 7 1) 7 = false := by decide

theorem wit_EventsAndActivations :
    (base.pwr.phase ≠ .doze ∧ base.bit (TSK_ROUTE_valid 511) = false) ∧
    (let s := (((phased .doze (ctxAt 511 .waiting)).putB (TSK_ROUTE_valid 511) true).put (TSK_ROUTE_ctx 511) 511).put PWR_CFG_wprio 0;
      s.pwr.phase = .doze ∧ s.bit (TSK_ROUTE_valid 511) = true ∧ s.get (TSK_ROUTE_ctx 511) = 511 ∧ (s.ctx 511).mode ≠ .empty ∧ s.get PWR_CFG_wprio ≤ s.prio 511) ∧
    (let s (k : Nat) : State := (((ctxAt 511 .ready (List.replicate k ⟨1, 2⟩)).putB (TSK_ROUTE_valid 511) true).put (TSK_ROUTE_ctx 511) 511).put (TSK_ROUTE_input 511) 3;
      (s 7).pwr.phase ≠ .doze ∧ (s 7).bit (TSK_ROUTE_valid 511) = true ∧ (s 7).get (TSK_ROUTE_ctx 511) = 511 ∧ (s 7).get (TSK_ROUTE_input 511) = 3 ∧
      ((s 7).ctx 511).mode ≠ .empty ∧ ((s 7).ctx 511).mode ≠ .waiting ∧ latest (s 7) 511 3 = false ∧ (((s 7).ctx 511).inp 3).q.length < 8 ∧
      8 ≤ (((s 8).ctx 511).inp 3).q.length) ∧
    (let s := base.setCtx 0 { resident with swapping := true, in3 := ⟨[⟨5, 6⟩], 0, false⟩ };
      let u := s.setFrame 0 0x3A 0x80000000;
      (s.ctx 0).mode = .resident ∧ (s.ctx 0).swapping = true ∧ inact s 0 = false ∧ (s.ctx 0).firstInp = some 3 ∧ ((s.ctx 0).inp 3).q = [⟨5, 6⟩] ∧
      latest s 0 3 = false ∧ (u.ctx 0).swapping = true ∧ inact u 0 = true ∧ (s.ctx 0).again = none ∧
      ((s.modCtx 0 fun x => { x with again := some 3 }).ctx 0).again = some 3 ∧ inact (s.modCtx 0 fun x => { x with again := some 3 }) 0 = false) ∧
    (clkRuns base = true ∧ (phased .park base).pwr.phase = .park ∧ dieRuns (phased .inReset base) = false ∧ ctlReached (phased .park base) = false ∧
      (base.ctx 511).mode ≠ .resident ∧ (base.ctx 0).swapping = false) ∧
    (let s := base.setCtx 0 { resident with ended := true, serving := some 0, in0 := ⟨[⟨5, 6⟩], 0, false⟩ };
      SMap.sorted s.cpu.ctxs = true ∧ (s.ctx 0).mode = .resident ∧ (s.ctx 0).packet = none ∧ (s.ctx 0).swapping = false ∧ (s.ctx 0).ended = true ∧
      (s.ctx 0).serving = some 0 ∧ latest s 0 0 = false ∧ ((s.ctx 0).inp 0).q = [⟨5, 6⟩] ∧ ∀ j : Fin 4, j ≠ 0 → ((s.ctx 0).inp j).q = []) := by decide

/-- Axis `n` counting on a source. -/
def axisOn (n src : Nat) (a : Axis := { Axis.init with qual := 0 }) : State := (base.setAxis n a).put (TLN_AX_CFG_src n) src

theorem wit_AxesCountLoseAndLoad :
    (clkRuns (axisOn 7 4) = true ∧ ((axisOn 7 4).axis 7).lost = false ∧ ((axisOn 7 4).axis 7).qual ≠ 3 ∧ axisSrc (axisOn 7 4) 7 = 4 ∧
      lineCount (axisOn 7 4) 7 = ((axisOn 7 4).axis 7).lines ∧
      (let s := axisOn 7 4 { Axis.init with qual := 0, lines := 9 }; lineCount s 7 ≠ (s.axis 7).lines)) ∧
    (axisSrc (axisOn 2 5) 2 = 5 ∧ ({ axisOn 2 5 with mtr := { base.mtr with grid := false } } : State).mtr.grid = false) ∧
    (let s := (axisOn 2 2).wr (DIN_LEVEL 0) 1;
      axisSrc s 2 = 2 ∧ (s.axis 2).lvlA = false ∧ dinLevel s (s.get (TLN_AX_CFG_ina 2)) = true) ∧
    (let s := ((axisOn 2 1).put (TLN_AX_CFG_inb 2) 1);
      let a := s.wr (DIN_LEVEL 0) 1;
      let b := s.wr (DIN_LEVEL 0) 2;
      let ab := s.wr (DIN_LEVEL 0) 3;
      axisSrc s 2 = 1 ∧ (s.axis 2).lvlA = (s.axis 2).lvlB ∧
      (dinLevel a (a.get (TLN_AX_CFG_ina 2)) ≠ (a.axis 2).lvlA ∧ dinLevel a (a.get (TLN_AX_CFG_inb 2)) = (a.axis 2).lvlB) ∧
      (dinLevel b (b.get (TLN_AX_CFG_ina 2)) = (b.axis 2).lvlA ∧ dinLevel b (b.get (TLN_AX_CFG_inb 2)) ≠ (b.axis 2).lvlB) ∧
      (dinLevel ab (ab.get (TLN_AX_CFG_ina 2)) ≠ (ab.axis 2).lvlA ∧ dinLevel ab (ab.get (TLN_AX_CFG_inb 2)) ≠ (ab.axis 2).lvlB)) ∧
    ((base.axis 7).qual = 3 ∧ axisSrc (axisOn 7 4) 7 ≠ 0 ∧
      (let s := axisOn 7 4 { Axis.init with lost := true };
        (s.axis 7).lost = true ∧ sourceWell s 7 = true ∧ axisSrc s 7 ≠ 5) ∧
      (let s := (axisOn 7 2 { Axis.init with lost := true }).put (DIN_IN_STATUS_line 0) 1;
        let u := ((((s.putB (DIN_IN_CFG_en 0) true).putB (DIN_IN_CFG_diag 0) true).putB (DIN_IN_WET_mode 0) false).put (DIN_IN_WET_cur 0) 1);
        (u.axis 7).lost = true ∧ sourceWell u 7 = false) ∧
      ((axisOn 7 5).axis 7).lost = false ∧ axisSrc (axisOn 7 5) 7 = 5 ∧ ((axisOn 0 0).axis 0).qual ≠ 3 ∧ ctlReached base = true) := by decide

/-- The timeline runs, and one entry has fallen due. -/
def dueState (k : DueKind) (late : Bool) (i : Item := Item.init) : State :=
  let s := base.putB CLK_STATUS_pll1 true
  { s with tln := { s.tln with due := [⟨0, 0, 0, 0, 70000, late, k⟩], items := [(4095, i)] } }

/-- The refusal codes of TARM whose conditions the words of an item meet. -/
def tarmCodes (s : State) (c : Nat) (w0 w1 w2 w3 : Word) : List Nat :=
  let axis := getBits w1 18 16
  let kind := getBits w1 23 20
  let sense := getBits w1 25 24
  let pos : BitVec 48 := w1.setWidth 16 ++ w0
  let ros := getBits w3 21 16
  let h := getBits w3 12 0
  let x := BitVec.ofNat 48 (s.axis axis).pos
  let rel := bitOf w1 19
  let at_ : BitVec 48 := if rel then (if sense = 1 then x - pos else x + pos) else pos
  let away : BitVec 48 := if sense = 1 then x - at_ else at_ - x
  let reached : Bool := if sense = 2 then at_ == x else away == 0 || decide (2 ^ 47 ≤ away.toNat)
  let named : Bool := carriesTicket kind && h != 0
  let far : Bool := rel && sense != 2 && decide (2 ^ 47 ≤ pos.toNat)
  let track : Bool := match s.ticket h with | some k => s.trackOk c k.track | none => true
  let live : Bool := match s.ticket h with | some k => k.st == .accepted || k.st == .dispatched | none => false
  let tests : List Bool := [! (s.axisOk c axis && targetOk s c kind w2 && (! named || track)),
    if c = 0 then 4096 ≤ s.usedSlots else 4096 - min (s.get TLN_RESERVE_slots) 1024 ≤ s.usedSlots,
    c != 0 && min (s.get (TLN_TQUOTA_quota (s.tenant c))) 4096 ≤ s.tenantSlots (s.tenant c), kind == 0 || 8 ≤ kind || sense == 3,
    ros == 0 && ! far && reached && bitOf w1 26, far, sense != 0 && (axis < 2 || ros != 0), 2 ≤ axis && axisSrc s axis == 0,
    ros != 0 && ((! rosOn s ros && c != 0) || rosT s ros + rosW s ros ≤ pos.toNat || named || axis != rosAxis s ros || rel), named && ! live,
    ros == 0 && ! rel && axis == 0 && (s.axis 0).qual == 3]
  (tests.zipIdx.filter (·.1)).map (·.2)

/-- A0 Free-run at 10; roster 63, on axis 1 with period 10, enabled; tickets 5, Accepted, and 6, Done, of track 511. -/
def tarming : State :=
  let s := ((base.put (TLN_ROS_PERIOD_t 63) 10).putB (TLN_ROS_CFG_en 63) true).put (TLN_ROS_CFG_axis 63) 1
  ((s.setAxis 0 { Axis.init with pos := 10, qual := 2 }).setTicket 5 ⟨511, 5, [], .accepted, 0, 0, false⟩).setTicket 6 ⟨511, 6, [], .done, 0, 0, true⟩

theorem wit_LdoneTarmAndTcancelAnswer :
    (∀ i, Before (inB (some ⟨false, 0, i⟩) tarming) 0 (some ⟨false, 0, i⟩) .B) ∧ (tarming.ctx 0).regs.pr 0 = true ∧
    (let u := (withRegs fun r => { r with g := [(1, 4096), (2, 6)] }).setTicket 4096 ⟨511, 5, [], .dispatched, 0, 3, false⟩;
      let v := u.setTicket 6 ⟨511, 6, [], .done, 0, 3, true⟩;
      (0xD3 : Byte).toNat / 4 = 52 ∧ namesTicket u 0 = none ∧ namesTicket u ((u.ctx 0).regs.rg 1) = some ⟨511, 5, [], .dispatched, 0, 3, false⟩ ∧
        u.trackOk 511 511 = false ∧ u.trackOk 0 511 = true ∧ namesTicket v ((v.ctx 0).regs.rg 2) = some ⟨511, 6, [], .done, 0, 3, true⟩ ∧
        (u.wr ⟨(TSK_CAPSET 0).addr + 4 * 23, 0⟩ 0xFFFFFFFF).trackOk 511 511 = true) ∧
    (SMap.sorted tarming.tln.items = true ∧ mustWait tarming 0 (.tarm 3 20 0x00510000 0 0) = false ∧ (12 : GReg).val ≤ 12) ∧
    tarmCodes tarming 0 20 0x00510000 0 0 = [] ∧ tarmCodes tarming 0 20 0x00500000 0 0 = [] ∧ tarmCodes tarming 0 9 0x00500000 0 0 = [] ∧
    tarmCodes tarming 0 3 0x00510000 0 0x003F0000 = [] ∧ tarmCodes tarming 0 20 0x00110000 0 5 = [] ∧
    tarmCodes tarming 511 20 0x00510000 0 0 = [0] ∧
    tarmCodes (((tarming.wr (TSK_CAPSET 0) 0xFFFFFFFF).wr ⟨(TSK_CAPSET 0).addr + 4 * 7, 0⟩ 0xFFFFFFFF).put (TLN_TQUOTA_quota 0) 0) 511 20 0x00510000 0 0 = [2] ∧
    tarmCodes tarming 0 20 0x03510000 0 0 = [3, 6] ∧ tarmCodes tarming 0 9 0x04500000 0 0 = [4] ∧ tarmCodes tarming 0 10 0x04500000 0 0 = [4] ∧
    tarmCodes tarming 0 0 0x00598000 0 0 = [5] ∧ tarmCodes tarming 0 20 0x01510000 0 0 = [6] ∧ tarmCodes tarming 0 20 0x00570000 0 0 = [7] ∧
    tarmCodes tarming 0 10 0x00510000 0 0x003F0000 = [8] ∧ tarmCodes tarming 0 9 0x00510000 0 0x003F0000 = [] ∧ tarmCodes tarming 0 20 0x00110000 0 6 = [9] ∧
    tarmCodes (tarming.setAxis 0 Axis.init) 0 20 0x00500000 0 0 = [10] ∧
    (∀ i, Before (inB (some ⟨false, 0, i⟩) (dueState (.single 4095) false { Item.init with kind := 5, st := .armed })) 0 (some ⟨false, 0, i⟩) .B) ∧
    (let s := dueState (.single 4095) false { Item.init with kind := 5, st := .armed };
      let m (r : Nat) : State := { tarming with tln := { tarming.tln with items := [(4095, { Item.init with st := .armed, roster := r, axis := 1, gen := 4095 })] } };
      mustWait s 0 (.tcancel 3 0x80000FFF) = false ∧ (s.item 4095).st = .armed ∧ (s.item 4095).gen = 0 ∧ (s.item 4095).ctx = 0 ∧ (s.item 0).st = .free ∧
        s.axisOk 0 0 = true ∧ s.axisOk 511 0 = false ∧ firesNow (startsServed s) 4095 = true ∧ firesNow (startsServed (m 0)) 4095 = false ∧
        (m 0).item 4095 = { Item.init with st := .armed, roster := 0, axis := 1, gen := 4095 } ∧ getBits 0x8FFF0FFF 27 16 = 4095 ∧
        rosOn (m 63) 63 = true ∧ rosOn (m 62) 62 = false ∧ ((m 0).setItem 4095 { Item.init with st := .fired }).item 4095 = { Item.init with st := .fired } ∧
        ((m 0).setItem 4095 { Item.init with st := .cancelled }).item 4095 = { Item.init with st := .cancelled }) :=
  ⟨fun _ => before_inB _ _ _, by decide +kernel, by decide +kernel, by decide +kernel, by decide +kernel, by decide +kernel, by decide +kernel,
    by decide +kernel, by decide +kernel, by decide +kernel, by decide +kernel, by decide +kernel, by decide +kernel, by decide +kernel, by decide +kernel,
    by decide +kernel, by decide +kernel, by decide +kernel, by decide +kernel, by decide +kernel, by decide +kernel, fun _ => before_inB _ _ _, by decide +kernel⟩

/-- 4,096 armed items leave no slot for context 0. -/
theorem wit_LdoneTarmAndTcancelAnswer_full :
    let s : State := { tarming with tln := { tarming.tln with items := (List.range 4096).map fun i => (i, { Item.init with st := .armed }) } };
    4096 ≤ s.usedSlots := by decide +kernel

theorem wit_ItemsFireOnce :
    (tlnRuns (dueState (.single 4095) false) = true ∧ (dueState (.single 4095) false).tln.due = [⟨0, 0, 0, 0, 70000, false, .single 4095⟩] ∧
      (dueState (.single 4095) false).tln.fired = false) ∧
    (let s := dueState (.period 63 9) false; tlnRuns s = true ∧ (s.tln.due.map Due.isStart) = [true]) ∧
    ({ dueState (.single 4095) false with tln := { (dueState (.single 4095) false).tln with fired := true } } : State).tln.fired = true ∧
    ((dueState (.single 4095) false { Item.init with kind := 4 }).item 4095).kind = 4 ∧
    (let s := dueState (.single 4095) true { Item.init with kind := 5, arg := 0x20, st := .armed };
      (s.item 4095).kind = 5 ∧ getBits (s.item 4095).arg 2 0 = 0 ∧ getBits (s.item 4095).arg 5 4 < 3 ∧ (s.item 4095).st = .armed ∧ (s.item 0).st ≠ .armed ∧
      (s.put CLK_CKOUT_mode 2).get CLK_CKOUT_mode = 2 ∧ s.get CLK_CKOUT_mode ≠ 2) ∧
    (let s := dueState (.single 4095) false { Item.init with kind := 4, arg := 0xC1FF0000 };
      let c := getBits (s.item 4095).arg 24 16;
      c = 511 ∧ (s.ctx c).mode = .empty ∧ ((s.setCtx c resident).ctx c).mode ≠ .empty ∧ (((s.setCtx c resident).ctx c).inp 3).q.length < 8) := by decide

theorem wit_RostersStartAndStop :
    (ctlReached base = true ∧ rosOn base 63 = false) ∧
    (let s := (dueState (.period 63 9) false).putB (TLN_ROS_CFG_en 63) true;
      tlnRuns s = true ∧ s.tln.due = [⟨0, 0, 0, 0, 70000, false, .period 63 9⟩] ∧ rosOn s 63 = true ∧ changing s 63 = false ∧ changing ((s.put SYS_OUT_STATUS_state 2).put SYS_OUT_CFG_roster 63) 63 = true) ∧
    (let s (x : Nat) : State := { dueState (.single 0) false { Item.init with st := .armed, wake := true, axis := 1, pos := x } with pwr := { base.pwr with phase := .park } };
      let lead := max 1 ((s 0).get TLN_WAKE_LEAD_ms) * 500000;
      wakeable (s lead) = true ∧ wakeable (phased .parking (s lead)) = true ∧ wakeable base = false ∧ ((s lead).item 4095).st = .armed ∧ ((s lead).item 4095).wake = true ∧ ((s lead).item 4095).wakeDone = false ∧
      ((s lead).item 4095).axis < 2 ∧ ((s lead).item 4095).roster = 0 ∧ fwdDist ((s lead).axis 1).pos ((s lead).item 4095).pos ≤ lead ∧
      ¬ (ahead ((s (lead + 1)).axis 1).pos ((s (lead + 1)).item 4095).pos = false ∨ fwdDist ((s (lead + 1)).axis 1).pos ((s (lead + 1)).item 4095).pos ≤ lead) ∧
      ((s 0).item 0).wake = false) ∧ (dueState (.single 0) false { Item.init with axis := 2 }).item 4095 = { Item.init with axis := 2 } := by decide

/-- The timeline runs and A0 has a quality. -/
def a0At (q : Nat) (f : TlnSt → TlnSt := id) : State :=
  let s := (base.putB CLK_STATUS_pll1 true).setAxis 0 { Axis.init with qual := q }
  { s with tln := f s.tln }

theorem wit_NetworkTimeQuality :
    let up (s : State) : State := (s.put (ETH_P_STATUS_state 0) 2).put (ETH_P_STATUS_state 1) 2;
    (tlnRuns (a0At 3) = true ∧ (up (a0At 3)).get (ETH_P_STATUS_state 1) = 2 ∧ (a0At 3).get (ETH_P_STATUS_state 1) ≠ 2 ∧ portQualifies (up (a0At 3)) 0 = false ∧
      portQualifies (up (a0At 3 fun t => { t with sync0 := some (0, true) })) 0 = true ∧ ((up (a0At 3)).axis 0).qual = 3) ∧
    (let s := up (a0At 0 fun t => { t with outCnt := 7 });
      (s.axis 0).qual = 0 ∧ 7 ≤ s.tln.outCnt ∧ ¬ (2 * netOffset s 1000000).natAbs ≤ 10 * max 1 (s.get TLN_A0_CFG_lockth)) ∧
    (let s := up (a0At 2 fun t => { t with inCnt := 7 });
      (s.axis 0).qual ≠ 0 ∧ 7 ≤ s.tln.inCnt ∧ (2 * netOffset s 5).natAbs ≤ 10 * max 1 (s.get TLN_A0_CFG_lockth)) ∧
    (((a0At 1 fun t => { t with holdRunning := true }).axis 0).qual = 1 ∧ (a0At 1 fun t => { t with holdRunning := true }).tln.holdRunning = true) ∧
    (((a0At 0).put TLN_A0_STATUS_port 2).get TLN_A0_STATUS_port ≠ 0 ∧ 0 < (a0At 0 fun t => { t with off := 1 }).tln.off) ∧
    (a0At 0).get TLN_A0_STATUS_port = 0 ∧ ((a0At 0).putB TLN_A0_STATUS_steppend true).bit TLN_A0_STATUS_steppend = true ∧
    (a0At 0).bit TLN_A0_STATUS_steppend = false := by decide

theorem wit_PulsesAndForwardSteps :
    let on (b : Bool) : State := (a0At 0 fun t => { t with atBound := b }).putB TLN_TPULSE_CFG_en true;
    tlnRuns (on true) = true ∧ (on true).tln.atBound = true ∧ (on false).tln.atBound = false ∧ pulsing (on true) = true ∧
    pulsing (a0At 3 fun t => { t with atBound := true, pulseCfg := 0 }) = false ∧ (on true).tln.pulseLeft = 0 ∧
    (a0At 0 fun t => { t with pulseLeft := 1 }).tln.pulseLeft ≠ 0 ∧
    (on true).bit TLN_A0_STATUS_steppend = false ∧ ((on true).putB TLN_A0_STATUS_steppend true).bit TLN_A0_STATUS_steppend = true := by decide

/-! Ledger -/

/-- A session that the ledger serves, over the link BB1: session 15, which owns track 511. -/
def served : State :=
  let s := (((base.putB LDG_CTRL_en true).put (ETH_P_STATUS_state 1) 2).wr (LDG_SESS_ID 15) 7).putB (LDG_SESS_CFG_en 15) true
  let s := (((s.putB (LDG_SESS_CFG_bb1 15) true).wr (LDG_TRK_OWNERS 511) 0x8000).putB LDG_STATUS_scanning false).putB LDG_STATUS_awaitreplay false
  { s with ldg := { s.ldg with sessions := (List.range 16).map fun k => (k, { Sess.init with ready := true }), fenced := [(511, false)] } }
/-- Where its requests come from. -/
def from1 : ZSrc := ⟨0x020000000001, some 5, .v4 0x0A000002, 50000⟩
/-- The header of its request of a type and body length: version 1, session 7, counter 1. -/
def hdr (type len : Nat) : ZHdr :=
  ⟨.bb1, from1, 0x01#8 ++ BitVec.ofNat 8 type ++ BitVec.ofNat 16 len ++ 0x00000007#32 ++ 0x0000000000000001#64, len + 32, true⟩
/-- Its request of an unknown type. -/
def reqH : ZHdr := hdr 0x44 0
/-- A ticket of track 511. -/
def tkt (seq : Word) (st : TktState) : Ticket := ⟨511, seq, [], st, 0, 5, true⟩
/-- Tickets held. -/
def holding (l : SMap Ticket) (s : State := served) : State := { s with ldg := { s.ldg with tickets := l } }

theorem served_Served : Served served reqH 15 := by simp only [Served]; decide

theorem wit_SubmissionsAreJudgedInOrder :
    subBody [0, 0, 0, 0] = none ∧ subBody (submitOne ⟨511, 1, List.replicate 47 9⟩) = some [⟨511, 1, List.replicate 47 9⟩] ∧ (holding [] (served.put FLT_STATUS_mode 2)).get FLT_STATUS_mode = 2 ∧
    { served with ldg := { served.ldg with pfw := true } }.ldg.pfw = true ∧ served.get FLT_STATUS_mode ≠ 2 ∧ (List.replicate 48 (0 : Byte)).length ≤ 48 ∧ owns served 15 511 = true ∧ owns served 15 0 = false ∧
    (heldOf (holding [(4096, tkt 9 .done)]) 511 = [4096] ∧ (holding [(4096, tkt 9 .done)]).ticket 4096 = some (tkt 9 .done)) ∧
    (heldOf served 511 = [] ∧ queueOf served 511 = [] ∧ seqEarlier 0xFFFFFFFF (served.expected 511) = true ∧ seqEarlier 1 (served.expected 511) = false ∧
      served.isFenced 511 = false ∧ (holding [] base).isFenced 511 = true) ∧
    (let s := served.putB (LDG_TRK_CFG_open 511) true;
      served.bit (LDG_TRK_CFG_open 511) = false ∧ s.bit (LDG_TRK_CFG_open 511) = true ∧ judging s 511 = 1 ∧ (2 : Word) ≠ judging s 511 ∧
      creditOf (s.put (LDG_TRK_CFG_credit 511) 0) 511 ≤ (heldOf (holding [(1, tkt 9 .done)] s) 511).length ∧ (heldOf s 511).length + (queueOf s 511).length < creditOf s 511 ∧
      ¬ (freeTickets s - queuedAll s = 0 ∨ (freeTickets s - queuedAll s ≤ s.get LDG_CTRL_reserve ∧ s.bit (LDG_TRK_CFG_safety 511) = false)) ∧
      8 ≤ (queueOf (setQueue (s.put (LDG_TRK_CFG_credit 511) 9) 511 (List.replicate 8 ⟨1, [], []⟩)) 511).length ∧
      8 < creditOf (s.put (LDG_TRK_CFG_credit 511) 9) 511 ∧ queuedAll s < 64 ∧ s.ldg.pfw = false) := by decide

/-- 3,840 tickets of track 0 leave as many free as the reserve of reset keeps for safety tracks. -/
theorem wit_SubmissionsAreJudgedInOrder_full :
    let s := holding ((List.range 3840).map fun i => (i + 1, { tkt 0 .accepted with track := 0 })) (served.putB (LDG_TRK_CFG_open 511) true);
    freeTickets s - queuedAll s ≤ s.get LDG_CTRL_reserve ∧ s.bit (LDG_TRK_CFG_safety 511) = false ∧
      (heldOf s 511).length + (queueOf s 511).length < creditOf s 511 := by decide +kernel

theorem wit_PresentationAndPolls :
    base.bit (TSK_ROUTE_valid 511) = false ∧
    (let s := ((((holding [(4096, tkt 0 .accepted)]).setCtx 511 resident).putB (TSK_ROUTE_valid 511) true).put (TSK_ROUTE_ctx 511) 511).put (TSK_ROUTE_input 511) 3;
      s.bit (TSK_ROUTE_valid 511) = true ∧ (s.ctx 511).mode = .resident ∧ latest s 511 3 = false ∧ ((s.ctx 511).inp 3).q.length < 8 ∧
      (((s.ctx 511).inp 3).q.filter fun e => e.src = 511).length < depthOf s 511 ∧ s.bit LDG_STATUS_awaitreplay = false ∧ s.bit LDG_STATUS_badrec = false ∧
      s.bit LDG_STATUS_scanning = false ∧ oldestAccepted s 511 = some 4096 ∧ s.ticket 4096 = some (tkt 0 .accepted) ∧ clkRuns s = true ∧
      clkRuns (phased .park s) = false ∧ clkRuns (phased .doze s) = true ∧ (phased .doze s).pwr.phase = .doze ∧
      ((phased .doze s).put PWR_CFG_wprio 0).get PWR_CFG_wprio ≤ s.prio 511) ∧
    (owns served 15 0 = false ∧ owns served 15 511 = true) ∧
    ((served.put (LDG_SESS_CFG_query 15) 0).get (LDG_SESS_CFG_query 15)).testBit 0 = false ∧
    ((served.put (LDG_SESS_CFG_query 15) 1).get (LDG_SESS_CFG_query 15)).testBit 0 = true ∧
    (sessionOf served { reqH with head := 0x01440000000000010000000000000001 } = none ∧ sessionOf served reqH = some 15 ∧
      ({ reqH with head := 0x02440000000000070000000000000001 } : ZHdr).ver ≠ 1 ∧ ({ reqH with udpLen := 31 } : ZHdr).lenOk = false ∧
      ({ reqH with head := 0x01440000000000078000000000000001 } : ZHdr).ctr.msb = true ∧ sessionsReady base = false ∧ ctrFresh (served.sess 15) 0 = false) ∧
    (ctlReached served = true ∧ served.bit LDG_CTRL_en = true ∧ linkServes served .bb1 = true ∧ linkServes served .bb0 = false ∧ base.bit LDG_CTRL_en = false) := by decide

theorem wit_LedgerCommands :
    let busy := served.putB LDG_CMD_RESULT_busy true;
    let abandons (r : Bool) : State := { holding [(4096, { tkt 0 .abandoned with recorded := r })] busy with ldg := { (holding [(4096, { tkt 0 .abandoned with recorded := r })] busy).ldg with abandoned := [4096] } };
    let bound := { holding [(4096, tkt 0 .accepted)] with wm := { served.wm with marks := [(123, 511, 0)] } };
    ctlReached served = true ∧ busy.bit LDG_CMD_RESULT_busy = true ∧ busy.ldg.abandoned = [] ∧
    ((abandons false).ldg.abandoned = [4096] ∧ (abandons false).ticket 4096 = some { tkt 0 .abandoned with recorded := false } ∧
      (abandons true).ticket 4096 = some (tkt 0 .abandoned)) ∧
    served.bit LDG_CMD_RESULT_busy = false ∧ stageBusy bound 123 = true ∧ (124 : Fin 128).val = 124 ∧
    stageBusy served 123 = false ∧ stageReached served 103 = true ∧ stageOnDie 103 = 1 ∧ stageOnDie 123 = 2 ∧ linkClear served 1 = true ∧
    linkClear (linkBusy 1 served) 1 = false ∧ (∀ d < 2, underWay busy d = []) ∧
    (let u := queueFrame (linkBusy 1 busy) 1 false (.bind 103 (some (511, 0))); FrameBody.bind 103 (some (511, 0)) ∈ underWay u 1) ∧ stageReached (served.setDie 0 { DieSt.init with on := false }) 0 = false ∧
    served.bit LDG_STATUS_awaitreplay = false ∧ served.bit LDG_STATUS_badrec = false ∧ (served.putB LDG_STATUS_awaitreplay true).bit LDG_STATUS_awaitreplay = true ∧
    ((served.putB LDG_STATUS_badrec true).bit LDG_STATUS_badrec = true ∧ served.ldg.storesOk = false ∧
      ({ served with ldg := { served.ldg with storesOk := true } } : State).ldg.storesOk = true) ∧
    (bound.ticket 4096 = some (tkt 0 .accepted) ∧ SMap.sorted bound.ldg.tickets = true ∧
      (holding [(1, tkt 0 .dispatched)]).ticket 1 = some (tkt 0 .dispatched)) := by decide

theorem wit_messages_and_bodies (h : ZHdr) :
    Brings (.submit h [1] [0, 0, 0] ((submitOne ⟨7, 3, [9]⟩).drop 4)) h 0x01 (submitOne ⟨7, 3, [9]⟩) ∧
    Brings (.poll h [0, 7] [1] [8] [0, 0, 0, 2] [0, 0, 0, 1] []) h 0x02 (pollBody 7 true 8 2 1) ∧
    Brings (.query h [1, 0, 0, 0] [0, 0, 0, 0] [0, 32] [0, 0]) h 0x03 (queryBody 1 0 32) ∧ Brings (.begin h [1] [0] [0, 1]) h 0x30 (beginBody 1 0 1) ∧
    Brings (.data h [0, 0] [0, 16] [0, 2, 0, 0] [5, 6]) h 0x31 (dataBody 0 16 0 [5, 6]) ∧ Brings (.check h [1]) h 0x32 [1] ∧ Brings (.status h [1]) h 0x33 [1] ∧
    Brings (.activate h []) h 0x34 [] ∧ Brings (.keyset h [25, 0, 0, 0] [0, 0, 0, 1] [] [] true true) h 0x35 [25, 0, 0, 0, 0, 0, 0, 1] ∧
    Brings (.revert h []) h 0x36 [] := by
  simp only [Brings, true_and]
  decide

/-- `s` with the place of the answer to request `i` in the queue of port 0. -/
def placed (s : State) (i : Nat) : State := takePlace s .bb0 from1 i

theorem wit_JournalWritesAndRecovery :
    let sub : Sub := ⟨3, [1], [(2, 0)]⟩;
    let s (f : LdgSt → LdgSt) : State := { served with ldg := f served.ldg };
    (s fun l => { l with writing := some (.sess 1 0) }).ldg.writing.isSome = true ∧ served.ldg.writing = none ∧
    warnedFor served 500000 = false ∧ warnedFor (warnedAt 500000 served) 500000 = false ∧ warnedFor (warnedAt 500001 served) 500000 = true ∧
    ((s fun l => { l with sessQ := [15] }).ldg.sessQ = [15] ∧ served.ldg.sessQ = [] ∧ nextAdmission served = none ∧ served.ldg.compQ = []) ∧
    (s fun l => { l with compQ := [4096], lastKind := some true }).ldg.lastKind ≠ some false ∧
    (let u := setQueue (s fun l => { l with compQ := [4096], lastKind := some false }) 511 [sub];
      nextAdmission u = some (511, 1) ∧ queueOf u 511 = [sub] ∧ u.ldg.lastKind = some false) ∧
    (let u := setQueue (s fun l => { l with writing := some (.adm 511 sub 16383), fresh := 4096, reqs := [⟨2, .bb0, from1, 15, [none]⟩] }) 511 [sub];
      u.ldg.writing = some (.adm 511 sub 16383) ∧ queueOf u 511 = [sub] ∧ u.ldg.fresh ≤ 4096 ∧ u.ldg.reqs = [⟨2, .bb0, from1, 15, [none]⟩] ∧
      (∃ g ∈ (placed u 2).net.ethQ, g.msg = .later 2) ∧ (∀ g ∈ u.net.ethQ, g.msg ≠ .later 2) ∧ (u.sess 15).send / 2 ^ 24 = (u.sess 15).blk) ∧
    (s fun l => { l with writing := some (.sess 15 7), held := [(.bb0, from1, 15, .error 1, 7)] }).ldg.held = [(.bb0, from1, 15, .error 1, 7)] ∧
    (holding [(4096, tkt 0 .done)] (s fun l => { l with writing := some (.comp 4096 16383) })).ticket 4096 = some (tkt 0 .done) ∧
    (let u := served.putB LDG_STATUS_scanning true;
      u.bit LDG_STATUS_scanning = true ∧ u.ldg.headKnown = false ∧ u.ldg.journal = [] ∧ u.ldg.tickets = [] ∧ u.cpu.mramErr = []) ∧
    (let u := { served with cpu := { served.cpu with mramErr := [(0x100000 + 8 * 16383 + 7, 2)] },
                            ldg := { served.ldg with headKnown := true, journal := [(16383, .session 0 0 0)] } };
      u.ldg.headKnown = true ∧ recBad u 16383 = true) := by decide +kernel

/-- The newest session record can be read, or cannot. -/
theorem wit_JournalWritesAndRecovery_head :
    let u := served.putB LDG_STATUS_scanning true;
    let v : State := { u with cpu := { u.cpu with mramErr := [(0x100000 + 8 * 16383 + 7, 2)] },
                              ldg := { u.ldg with journal := [(16382, .session 15 7 3), (16383, .session 15 8 0)] } };
    v.bit LDG_STATUS_scanning = true ∧ v.ldg.headKnown = false ∧ v.ldg.journal.head? = some (16382, .session 15 7 3) ∧ recBad v 16382 = false ∧
      recBad v 16383 = true := by decide +kernel

/-- Context 0 carries a ticket of track 511. -/
def ticketed (s : State) : State := s.modCtx 0 fun x => { x with bound := some (1, 511, 5) }
/-- Channel 103 is bound to a track, with a watermark. -/
def marked (k n : Nat) (m : Word) (s : State) : State := { s with wm := { s.wm with marks := [(k, n, m)] } }
/-- A channel in siding. -/
def sided (c : Nat) (s : State := dies) : State := s.putB (PSW_CH_STATUS_siding c) true
/-- A channel commanded ON whose output is closed. -/
def closed (c : Nat) (s : State := dies) : State := (s.put (PSW_CH_STATE_cmd c) 1).modChan c fun x => { x with out := ⟨1, 0⟩ }

theorem wit_ChannelActions :
    (ctlReached dies = true ∧ linkClear dies 1 = true ∧ linkClear (linkBusy 1 dies) 1 = false ∧ linkClear (setLink (setLink dies 2 1) 3 1) 1 = false ∧
      (ticketed (dies.put (PSW_DIE_PAR_quad 0) 1)).boundTkt 0 ≠ none) ∧
    (let s := dies.modMat 1 fun x => { x with own := true }; isLine s 71 = true ∧ dieReached s (dieOf 71) = true ∧ linkClear s (dieOf 71) = true) ∧
    (dies.blockOk 511 10 && dies.chanOk 511 103) = false ∧ (dies.blockOk 0 10 && dies.chanOk 0 103) = true ∧
    dieReached (withDie 1 (fun d => { d with away := true }) dies) (dieOf 103) = false ∧ isFollower (dies.put (PSW_DIE_PAR_quad 0) 1) 1 = true ∧
    (dieReached dies (dieOf 103) = true ∧ isFollower dies 103 = false ∧ isLine dies 103 = false ∧ dieState dies (dieOf 103) = 0 ∧
      dies.bit (PSW_CH_STATUS_siding 103) = false ∧ isHB 103 = true ∧ isHB 87 = false ∧ dies.boundTkt 0 = none) ∧
    ((ticketed dies).boundTkt 0 = some (511, 5) ∧ (marked 103 511 4 (ticketed dies)).wm.marks.find 103 = some (511, 4) ∧ seqLater 5 4 = true ∧
      seqLater 5 5 = false ∧ (ticketed dies).wm.marks.find 103 = none) ∧
    dieState (dies.put (PSW_DIE_STATE_state 1) 2) 1 ≠ 0 ∧ (sided 103).bit (PSW_CH_STATUS_siding 103) = true := by decide

theorem wit_SidingAndRejoin :
    dieReached dies (dieOf 103) = true ∧ linkClear dies (dieOf 103) = true ∧ linkClear (linkBusy 1 dies) (dieOf 103) = false ∧ ctlReached dies = true ∧
    (dieReached dies 0 = true ∧ (0 : Fin 2).val ≠ dieOf 103 ∧ linkClear (linkBusy 0 dies) 0 = false ∧ isFollower dies 0 = false) ∧
    dieState (dies.put (PSW_DIE_STATE_state 1) 1) (dieOf 103) ≠ 0 ∧ isFollower dies 103 = false ∧ dies.bit (PSW_CH_STATUS_siding 103) = false ∧
    dies.bit (PSW_CH_SAFE_sidelimp 103) = false ∧ dieState dies (dieOf 103) = 0 ∧ isLine dies 103 = false ∧
    ((sided 103).bit (PSW_CH_STATUS_siding 103) = true ∧ (0x4FFF : BitVec 16).toNat / 4096 = 4 ∧ isHB 103 = true ∧ cooled (sided 103) 103 = true ∧
      wireCode (sided 103) 103 ≤ 256) ∧ cooled ((sided 0).modChan 0 fun x => { x with hot := true }) 0 = false ∧
    ¬ ((0xFFFF : BitVec 16).toNat / 4096 ≤ 3 ∨ ((0xFFFF : BitVec 16).toNat / 4096 = 4 ∧ isHB 103 = true)) := by decide +kernel

theorem wit_ChannelProtection :
    (dies.die (dieOf 103)).on = true ∧ switchClosed dies 103 false = false ∧ switchClosed (closed 0) 0 false = true ∧ (dies.led.mat0.scan = false ∧ dies.led.mat1.scan = false) ∧
    (let s := (closed 0).put (PSW_CH_PROT_restarts 0) 0;
      switchClosed s 0 true = true ∧ s.get (PSW_CH_PROT_restarts 0) ≤ s.get (PSW_CH_STATUS_restarts 0)) ∧
    (closed 0).get (PSW_CH_STATUS_restarts 0) < ((closed 0).put (PSW_CH_PROT_restarts 0) 1).get (PSW_CH_PROT_restarts 0) ∧
    (let s := (closed 0).putB (PSW_CH_STATUS_tsdwait 0) true;
      s.bit (PSW_CH_STATUS_tsdwait (leadOf s 0)) = true ∧ (∀ m ∈ membersOf s 0, m ≠ 0 → (s.chan m).hot = false ∧ (s.chan m).warm = false) ∧
        commandedOn s 0 = true) ∧
    (commandedOn dies 0 = false ∧ isLine dies 0 = false ∧ (dies.chan 0).limp = none ∧ isLine (dies.modMat 1 fun x => { x with own := true }) 71 = true) ∧
    (commandedOn (closed 0) 0 = true ∧ (closed 0).bit (PSW_CH_STATUS_tsdwait 0) = false) ∧
    (levelOf (closed 0) 0 ≠ .opened ∧ (closed 0).bit (PSW_CH_STATUS_ilim 0) = false ∧ ((closed 0).putB (PSW_CH_STATUS_ilim 0) true).bit (PSW_CH_STATUS_ilim 0) = true) ∧
    ((sgn 10 (dies.get (PSW_CH_TEMP_tj 0)) : Int) / 2 ≤ 60 ∧ 165 ≤ sgn 10 ((dies.put (PSW_CH_TEMP_tj 0) 330).get (PSW_CH_TEMP_tj 0)) / 2) ∧
    (isFollower dies 103 = false ∧ dies.get (PSW_CH_WIRE_itrip 103) ≠ 0 ∧ dies.bit (PSW_CH_STATUS_wire 103) = false ∧
      (dies.put (PSW_CH_WIRE_itrip 103) 0).get (PSW_CH_WIRE_itrip 103) = 0) ∧
    ((dies.modChan 103 fun x => { x with sampleDue := true }).chan 103).sampleDue = true ∧ (dies.chan 103).sampleDue = false := by
  decide +kernel

theorem wit_PeriodsGroupsAndTests :
    (dies.die (dieOf 103)).on = true ∧ isFollower (dies.put (PSW_DIE_PAR_quad 0) 1) 1 = true ∧ isFollower dies 103 = false ∧ (dies.die 1).lost2 = false ∧
    (base.die 1).lost2 = true ∧
    (let s := (dies.put (PSW_DIE_VBAT_v3 1) 120).put (PSW_CH_DIAG_period 103) 1;
      isFollower s 103 = false ∧ (s.chan 103).test = 0 ∧ 120 ≤ s.get (PSW_DIE_VBAT_v3 (dieOf 103)) ∧ s.get (PSW_CH_STATE_cmd 103) = 0 ∧
        s.bit (PSW_CH_STATUS_siding 103) = false ∧ (s.chan 103).out.cmd = 0 ∧ inPark s = false ∧ s.get (PSW_CH_DIAG_period 103) ≠ 0 ∧
        ctlReached s = true ∧ s.blockOk 0 10 = true ∧ s.chanOk 0 103 = true ∧ (s.die (dieOf 103)).away = false ∧ linkClear s (dieOf 103) = true ∧
        linkClear (linkBusy 1 s) (dieOf 103) = false ∧ (dies.modChan 103 fun x => { x with test := 2 }).get (PSW_DIE_VBAT_v3 (dieOf 103)) < 120 ∧ (closed 103 s).get (PSW_CH_STATE_cmd 103) ≠ 0) ∧
    (dies.put (PSW_DIE_VBAT_v3 1) 119).get (PSW_DIE_VBAT_v3 (dieOf 103)) < 120 ∧
    ((dies.modChan 103 fun x => { x with test := 1 }).chan 103).test = 1 ∧ ((dies.modChan 103 fun x => { x with test := 2 }).chan 103).test = 2 := by
  decide

theorem wit_BudgetRunsCapTheLowerLevels :
    (phased .parking base).pwr.phase ≠ .run ∧ (phased .parking base).pwr.phase ≠ .doze ∧ base.pwr.phase = .run ∧ (phased .doze base).pwr.phase = .doze ∧
    (base.putB PSW_BUD_CFG_en false).bit PSW_BUD_CFG_en = false ∧ (base.putB PSW_BUD_CFG_en true).bit PSW_BUD_CFG_en = true ∧
    (dieReached dies (dieOf 103) && dieFed dies (dieOf 103)) = true ∧ (dieReached dies (dieOf 103) && dieFed (dies.put FLT_STATUS_mode 2) (dieOf 103)) = false ∧
    (let s := setLink (setLink dies 2 1) 3 1; (dieReached s (dieOf 103) && dieFed s (dieOf 103)) = false) ∧
    (base.put (PSW_BUD_prio 103) 3).get (PSW_BUD_prio 103) = 3 ∧
    (dieReached dies (dieOf 103) = true ∧ linkClear dies (dieOf 103) = true ∧ (dies.dir (dieOf 103) false).unacked = [] ∧ (dies.dir (dieOf 103) true).unacked = []) := by decide

/-- A stitch port in a phase. -/
def stAt (k : Nat) (ph : StPhase) (cfg : Word := 0) : State := (lit.modSt k fun x => { x with phase := ph, cfg := cfg }).put (LED_S_LEN_len k) 8

theorem wit_PortActions :
    (ctlReached lit = true ∧ isReturn lit 3 = false ∧ isReturn (stAt 2 .idle 0x08000000) 3 = true ∧ perRuns (clocked (stAt 3 .idle)) = true ∧ perRuns lit = false) ∧ ledPortOk lit 511 7 = false ∧ ledPortOk lit 0 7 = true ∧ gatedOff (lit.wr CLK_GATE 0) (LED_P_CMD 7).addr = true ∧ gatedOff lit (LED_P_CMD 7).addr = false ∧
    ((lit.putB (LED_P_STATUS_siding 7) true).bit (LED_P_STATUS_siding 7) = true ∧ dieState (lit.put (PSW_DIE_STATE_state 1) 1) 1 ≠ 0) ∧
    (lit.bit (LED_P_STATUS_siding 1) = false ∧ dieReached lit 1 = true ∧ dieState lit 1 = 0 ∧ lit.boundTkt 0 = none ∧ portDefined lit 1 1 = true ∧
      portDefined (closed 71 lit) 1 1 = false) ∧
    ((marked 111 511 4 (ticketed lit)).wm.marks.find (104 + 7) = some (511, 4) ∧ seqLater 5 4 = true ∧ seqLater 5 5 = false) ∧
    (lit.putB (LED_P_STATUS_pend 3) true).bit (LED_P_STATUS_pend 3) = true ∧ lit.bit (LED_P_STATUS_pend 3) = false ∧
    (lit.putB (LED_F_CFG_sync 1) true).bit (LED_F_CFG_sync 1) = true ∧ lit.bit (LED_F_CFG_sync 1) = false ∧ retiring lit 1 = false ∧
    retiring (lit.modMat 1 fun x => { x with copies := [1 - frontOf lit 1] }) 1 = true ∧
    (lenOf lit 3 = 0 ∧ lenOf (stAt 3 .idle) 3 ≠ 0 ∧ ((stAt 3 .idle).st 3).phase = .idle ∧ ((stAt 3 .shifting).st 3).phase ≠ .idle) := by decide

theorem wit_FramesAndShifts :
    (let s := lit.putB (LED_P_STATUS_pend 3) true;
      let y := (s.putB (LED_F_CFG_sync 1) true).put (LED_F_CFG_fsto 1) 1;
      s.bit (LED_P_STATUS_pend 3) = true ∧ s.bit (LED_F_CFG_sync 1) = false ∧ retiring s 1 = false ∧ y.pwr.io2 = true ∧ y.bit (LED_F_CFG_sync 1) = true ∧
        y.bit (LED_P_STATUS_siding 3) = false ∧ y.get (LED_F_CFG_fsto 1) ≠ 0 ∧ y.bit (LED_P_STATUS_pend 3) = true) ∧
    (lit.bit (LED_P_STATUS_pend 3) = false ∧ ledPortOk lit 0 3 = true ∧ gateOn lit 30 = true ∧ lit.bit (LED_F_PAGE_front 1) = false ∧
      (lit.putB (LED_F_PAGE_front 1) true).bit (LED_F_PAGE_front 1) = true) ∧
    ((lit.modMat 1 fun x => { x with copies := [1] }).mat 1).copies = [1] ∧
    (perRuns lit = false ∧ perRuns (clocked (stAt 3 .shifting)) = true ∧ ctlReached lit = true ∧ retiring lit 1 = false ∧ lit.pwr.io2 = true ∧ isReturn (stAt 3 .idle) 3 = false ∧ isReturn ((stAt 3 .idle).modSt 2 fun x => { x with cfg := 0x08000000 }) 3 = true ∧ ({ lit with pwr := { lit.pwr with io2 := false } } : State).pwr.io2 = false) ∧
    (((stAt 3 .shifting).modSt 3 fun x => { x with zero := true }).st 3).zero = true ∧ (((stAt 3 .shifting 0x08000000).modSt 3 fun x => { x with rejoin := true }).st 3).rejoin = true ∧
    (let s := (stAt 3 .idle).putB (LED_P_STATUS_pend 7) true;
      s.bit (LED_P_STATUS_pend 7) = true ∧ (s.st 3).phase = .idle ∧ s.bit (LED_P_STATUS_siding 7) = false ∧ lenOf s 3 ≠ 0) ∧
    (((stAt 3 .shifting).st 3).phase = .shifting ∧ ((stAt 3 .shifting).st 3).zero = false ∧ bitOf ((stAt 3 .shifting).st 3).cfg 27 = false ∧
      ((stAt 3 .shifting).st 3).rejoin = false) ∧
    (let s := stAt 3 .shifting 0x08000000;
      bitOf (s.st 3).cfg 27 = true ∧ (1 : Word) ≠ (s.st 3).marker ∧ s.get (LED_S_RB_misses 3) = 0 ∧ latchMode (s.st 3).cfg = 0 ∧ lenOf s 3 ≠ 0 ∧
        (s.put (LED_S_RB_misses 3) 1).get (LED_S_RB_misses 3) ≠ 0 ∧ s.bit (LED_P_STATUS_siding 7) = false) ∧
    ((stAt 3 .latching).st 3).phase = .latching ∧
    (let s := (lit.putB (LED_P_STATUS_siding 1) true).modMat 1 fun x => { x with rejoin := true };
      s.bit (LED_P_STATUS_siding 1) = true ∧ (s.mat 1).rejoin = true ∧ (sided 71 s).bit (PSW_CH_STATUS_siding (lineBase 1 + 7)) = true ∧
        ∀ i : Fin 8, s.bit (PSW_CH_STATUS_siding (lineBase 1 + i)) = false) := by decide

theorem wit_SinksAndLines :
    (phased .off).pwr.phase = .off ∧ lit.pwr.phase ≠ .off ∧
    (let s : State := (clocked ((lit.setAxis 7 { Axis.init with qual := 0 }).put (TLN_AX_CFG_src 7) 4)).put (TLN_AX_CFG_ina 7) 1;
      usesMatrix 1 s 7 = true ∧ usesMatrix 0 s 7 = false ∧ (s.axis 7).lost = false ∧ (s.axis 7).qual ≠ 3 ∧ ctlReached s = true ∧ perRuns s = true ∧
        (s.axis 7).lines = (s.mat 1).lineCtr) ∧
    (lit.die (3 / 2)).on = true ∧ ((withDie 1 fun x => { x with on := false }).die 1).on = false ∧ isColumn lit 47 = false ∧ (lit.sink 47).mode = .set ∧
    (max 60 (min 150 (lit.get (LED_DIE_DERATE_knee 1))) ≤ 150 ∧ (511 : BitVec 10).toInt / 2 = 255 ∧ (512 : BitVec 10).toInt / 2 = -256) ∧
    (sinkFree lit 47 = true ∧ ((lit.setSink 47 ⟨.set, 240, 4096, 20000⟩).sink 47).duty ≠ 0 ∧ (lit.sink 47).duty = 0 ∧ lit.bit (LED_K_STATUS_tsd 47) = false ∧
      (lit.putB (LED_K_STATUS_tsd 47) true).bit (LED_K_STATUS_tsd 47) = true) ∧
    (lit.mat 1).scan = false ∧
    (let s (l : Nat) : State := lit.modMat 1 fun x => { x with scan := true, line := some l };
      ((s 6).mat 1).scan = true ∧ ((s 6).mat 1).line = some 6 ∧ 6 < getBits ((s 6).mat 1).cfg 30 28 ∧ ((s 7).mat 1).line = some (getBits ((s 7).mat 1).cfg 30 28) ∧
        lineFaulty (setOut (s 6) (lineBase 1 + 6) ⟨0, 0⟩) (lineBase 1 + 7) = false ∧
        lineFaulty (setOut (sided 71 (s 6)) (lineBase 1 + 6) ⟨0, 0⟩) (lineBase 1 + 7) = true ∧ ((s 6).mat 1).fault.contains 7 = false ∧
        ((s 6).mat 1).slotBad = false ∧ (((s 6).modMat 1 fun x => { x with slotBad := true }).mat 1).slotBad = true ∧ ((s 6).mat (1 - 1)).scan = false ∧
        levelOf (setOut (s 6) (lineBase 1 + 6) ⟨1, 0⟩) (lineBase 1 + 6) ≠ .opened ∧ (s 6).bit (PSW_CH_STATUS_ilim (lineBase 1 + 6)) = false ∧
        leadOf (s 6) (lineBase 1 + 6) = lineBase 1 + 6) ∧
    (isColumn (lit.modMat 1 fun x => { x with own := true }) 24 = true ∧
      sinkFree ((lit.modMat 1 fun x => { x with own := true }).setSink 24 ⟨.set, 0, 0, 20000⟩) 24 = true ∧
      20000 ≤ (((lit.modMat 1 fun x => { x with own := true }).setSink 24 ⟨.set, 0, 0, 20000⟩).sink 24).onNs) := by decide

/-- Input `i` enabled, started, at a count and a count in Park. -/
def dinOn (i count : Nat) (started : Bool := true) (park : Nat := 0) : State :=
  (dies.putB (DIN_IN_CFG_en i) true).modDin i fun _ => ⟨count, started, false, park⟩
/-- The device in Park. -/
def parked (s : State) : State := { s with pwr := { s.pwr with phase := .park } }

theorem wit_InputsDebounceAndWake :
    (sampled (dinOn 95 0 false) 95 = true ∧ inPark (dinOn 95 0 false) = false ∧ ((dinOn 95 0 false).din1 95).started = false) ∧
    ((dinOn 95 0).din1 95).started = true ∧ sampled dies 95 = false ∧
    (let s := parked ((((dinOn 95 0 true 2).putB (DIN_IN_CFG_wake 95) true).put (DIN_IN_CFG_wedge 95) 3).put (DIN_IN_PARK_n 95) 2);
      sampled s 95 = true ∧ inPark s = true ∧ s.get (DIN_IN_CFG_wedge 95) = 3 ∧ max 1 (s.get (DIN_IN_PARK_n 95)) ≤ (s.din1 95).parkCnt ∧ s.pwr.wake = false) ∧
    (let s (n : Nat) : State := ((dinOn 95 n).put (DIN_IN_DB_db 95) 0).putB (DIN_IN_WET_mode 95) false;
      debounceCount (s 2) 95 ≤ ((s 2).din1 95).count ∧ ((s 1).din1 95).count < debounceCount (s 1) 95 ∧ (s 1).bit (DIN_IN_WET_mode 95) = false) ∧
    (ctlReached dies = true ∧ dieReached dies (dinDie 95) = true ∧ linkClear dies (dinDie 95) = true ∧ linkClear (linkBusy 1 dies) (dinDie 95) = false ∧
      dieReached (withDie 1 (fun d => { d with away := true }) dies) (dinDie 95) = false ∧ lineJudged dies 95 = false ∧ lineJudged ((((dies.putB (DIN_IN_WET_mode 95) false).putB (DIN_IN_CFG_en 95) true).putB
        (DIN_IN_CFG_diag 95) true).put (DIN_IN_WET_cur 95) 1) 95 = true) ∧
    (let s := ((dinOn 95 0).putB (DIN_IN_WET_mode 95) true).put (DIN_IN_WET_cur 95) 1;
      s.bit (DIN_IN_WET_mode 95) = true ∧ s.get (DIN_IN_WET_cur 95) ≠ 0 ∧ inPark s = false) ∧
    (dies.din1 0).parkCnt < max 1 (dies.get (DIN_IN_PARK_n 0)) := by decide

theorem wit_LineFaultsAndReadings :
    let s := (((((dinOn 95 0).putB (DIN_IN_WET_mode 95) false).putB (DIN_IN_CFG_diag 95) true).put (DIN_IN_WET_cur 95) 1).put (PSW_DIE_VBAT_v3 1) 180).put (DIN_IN_CFG_aper 95) 1;
    let q := setAdcQueue s 1 [95];
    ((sampled s 95 && lineJudged s 95 && ! lineFrozen s 95) = true ∧ s.get (DIN_IN_STATUS_line 95) = 0) ∧
    (let u := s.put (PSW_DIE_VBAT_v3 1) 179; (sampled u 95 && lineJudged u 95 && ! lineFrozen u 95) = false) ∧
    (let u := s.put (DIN_IN_STATUS_line 95) 1; (sampled u 95 && lineJudged u 95 && ! lineFrozen u 95) = true ∧ u.get (DIN_IN_STATUS_line 95) ≠ 0) ∧
    (s.get (DIN_IN_CFG_aper 95) ≠ 0 ∧ inPark s = false ∧ (s.die (dinDie 95)).on = true ∧ (adcQueue s (dinDie 95)).contains 95 = false) ∧
    (let due (u : State) : Bool := ! inPark u && (u.din1 95).started && decide (debounceCount u 95 ≤ (u.din1 95).count);
      due s = false ∧ due (s.modDin 95 fun x => { x with count := 64000 }) = true) ∧
    (ctlReached s = true ∧ linkClear s (dinDie 95) = true ∧ linkClear (linkBusy 1 s) (dinDie 95) = false ∧ linkClear q (dinDie 95) = true) ∧
    (s.blockOk 511 12 = false ∧ s.blockOk 0 12 = true ∧ dieReached s (dinDie 95) = true ∧ 95 ∈ adcQueue q (dinDie 95) ∧ 95 ∉ adcQueue s (dinDie 95)) ∧
    (adcQueue s 1 = [] ∧ adcQueue q 1 = [95]) := by decide +kernel

/-- Controller 11 in a state. -/
def canAt (st : Nat) (f : CanCtl → CanCtl := id) : State := (((lit.putB CLK_STATUS_pll1 true).put (CAN_STATUS_state 11) st).put (CAN_RAM_count 11 3) 64).modCan 11 f
/-- A request of buffer 63. -/
def creq (slot : Bool) : CanReq := ⟨63, none, slot, none, 0⟩

theorem wit_CanCommandsAndStates :
    ctlReached lit = true ∧ gatedOff (lit.wr CLK_GATE 0) (CAN_CMD 11).addr = true ∧ gatedOff lit (CAN_CMD 11).addr = false ∧
    ((lit.putB (CAN_CMD_RESULT_busy 11) true).bit (CAN_CMD_RESULT_busy 11) = true ∧ lit.bit (CAN_CMD_RESULT_busy 11) = false) ∧
    ((lit.canc 11).after = none ∧ (lit.canc 11).rejoin = false ∧ canState lit 11 = 0 ∧ canConfigOk lit 11 = true ∧ canConfigOk (lit.wr (CAN_NBT 11) 0) 11 = false) ∧
    (canState (canAt 1) 11 = 1 ∧ ((canAt 1).canc 11).cur = none ∧ ((canAt 2 fun c => { c with cur := some (63, 7) }).canc 11).cur ≠ none ∧
      ((canAt 2 fun c => { c with cur := some (63, 7) }).canc 11).after = none) ∧
    (canLinked (canAt 1) 11 = true ∧ canLinked ({ canAt 1 with pwr := { lit.pwr with io2 := false } } : State) 11 = false) ∧
    (canState (canAt 4) 11 = 4 ∧ ((canAt 4).canc 11).rejoin = false ∧ (canAt 4).get (CAN_STATUS_cause 11) ≠ 1 ∧ canLinked (canAt 4) 11 = true) ∧
    (let s := (canAt 4 fun c => { c with rejoin := true }).put (CAN_STATUS_cause 11) 1;
      canState s 11 = 4 ∧ s.get (CAN_STATUS_cause 11) = 1 ∧ s.bit (CAN_STATUS_recov 11) = false ∧ (s.canc 11).rejoin = true ∧
        (s.putB (CAN_CTRL_autorj 11) true).bit (CAN_CTRL_autorj 11) = true ∧ (canAt 4).bit (CAN_CTRL_autorj 11) = false ∧
        (s.putB (CAN_STATUS_recov 11) true).bit (CAN_STATUS_recov 11) = true) ∧
    (ttMode lit 11 = 0 ∧ ttMode (lit.put (CAN_CTRL_tt 11) 2) 11 ≠ 0) := by decide

theorem wit_CanRequests :
    let pend (slot : Bool) (cur : Option (Nat × Word)) : State := canAt 2 fun c => { c with pend := [creq slot], cur := cur };
    let bad (s : State) : State := { s with can := { s.can with err := [8192 * 11 + (ramAt s 11 3 63 + 1)] } };
    (ctlReached lit = true ∧ canGrant lit 511 11 = false ∧ canGrant lit 0 11 = true ∧ gatedOff lit (CAN_TXREQ 11).addr = false ∧ canState (canAt 4) 11 = 4) ∧
    ((ticketed (canAt 2)).boundTkt 0 ≠ none ∧ (canAt 2).boundTkt 0 = none ∧ (ticketed (canAt 2)).wm.marks.find (112 + 11) = none ∧
      (marked 123 511 4 (ticketed (canAt 2))).wm.marks.find (112 + 11) = some (511, 4) ∧ behindPending (canAt 2) 11 5 = false ∧ seqLater 5 4 = true ∧
      seqLater 5 5 = false) ∧
    ((decide (ramCount (canAt 2) 11 3 ≤ 63) || bitOf ((canAt 2).canWord 11 (ramAt (canAt 2) 11 3 63 + 1)) 6 || isPend (canAt 2) 11 63 ||
      canState (canAt 2) 11 == 0 || canMode (canAt 2) 11 != 0) = false ∧ ramCount (lit.put (CAN_RAM_count 11 3) 63) 11 3 ≤ 63 ∧
      canBad (canAt 2) 11 (ramAt (canAt 2) 11 3 63 + 1) = false ∧ canBad (bad (canAt 2)) 11 (ramAt (canAt 2) 11 3 63 + 1) = true) ∧
    (isPend (canAt 2) 11 63 = false ∧ isPend (pend false none) 11 63 = true ∧ ((pend false none).canc 11).cur.map (·.1) ≠ some 63 ∧
      ((pend false (some (63, 7))).canc 11).cur.map (·.1) = some 63) ∧
    (canLinked (pend false none) 11 = true ∧ perRuns (pend false none) = true ∧ perRuns lit = false ∧ canMode (pend false none) 11 = 0 ∧ eligible (pend false none) 11 (creq false) = true ∧
      sendable (pend false none) 11 (creq false) = true ∧ sendable (bad (pend false none)) 11 (creq false) = false) ∧
    (curReq (pend true (some (63, 7))) 11 = some (creq true) ∧ curReq (pend false (some (63, 7))) 11 = some (creq false) ∧ (creq false).buf < 64 ∧ curReq (canAt 2) 11 = none ∧
      ((pend false (some (63, 7))).canc 11).after = none) ∧
    ((canAt 2).can.tail.find 11 = none ∧ ({ canAt 2 with can := { (canAt 2).can with tail := [(11, (511, 5))] } } : State).can.tail.find 11 = some (511, 5) ∧
      canHears (canAt 2) 11 = true ∧ canHears ({ canAt 2 with pwr := { lit.pwr with io2 := false } } : State) 11 = false ∧ ((canAt 2).canc 11).cur = none ∧ (marked 123 511 4 (canAt 2)).wm.marks.find (112 + 11) = some (511, 4)) ∧
    (let s := pend false (some (63, 7));
      s.bit (CAN_CTRL_loop 11) = false ∧ s.rd (CAN_DUP_ID 11) = dupKey (bufFrame s 11 (creq false)) ∧ (s.wr (CAN_DUP_ID 11) 1).rd (CAN_DUP_ID 11) ≠ dupKey (bufFrame s 11 (creq false)) ∧ 1 < max 1 ((s.put (CAN_DUP_CFG_thr 11) 2).get (CAN_DUP_CFG_thr 11)) ∧
        max 1 ((s.put (CAN_DUP_CFG_thr 11) 0).get (CAN_DUP_CFG_thr 11)) ≤ 1 ∧ 1 < (s.put (CAN_DUP_CFG_act 11) 2).get (CAN_DUP_CFG_act 11)) ∧
    (let s (n : Nat) : State := (pend false (some (63, 7))).put (CAN_STATUS_tec 11) n;
      canState (s 255) 11 = 2 ∧ tecOf (s 255) 11 + 8 = 263 ∧ tecOf (s 247) 11 + 8 = 255) := by
  decide +kernel

/-- A classical frame of identifier 1. -/
def frame1 : CanFrame := { esi := false, rtr := false, xtd := false, id := BitVec.ofNat 29 (2 ^ 18), dlc := 8, fdf := false, brs := false, data := [1, 2, 3, 4, 5, 6, 7, 8] }

theorem wit_CanReceptionAndSlots :
    let s := canAt 3;
    let into (n : Nat) : State := s.put (CAN_CTRL_nomatch 11) n;
    let obj : State := (((s.put (CAN_FLT_ID_target 11 0) 3).wr (CAN_FLT_MASK 11 0) 0).put (CAN_RAM_count 11 2) 256).modCan 11
      fun c => { c with objs := [(5, 2 ^ 18)] };
    (canState s 11 = 3 ∧ canLinked s 11 = true ∧ canState lit 11 = 0 ∧ frame1.fdf = false ∧ tecOf s 11 ≤ 255 ∧ recOf s 11 ≤ 127 ∧
      127 < recOf (s.put (CAN_STATUS_rec 11) 128) 11 ∧ 127 < tecOf (s.put (CAN_STATUS_tec 11) 128) 11) ∧
    ((frameTarget (into 0) 11 frame1).1 = 0 ∧ (frameTarget (into 1) 11 frame1).1 = 2) ∧
    (let u := (into 1).put (CAN_RAM_count 11 1) 256;
      0 < ramCount u 11 1 ∧ u.get (CAN_PL_STATUS_fill 11 1) = 0 ∧ ramAt u 11 1 0 + ramLen u 11 1 ≤ 8192 ∧ ramCount (u.put (CAN_RAM_count 11 1) 0) 11 1 ≤ u.get (CAN_PL_STATUS_fill 11 1)) ∧
    ((frameTarget obj 11 frame1).1 = 3 ∧
      (obj.canc 11).objs.find? (fun e => e.2 == b2n frame1.xtd * 2 ^ 29 + frame1.id.toNat && decide (e.1 < ramCount obj 11 2)) = some (5, 2 ^ 18) ∧
      (obj.canc 11).objs.find 5 ≠ none ∧ ramAt obj 11 2 5 + ramLen obj 11 2 ≤ 8192) ∧
    (let u := obj.put (CAN_RAM_count 11 2) 0;
      (frameTarget u 11 frame1).1 = 3 ∧ (u.canc 11).objs.find? (fun e => e.2 == b2n frame1.xtd * 2 ^ 29 + frame1.id.toNat && decide (e.1 < ramCount u 11 2)) = none ∧
        ramCount u 11 2 = 0) ∧
    (ctlReached s = true ∧ canGrant s 511 11 = false ∧ canGrant s 0 11 = true ∧ gatedOff s (CAN_PL_ACK 11 1).addr = false ∧
      gatedOff s (CAN_OBJ_ACK 11).addr = false ∧ ramCount (s.put (CAN_RAM_count 11 1) 256) 11 1 ≠ 0) ∧
    ((5 : Byte).toNat < ramCount (s.put (CAN_RAM_count 11 2) 256) 11 2 ∧ getBits (s.canWord 11 (ramAt s 11 2 5 + 1)) 31 24 = 0 ∧ ramAt s 11 2 5 + 1 < 8192) ∧
    (let u := ((s.put (CAN_CTRL_tt 11) 2).put (CAN_TT_CFG_rows 11) 31).put (CAN_TT_CFG_cols 11) 63;
      let cell (v : Word) : State := u.setCanWord 11 (cellAt u 11 31 63).2 v;
      let own : State := (cell 0x403F0000).setCanWord 11 (ramAt u 11 3 63 + 1) 0x40;
      let bad : State := { own with can := { own.can with err := [8192 * 11 + (ramAt u 11 3 63 + 1)] } };
      ttMode u 11 ≠ 0 ∧ (u.putB (CAN_TT_STATUS_synced 11) true).bit (CAN_TT_STATUS_synced 11) = true ∧ (u.bit (CAN_TT_STATUS_synced 11) = false) ∧
        canBad u 11 (cellAt u 11 31 63).2 = false ∧ (cellAt u 11 31 63).1 / 16384 = 0 ∧ (cellAt (cell 0xC0000000) 11 31 63).1 / 16384 = 3 ∧
        (cellAt (cell 0x803F0000) 11 31 63).1 / 16384 = 2 ∧ (cellAt (cell 0x403F0000) 11 31 63).1 / 16384 = 1 ∧
        (cellAt (cell 0x403F0000) 11 31 63).1 % 64 < ramCount u 11 3 ∧ isPend u 11 63 = false ∧
        bitOf (own.canWord 11 (ramAt own 11 3 63 + 1)) 6 = true ∧ canBad own 11 (ramAt own 11 3 63 + 1) = false ∧
        bitOf ((cell 0x403F0000).canWord 11 (ramAt own 11 3 63 + 1)) 6 = false ∧ canBad bad 11 (ramAt bad 11 3 63 + 1) = true ∧
        (cellAt bad 11 31 63).1 / 16384 = 1 ∧ canBad bad 11 (cellAt bad 11 31 63).2 = false) ∧
    (let u := canAt 2 fun c => { c with pend := [creq true] };
      (∃ r ∈ (u.canc 11).pend, r.buf = 63 ∧ r.slot = true) ∧ (u.canc 11).cur.map (·.1) ≠ some 63 ∧ (∀ r ∈ (s.canc 11).pend, r.buf = 63 → r.slot = false) ∧
        ((canAt 2 fun c => { c with cur := some (63, 7) }).canc 11).cur.map (·.1) = some 63) := by
  decide +kernel

/-- Bus `b` in a state, with a vote of tenant 0 or none. -/
def busAt (b st : Nat) (vote : Bool := false) (s : State := lit) : State :=
  ((s.put (NMG_BUS_CFG_pin b) 0).put (NMG_BUS_STATE_state b) st).put (NMG_BUS_NEED_votes b) (b2n vote)

theorem wit_NetworkManagement :
    (ctlReached lit = true ∧ busState (busAt 21 0) 21 = 0 ∧ busState (busAt 21 1) 21 ≠ 0 ∧ busNeed (busAt 21 0 true) 21 = true ∧ busNeed (busAt 21 0) 21 = false) ∧
    ((lit.blockOk 511 19 && lit.capBit 511 7 21) = false ∧ (lit.blockOk 0 19 && lit.capBit 0 7 21) = true) ∧
    (busNeed ((busAt 21 1).wr (NMG_BUS_NEED 21) (setBits ((busAt 21 1).rd (NMG_BUS_NEED 21)) 0 0 1)) 21 = true ∧
      busNeed ((busAt 21 1).wr (NMG_BUS_NEED 21) (setBits ((busAt 21 1).rd (NMG_BUS_NEED 21)) 0 0 0)) 21 = false) ∧
    (isPend (busAt 11 2 true (canAt 2 fun c => { c with pend := [creq false] })) 11 63 = true ∧
      ((busAt 11 2 true).put (NMG_BUS_KATX_buf 11) 63).get (NMG_BUS_KATX_buf 11) = 63 ∧ isPend lit 11 63 = false) ∧
    (busState (busAt 11 2 false (canAt 4)) 11 = 2 ∧ busNeed (busAt 11 2 false (canAt 4)) 11 = false ∧ canState (busAt 11 2 false (canAt 4)) 11 = 4) ∧
    (let s := busAt 11 2 false (canAt 2 fun c => { c with cur := some (63, 7) });
      busState s 11 = 2 ∧ busNeed s 11 = false ∧ canState s 11 ≠ 0 ∧ canState s 11 ≠ 4 ∧ (s.canc 11).cur ≠ none) ∧
    (let s := (busAt 19 2).put (LIN_STATUS_state 7) 1;
      busState s 19 = 2 ∧ busNeed s 19 = false ∧ linState s 7 = 1 ∧ (s.putB (LIN_CTRL_cmdr 7) true).bit (LIN_CTRL_cmdr 7) = true) ∧
    (let s := (busAt 21 2 true).put (T1S_S_STATUS_state 1) 1;
      busState s 21 = 2 ∧ busNeed s 21 = true ∧ t1sState s 1 = 1 ∧ t1sState (s.put (T1S_S_STATUS_state 1) 3) 1 ≠ 1) ∧
    (((busAt 21 1).putB (NMG_BUS_CFG_wake 21) false).bit (NMG_BUS_CFG_wake 21) = false ∧ ((busAt 21 1).putB (NMG_BUS_CFG_wake 21) true).bit (NMG_BUS_CFG_wake 21) = true ∧
      (busAt 21 1).get (NMG_BUS_CFG_pin 21) ≠ 3 ∧ ((busAt 21 1).put (NMG_BUS_CFG_pin 21) 3).get (NMG_BUS_CFG_pin 21) = 3 ∧
      (phased .park (busAt 21 1)).pwr.phase = .park ∧ (busAt 21 1).pwr.phase = .run ∧ (phased .parking (busAt 21 1)).pwr.phase = .parking ∧
      (phased .doze (busAt 21 1)).pwr.phase = .doze ∧ busState (phased .parking (busAt 21 1)) 21 = 1) ∧
    (let s := (busAt 21 2).put (T1S_S_STATUS_state 1) 3; busState s 21 = 2 ∧ t1sState s 1 = 3 ∧ t1sState s 1 ≠ 0) ∧
    linState (((busAt 19 2).put (LIN_STATUS_state 7) 3)) 7 = 3 ∧
    (250 * max 2 ((busAt 7 1).put (NMG_BUS_CFG_filt 7) 0 |>.get (NMG_BUS_CFG_filt 7)) = 500 ∧ 500 + 500 + 500 ≤ 1000000 ∧
      250 * max 2 ((busAt 7 1).put (NMG_BUS_CFG_filt 7) 15 |>.get (NMG_BUS_CFG_filt 7)) = 3750 ∧ ¬ 992501 + 3750 + 3750 ≤ 1000000 ∧
      10000 * max 5 ((busAt 19 1).put (NMG_BUS_CFG_filt 19) 15 |>.get (NMG_BUS_CFG_filt 19)) = 150000 ∧
      1000 * max 1 ((busAt 21 1).put (NMG_BUS_CFG_filt 21) 0 |>.get (NMG_BUS_CFG_filt 21)) = 1000) ∧
    (let s := busAt 19 1 true (lit.modLin 7 fun x => { x with wakeup := true });
      (s.linc 7).wakeup = true ∧ s.bit (LIN_CTRL_cmdr 7) = false ∧ busState s 19 = 1 ∧ busNeed s 19 = true ∧ linState (s.put (LIN_STATUS_state 7) 2) 7 = 2) ∧
    (let s := (busAt 19 2).putB (LIN_CTRL_cmdr 7) true;
      busState s 19 = 2 ∧ s.bit (LIN_CTRL_cmdr 7) = true ∧ busNeed s 19 = false ∧ (busAt 19 2).bit (LIN_CTRL_cmdr 7) = false) := by decide +kernel

/-- A broadcast frame without a tag. -/
def bcast (k : EthKind) (len : Nat := 1522) : EthFrame := ⟨true, len, 0xFFFFFFFFFFFF, 5, none, k, false⟩
/-- Segment 1 in a state. -/
def segAt (st fill : Nat) : State := (clocked.put (T1S_S_STATUS_state 1) st).put (T1S_S_STATUS_fill 1) fill

theorem wit_EthernetAndSegments :
    (let s := ((((lit.put (ETH_P_STATUS_state 1) 2).putB (ETH_P_CTRL_untag 1) true).putB ETH_CFG_ip4 true).putB ETH_CFG_ip6 true).wr ETH_IP4 0x0A000001;
      ethState s 1 = 2 ∧ ethState lit 1 ≠ 2 ∧ (bcast .ptp).len ≤ 1522 ∧ 1522 < (bcast .ptp 1523).len ∧ (bcast .ptp).dst = 0xFFFFFFFFFFFF ∧
        s.bit (ETH_P_CTRL_untag 1) = true ∧ s.bit ETH_CFG_ip4 = true ∧ s.rd ETH_IP4 = 0x0A000001 ∧ s.bit ETH_CFG_ip6 = true ∧ ethIp6 s = 0 ∧
        lit.bit ETH_CFG_ip4 = false ∧ ({ bcast .ptp with bad := true } : EthFrame).bad = true ∧ (bcast .ptp).bad = false) ∧
    (ethState (lit.put (ETH_P_STATUS_state 1) 1) 1 = 1 ∧ ethState (lit.put (ETH_P_STATUS_state 1) 3) 1 = 3 ∧ ethState lit 1 = 0 ∧ lit.bit CLK_STATUS_xsel = false ∧
      (lit.putB CLK_STATUS_xsel true).bit CLK_STATUS_xsel = true ∧ onFirc lit = false ∧ onFirc ((segAt 3 0).put CLK_STATUS_xtal 2) = true ∧ onFirc ((segAt 3 0).putB CLK_STATUS_xsel true) = false ∧
      ctlReached lit = true ∧ gatedOff lit (ETH_P_CTRL 1).addr = false) := by
  decide +kernel

/-- A 10BASE-T1S segment that runs, or does not. -/
theorem wit_EthernetAndSegments_segments :
    (perRuns (segAt 1 15) = true ∧ perRuns lit = false ∧ onFirc (segAt 3 0) = false ∧ (segAt 3 0).bit (T1S_S_CTRL_en 1) = false ∧
      ((segAt 3 0).putB (T1S_S_CTRL_en 1) true).bit (T1S_S_CTRL_en 1) = true ∧ t1sState (segAt 1 15) 1 = 1 ∧ (segAt 1 15).get (T1S_S_STATUS_fill 1) < 16 ∧ 16 ≤ (segAt 1 16).get (T1S_S_STATUS_fill 1)) ∧
    (let data : List Byte := List.replicate 6 0xFF ++ List.replicate 6 0 ++ [0x08, 0x00];
      14 ≤ data.length ∧ (List.range 6).foldl (fun a i => a * 256 + (data.getD i 0).toNat) 0 = 2 ^ 48 - 1 ∧
        0x0800 ≠ (segAt 1 0).get (NMG_BUS_KAID_id 21) % 65536 ∧ busState (busAt 21 1) 21 ≠ 0 ∧
        0x0800 = ((segAt 1 0).put (NMG_BUS_KAID_id 21) 0x0800).get (NMG_BUS_KAID_id 21) % 65536) ∧
    (((segAt 1 0).t1seg 1).since = none ∧ (((segAt 1 0).modT1s 1 fun g => { g with since := some 7 }).t1seg 1).since = some 7 ∧ seqEarlier 5 7 = true ∧
      seqEarlier 7 7 = false) ∧
    (t1sGrant lit 511 1 = false ∧ t1sGrant lit 0 1 = true ∧ gatedOff lit (T1S_S_CMD 1).addr = false ∧ 3 ∉ t1sPend lit 1 ∧
      3 ∈ t1sPend (setT1sPend lit 1 [3]) 1 ∧ t1sPend (setT1sPend (segAt 1 0) 1 [3]) 1 = [3] ∧ t1sState (setT1sPend (segAt 1 0) 1 [3]) 1 = 1 ∧
      t1sState lit 1 ≠ 1) ∧
    (let u := setT1sWord (segAt 1 0) (t1sBuf 1 3) 1518;
      14 ≤ getBits (t1sWord u (t1sBuf 1 3)) 10 0 ∧ getBits (t1sWord u (t1sBuf 1 3)) 10 0 ≤ 1518 ∧ getBits (t1sWord (segAt 1 0) (t1sBuf 1 3)) 10 0 < 14) ∧
    (let may (u : State) : Bool := t1sState u 1 == 1 && perRuns u && (u.t1seg 1).beacon && ! u.bit (T1S_S_CTRL_plca 1);
      let u := (setT1sPend (segAt 1 0) 1 [3]).modT1s 1 fun g => { g with beacon := true };
      may u = true ∧ (u.t1seg 1).ka = false ∧ t1sPend u 1 = [3] ∧ ((u.modT1s 1 fun g => { g with ka := true }).t1seg 1).ka = true ∧
        may (u.modT1s 1 fun g => { g with beacon := false }) = false) ∧
    (t1sState (segAt 3 0) 1 = 3 ∧ ((segAt 1 0).putB (T1S_S_CTRL_plca 1) true).bit (T1S_S_CTRL_plca 1) = true ∧ ((segAt 1 0).putB (T1S_S_CTRL_plca 1) false).bit (T1S_S_CTRL_plca 1) = false) := by
  decide +kernel

/-- LIN channel 7 in a state. -/
def linAt (st : Nat) (cmdr : Bool) (f : LinCh → LinCh := id) : State := ((clocked.put (LIN_STATUS_state 7) st).putB (LIN_CTRL_cmdr 7) cmdr).modLin 7 f

theorem wit_LinAndLocalLinks :
    (perRuns (linAt 1 true) = true ∧ perRuns lit = false ∧ linScheduled (linAt 1 true) 7 = true ∧ linScheduled (linAt 1 false) 7 = false ∧ linState (linAt 2 false) 7 ≠ 1 ∧ linState (linAt 2 false) 7 = 2) ∧
    (((linAt 1 true).linc 7).hdr = none ∧ ((linAt 1 true fun x => { x with hdr := some (63, 0x2800003F) }).linc 7).hdr = some (63, 0x2800003F) ∧ ((linAt 1 true fun x => { x with hdr := some (63, 0x2800003F) }).linc 7).cur = none ∧
      getBits 0x2800003F 5 0 = 63 ∧ getBits 0x2800003F 30 29 = 1) ∧
    (let s := ((linAt 1 false).putB (LIN_FR_valid 7 63) true).put (LIN_FR_id 7 63) 63;
      s.bit (LIN_FR_valid 7 63) = true ∧ s.get (LIN_FR_id 7 63) = 63 ∧ ∀ g : Fin 64, g < 63 → s.bit (LIN_FR_valid 7 g) = false ∨ s.get (LIN_FR_id 7 g) ≠ 63) ∧
    (let c (publish : Bool) : LinCur := ⟨63, 63, true, publish, 8, 0, 0⟩;
      ((linAt 1 false).linc 7).cur = none ∧ (∀ p, ((linAt 1 false fun x => { x with cur := some (c p) }).linc 7).cur = some (c p)) ∧ (c true).len ≤ 8) ∧
    (ctlReached lit = true ∧ gatedOff lit (LIN_CMD 7).addr = false ∧ linState (linAt 3 false) 7 = 3 ∧
      ((linAt 3 false fun x => { x with rejoin := true }).linc 7).rejoin = true ∧ ((linAt 3 false).linc 7).rejoin = false) ∧
    (let s := lit.putB LCL_SPI_en true;
      let body : List Byte := [0xA5, 0x01, 0, 32] ++ List.replicate 32 0;
      let whole : List Byte := body ++ beWord (crc32c body);
      (ctlReached s = true ∧ s.bit LCL_SPI_en = true ∧ s.pwr.io1 = true) ∧ lit.bit LCL_SPI_en = false ∧ spiWaiting s < 4 ∧
        4 ≤ spiWaiting (s.modLcl fun l => { l with spiPend := 4 }) ∧
        (beField whole 0 2 = 0xA501 ∧ beField whole 2 2 = 32 ∧ 8 + 32 ≤ whole.length ∧ crc32c (whole.take 36) = BitVec.ofNat 32 (beField whole 36 4)) ∧
        (8 + 32 ≤ (body ++ [0, 0, 0, 0]).length ∧ crc32c ((body ++ [0, 0, 0, 0]).take 36) ≠ BitVec.ofNat 32 (beField (body ++ [0, 0, 0, 0]) 36 4)) ∧
        (beField [0xA5, 0x02] 0 2 = 0xA502 ∧ beField body 0 2 ≠ 0xA502 ∧ ¬ 8 + 32 ≤ body.length) ∧
        (s.ldg.spiQ = [] ∧ ({ s with ldg := { s.ldg with spiQ := [⟨.spi, from1, 15, 7, [], 1, .error 1⟩] } } : State).ldg.spiQ ≠ [])) := by decide +kernel

/-- An I²C transfer in progress, or none. -/
theorem wit_LinAndLocalLinks_i2c :
    let s := lit.putB (LCL_I2C_CFG_en 1) true;
      s.blockOk 511 20 = false ∧ s.blockOk 0 20 = true ∧ gatedOff s (LCL_I2C_CMD 1).addr = false ∧ s.bit (LCL_I2C_STATUS_busy 1) = false ∧
        (s.putB (LCL_I2C_STATUS_busy 1) true).bit (LCL_I2C_STATUS_busy 1) = true ∧
        s.bit (LCL_I2C_CFG_en 1) = true ∧ s.pwr.io1 = true ∧ lit.bit (LCL_I2C_CFG_en 1) = false ∧ i2cOf s 1 = none ∧
        i2cOf (setI2c s 1 (some ⟨127, 32, true, [1, 2]⟩)) 1 = some ⟨127, 32, true, [1, 2]⟩ ∧
        ({ setI2c s 1 (some ⟨127, 32, true, [1, 2]⟩) with pwr := { s.pwr with io1 := false } } : State).pwr.io1 = false := by decide +kernel

/-- The access unit changed. -/
def accAt (f : AccSt → AccSt) (s : State := lit) : State := s.modAcc f

theorem wit_AccessCommandsAndExchanges :
    (ctlReached lit = true ∧ perRuns (clocked lit) = true ∧ perRuns lit = false ∧ lit.pwr.io1 = true ∧ ({ lit with pwr := { lit.pwr with io1 := false } } : State).pwr.io1 = false ∧ dieRuns (phased .inReset) = false) ∧
    (lit.blockOk 511 13 = false ∧ lit.blockOk 0 13 = true ∧ gatedOff lit ACC_CMD.addr = false ∧ gatedOff lit (ACC_KEY_CTL 7).addr = false) ∧
    ((lit.putB (ACC_SESS_active 1) true).bit (ACC_SESS_active 1) = true ∧ lit.bit (ACC_SESS_active 0) = false) ∧
    (candOf lit 7 = none ∧ candOf (accAt fun a => { a with cands := [(7, some 5)] }) 7 ≠ none) ∧
    ((accAt fun a => { a with queue := [.ant 3] }).acc.queue = [.ant 3] ∧ lit.acc.phase = .idle ∧ lit.acc.locked = false ∧ inPark lit = false ∧ lit.acc.queue = []) ∧
    (accAt fun a => { a with queue := [.key 7] }).acc.queue = [.key 7] ∧ (accAt fun a => { a with phase := .burst }).acc.phase = .burst ∧
    ((accAt fun a => { a with phase := .waiting, failRun := 2 }).acc.phase = .waiting ∧ 2 ≤ (accAt fun a => { a with phase := .waiting, failRun := 2 }).acc.failRun ∧
      (accAt fun a => { a with phase := .waiting, failRun := 1 }).acc.failRun < 2 ∧
      max 1 (min 80 ((lit.put ACC_RNG_CFG_win 0).get ACC_RNG_CFG_win)) * 400000 = 400000 ∧ max 1 (min 80 ((lit.put ACC_RNG_CFG_win 255).get ACC_RNG_CFG_win)) * 400000 = 32000000) ∧
    (inPark (phased .park) = true ∧ lit.bit ACC_CFG_btnwake = false) ∧
    (let s := lit.putB ACC_CFG_en true; s.bit ACC_CFG_en = true ∧ s.acc.locked = false ∧ s.bit ACC_STATUS_pstop = false) ∧
    (inPark (phased .park (lit.putB ACC_CFG_btnwake true)) = true ∧ dieRuns (phased .park) = true ∧ dieRuns lit = true) ∧
    (3 ∈ (accAt fun a => { a with probes := [0, 3] }).acc.probes ∧ 3 ∉ lit.acc.probes ∧ (accAt fun a => { a with locked := true }).acc.locked = true) ∧
    (lit.bit PWR_STATUS_ign = false ∧ lit.pwr.phase ≠ .off ∧ (lit.putB PWR_STATUS_ign true).bit PWR_STATUS_ign = true ∧ 10 ∣ min (2 ^ 32 - 1) (9 + 1)) := by
  decide +kernel

theorem wit_KeyMessagesAreJudged :
    let s := ((accAt (fun a => { a with phase := .reading, flight := 100, req := some (.ant 3) }) clocked).putB (ACC_KEY_CTL_en 7) true).wr (ACC_KEY_ID 7) 9;
    let b := accAt (fun a => { a with phase := .announce, req := none }) s;
    (perRuns s = true ∧ perRuns lit = false ∧ lit.acc.phase = .idle ∧ s.acc.phase = .reading ∧ b.acc.phase = .announce ∧ s.acc.locked = false ∧ (accAt (fun a => { a with locked := true }) s).acc.locked = true) ∧
    (s.pwr.io1 = true ∧ b.pwr.io1 = true ∧ ({ s with pwr := { s.pwr with io1 := false } } : State).pwr.io1 = false) ∧
    ((∀ k : Fin 8, s.bit (ACC_KEY_CTL_en k) = false ∨ s.rd (ACC_KEY_ID k) ≠ 8) ∧ s.get ACC_STATUS_failcnt < 4 ∧
      (s.put ACC_STATUS_failcnt 4).get ACC_STATUS_failcnt = 4 ∧ s.get ACC_STATUS_lockm ≤ 4) ∧
    (s.bit (ACC_KEY_CTL_en 7) = true ∧ s.rd (ACC_KEY_ID 7) = 9 ∧ ∀ j : Fin 8, j < 7 → s.bit (ACC_KEY_CTL_en j) = false ∨ s.rd (ACC_KEY_ID j) ≠ 9) ∧
    (earlyVerdict s 7 1 false = some 4 ∧ earlyVerdict s 7 0 true = some 6 ∧ earlyVerdict s 7 0x80000000 true = some 6 ∧ earlyVerdict s 7 256 true = none ∧
      earlyVerdict s 7 257 true = some 3 ∧ earlyVerdict s 7 8192 true = some 3 ∧ earlyVerdict s 7 8193 true = some 7 ∧
      earlyVerdict (accAt (fun a => { a with cands := [(7, some 300)] }) s) 7 301 true = none) ∧
    (let z := (s.put ACC_RNG_BOUND_early 4095).put ACC_RNG_BOUND_bound 4095;
      -(z.get ACC_RNG_BOUND_early : Int) ≤ (100 : Int) - 100 - sgn 16 (z.get ACC_RNG_CFG_cal) ∧ s.bit ACC_CFG_btnrange = false) ∧
    ((s.put ACC_RNG_BOUND_early 0).get ACC_RNG_BOUND_early = 0 ∧ (s.put ACC_RNG_BOUND_bound 0).get ACC_RNG_BOUND_bound = 0) := by decide +kernel

theorem wit_SealedMeter :
    let at_ (v : Word) (s : State) : State := { s with regs := s.regs.ins MTR_STATUS.addr v };
    let s := at_ (setBits (setBits 0 MTR_STATUS_link.hi MTR_STATUS_link.lo 1) MTR_STATUS_grid.hi MTR_STATUS_grid.lo 1)
      (((lit.putB CLK_STATUS_pll1 true).put (TLN_AX_CFG_src 7) 5).setAxis 7 { Axis.init with qual := 0 });
    let q (op arg : Nat) : MtrReq := ⟨op, arg, 5, 6, true, 3, [⟨9, 1, 5, 0⟩]⟩;
    let req (op arg : Nat) : State := { s with mtr := { s.mtr with req := some (q op arg) } };
    (ctlReached s = true ∧ s.blockOk 511 14 = false ∧ s.blockOk 0 14 = true ∧ (s.putB MTR_RESULT_busy true).bit MTR_RESULT_busy = true ∧ s.bit MTR_RESULT_busy = false) ∧
    (s.mtr.req = none ∧ s.bit MTR_STATUS_link = true ∧ mtrRuns s = true ∧ (req 3 0).mtr.req = some (q 3 0) ∧ (req 6 0).mtr.req = some (q 6 0) ∧
      (q 3 9).log = [⟨9, 1, 5, 0⟩] ∧ (q 3 8).arg = 8 ∧ (q 2 0).op = 2 ∧ (q 0 0).op = 0) ∧
    (1 ∉ s.mtr.linesOut ∧ 1 ∈ ({ s with mtr := { s.mtr with linesOut := [1] } } : State).mtr.linesOut ∧ s.mtr.log.length ≤ 4087 ∧
      s.mtr.overs.testBit 7 = false ∧ (0x80 : Byte).toNat.testBit 7 = true) ∧
    (takesPhase s = true ∧ s.mtr.grid = true ∧ ({ s with mtr := { s.mtr with grid := false } } : State).mtr.grid = false ∧ takesPhase (phased .park s) = false ∧ s.bit MTR_STATUS_grid = true ∧ usesMeter s 7 = true ∧ (s.axis 7).lost = false ∧ usesMeter s 2 = false) ∧
    ((at_ 0 s).bit MTR_STATUS_grid = false ∧ (at_ 0 s).bit MTR_STATUS_link = false ∧ s.mtr.supplyLost = none ∧
      mtrRuns (at_ 0 s) = true ∧ mtrRuns (phased .inReset s) = false ∧ ({ s with mtr := { s.mtr with supplyLost := some 9 } } : State).mtr.supplyLost = some 9 ∧ s.mtr.log.length ≤ 4094) := by decide +kernel

/-- The crystal in a state, with a PLL locked or not. -/
def clkAt (xtal : Nat) (pll0 src : Bool) (s : State := lit) : State :=
  ((s.put CLK_STATUS_xtal xtal).putB CLK_STATUS_pll0 pll0).putB CLK_CORE_src src

theorem wit_ClocksAndGates :
    ctlReached lit = true ∧ (clkRuns (clkAt 2 false false) = true ∧ (clkAt 2 false false).get CLK_STATUS_xtal = 2 ∧ (clkAt 1 false false).get CLK_STATUS_xtal = 1) ∧
    ((clkAt 1 false false).bit CLK_STATUS_pll0 = false ∧ (clkAt 1 true false).bit CLK_STATUS_pll0 = true ∧ (clkAt 1 true false).bit CLK_CORE_src = false ∧
      (clkAt 1 true false).bit CLK_STATUS_opbusy = false ∧ ((clkAt 1 true false).putB CLK_STATUS_src false).bit CLK_STATUS_src = false) ∧
    ((clkAt 1 true true).bit CLK_CORE_src = true ∧ ((clkAt 1 true true).putB CLK_STATUS_opbusy true).bit CLK_STATUS_opbusy = true ∧
      ((clkAt 1 true true).putB CLK_STATUS_src true).bit CLK_STATUS_src = true ∧ ((clkAt 1 true true).put CLK_STATUS_op 3).get CLK_STATUS_op = 3 ∧
      lit.pwr.phase ≠ .doze) ∧
    ((clkAt 1 true true).clk.queued = none ∧ ({ lit with clk := { lit.clk with queued := some 3 } } : State).clk.queued = some 3) ∧
    (clkRuns (phased .park) = false ∧ clkRuns lit = true ∧ (clkAt 0 false false).get CLK_STATUS_xtal = 0 ∧ (clkAt 3 false false).get CLK_STATUS_xtal = 3) ∧
    ((lit.putB CLK_STATUS_pll1 false).bit CLK_STATUS_pll1 = false ∧ (lit.putB CLK_STATUS_pll1 true).bit CLK_STATUS_pll1 = true ∧ lit.cpu.posted = []) ∧
    (lit.clk.lpoBad = false ∧ lit.clk.fircBad = false ∧ ({ lit with clk := { lit.clk with lpoBad := true, fircBad := true } } : State).clk.lpoBad = true) ∧
    (leafManaged lit 19 = false ∧ leafManaged (lit.putB (NMG_BUS_CFG_en 11) true) 19 = true ∧ gateWhy lit 0 0xFFFFFF3F 31 = 0 ∧ gateWhy (lit.wr CLK_GATE 0) 0 0x80000000 31 = 2) := by
  decide +kernel

theorem wit_PowerCommandsAndHandshake :
    (let busy := lit.putB PWR_CMD_RESULT_busy true;
      ctlReached busy = true ∧ busy.bit PWR_CMD_RESULT_busy = true ∧ (busy.putB PWR_STATUS_hs true).bit PWR_STATUS_hs = true ∧ busy.bit PWR_STATUS_hs = false) ∧
    (lit.bit PWR_CMD_RESULT_busy = false ∧ (phased .doze).pwr.phase ≠ .run ∧ lit.pwr.phase = .run ∧ (clkAt 1 true false).bit CLK_CORE_src = false ∧
      (clkAt 1 true true).bit CLK_CORE_src = true ∧ forbidsDoze lit = false ∧ (phased .doze).pwr.phase = .doze) ∧
    ((phased .park).pwr.phase ≠ .run ∧ (phased .park).pwr.phase ≠ .doze ∧ forbidsPark lit = false ∧ forbidsOff lit = false) ∧
    (let s : State := { lit with pwr := { lit.pwr with target := some true } };
      s.pwr.target = some true ∧ hsRefusal s true = none ∧ hsDelays s = [] ∧ hsDelays { s with evr := { s.evr with buf := [⟨0, 0, 0, []⟩] } } ≠ [] ∧
        hsRefusal { s with clk := { s.clk with lpoBad := true } } true = some (13, 0x80) ∧ hsRefusal s false = none) ∧
    (forbidsPark (lit.put SYS_OUT_STATUS_state 1) = true ∧ lit.pwr.target = none) := by decide +kernel

theorem wit_ParkWakeAndOff :
    ((phased .parking).pwr.phase = .parking ∧ lit.pwr.phase ≠ .parking ∧ (phased .park).pwr.phase = .park ∧ (phased .offing).pwr.phase = .offing ∧
      (phased .off).pwr.phase = .off ∧ (phased .inReset).pwr.phase = .inReset) ∧
    ((phased .parking).pwr.wake = false ∧ (({ phased .parking with pwr := { (phased .parking).pwr with wake := true } } : State).pwr.wake = true)) ∧
    (dieLinked (phased .park) 1 = true ∧ ((phased .park).dir 1 false).unacked.length < 8 ∧ dieLinked (setLink (setLink (phased .park) 2 1) 3 1) 1 = false) ∧
    (let s := phased .park (lit.putB PWR_CFG_ignrise true);
      wakeArmed s 1 0 = true ∧ wakeArmed s 9 0 = true ∧ wakeArmed { s with tln := { s.tln with items := [(0, { Item.init with st := .armed, wake := true, axis := 1 })] } } 7 1 = true ∧ wakeArmed (s.putB PWR_CFG_ignfall false) 2 0 = false ∧ s.pwr.wake = false ∧ s.bit PWR_CFG_ignrise = true ∧
        ({ s with pwr := { s.pwr with wake := true } } : State).pwr.wake = true ∧ s.net.nmg.parkWake = [] ∧ s.mtr.failed = false ∧ s.raiseQ = [] ∧
        srcReserved 5 = false ∧ s.bit (FLT_SRC_raised 5) = false ∧ s.bit (FLT_SRC_wire 5) = false ∧ raiseClass s 5 false = 0 ∧
        ({ s with raiseQ := [⟨5, false, false, 0⟩] } : State).raiseQ = [⟨5, false, false, 0⟩]) ∧
    ((lit.die 0).on = true ∧ ((withDie 0 (fun d => { d with on := false }) lit).die 0).on = false ∧ (phased .run).pwr.phase ≠ .inReset) ∧
    (let s := ((phased .off (lit.putB PWR_CFG_offin true)).putB (DIN_IN_CFG_wake 95) true).putB (DIN_IN_CFG_pol 95) true;
      ((s.die (dinDie 95)).on && s.bit PWR_CFG_offin && s.bit (DIN_IN_CFG_wake 95) && s.bit (DIN_IN_CFG_pol 95)) = true ∧
        ((lit.die (dinDie 95)).on && lit.bit PWR_CFG_offin && lit.bit (DIN_IN_CFG_wake 95) && lit.bit (DIN_IN_CFG_pol 95)) = false ∧ (s.putB PWR_CFG_offign true).bit PWR_CFG_offign = true ∧
        (s.putB PWR_CFG_offign false).bit PWR_CFG_offign = false) ∧
    (lit.bist.running = none ∧ (lit.putB BIST_CFG_offtest true).bit BIST_CFG_offtest = true ∧ (lit.putB BIST_CFG_offtest false).bit BIST_CFG_offtest = false) ∧
    (lit.bit PWR_STATUS_pfw = false ∧ lit.bist.running ≠ some (true, false) ∧ (lit.putB PWR_STATUS_pfw true).bit PWR_STATUS_pfw = true) := by decide +kernel

/-- The control die starting. -/
def starting (tested supply : Bool) (s : State := lit) : State := { s with pwr := { s.pwr with phase := .starting, tested := tested, supply := supply } }

theorem wit_ResetsAndStartUp :
    let lost : State := { phased .inReset with clk := { lit.clk with lost := true } };
    ctlReached lit = true ∧ lit.bit PWR_CMD_RESULT_busy = false ∧ ((phased .inReset).pwr.phase = .inReset ∧ (phased .inReset).clk.lost = false ∧ lost.clk.lost = true) ∧
    (lit.pwr.phase ≠ .off ∧ lit.pwr.phase ≠ .inReset) ∧ ({ lit with upd := { lit.upd with resetDue := true } } : State).upd.resetDue = true ∧
    (let s : State := { served with upd := { served.upd with resetDue := true, resetWaits := true } };
      let a : ZAns := ⟨.spi, from1, 15, 7, [], 1, .update 0x34 0 2 0 0 0⟩;
      spiUpdateWaits s = false ∧ spiUpdateWaits { s with ldg := { s.ldg with spiQ := [a] } } = true ∧ s.raiseQ = [] ∧ s.net.ethQ = []) ∧
    (let s : State := { base with pwr := { base.pwr with first := true } };
      s.pwr.first = true ∧ (s.ctx 0).packet = none ∧ canIssue s 0 = true ∧ bankState s (activeBank s) ≠ 3 ∧
        bankState ((s.put UPD_STATUS_bank0 3).put UPD_STATUS_active 0) (activeBank ((s.put UPD_STATUS_bank0 3).put UPD_STATUS_active 0)) = 3) ∧
    (let s : State := { (lit.put CLK_STATUS_xtal 2) with clk := { lit.clk with fircBad := true } };
      s.clk.fircBad = true ∧ s.get CLK_STATUS_xtal ≠ 1 ∧ clkRuns s = true) ∧
    ((starting false true).bist.running = none ∧ (starting false true).pwr.tested = false ∧ ((starting false true).put FLT_STATUS_mode 2).get FLT_STATUS_mode = 2 ∧
      (starting false true).get FLT_STATUS_mode ≠ 2 ∧ testAtStart (starting false true) = some false ∧
      testAtStart ((starting false true).putB BIST_CFG_nextfull true) = some true) ∧
    ((starting true false).pwr.tested = true ∧ (starting true false).pwr.supply = false ∧ (starting true false).bist.unfit = false) ∧
    (let s (full start : Bool) : State := { starting true false with bist := { lit.bist with running := some (full, start) } };
      (s true true).bist.running = some (true, true) ∧ (s true true).pwr.phase ≠ .offing ∧
        (phased .offing (s true false)).bist.running = some (true, false) ∧ (phased .offing (s true false)).pwr.phase = .offing ∧
        (s true false).pwr.offWake = none ∧ ({ s true false with pwr := { (s true false).pwr with offWake := some (4, 21) } } : State).pwr.offWake ≠ none) := by decide +kernel

theorem wit_RaisesOpenOrJoinRecords :
    clkRuns base = true ∧ clkRuns (phased .park) = false ∧ srcReserved 255 = false ∧ srcReserved 150 = true ∧ srcReserved 0 = true ∧ base.bit (FLT_SRC_wire 255) = false ∧ base.bit (FLT_SRC_raised 255) = false ∧
    (base.putB (FLT_SRC_raised 255) true).bit (FLT_SRC_raised 255) = true ∧ base.get (FLT_SRC_class 5) = 0 ∧ base.get (FLT_SRC_class 255) = 1 ∧
    base.bit FLT_STATUS_open = false ∧ (base.putB FLT_STATUS_open true).bit FLT_STATUS_open = true ∧ (base.put FLT_NEWEST_seq 0xFFFFFFFF).get FLT_NEWEST_seq = 0xFFFFFFFF := by decide

theorem wit_FltCommandsCloseAndClear :
    let s := base.putB FLT_STATUS_open true;
    ctlReached s = true ∧ clkRuns s = true ∧ s.bit FLT_STATUS_open = true ∧ s.get FLT_STATUS_hcls ≤ 1 ∧ (s.put FLT_CFG_autoclose 1).get FLT_CFG_autoclose ≠ 0 ∧ base.bit FLT_STATUS_open = false ∧
    base.get FLT_STATUS_mode = 0 ∧ (base.put FLT_STATUS_mode 1).get FLT_STATUS_mode = 1 ∧ mayClearSafe (base.put FLT_STATUS_mode 1) = true ∧
    mayClearSafe (s.put FLT_STATUS_mode 1) = false := by decide +kernel

theorem wit_AliveWatchdogAndSafeN :
    ctlReached base = true ∧ clkRuns base = true ∧ clkRuns (phased .park) = false ∧ perRuns base = false ∧
    (let s (n : Nat) : State := ((clocked base).put FLT_ALIVE_win 1).setAxis 1 { Axis.init with pos := n };
      perRuns (s 0) = true ∧ (s 495000).pwr.kickAt + 495000 * max 1 ((s 495000).get FLT_ALIVE_win) ≤ a1Now (s 495000) ∧
        ¬ (s 494999).pwr.kickAt + 495000 * max 1 ((s 494999).get FLT_ALIVE_win) ≤ a1Now (s 494999)) ∧ (base.putB FLT_STATUS_alive true).bit FLT_STATUS_alive = true ∧ base.bit FLT_STATUS_alive = false ∧ (base.putB FLT_ALIVE_kick true).bit FLT_ALIVE_kick = true ∧ base.blockOk 0 3 = true ∧
    wakeable base = false := by decide

theorem wit_MonitorsRaiseTheirSources :
    clkRuns base = true ∧ (100 * (4095 : BitVec 12).toNat > 280000 ∧ ¬ 100 * (2100 : BitVec 12).toNat < 210000 ∧ 100 * (0 : BitVec 12).toNat < 57000) ∧
    base.bit (FLT_SRC_raised (46 + 6)) = false ∧ sgn 10 (base.get (MON_TEMP_hi 13)) < (511 : BitVec 10).toInt ∧ base.bit (FLT_SRC_raised (32 + 13)) = false ∧
    (240 : BitVec 10).toInt ≤ sgn 10 (base.get (MON_TEMP_hi 13)) - 10 ∧ ¬ ((6 : Fin 7) = 2 ∧ base.bit CLK_STATUS_opbusy = true) ∧
    ¬ ((2 : Fin 7) = 2 ∧ base.bit CLK_STATUS_opbusy = true) ∧
    SMap.get 0 ({ base with pwr := { base.pwr with slow := [(3, 7)] } } : State).pwr.slow 3 = 7 ∧ base.bit (FLT_SRC_raised (53 + 3)) = false := by decide

/-- The recorder at the start of a page, with nothing unflushed. -/
def evrOpen (s : State := lit) : State := { s with evr := { s.evr with scanning := false, page := some 0, seq := some 0, off := 40 } }

theorem wit_RecorderRecordsAndFlushes :
    (ctlReached lit = true ∧ lit.blockOk 511 7 = false ∧ lit.blockOk 0 7 = true ∧ evrOpen.covered 0 0 244 false = true ∧
      (evrOpen.evr.page = some 0 ∧ evrOpen.evr.seq = some 0 ∧ evrOpen.evr.fresh = false ∧ evrOpen.evr.lost = 0 ∧ evrOpen.evr.scanning = false ∧
        offsetMs evrOpen < 2 ^ 32 ∧ evrOpen.evr.off + 8 + (postPay 0 (evrOpen.dBytes 0 244)).length ≤ 4096 ∧
        unflushed evrOpen + 8 + (postPay 0 (evrOpen.dBytes 0 244)).length ≤ 65536)) ∧
    (lit.evr.buf = [] ∧ lit.evr.flushing = false ∧ lit.evr.scanning = true ∧ lit.evr.waiting = [] ∧ lit.evr.lost = 0 ∧ lit.cpu.mramErr = [] ∧ lit.pwr.phase ≠ .off ∧
      ({ lit with evr := { lit.evr with flushing := true, charged := true } } : State).evr.flushing = true) ∧
    (let s : State := { evrOpen with evr := { evrOpen.evr with flushing := true, buf := [⟨383, 4000, 5, List.replicate 96 1⟩] } };
      s.evr.flushing = true ∧ s.evr.buf ≠ [] ∧ s.evr.buf = [⟨383, 4000, 5, List.replicate 96 1⟩] ∧ 4000 + (List.replicate 96 (1 : Byte)).length ≤ 4096 ∧ ctlReached s = true ∧
        ctlReached (phased .park s) = false ∧ warnedFor s 600000 = false ∧ warnedFor (warnedAt 600000 s) 600000 = false ∧ warnedFor (warnedAt 600001 s) 600000 = true) ∧
    unflushed evrOpen ≤ 65496 := by decide +kernel

/-- 65,536 bytes unflushed leave no room. -/
theorem wit_RecorderRecordsAndFlushes_full :
    65536 ≤ unflushed { evrOpen with evr := { evrOpen.evr with buf := List.replicate 256 ⟨0, 0, 0, List.replicate 256 0⟩ } } := by decide +kernel

/-! Updates -/

/-- The banks in states, the staging bank with an announced count of blocks. -/
def banks (b0 b1 total : Nat) (s : State := served) : State :=
  (((s.put UPD_STATUS_active 0).put UPD_STATUS_bank0 b0).put UPD_STATUS_bank1 b1).put UPD_STAGE_total total
/-- The engine changed. -/
def engine (f : UpdSt → UpdSt) (s : State := banks 4 1 1) : State := { s with upd := f s.upd }
/-- Session 15 may send update messages. -/
def heard (s : State := served) : State := s.put UPD_CFG_zlp 0x8000
theorem heard_Heard : Heard heard reqH 15 := by simp only [Heard]; decide
/-- The only segment of a package: a device package for tenant 0, else a tenant package. -/
def seg (tenant : Nat) : Seg := ⟨if tenant = 0 then 1 else 2, tenant, 3, 2048, 1, 0, 1, 7, [(0, 0)]⟩

theorem wit_UpdateStagingAndChecks :
    (served.put UPD_CFG_zlp 0).get UPD_CFG_zlp = 0 ∧
    ((engine fun u => { u with job := some (.check none) }).upd.job.isSome = true ∧ (banks 4 1 1).upd.job.isSome = false) ∧
    (bankState (banks 5 3 1) 0 = 5 ∧ bankState (banks 5 3 1) 1 = 3 ∧ bankState (banks 4 1 1) 0 = 4 ∧ bankState (banks 4 1 1) 1 = 1 ∧ stagingBank (banks 4 1 1) = 1) ∧
    ((1 : Nat) ≠ 4 ∧ keysetSized [0] = false ∧ keysetSized ([25, 0, 0, 0, 0, 0, 0, 1] ++ List.replicate (beField [0] 0 0) 0) = false) ∧
    ((3072 : Nat) % 16 = 0 ∧ (1008 : Nat) % 16 = 0 ∧ 3088 + 1008 ≤ 4096 ∧ (1022 : Nat) < blocksTotal (banks 4 1 1023)) ∧
    (bankState (banks 4 0 0) 1 ≠ 1 ∧ missing (banks 4 1 1) = [0] ∧
      missing (engine fun u => { u with units := (List.range 256).map fun i => (i, true) }) = []) ∧
    (ctlReached served = true ∧ ctlReached (phased .inReset served) = false ∧ served.bit UPD_CMD_RESULT_busy = false ∧ (served.putB UPD_CMD_RESULT_busy true).bit UPD_CMD_RESULT_busy = true ∧ blocksTotal (banks 4 1 1) ≤ 1) ∧
    ((engine fun u => { u with job := some (.write 0 [1]) }).upd.job = some (.write 0 [1]) ∧
      (engine fun u => { u with job := some (.check (some (⟨.bb1, from1, 15⟩, 2))) }).upd.job = some (.check (some (⟨.bb1, from1, 15⟩, 2))) ∧
      CanAnswer (engine fun u => { u with job := some (.check (some (⟨.bb1, from1, 15⟩, 2))) }) 15 ∧
      reqH.link = .bb1 ∧ reqH.src = from1) ∧
    (headersOk 1 2 [seg 0] = true ∧ headersOk 2 2 [seg 0] = false ∧ headersOk 2 2 [seg 31] = true ∧ layoutOk [seg 31] = true ∧
      layoutOk [{ seg 31 with load := 2097152 }] = false ∧ (banks 4 1 2).get (UPD_ROLL_version 31) ≤ (seg 31).version ∧
      ¬ (((banks 4 1 2).put (UPD_ROLL_version 31) 4).get (UPD_ROLL_version 31) ≤ (seg 31).version) ∧ bankIn (banks 4 1 2) 4 = some 0 ∧ bankIn (banks 5 1 2) 4 = none ∧
      bankLost (banks 4 1 2) 0 [seg 31] = false ∧
      (let s : State := { banks 4 1 2 with cpu := { (banks 4 1 2).cpu with mramErr := [(0x4000, 2)] } }; bankLost s 0 [seg 31] = true)) := by
  simp only [CanAnswer]
  decide +kernel

theorem wit_ActivationKeysAndSettings :
    let valid (kind : Nat) (l : List Seg) : State := engine (fun u => { u with bank1 := ⟨kind, l⟩ }) (banks 4 2 2);
    (bankState (valid 1 [seg 0]) (stagingBank (valid 1 [seg 0])) = 2 ∧ (valid 1 [seg 0]).bit PWR_STATUS_hs = false ∧ (valid 1 [seg 0]).get FLT_STATUS_mode = 0 ∧
      bankState (banks 4 1 2) (stagingBank (banks 4 1 2)) ≠ 2) ∧
    ((bankOf (valid 1 [seg 0]) 1).kind = 1 ∧ (bankOf (valid 2 [seg 31]) 1).kind ≠ 1 ∧ (valid 2 [seg 31]).upd.rom = false ∧ (bankOf (valid 2 [seg 31]) 1).segs = [seg 31]) ∧
    (max 50 (min 1000 (((valid 1 []).put (PSW_DIE_CFG_hold 1) 159).get (PSW_DIE_CFG_hold 1))) < 160 ∧
      (∀ d : Fin 2, ¬ max 50 (min 1000 ((((valid 1 []).put (PSW_DIE_CFG_hold 0) 160).put (PSW_DIE_CFG_hold 1) 160).get (PSW_DIE_CFG_hold d))) < 160)) ∧
    (let s := ctxAt 511 .stopped [] ((valid 2 []).put (TSK_CTX_CFG_tenant 511) 31);
      s.liveCtxs = [0, 511] ∧ s.tenant 511 = 31 ∧ s.tenant 0 = 0 ∧
        (2048 < 32 * ((s.put (TSK_CTX_CODEWIN_limit 511) 64).get (TSK_CTX_CODEWIN_limit 511) + 1) ∧ 32 * s.get (TSK_CTX_CODEWIN_base 511) < 2048 + 2048) ∧
        ¬ 2048 < 32 * ((s.put (TSK_CTX_CODEWIN_limit 511) 63).get (TSK_CTX_CODEWIN_limit 511) + 1)) ∧
    (let s := banks 4 2 2;
      let u : State := { s with cpu := { s.cpu with mramErr := [(0x84000, 2)] } };
      stagingBank s = 1 ∧ bankLost s 1 [seg 31] = false ∧ bankLost u 1 [seg 31] = true ∧ s.upd.resetWaits = false ∧ dieRuns s = true ∧
        dieRuns (phased .inReset s) = false) ∧
    ((engine fun u => { u with job := some (.load none) }).upd.job = some (.load none) ∧ (seg 31).load % 2048 = 0 ∧ 2097152 - 2048 + 2048 * 1 ≤ 2097152 ∧
      ((seg 31).table.map (·.1)).Nodup) ∧
    ((keySlot heard 25).bytes = [] ∧ (List.replicate 64 (0 : Byte)).length = 64 ∧
      (let s := engine (fun u => { u with keys := [(23, ⟨[], 0⟩), (24, ⟨[1], 0⟩), (25, ⟨[1], 0⟩)] }) heard;
        (keySlot s 23).ctr < 1 ∧ (keySlot s 24).bytes ≠ [] ∧ (keySlot s 25).bytes ≠ []) ∧
      (heard.putB (ACC_KEY_CTL_en 7) true).bit (ACC_KEY_CTL_en 7) = true) ∧
    (let s := engine (fun u => { u with rom := true }) (banks 4 6 0); s.upd.rom = true ∧ bankState s 0 = 4 ∧ bankState s 1 ≠ 4) ∧
    (ctlReached lit = true ∧ ctlReached (phased .off) = false ∧ lit.blockOk 511 8 = false ∧ lit.blockOk 0 8 = true ∧ lit.upd.sets = none ∧ (engine fun u => { u with sets := some ⟨0, 31, 0x3F00, [1]⟩ }).upd.sets.isSome = true ∧
      0x3F00 + 256 ≤ 0x4000 ∧ dSize - 256 + 256 ≤ dSize ∧ lit.covered 0 (dSize - 256) 256 false = true) := by decide +kernel

/-- A tenant package that installs a new tenant meets no live context's code window, and its table names no live context of another set. -/
theorem wit_ActivationKeysAndSettings_sameSet :
    ∀ c, (∃ o, (c, o) ∈ ([(511, 0)] : List (Nat × Nat))) ↔
      c ∈ (ctxAt 511 .stopped [] (served.put (TSK_CTX_CFG_tenant 511) 31)).liveCtxs ∧ (ctxAt 511 .stopped [] (served.put (TSK_CTX_CFG_tenant 511) 31)).tenant c = 31 := by
  have h : (ctxAt 511 .stopped [] (served.put (TSK_CTX_CFG_tenant 511) 31)).liveCtxs = [0, 511] := by decide +kernel
  have h0 : (ctxAt 511 .stopped [] (served.put (TSK_CTX_CFG_tenant 511) 31)).tenant 0 = 0 := by decide +kernel
  have h1 : (ctxAt 511 .stopped [] (served.put (TSK_CTX_CFG_tenant 511) 31)).tenant 511 = 31 := by decide +kernel
  intro c
  rw [h]
  constructor
  · rintro ⟨o, ho⟩
    simp only [List.mem_singleton, Prod.mk.injEq] at ho
    obtain ⟨rfl, -⟩ := ho
    exact ⟨by simp, h1⟩
  · rintro ⟨hc, ht⟩
    simp only [List.mem_cons, List.not_mem_nil, or_false] at hc
    rcases hc with rfl | rfl
    · rw [h0] at ht; exact absurd ht (by decide)
    · exact ⟨0, by simp⟩

/-- A descriptor that is valid and dozes, with every roster and every outfit allowed after it. -/
def descOk : List Word := 0x80000001 :: List.replicate 63 0xFFFFFFFF

theorem wit_OutfitsChangeWhole :
    let s := ((dies.put SYS_OUT_CFG_roster 63).putB (TLN_ROS_CFG_en 63) true).put (TLN_ROS_CFG_axis 63) 1;
    let fill (l : List Word) : State := (l.zipIdx).foldl (fun s e => s.setDWord (4 * e.2) e.1) s;
    (ctlReached s = true ∧ ctlReached (phased .starting s) = true ∧ ctlReached (phased .off s) = false ∧ s.get SYS_OUT_STATUS_state = 0 ∧ s.bit PWR_STATUS_hs = false ∧ s.get FLT_STATUS_mode ≠ 2 ∧ (s.put SYS_OUT_STATUS_state 1).get SYS_OUT_STATUS_state = 1) ∧
    bitOf ((descriptor s 31).getD 0 0) 31 = false ∧
    (let u := (fill (descOk.take 10)).put SYS_OUT_STATUS_cur 0x3F;
      bitOf ((descriptor u 0).getD 0 0) 31 = true ∧ ¬ (u.get SYS_OUT_STATUS_cur ≠ 0x3F) ∧ bitOf ((descriptor u 0).getD (8 + 63 / 32) 0) (63 % 32) = true ∧
        u.get SYS_OUT_CFG_roster = 63 ∧ bitOf ((descriptor u 0).getD 0 0) 0 = true ∧
        (u.get (PSW_DIE_STATE_state 0) = 0 ∧ u.get (PSW_DIE_STATE_state 1) = 0) ∧ (u.bit (TLN_ROS_CFG_en 63) = true ∧ u.get (TLN_ROS_CFG_axis 63) = 1)) ∧
    ((s.put SYS_OUT_STATUS_cur 5).get SYS_OUT_STATUS_cur = 5 ∧ bitOf ((s.out.force.getD []).getD 1 0) 31 = false ∧ (s.put SYS_OUT_CFG_roster 0).get SYS_OUT_CFG_roster = 0 ∧
      (phased .doze s).pwr.phase = .doze ∧ (s.put (PSW_DIE_STATE_state 1) 2).get (PSW_DIE_STATE_state 1) ≠ 0) ∧
    (let u : State := { (s.put SYS_OUT_STATUS_state 1) with out := ⟨some descOk, true, none, [(0, descOk), (1, descOk)]⟩ };
      u.out.now = true ∧ (∀ e : Fin 2, u.out.onDie.find e ≠ none ∧ u.out.onDie.find e = u.out.staged) ∧ (s.out.onDie.find 1 = none) ∧
        dieReached u 1 = true ∧ linkClear u 1 = true ∧ linkClear (linkBusy 1 u) 1 = false ∧ dieReached (withDie 1 (fun d => { d with away := true }) u) 1 = false ∧ u.out.staged = some descOk ∧ bitOf (descOk.getD 0 0) 0 = true ∧ ({ u with out := ⟨some descOk, false, none, []⟩ } : State).out.now = false) ∧
    (let u : State := { (s.put SYS_OUT_STATUS_state 2).putB CLK_STATUS_pll1 true with out := ⟨some descOk, false, none, []⟩, tln := { s.tln with due := [⟨1, 0, 0, 0, 0, false, .period 63 7⟩] } };
      tlnRuns u = true ∧ u.tln.due = [⟨1, 0, 0, 0, 0, false, .period 63 7⟩] ∧ u.get SYS_OUT_STATUS_state = 2) := by decide +kernel

theorem wit_RegisterWritesFollowTypeCodes :
    (blockAt 0x0FFFFFFC = none ∧ blockAt 0x10C00000 = none ∧ blockAt 0x403BFFFC = some 20 ∧ lit.blockOk 511 20 = false ∧ blockAt 0x400500FC = some 21 ∧
      blockAt 0x40050120 = some 21) ∧
    ((lit.ctx 511).mode ≠ .resident ∧ ((lit.setCtx 511 resident).ctx 511).mode = .resident ∧ (0x2001FFFC - 0x20000000) / 256 = 511 ∧ 0x2001FFDC % 256 / 4 = 55 ∧
      0x2001FFE0 % 256 / 4 = 56) ∧
    (0x40000003 / 4 * 4 = 0x40000000) ∧ (ctlReached lit = true ∧ ctlReached (phased .inReset) = false ∧ linkClear lit (dinDie 95) = true ∧ linkClear (linkBusy 1 lit) (dinDie 95) = false ∧
      dieReached (linkBusy 1 lit) (dinDie 95) = true) ∧
    (let u := base.putB PWR_STATUS_pllwait true;
      blockAt (TLN_AX_SETL 2).addr = some 5 ∧ u.bit PWR_STATUS_pllwait = true ∧ mustWait u 0 (.write (TLN_AX_SETL 2).addr 5) = true ∧
        mustWait base 0 (.write (TLN_AX_SETL 2).addr 5) = false ∧ blockAt CLK_STATUS.addr = some 1 ∧ blockAt (DIN_IN_PARK 95).addr = some 12 ∧
        mustWait (post base 0 (.write (DIN_IN_PARK 0).addr 0)) 0 (.write (DIN_IN_PARK 95).addr 5) = true ∧
        mustWait (post base 0 (.write (DIN_IN_PARK 0).addr 0)) 511 (.write (DIN_IN_PARK 95).addr 5) = false ∧
        mustWait lit 0 (.write (DIN_IN_PARK 95).addr 5) = false) ∧ (dieReached lit (dinDie 95) = true ∧ dieReached base (dinDie 95) = true ∧
      dieReached (withDie 1 (fun d => { d with away := true }) lit) (dinDie 95) = false) := by decide

theorem wit_EveryStepKeepsTheInvariant : Inv base = true ∧ step base = .next (idle base) := ⟨by decide, rfl⟩

/-! ## Ill-formed commands are refused, each check by a term of its own -/

theorem test_wf_roster : (Instr.rosterPeriodStart 0).wellFormed = false ∧ (Instr.rosterPeriodStart 63).wellFormed = true := by decide
theorem test_wf_tarm : (Instr.tarm 0 0 13).wellFormed = false ∧ (Instr.tarm 0 0 12).wellFormed = true := by decide
theorem test_wf_submit : (Instr.submit (hdr 2 4) [0] [0, 0, 0] []).wellFormed = false ∧ (Instr.submit (hdr 1 5) [0] [0, 0, 0] []).wellFormed = false ∧
    (Instr.submit (hdr 1 4) [0] [0, 0, 0] []).wellFormed = true := by decide
theorem test_wf_requests : (Instr.poll (hdr 1 0) [] [] [] [] [] []).wellFormed = false ∧ (Instr.query (hdr 3 1) [] [] [] []).wellFormed = false ∧ (Instr.zlpUnknownType (hdr 0x33 0)).wellFormed = false ∧
    (Instr.zlpUnknownType reqH).wellFormed = true := by decide
theorem test_wf_update : (Instr.begin (hdr 0x31 0) [] [] []).wellFormed = false ∧ (Instr.data (hdr 0x31 1) [] [] [] []).wellFormed = false ∧ (Instr.check (hdr 0x30 0) []).wellFormed = false ∧
    (Instr.status (hdr 0x33 1) []).wellFormed = false ∧ (Instr.activate (hdr 0x35 0) []).wellFormed = false ∧ (Instr.keyset (hdr 0x34 0) [] [] [] [] true true).wellFormed = false ∧
    (Instr.revert (hdr 0x36 1) []).wellFormed = false ∧ (Instr.revert (hdr 0x36 0) []).wellFormed = true := by decide
theorem test_wf_budget : (Instr.budgetRun 0 []).wellFormed = false := by decide
theorem test_wf_can : (Instr.canFrameReceive 0 { frame1 with id := 1 } 0 6 false).wellFormed = false ∧ (Instr.canFrameReceive 0 { frame1 with rtr := true } 0 6 false).wellFormed = false ∧
    (Instr.canFrameReceive 0 { frame1 with fdf := true, dlc := 9 } 0 6 false).wellFormed = false ∧ (Instr.canFrameReceive 0 frame1 0 6 false).wellFormed = true := by decide
theorem test_wf_lin : (Instr.linResponseEnd 0 (List.replicate 9 0) .complete).wellFormed = false := by decide
theorem test_wf_i2c : (Instr.i2cTransferEnd 0 0 2 [1]).wellFormed = false ∧ (Instr.i2cTransferEnd 0 0 1 [1]).wellFormed = true := by decide
theorem test_wf_meter : (Instr.mtrResponse 0 0 0 []).wellFormed = false := by decide
theorem test_wf_segment : (Instr.checkDone true true none true false [{ seg 1 with table := [(512, 0)] }]).wellFormed = false := by decide

/-! ## Worked examples of the spec -/

/-- 04, "Accumulators": the 512th product reaches 2^71. -/
theorem test_accumulator_example : accWrite true (511 * 2 ^ 62 + 2 ^ 62) = (0x7FFFFFFFFFFFFFFFFF, true) ∧
    accWrite false (511 * 2 ^ 62 + 2 ^ 62) = (0x800000000000000000, true) ∧ (accWrite true (511 * 2 ^ 62)).2 = false := by decide
/-- 05, "WIDEN": the last of three packets that load 0x4006_0A38 into g12. -/
theorem test_widen_example : ∃ t, exec (.ins 0 .B 0 12 8) (inB (some ⟨false, 0, 0xA3⟩) (withRegs fun r => { r with g := [(12, 0x00040060)] })) = .next t ∧
    (t.ctx 0).regs.lands = [⟨1, true, .g 12 0x40060A38⟩] := ⟨_, rfl, by decide⟩
/-- 05, "Encoding": words of slot A, of slot B, of slot B under a WIDEN, and the control forms. -/
theorem test_decode_arithmetic : decodeSyl 5 .A none 0x0123 = .add 5 .A 0 2 3 ∧ decodeSyl 5 .B none 0x0123 = .add 5 .B 0 2 3 ∧
    decodeSyl 5 .A none 0x05C0 = .ins 5 .A 0 12 0 ∧ decodeSyl 5 .A none 0x2D00 = .widen 5 true 1 0 := by decide
theorem test_decode_control : decodeSyl 5 .A none 0x0A8F = .jr 5 15 ∧ decodeSyl 5 .A none 0x0AA0 = .wait 5 ∧ decodeSyl 5 .A none 0x0AFF = .trap 5 63 ∧
    decodeSyl 5 .A none 0x1AFE = .br 5 1 true 0x7E := by decide
theorem test_decode_memory : decodeSyl 5 .B none 0x073D = .ldW 5 0 3 13 ∧ decodeSyl 5 .B (some ⟨false, 0, 0x80⟩) 0x073D = .stW 5 3 13 ∧
    decodeSyl 5 .B (some ⟨false, 0, 0x50⟩) 0x090C = .pwr 5 0 12 ∧ decodeSyl 5 .A none 0x0722 = .undefinedSyllable 5 .A 0x0722 := by decide
/-- 02, the lands: the outputs of a die that is off stand open, and the lands of VIO2 float while it is out of range. -/
theorem test_lands : landDoes (withDie 0 (fun d => { d with on := false }) base) (.out 0) = .opened ∧ landDoes base .alive = .level base.pwr.alivePin ∧
    landDoes { base with pwr := { base.pwr with io2 := false } } .tpulse = .highZ ∧ landDoes (phased .starting base) .txd = .level true := by decide +kernel
/-- 05, the leak of the last example: EXT of 2^71 − 2^56 by 40 gives 2^31 − 2^16. -/
theorem test_ext_example : extField true (BitVec.ofInt 72 (2 ^ 71 - 2 ^ 56)) 40 = 2147418112 := by decide
/-- 09, DUTYC at 14.40, 13.00, 11.00 and 9.00 V. -/
theorem test_dutyc_example : let s := base.put (PSW_DIE_CFG_vref 0) 1300;
    [14400000, 13000000, 11000000, 9000000].map (compensated s 0 2048) = [1669, 2048, 2860, 4096] := by decide
/-- 07, the step by 3 periods, with 200.05 µs left to slew away. -/
theorem test_step_example : let s := ((a0At 0).putB TLN_A0_STATUS_steppend true).setAxis 0 { Axis.init with qual := 0, pos := 1000412 * 500000000 };
    ∃ t, exec .a0StepApply { s with tln := { s.tln with off := 1500100025 * 1000000000, atBound := true } } = .next t ∧ (t.axis 0).pos = 1000415 * 500000000 ∧
      t.tln.off = 100025 * 1000000000 ∧ t.get TLN_A0_STEP_n = 3 := ⟨_, rfl, by decide, by decide, by decide⟩
/-- A reply whose MAC is that of the key of its identifier is judged as one with a right MAC. -/
theorem exec_keyMessage_mac (s : State) (id : Word) (cmd : Byte) (d : BitVec 24) (n : Word) (k : Nat) (hp : perRuns s = true) (ha : s.acc.phase = .reading)
    (h : s.pwr.io1 = true) (hk : matchKey s id = some k) :
    exec (.keyMessage id cmd d n (keyMac s k id cmd d n s.acc.challenge)) s = .next (keyMessage s ⟨true, id, cmd.toNat, d.toNat, n, true⟩) := by
  simp [exec, execKeyMessage, hp, ha, msgSeen, h, keyMsg, hk]
/-- Before the reply of the example of 15: the key at 1.20 m. -/
def keyAt : State := (((((accAt (fun a => { a with phase := .reading, flight := 1440384, req := some (.ant 1) }) clocked).putB (ACC_KEY_CTL_en 2) true).wr (ACC_KEY_ID 2) 9).wr
      (ACC_KEY_CNT 2) 5000).put ACC_RNG_CFG_cal 320).put ACC_RNG_BOUND_bound 200
/-- 15, the key at 1.20 m: counter 5,003, verdict 1, 119 cm, the entry session open. -/
theorem test_key_example : ∃ t, exec (.keyMessage 9 0 1440000 5003 (keyMac keyAt 2 9 0 1440000 5003 keyAt.acc.challenge)) keyAt = .next t ∧
    t.rd (ACC_KEY_CNT 2) = 5003 ∧ t.get ACC_LAST_verdict = 1 ∧ t.get ACC_LAST_RNG_dist = 119 ∧ t.bit (ACC_SESS_active 0) = true :=
  ⟨_, exec_keyMessage_mac keyAt 9 0 1440000 5003 2 (by decide +kernel) (by decide +kernel) (by decide +kernel) (by decide +kernel), by decide +kernel⟩
/-- 19, record 41 in slot 9: opened by source 104, joined by source 27. -/
theorem test_record_example : ∃ t, exec (.sourceRaise 104 false false 0) (base.put FLT_NEWEST_seq 40) = .next t ∧ t.rd (FLT_REC_W 9 1) = 0x81010068 ∧ t.rd (FLT_REC_W 9 2) = 0 ∧
    t.rd (FLT_REC_W 9 11) = 0x100 ∧ ∃ u, exec (.sourceRaise 27 false false 0) t = .next u ∧ u.rd (FLT_REC_W 9 1) = 0x82010068 ∧ u.rd (FLT_REC_W 9 2) = 0x00010000 ∧
      u.rd (FLT_REC_W 9 8) = 0x08000000 := by
  refine ⟨_, rfl, by decide, by decide, by decide, _, rfl, ?_⟩
  decide
/-- The commands that wait run out: an idle device goes on by itself. -/
theorem test_idle_device : step { State.reset with pending := [] } = .next (idle State.reset) := rfl

end Sys2Proof.Tests
end

section
/-! SUPPORT. The issue of one syllable: what the ticking of a context leaves alone, what opening and closing a packet do where `Before` holds, and what
`issue` then amounts to. -/
namespace Sys2Proof.Machine
open Sys2Proof

variable {s t u : State} {c : Nat}

/-! ## What an issue does to the memories (R98, R102) -/

/-- Nothing has changed but data SRAM, its error marks and what is raised. -/
def OnlyData (s t : State) : Prop :=
  t = { s with raiseQ := t.raiseQ, cpu := { s.cpu with dmem := t.cpu.dmem, dmemErr := t.cpu.dmemErr } }

theorem OnlyData.trans (h : OnlyData s t) (h' : OnlyData t u) : OnlyData s u := by
  unfold OnlyData at h h' ⊢
  exact h'.trans (by rw [h])

theorem OnlyData.regs (h : OnlyData s t) : t.regs = s.regs := by
  unfold OnlyData at h
  rw [h]

theorem OnlyData.pwr (h : OnlyData s t) : t.pwr = s.pwr := by
  unfold OnlyData at h
  rw [h]

theorem OnlyData.imemErr (h : OnlyData s t) : t.cpu.imemErr = s.cpu.imemErr := by
  unfold OnlyData at h
  rw [h]

theorem OnlyData.ctx (h : OnlyData s t) (c : Nat) : t.ctx c = s.ctx c := by
  unfold OnlyData at h
  rw [h]
  rfl

theorem State.setDBytes_onlyData (s : State) (a : Nat) (be : BitVec 4) (v : Word) : OnlyData s (s.setDBytes a be v) := by
  have byte (s : State) (i : Nat) : OnlyData s (if be.getLsbD i then s.setDByte (a + i) (byteOf v i) else s) := by
    split <;> rfl
  exact (((byte s 0).trans (byte _ 1)).trans (byte _ 2)).trans (byte _ 3)

theorem enterStore_onlyData (s : State) (c : Nat) (p : PendStore) : OnlyData s (enterStore s c p) := by
  unfold enterStore
  split
  · rfl
  · refine (s.setDBytes_onlyData p.addr p.be p.data).trans ?_
    dsimp only
    split_ifs <;> rfl

theorem foldl_enterStore_onlyData (s : State) (c : Nat) (l : List PendStore) : OnlyData s (l.foldl (fun s p => enterStore s c p) s) :=
  List.foldlRecOn l _ (motive := OnlyData s) rfl fun t h p _ => h.trans (enterStore_onlyData t c p)

theorem landReg_pc (r : CRegs) (g : Target) : (landReg r g).pc = r.pc := by
  cases g <;> simp only [landReg] <;> split <;> rfl

theorem landAll_pc (r : CRegs) (l : List Landing) : (landAll r l).pc = r.pc :=
  List.foldlRecOn _ _ (motive := fun r' : CRegs => r'.pc = r.pc) rfl fun r' h g _ => (landReg_pc r' g).trans h

/-! ## What the beginning of an issue leaves alone -/

/-- What is due lands in the context's registers, which does not move its program counter, and stores that are due enter data SRAM. -/
theorem tick_setCtx (s : State) (c : Nat) : ∃ x : Ctx, x.regs.pc = (s.ctx c).regs.pc ∧ OnlyData (s.setCtx c x) (tick s c) :=
  ⟨_, landAll_pc _ _, foldl_enterStore_onlyData _ c _⟩

theorem tick_regs (s : State) (c : Nat) : (tick s c).regs = s.regs := by
  obtain ⟨x, -, h⟩ := tick_setCtx s c
  exact h.regs

theorem tick_pwr (s : State) (c : Nat) : (tick s c).pwr = s.pwr := by
  obtain ⟨x, -, h⟩ := tick_setCtx s c
  exact h.pwr

theorem tick_imemErr (s : State) (c : Nat) : (tick s c).cpu.imemErr = s.cpu.imemErr := by
  obtain ⟨x, -, h⟩ := tick_setCtx s c
  exact h.imemErr

theorem tick_pc (s : State) (c : Nat) : ((tick s c).ctx c).regs.pc = (s.ctx c).regs.pc := by
  obtain ⟨x, hpc, h⟩ := tick_setCtx s c
  rw [h.ctx, State.ctx_setCtx_same, hpc]

/-- The code window of a context is held in registers alone (R88). -/
theorem State.codeCovered_congr (h : t.regs = s.regs) (pc : Nat) : t.codeCovered c pc = s.codeCovered c pc := by
  unfold State.codeCovered State.get State.rd
  rw [h]

/-! ## One context changed -/

theorem CtxNow.refl (s : State) (c : Nat) : CtxNow s s c (s.ctx c) := ⟨rfl, fun _ _ => rfl, rfl⟩

theorem CtxNow.setCtx (s : State) (c : Nat) (x : Ctx) : CtxNow s (s.setCtx c x) c x :=
  ⟨s.ctx_setCtx_same c x, fun d h => s.ctx_setCtx_other c d x h, rfl⟩

theorem CtxNow.trans {x y : Ctx} (h : CtxNow s t c x) (h' : CtxNow t u c y) : CtxNow s u c y := by
  obtain ⟨-, hother, heq⟩ := h
  obtain ⟨hctx, hother', heq'⟩ := h'
  exact ⟨hctx, fun d hd => (hother' d hd).trans (hother d hd), heq'.trans (by rw [heq])⟩

/-! ## Results -/

/-- What the statements say is left of a result on its way is what the model leaves (R100). -/
theorem leftBeside_eq_besideB (g : Target) : leftBeside g = besideB g := by
  funext ⟨d, fresh, l⟩
  cases fresh <;> cases l <;> cases g <;> rfl

/-- A result gives its context the registers of `gives`, and changes nothing else. -/
theorem produce_ctxNow (s : State) (c d : Nat) (g : Target) :
    CtxNow s (produce s c d g) c { s.ctx c with regs := gives d g (s.ctx c).regs } := by
  have h : produce s c d g = s.setCtx c { s.ctx c with regs := gives d g (s.ctx c).regs } := by
    unfold gives
    rw [leftBeside_eq_besideB]
    rfl
  exact h ▸ CtxNow.setCtx ..

/-! ## Packets -/

/-- A context before slot A opens the packet at its program counter, after what was due has landed, and does nothing else. -/
theorem openPacket_of_before {w : Option Widen} (h : Before s c w .A) :
    openPacket s c = (tick s c).setCtx c { (tick s c).ctx c with packet := some ⟨false, none, none⟩ } := by
  obtain ⟨-, hpacket, hissue, hfirst, hcode, hmark⟩ := h
  have hclose : closePacket s c = s := by simp [closePacket, hpacket]
  have hfirst' : ¬ (c = 0 ∧ (tick s c).pwr.first = true) := by
    rintro ⟨hc, hf⟩
    rw [tick_pwr, hfirst hc] at hf
    cases hf
  simp [openPacket, hclose, hissue, hfirst', State.codeCovered_congr (tick_regs s c), tick_pc, hcode, tick_imemErr, hmark, State.iff]

/-- The end of a packet that was not fetched outside the code window is the one of `afterPacket`. -/
theorem closePacket_of_packet {w : Option Widen} {tk : Option Transfer} (h : (s.ctx c).packet = some ⟨false, w, tk⟩) :
    closePacket s c = s.setCtx c (afterPacket (s.ctx c) (s.ctx c).regs) := by
  cases hb : (s.ctx c).regs.branch <;> simp [closePacket, afterPacket, h, hb]

/-- How a packet ends is settled by the program counter and the transfer it began with: registers that keep these may be written before. -/
theorem afterPacket_regs (x : Ctx) (r : CRegs) (hpc : r.pc = x.regs.pc) (hb : r.branch = x.regs.branch) :
    afterPacket { x with regs := r } r = afterPacket x r := by
  unfold afterPacket
  dsimp only
  rw [hpc, hb]

/-! ## The issue of a syllable -/

/-- The state on which the effect of a syllable of a slot acts. -/
def atEffect (s : State) (c : Nat) : Slot → State
  | .A => openPacket s c
  | .B => s

/-- What follows the effect of a syllable of a slot: slot B ends its packet. -/
def afterEffect (t : State) (c : Nat) : Slot → State
  | .A => t
  | .B => closePacket t c

variable {w : Option Widen} {sl : Slot}

theorem atEffect_regs (h : Before s c w sl) : ((atEffect s c sl).ctx c).regs = ((atIssue s c sl).ctx c).regs := by
  cases sl with
  | A => rw [atEffect, openPacket_of_before h, State.ctx_setCtx_same, atIssue]
  | B => rfl

/-- A syllable that the packet spells has its effect if its guard holds, in either slot. -/
theorem issue_of_before {gd : Nat} {spell : Option Widen → Bool} {f : Option Widen → State → State} (h : Before s c w sl) (hs : spell w = true) :
    issue c sl spell gd f s =
      afterEffect (if guardHolds ((atIssue s c sl).ctx c).regs gd w then f w (atEffect s c sl) else atEffect s c sl) c sl := by
  rw [← atEffect_regs h]
  cases sl with
  | A =>
    obtain rfl : w = none := h.1
    have hk : ((openPacket s c).ctx c).packet = some ⟨false, none, none⟩ := by
      rw [openPacket_of_before h, State.ctx_setCtx_same]
    exact issue_A s c gd spell f _ hk rfl hs
  | B =>
    obtain ⟨_, hk⟩ := h
    exact issue_B s c gd spell f _ hk rfl hs

/-- An effect that gives its own context the registers `f`, but for the program counter and a transfer taken, and changes nothing else, leaves the state
of `Issued`. -/
theorem issued_of_ctxNow {f : CRegs → CRegs} (h : Before s c w sl) (hpc : ∀ r, (f r).pc = r.pc) (hb : ∀ r, (f r).branch = r.branch)
    (ht : CtxNow (atEffect s c sl) t c { (atEffect s c sl).ctx c with regs := f ((atEffect s c sl).ctx c).regs }) :
    Issued s (afterEffect t c sl) c sl f := by
  cases sl with
  | A =>
    rw [atEffect, openPacket_of_before h, State.ctx_setCtx_same] at ht
    exact (CtxNow.setCtx ..).trans ht
  | B =>
    obtain ⟨tk, hk⟩ := h
    have hctx : t.ctx c = { s.ctx c with regs := f (s.ctx c).regs } := ht.1
    have hclose : closePacket t c = t.setCtx c (afterPacket (s.ctx c) (f (s.ctx c).regs)) := by
      rw [closePacket_of_packet (w := w) (tk := tk) (by rw [hctx, hk]), hctx, afterPacket_regs _ _ (hpc _) (hb _)]
    rw [afterEffect, hclose]
    exact ht.trans (CtxNow.setCtx ..)

variable {i : Instr} {gd : Nat} {spell : Option Widen → Bool} {f : Option Widen → State → State}

/-- A syllable whose guard is false counts as one issue, and nothing else happens (R97). -/
theorem completes_of_guard_false (hi : exec i s = .next (issue c sl spell gd f s)) (h : Before s c w sl) (hs : spell w = true)
    (hg : guardHolds ((atIssue s c sl).ctx c).regs gd w = false) : Completes i s fun t => Issued s t c sl id := by
  refine ⟨_, hi, ?_⟩
  rw [issue_of_before h hs, hg]
  exact issued_of_ctxNow h (fun _ => rfl) (fun _ => rfl) (CtxNow.refl ..)

/-- A syllable whose guard holds and whose effect is one result puts that result on its way, and changes nothing else (R98, R100). The result is named
by the registers at the issue. -/
theorem completes_gives {d : Nat} {g : CRegs → Target} (hi : exec i s = .next (issue c sl spell gd f s)) (h : Before s c w sl) (hs : spell w = true)
    (hg : guardHolds ((atIssue s c sl).ctx c).regs gd w = true) (hf : ∀ u, f w u = produce u c d (g (u.ctx c).regs)) :
    Completes i s fun t => Issued s t c sl (gives d (g ((atIssue s c sl).ctx c).regs)) := by
  refine ⟨_, hi, ?_⟩
  rw [issue_of_before h hs, hg, if_pos rfl, hf, atEffect_regs h]
  exact issued_of_ctxNow h (fun _ => rfl) (fun _ => rfl) (produce_ctxNow ..)

end Sys2Proof.Machine
end

section
/-! Guards, compares and predicate syllables (R97, R133 to R135). -/
namespace Sys2Proof.Machine
open Sys2Proof

/-! ## The predicates a syllable names -/

/-- CMP gives p1, p2 and p3, and bits 3 to 1 are all it names (R134). -/
theorem cmpBits_and_mask (a b : Word) : cmpBits a b &&& 0x0E =
    BitVec.ofNat 8 (2 * b2n (decide (a = b)) + 4 * b2n (decide (a.toInt < b.toInt)) + 8 * b2n (decide (a.toNat < b.toNat))) := by
  have bits : ∀ e l u : Bool, BitVec.ofNat 8 (b2n e * 2 + b2n l * 4 + b2n u * 8) &&& 0x0E = BitVec.ofNat 8 (2 * b2n e + 4 * b2n l + 8 * b2n u) := by
    decide
  exact bits (decide (a = b)) (a.slt b) (a.ult b)

/-- The mask of predicate pd + 1 (R135). -/
theorem two_shiftLeft_eq_twoPow (pd : Fin 3) : 2#8 <<< pd.val = BitVec.twoPow 8 (pd.val + 1) := by
  revert pd
  decide

theorem CRegs.pr_succ (r : CRegs) (n : Nat) : r.pr (n + 1) = r.p.getLsbD (n + 1) := rfl

/-- PNOT gives the predicate it names the opposite of what it was (R135). -/
theorem not_and_mask (r : CRegs) (pd : Fin 3) :
    ~~~ r.p &&& BitVec.twoPow 8 (pd.val + 1) = if r.pr (pd.val + 1) then 0 else BitVec.twoPow 8 (pd.val + 1) := by
  have hlt : pd.val + 1 < 8 := by omega
  rw [BitVec.and_twoPow, BitVec.getLsbD_not, CRegs.pr_succ, decide_eq_true hlt]
  cases r.p.getLsbD (pd.val + 1) <;> rfl

/-- RDY gives the predicate it names the ready flag (R135). -/
theorem ite_ones_and (b : Bool) (m : BitVec 8) : (if b then 0xFF else 0) &&& m = if b then m else 0 := by
  cases b
  · exact BitVec.zero_and
  · exact BitVec.allOnes_and

/-! ## The syllables whose guard holds -/

section
variable {s : State} {c : CtxId} {gd : Guard} {ra rb : GReg} {q : QReg} {pd : Fin 3} {sl : Slot}

/-- What a result for predicates gives is known by the predicates it names. -/
theorem Completes.writes {i : Instr} {m u v : BitVec 8} (h : Completes i s fun t => Issued s t c .A (gives 2 (.pred m u))) (hu : u &&& m = v) :
    Completes i s fun t => ∃ u, u &&& m = v ∧ Issued s t c .A (gives 2 (.pred m u)) := by
  obtain ⟨t, hi, ht⟩ := h
  exact ⟨t, hi, u, hu, ht⟩

theorem cmp_completes (h : Before s c none .A) (hg : ((tick s c).ctx c).regs.pr gd = true) (hne : ra ≠ rb) :
    Completes (.cmp c gd ra rb) s fun t =>
      Issued s t c .A (gives 2 (.pred 0x0E (cmpBits (((tick s c).ctx c).regs.rg ra) (((tick s c).ctx c).regs.rg rb)))) :=
  completes_gives (g := fun r => .pred 0x0E (cmpBits (r.rg ra) (r.rg rb))) rfl h (bne_iff_ne.2 hne) hg fun _ => rfl

theorem rdy_completes (h : Before s c none .A) (hg : ((tick s c).ctx c).regs.pr gd = true) :
    Completes (.rdy c gd pd q) s fun t => Issued s t c .A
      (gives 2 (.pred (BitVec.twoPow 8 (pd.val + 1)) (if ((tick s c).ctx c).regs.qrdy.getLsbD q then 0xFF else 0))) :=
  completes_gives (g := fun r => .pred (BitVec.twoPow 8 (pd.val + 1)) (if r.qrdy.getLsbD q then 0xFF else 0)) rfl h rfl hg fun _ => rfl

theorem pnot_completes (h : Before s c none .A) (hg : ((tick s c).ctx c).regs.pr gd = true) :
    Completes (.pnot c gd pd) s fun t => Issued s t c .A (gives 2 (.pred (BitVec.twoPow 8 (pd.val + 1)) (~~~ ((tick s c).ctx c).regs.p))) :=
  completes_gives (g := fun r => .pred (BitVec.twoPow 8 (pd.val + 1)) (~~~ r.p)) rfl h rfl hg fun _ => rfl

theorem ple_completes (h : Before s c none .A) (hg : ((tick s c).ctx c).regs.pr gd = true) :
    Completes (.ple c gd) s fun t => Issued s t c .A
      (gives 2 (.pred 2 (if ((tick s c).ctx c).regs.pr 1 || ((tick s c).ctx c).regs.pr 2 then 2 else 0))) :=
  completes_gives (g := fun r => .pred 2 (if r.pr 1 || r.pr 2 then 2 else 0)) rfl h rfl hg fun _ => rfl

theorem wrpred_completes (h : Before s c none sl) (hg : ((atIssue s c sl).ctx c).regs.pr gd = true) :
    Completes (.wrpred c sl gd ra) s fun t =>
      Issued s t c sl (gives 2 (.pred 0xFE ((((atIssue s c sl).ctx c).regs.rg ra).setWidth 8))) :=
  completes_gives (g := fun r => .pred 0xFE ((r.rg ra).setWidth 8)) rfl h rfl hg fun _ => rfl

theorem wrcsw_completes (h : Before s c none sl) (hg : ((atIssue s c sl).ctx c).regs.pr gd = true) :
    let v := ((atIssue s c sl).ctx c).regs.rg ra
    Completes (.wrcsw c sl gd ra) s fun t => Issued s t c sl (gives 1 (.csw (v.getLsbD 1) (v.getLsbD 2) (v.getLsbD 3))) :=
  completes_gives (g := fun r => .csw ((r.rg ra).getLsbD 1) ((r.rg ra).getLsbD 2) ((r.rg ra).getLsbD 3)) rfl h rfl hg fun _ => rfl

end

/-- Settles O7: a false guard leaves the issue without an effect (`completes_of_guard_false`), and each syllable under a guard that holds puts one
result on its way, of which the predicates it names are read. -/
theorem guardsAndPredicateSyllables : Obligations.GuardsAndPredicateSyllables := by
  unfold Obligations.GuardsAndPredicateSyllables
  refine ⟨fun s c gd rd rs q => ⟨fun h hg => ?_, fun h hg => ?_⟩, fun s c gd ra rb q pd => ⟨?_, ?_⟩⟩
  · exact ⟨completes_of_guard_false rfl h rfl hg, fun hne => completes_of_guard_false rfl h (bne_iff_ne.2 hne) hg⟩
  · exact ⟨completes_of_guard_false rfl h rfl hg, completes_of_guard_false rfl h rfl hg, completes_of_guard_false rfl h rfl hg,
      completes_of_guard_false rfl h rfl hg⟩
  · intro h r hg Writes
    rw [two_shiftLeft_eq_twoPow]
    exact ⟨fun hne => (cmp_completes h hg hne).writes (cmpBits_and_mask _ _), (rdy_completes h hg).writes (ite_ones_and _ _),
      (pnot_completes h hg).writes (not_and_mask _ _), (ple_completes h hg).writes (by split <;> rfl)⟩
  · intro sl h r hg
    exact ⟨wrpred_completes h hg, wrcsw_completes h hg⟩

end Sys2Proof.Machine
end

section
/-! What an operation leaves alone: the relation `Spares`, and that the operations of the bus controllers meet it. -/
namespace Sys2Proof.Machine
open Sys2Proof Reg

/-- From `s` to `t` no register has changed but those whose addresses `A` holds of, and beside the registers nothing but the events and raises on their
way, the networks and the recorder. -/
structure Spares (A : Nat → Prop) (s t : State) : Prop where
  rd : ∀ q : Rg, ¬ A q.addr → t.rd q = s.rd q
  rest : t = { s with regs := t.regs, evq := t.evq, raiseQ := t.raiseQ, can := t.can, net := t.net, evr := t.evr }

section
variable {A B : Nat → Prop} {s t u : State}

theorem Spares.refl : Spares A s s := ⟨fun _ _ => rfl, rfl⟩

theorem Spares.trans (h : Spares A s t) (h' : Spares A t u) : Spares A s u where
  rd q hq := (h'.rd q hq).trans (h.rd q hq)
  rest := h'.rest.trans (by rw [h.rest])

theorem Spares.mono (h : Spares A s t) (hAB : ∀ a, A a → B a) : Spares B s t := ⟨fun q hq => h.rd q fun ha => hq (hAB _ ha), h.rest⟩

theorem Spares.get (h : Spares A s t) {f : Fd} (hf : ¬ A f.r.addr) : t.get f = s.get f := by
  unfold State.get
  rw [h.rd _ hf]

theorem Spares.out (h : Spares A s t) : t.out = s.out := by rw [h.rest]
theorem Spares.lnk (h : Spares A s t) : t.lnk = s.lnk := by rw [h.rest]
theorem Spares.cpu (h : Spares A s t) : t.cpu = s.cpu := by rw [h.rest]
theorem Spares.psw (h : Spares A s t) : t.psw = s.psw := by rw [h.rest]
theorem Spares.tln (h : Spares A s t) : t.tln = s.tln := by rw [h.rest]
theorem Spares.upd (h : Spares A s t) : t.upd = s.upd := by rw [h.rest]
theorem Spares.bist (h : Spares A s t) : t.bist = s.bist := by rw [h.rest]

theorem Spares.of_rest (h : t = { s with evq := t.evq, raiseQ := t.raiseQ, can := t.can, net := t.net, evr := t.evr }) : Spares A s t where
  rd q _ := by rw [h]; rfl
  rest := by rw [h]

theorem Spares.wr (h : Spares A s t) {r : Rg} {v : Word} (hr : A r.addr) : Spares A s (t.wr r v) :=
  h.trans ⟨fun q hq => t.rd_wr_other r q v fun e => hq (e ▸ hr), rfl⟩

theorem Spares.put (h : Spares A s t) {f : Fd} {n : Nat} (hf : A f.r.addr) : Spares A s (t.put f n) := h.wr hf
theorem Spares.putB (h : Spares A s t) {f : Fd} {b : Bool} (hf : A f.r.addr) : Spares A s (t.putB f b) := h.wr hf
theorem Spares.count (h : Spares A s t) {f : Fd} (hf : A f.r.addr) : Spares A s (t.count f) := h.wr hf
theorem Spares.wrap (h : Spares A s t) {f : Fd} (hf : A f.r.addr) : Spares A s (t.wrap f) := h.wr hf

theorem Spares.raise (h : Spares A s t) {src : Nat} {d : Word} : Spares A s (t.raise src d) := h.trans (.of_rest rfl)
theorem Spares.event (h : Spares A s t) {src pay : Nat} : Spares A s (t.event src pay) := h.trans (.of_rest rfl)
theorem Spares.modCan (h : Spares A s t) {u : Nat} {f : CanCtl → CanCtl} : Spares A s (t.modCan u f) := h.trans (.of_rest rfl)
theorem Spares.modNet (h : Spares A s t) {f : NetSt → NetSt} : Spares A s (t.modNet f) := h.trans (.of_rest rfl)
theorem Spares.modT1s (h : Spares A s t) {n : Nat} {f : T1sSeg → T1sSeg} : Spares A s (t.modT1s n f) := h.trans (.of_rest rfl)
theorem Spares.modEvr (h : Spares A s t) {f : EvrSt → EvrSt} : Spares A s (t.modEvr f) := h.trans (.of_rest rfl)

theorem Spares.foldl {α : Type} {l : List α} {f : State → α → State} (h : ∀ u, ∀ x ∈ l, Spares A u (f u x)) : Spares A s (l.foldl f s) :=
  List.foldlRecOn l f (motive := Spares A s) .refl fun _ hu x hx => hu.trans (h _ x hx)

end

/-! ## The buses and their controllers (R356, R360) -/

/-- The registers that the sleep and wake of buses may write: those of the CAN controllers, the LIN channels, the 10BASE-T1S segments and network
management, but for NMG_BUSb_CFG. -/
def BusReg (a : Nat) : Prop := 0x40200000 ≤ a ∧ a < 0x403B0000 ∧ (a < 0x403A0100 ∨ a % 0x20 ≠ 0)

section
variable {a u b : Nat}

theorem busReg_canStatus (hu : u < 12) : BusReg (CAN_STATUS u).addr := by simp only [BusReg, CAN_STATUS]; omega
theorem busReg_canResult (hu : u < 12) : BusReg (CAN_CMD_RESULT u).addr := by simp only [BusReg, CAN_CMD_RESULT]; omega
theorem busReg_canTt (hu : u < 12) : BusReg (CAN_TT_STATUS u).addr := by simp only [BusReg, CAN_TT_STATUS]; omega
theorem busReg_canAck (hu : u < 12) : BusReg (CAN_TXACK u).addr := by simp only [BusReg, CAN_TXACK]; omega
theorem busReg_linStatus (hu : u < 8) : BusReg (LIN_STATUS u).addr := by simp only [BusReg, LIN_STATUS]; omega
theorem busReg_t1sStatus (hu : u < 2) : BusReg (T1S_S_STATUS u).addr := by simp only [BusReg, T1S_S_STATUS]; omega
theorem busReg_state (hb : b < 22) : BusReg (NMG_BUS_STATE b).addr := by simp only [BusReg, NMG_BUS_STATE]; omega
theorem busReg_awake : BusReg NMG_AWAKE.addr := by simp only [BusReg, NMG_AWAKE]; omega

end

section
variable {A : Nat → Prop} {s : State} {u n b : Nat}

theorem canEvent_spares (code detail : Nat) : Spares A s (canEvent s u code detail) := by
  unfold canEvent
  split
  · exact .event .refl
  · exact .refl

theorem setCanWord_spares (w : Nat) (v : Word) : Spares A s (s.setCanWord u w v) := by
  unfold State.setCanWord
  split
  · exact .refl
  · exact .of_rest rfl

theorem canRead_spares (w : Nat) : Spares A s (canRead s u w).1 := by
  unfold canRead
  dsimp only
  split
  · exact .raise .refl
  · exact .refl

/-- A request that ends otherwise than sent shows in its buffer and in events alone (R340). -/
theorem endReq_spares (r : CanReq) {k : Nat} (hk : k ≠ 1) : Spares A s (endReq s u r k) := by
  unfold endReq
  dsimp only
  rw [if_neg hk]
  exact ((canRead_spares _).trans (setCanWord_spares _ _)).modCan.trans (canEvent_spares _ _)

theorem canDone_spares (hu : u < 12) (code : Nat) : Spares BusReg s (canDone s u code) :=
  .put (.wrap (.putB .refl (busReg_canResult hu)) (busReg_canResult hu)) (busReg_canResult hu)

theorem canStop_spares (hu : u < 12) : Spares BusReg s (canStop s u) := by
  have hend : Spares BusReg s (endAll s u 5) := .foldl fun _ r _ => endReq_spares r (by decide)
  unfold canStop
  refine .put (.modCan (hend.trans ?_)) (busReg_canStatus hu)
  split
  · exact canDone_spares hu 1
  · exact .refl

theorem canIntegrate_spares (hu : u < 12) (rejoined : Bool) : Spares BusReg s (canIntegrate s u rejoined) := by
  have hst := busReg_canStatus hu
  unfold canIntegrate
  exact .modCan (.putB (.putB (.put (.put (.put .refl hst) hst) hst) (busReg_canTt hu)) hst)

/-- The acknowledgement of an action without a ticket (R336). -/
theorem canAck_spares (hu : u < 12) (outcome : Nat) (bad : Bool) : Spares BusReg s (canAck s u outcome (some bad) none) := by
  have hack := busReg_canAck hu
  exact .putB (.wrap (.putB (.put .refl hack) hack) hack) hack

theorem addReq_spares (r : CanReq) : Spares A s (addReq s u r) := by
  unfold addReq
  refine .modCan ?_
  split
  · exact .refl
  · exact setCanWord_spares _ _

/-- A request without a ticket is held to none (R230). -/
theorem canTicket_none : canTicket s u none = some (s, none) := rfl

/-- A request without a ticket (R336): it is pending or refused, and acknowledged. -/
theorem txRequest_spares (hu : u < 12) : Spares BusReg s (txRequest s u b none) := by
  unfold txRequest
  split
  · exact canAck_spares hu 3 false
  · rw [canTicket_none]
    dsimp only
    refine Spares.trans ?_ (canAck_spares hu 1 _)
    split
    · split
      · exact .refl
      · exact addReq_spares _
    · split
      · exact canRead_spares _
      · exact (canRead_spares _).trans (addReq_spares _)

theorem t1sEnd_spares (hn : n < 2) (result : Nat) : Spares BusReg s (t1sEnd s n b result) := by
  unfold t1sEnd setT1sPend setT1sWord
  dsimp only
  split
  · exact .event (.put (.modT1s (.modNet .refl)) (busReg_t1sStatus hn))
  · exact .put (.modT1s (.modNet .refl)) (busReg_t1sStatus hn)

theorem t1sDropAll_spares (hn : n < 2) : Spares BusReg s (t1sDropAll s n) := .modT1s (.foldl fun _ _ _ => t1sEnd_spares hn 3)

theorem t1sRestart_spares (hn : n < 2) : Spares BusReg s (t1sRestart s n) := by
  unfold t1sRestart
  exact .modT1s (.put .refl (busReg_t1sStatus hn))

/-! ## Network management (R355 to R362) -/

theorem busSleepHw_spares (hb : b < 22) : Spares BusReg s (busSleepHw s b) := by
  unfold busSleepHw
  split
  next hcan =>
    split
    · exact .refl
    · split
      · exact .modCan .refl
      · exact canStop_spares hcan
  next hcan =>
    split
    next hlin =>
      dsimp only
      split
      · exact .refl
      · exact .modNet (.put .refl (busReg_linStatus (by omega)))
    next hlin =>
      have hst : BusReg (T1S_S_STATUS (b - 20)).addr := busReg_t1sStatus (by omega)
      dsimp only
      split
      · exact .refl
      · exact .putB (.put (t1sDropAll_spares (by omega)) hst) hst

theorem busWakeHw_spares (hb : b < 22) : Spares BusReg s (busWakeHw s b) := by
  unfold busWakeHw
  split
  next hcan =>
    dsimp only
    split
    · exact (Spares.modCan .refl).trans (canIntegrate_spares hcan false)
    · exact .modCan .refl
  next hcan =>
    split
    next hlin =>
      dsimp only
      split
      · exact .put .refl (busReg_linStatus (by omega))
      · exact .refl
    next hlin =>
      dsimp only
      split
      · exact t1sRestart_spares (by omega)
      · exact .refl

theorem setBus_spares (hb : b < 22) (st : Nat) : Spares BusReg s (setBus s b st) := .wr (.put .refl (busReg_state hb)) busReg_awake

theorem keepAliveSend_spares (waking : Bool) : Spares BusReg s (keepAliveSend s b waking) := by
  unfold keepAliveSend
  split
  next hcan =>
    dsimp only
    split
    · exact .refl
    · exact txRequest_spares hcan
  next hcan =>
    split <;> split
    · exact .modNet .refl
    · exact .refl
    · exact .modNet .refl
    · exact .refl

theorem busAwake_spares (hb : b < 22) (own : Bool) : Spares BusReg s (busAwake s b own) := by
  have hset : Spares BusReg s (busTimer ((setBus (busWakeHw s b) b 2).putB (NMG_BUS_STATE_seen b) false) b) :=
    .modNet (.putB ((busWakeHw_spares hb).trans (setBus_spares hb 2)) (busReg_state hb))
  unfold busAwake
  dsimp only
  split
  · exact hset.trans (keepAliveSend_spares true)
  · exact hset.count (busReg_state hb)

theorem busAsleep_spares (hb : b < 22) : Spares BusReg s (busAsleep s b) := (busSleepHw_spares hb).trans (setBus_spares hb 1)

theorem needCheck_spares (hb : b < 22) : Spares BusReg s (needCheck s b) := by
  unfold needCheck
  split
  · exact busAwake_spares hb true
  · exact .refl

/-- A write of pin writes NMG_BUSb_CFG, and what follows from it does not. -/
theorem busPin_spares (hb : b < 22) (pin : Nat) : Spares BusReg (s.put (NMG_BUS_CFG_pin b) pin) (busPin s b pin) := by
  unfold busPin
  dsimp only
  split
  · exact busAsleep_spares hb
  · exact needCheck_spares hb

end

end Sys2Proof.Machine
end

section
/-! What the operations of the timeline's rosters and of the recorder leave alone. -/
namespace Sys2Proof.Machine
open Sys2Proof Reg

/-! ## Rosters (R191 to R195) -/

/-- As `Spares`, but that the timeline engine's own state may change. -/
def TlnSpares (A : Nat → Prop) (s t : State) : Prop := Spares A { s with tln := t.tln } t

section
variable {A B : Nat → Prop} {s t u : State}

theorem Spares.withTln (h : Spares A s t) (x : TlnSt) : Spares A { s with tln := x } { t with tln := x } where
  rd := h.rd
  rest := by rw [h.rest]

theorem Spares.tlnSpares (h : Spares A s t) : TlnSpares A s t := by
  unfold TlnSpares
  rwa [h.tln]

theorem TlnSpares.refl : TlnSpares A s s := Spares.refl

theorem TlnSpares.trans (h : TlnSpares A s t) (h' : TlnSpares A t u) : TlnSpares A s u := (Spares.withTln h u.tln).trans h'

theorem TlnSpares.foldl {α : Type} {l : List α} {f : State → α → State} (h : ∀ u, ∀ x ∈ l, TlnSpares A u (f u x)) : TlnSpares A s (l.foldl f s) :=
  List.foldlRecOn l f (motive := TlnSpares A s) .refl fun _ hu x hx => hu.trans (h _ x hx)

theorem TlnSpares.mono (h : TlnSpares A s t) (hAB : ∀ a, A a → B a) : TlnSpares B s t := Spares.mono h hAB

theorem TlnSpares.rd (h : TlnSpares A s t) {q : Rg} (hq : ¬ A q.addr) : t.rd q = s.rd q := Spares.rd h q hq
theorem TlnSpares.get (h : TlnSpares A s t) {f : Fd} (hf : ¬ A f.r.addr) : t.get f = s.get f := Spares.get h hf
theorem TlnSpares.bit (h : TlnSpares A s t) {f : Fd} (hf : ¬ A f.r.addr) : t.bit f = s.bit f := congrArg (· == 1) (h.get hf)
theorem TlnSpares.out (h : TlnSpares A s t) : t.out = s.out := Spares.out (s := { s with tln := t.tln }) h
theorem TlnSpares.lnk (h : TlnSpares A s t) : t.lnk = s.lnk := Spares.lnk (s := { s with tln := t.tln }) h
theorem TlnSpares.cpu (h : TlnSpares A s t) : t.cpu = s.cpu := Spares.cpu (s := { s with tln := t.tln }) h

theorem TlnSpares.withTln (h : TlnSpares A s t) (x : TlnSt) : TlnSpares A s { t with tln := x } := h.trans Spares.refl
theorem TlnSpares.setRos (h : TlnSpares A s t) {r : Nat} {x : Roster} : TlnSpares A s (t.setRos r x) := h.withTln _
theorem TlnSpares.setItem (h : TlnSpares A s t) {k : Nat} {i : Item} : TlnSpares A s (t.setItem k i) := h.withTln _
theorem TlnSpares.freeSlot (h : TlnSpares A s t) {k : Nat} {st : SlotState} : TlnSpares A s (t.freeSlot k st) := h.withTln _
theorem TlnSpares.addDue (h : TlnSpares A s t) {ds : List Due} : TlnSpares A s (addDue t ds) := h.withTln _

theorem TlnSpares.put (h : TlnSpares A s t) {f : Fd} {n : Nat} (hf : A f.r.addr) : TlnSpares A s (t.put f n) :=
  h.trans (Spares.refl.put hf).tlnSpares
theorem TlnSpares.putB (h : TlnSpares A s t) {f : Fd} {b : Bool} (hf : A f.r.addr) : TlnSpares A s (t.putB f b) := h.put hf

end

section
variable {A : Nat → Prop} {s : State} {r : Nat}

theorem freeLeaving_spares : TlnSpares A s (freeLeaving s r) := by
  unfold freeLeaving
  refine .foldl fun u k _ => ?_
  split
  · exact .refl
  · exact .freeSlot .refl

theorem applyStaged_spares : TlnSpares A s (applyStaged s r) := by
  unfold applyStaged
  exact (TlnSpares.foldl fun _ _ _ => .setItem .refl).trans freeLeaving_spares

theorem settleRoster_spares : TlnSpares A s (settleRoster s r) := by
  unfold settleRoster
  extract_lets x running t v
  have h : TlnSpares A s v := (TlnSpares.setRos .refl).trans freeLeaving_spares
  split
  · exact h.trans applyStaged_spares
  · exact h

/-- The register that holds the enable bit of roster `r`. -/
def RosterCfg (r a : Nat) : Prop := a = (TLN_ROS_CFG r).addr

theorem rosterCfg_self : RosterCfg r (TLN_ROS_CFG r).addr := rfl

theorem rosterEnableFrom_spares (x : Nat) : TlnSpares (RosterCfg r) s (rosterEnableFrom s r x) := by
  unfold rosterEnableFrom
  split
  · exact .refl
  · extract_lets t ros n v a
    have h : TlnSpares (RosterCfg r) s v := .setRos (.putB .refl rosterCfg_self)
    split
    · exact h.addDue
    · exact h

theorem rosterDisable_spares : TlnSpares (RosterCfg r) s (rosterDisable s r) := by
  unfold rosterDisable
  split
  · extract_lets t src v
    have h : TlnSpares (RosterCfg r) s t := .putB .refl rosterCfg_self
    exact (h.withTln _).trans settleRoster_spares
  · exact .refl

theorem bit_putB_rosterEn (b : Bool) : (s.putB (TLN_ROS_CFG_en r) b).bit (TLN_ROS_CFG_en r) = b :=
  s.bit_putB_same _ b (by simp [TLN_ROS_CFG_en]) rfl

/-- The enable bit is what it has been set to, whatever becomes of the engine's own state. -/
theorem TlnSpares.rosterEn {b : Bool} {t : State} (h : TlnSpares (fun _ => False) (s.putB (TLN_ROS_CFG_en r) b) t) : t.bit (TLN_ROS_CFG_en r) = b :=
  (h.bit id).trans (bit_putB_rosterEn b)

theorem rosterEnableFrom_en (x : Nat) : (rosterEnableFrom s r x).bit (TLN_ROS_CFG_en r) = true := by
  unfold rosterEnableFrom
  split
  next h => exact h
  next h =>
    extract_lets t ros n v a
    split
    · exact TlnSpares.rosterEn (.addDue (.setRos .refl))
    · exact TlnSpares.rosterEn (.setRos .refl)

theorem rosterDisable_en : (rosterDisable s r).bit (TLN_ROS_CFG_en r) = false := by
  unfold rosterDisable
  split
  next h => exact TlnSpares.rosterEn ((TlnSpares.withTln .refl _).trans settleRoster_spares)
  next h => exact Bool.eq_false_iff.2 h

/-- The registers of the rosters. -/
def RosterReg (a : Nat) : Prop := 0x40061000 ≤ a ∧ a < 0x40061800

theorem startPeriod_spares (d : Due) (n : Nat) (hr : r < 64) : TlnSpares RosterReg s (startPeriod s d r n) := by
  have hst : RosterReg (TLN_ROS_STATUS r).addr := by simp only [RosterReg, TLN_ROS_STATUS]; omega
  have hmem : RosterReg (TLN_ROS_MEMBERS r).addr := by simp only [RosterReg, TLN_ROS_MEMBERS]; omega
  unfold startPeriod
  extract_lets s1 src s2 ms x f passed now ros s3 s4 cyc s5 s6
  have h2 : TlnSpares RosterReg s s2 := applyStaged_spares.withTln _
  have h4 : TlnSpares RosterReg s s4 := (h2.setRos.put hst).put hmem
  have h5 : TlnSpares RosterReg s s5 := h4.addDue
  refine TlnSpares.trans ?_ settleRoster_spares
  unfold s6
  split
  · exact h5.addDue
  · exact h5

end

/-! ## The recorder (R487 to R492) -/

/-- The registers that a record may write. -/
def RecordReg (a : Nat) : Prop := a = EVR_NEWEST.addr ∨ a = EVR_PAGE.addr ∨ a = EVR_LOST.addr

section
variable {s : State}

theorem putRec_spares (offset code : Nat) (pay : List Byte) : Spares RecordReg s (putRec s offset code pay) := by
  unfold putRec
  exact .modEvr (.wr .refl (.inl rfl))

theorem putPage_spares : Spares RecordReg s (putPage s) := by
  unfold putPage
  have h : Spares RecordReg s (s.wr EVR_PAGE (BitVec.ofNat 32 (nextPage s))) := .wr .refl (.inr (.inl rfl))
  exact h.modEvr.trans (putRec_spares _ _ _)

theorem placeRec_spares (code : Nat) (pay : List Byte) : Spares RecordReg s (placeRec s code pay) := by
  unfold placeRec
  dsimp only
  split
  · exact putPage_spares.trans (putRec_spares _ _ _)
  · exact putRec_spares _ _ _

theorem startFlush_spares (charged : Bool) : Spares RecordReg s (startFlush s charged) := by
  unfold startFlush
  split
  · exact .modEvr .refl
  · split
    · exact .refl
    · exact .modEvr .refl

theorem flushFull_spares : Spares RecordReg s (flushFull s) := by
  unfold flushFull State.iff
  split
  · exact startFlush_spares true
  · exact .refl

theorem refuseRec_spares : Spares RecordReg s (refuseRec s) := by
  have h : Spares RecordReg s ((s.count EVR_LOST_count).modEvr fun e => { e with lost := e.lost + 1 }) := .modEvr (.count .refl (.inr (.inr rfl)))
  unfold refuseRec State.iff
  dsimp only
  split
  · exact h.raise
  · exact h

theorem makeRec_spares (code : Nat) (pay : List Byte) : Spares RecordReg s (makeRec s code pay).1 := by
  unfold makeRec
  dsimp only
  split
  · exact ((placeRec_spares _ _).modEvr.trans (placeRec_spares _ _)).trans flushFull_spares
  · split
    · exact (placeRec_spares _ _).trans flushFull_spares
    · exact refuseRec_spares

/-- A record of a hardware block leaves everything but the recorder alone. -/
theorem blockRec_spares (code : Nat) (pay : List Byte) : Spares RecordReg s (blockRec s code pay) := by
  unfold blockRec
  split
  · exact .modEvr .refl
  · exact makeRec_spares _ _

end

end Sys2Proof.Machine
end

section
/-! What a commit gives the fields of the control die: the access unit, the budget, the tracks, the buses and the rosters (R529, R532). -/
namespace Sys2Proof.Machine
open Sys2Proof Reg

/-! ## Runs over a list of entries -/

section
variable {α β : Type} {f : State → α → State} {g : State → β} {P : State → Prop} {v : β} {x : α} {l : List α} {s : State}

/-- What no step of a run changes is as before the run. -/
theorem foldl_keeps (hP : ∀ s, ∀ y ∈ l, P s → P (f s y)) (hkeep : ∀ s, P s → ∀ y ∈ l, g (f s y) = g s) (hs : P s) : g (l.foldl f s) = g s :=
  (List.foldlRecOn l f (motive := fun t => P t ∧ g t = g s) ⟨hs, rfl⟩ fun t h y hy => ⟨hP t y hy h.1, (hkeep t h.1 y hy).trans h.2⟩).2

/-- What the step of one entry settles, and no other step changes, is settled after the run. -/
theorem foldl_settles (hP : ∀ s, ∀ y ∈ l, P s → P (f s y)) (hset : ∀ s, P s → g (f s x) = v) (hkeep : ∀ s, P s → ∀ y ∈ l, y ≠ x → g (f s y) = g s)
    (hx : x ∈ l) (hs : P s) : g (l.foldl f s) = v := by
  induction l generalizing s with
  | nil => exact absurd hx List.not_mem_nil
  | cons y l ih =>
    have hP' : ∀ s, ∀ z ∈ l, P s → P (f s z) := fun s z hz => hP s z (List.mem_cons_of_mem _ hz)
    have hkeep' : ∀ s, P s → ∀ z ∈ l, z ≠ x → g (f s z) = g s := fun s hs z hz => hkeep s hs z (List.mem_cons_of_mem _ hz)
    have hy : P (f s y) := hP s y List.mem_cons_self hs
    by_cases hl : x ∈ l
    · exact ih hP' hkeep' hl hy
    · obtain rfl : x = y := (List.mem_cons.1 hx).resolve_right hl
      have hkeeps : g (l.foldl f (f s x)) = g (f s x) :=
        foldl_keeps hP' (fun t ht z hz => hkeep' t ht z hz fun e => hl (e ▸ hz)) hy
      exact hkeeps.trans (hset s hs)

/-- The same where the steps need nothing of the state. -/
theorem foldl_settles_always (hset : ∀ s, g (f s x) = v) (hkeep : ∀ s, ∀ y ∈ l, y ≠ x → g (f s y) = g s) (hx : x ∈ l) : g (l.foldl f s) = v :=
  foldl_settles (P := fun _ => True) (fun _ _ _ _ => trivial) (fun s _ => hset s) (fun s _ => hkeep s) hx trivial

end

/-! ## Fields of a descriptor (R529) -/

section
variable (d : List Word) (i : Nat)

/-- An entry of an array of 2-bit values that starts at a word's offset. -/
theorem dtwo_word (k : Nat) : dtwo d (4 * k) i = getBits (d.getD (k + i / 16) 0) (2 * (i % 16) + 1) (2 * (i % 16)) := by
  have h : (4 * k + 4 * (i / 16)) / 4 = k + i / 16 := by omega
  rw [dtwo, dw, h]

/-- An entry of an array of bits that starts at a word's offset. -/
theorem dbit_word (k : Nat) : dbit d (4 * k) i = bitOf (d.getD (k + i / 32) 0) (i % 32) := by
  have h : (4 * k + 4 * (i / 32)) / 4 = k + i / 32 := by omega
  rw [dbit, dw, h]

theorem dtwo_lt (off : Nat) : dtwo d off i < 4 := by
  have h := getBits_lt (dw d (off + 4 * (i / 16))) (2 * (i % 16) + 1) (2 * (i % 16))
  have hw : 2 * (i % 16) + 1 - 2 * (i % 16) + 1 = 2 := by omega
  rwa [hw] at h

end

/-- A byte of a word as a number is the word's eight bits from its place on. -/
theorem toNat_byteOf (w : Word) (i : Nat) : (byteOf w i).toNat = getBits w (8 * i + 7) (8 * i) := by
  have hm : 31 - (8 * i + 7 - 8 * i) = 24 := by omega
  have hall : BitVec.allOnes 32 >>> 24 = 255#32 := by decide
  rw [getBits, hm, hall, BitVec.toNat_and, byteOf, BitVec.toNat_setWidth]
  exact (Nat.and_two_pow_sub_one_eq_mod _ 8).symm

/-! ## Writes of fields -/

section
variable {s : State} {f g : Fd} {n : Nat}

/-- A field reads the number that has been put into it, where it fits. -/
theorem State.get_put_fits (h : f.hi < 32) (hl : f.lo ≤ f.hi) (hn : n < 2 ^ (f.hi - f.lo + 1)) : (s.put f n).get f = n := by
  rw [State.get_put_same _ _ _ h hl, Nat.mod_eq_of_lt hn]

theorem State.bit_put_reg (h : g.r.addr ≠ f.r.addr) : (s.put f n).bit g = s.bit g := congrArg (· == 1) (s.get_put_reg f g n h)

end

/-! ## The access unit, the budget and the tracks -/

/-- The fields of the access unit, and the ceiling of the budget. -/
def setAccess (s : State) (t : Nat) (d : List Word) : State :=
  (((s.putB ACC_CFG_en (probes t d)).put ACC_POLL_amask (getBits (dw d 8) 31 28)).put ACC_POLL_per (getBits (dw d 8) 15 0)).put
    PSW_BUD_CFG_ceiling (getBits (dw d 0x1C) 15 0)

/-- The byte of the descriptor with priority and floor of channel `c`. -/
def budgetByte (d : List Word) (c : Nat) : Nat := getBits (dw d ((0xAC + c) / 4 * 4)) (8 * ((0xAC + c) % 4) + 7) (8 * ((0xAC + c) % 4))

/-- Priority and floor of channel `c`. -/
def setBudget (d : List Word) (s : State) (c : Nat) : State := (s.put (PSW_BUD_prio c) (budgetByte d c / 64)).put (PSW_BUD_floor c) (budgetByte d c % 32)

/-- Track `n` opened or closed. -/
def setTrack (d : List Word) (s : State) (n : Nat) : State := s.putB (LDG_TRK_CFG_open n) (dbit d 0x28 n)

theorem commitFields_eq (s : State) (t : Nat) (d : List Word) :
    commitFields s t d = (List.range 512).foldl (setTrack d) ((List.range 104).foldl (setBudget d) (setAccess s t d)) := rfl

/-- The registers of the tracks. -/
def TrackReg (a : Nat) : Prop := 0x40071000 ≤ a ∧ a < 0x40073000
/-- The registers of the channels' budgets. -/
def BudgetReg (a : Nat) : Prop := 0x40130100 ≤ a ∧ a < 0x401302A0
/-- The registers of the access unit's fields and of the budget's ceiling. -/
def AccessReg (a : Nat) : Prop := a = ACC_CFG.addr ∨ a = ACC_POLL.addr ∨ a = PSW_BUD_CFG.addr
/-- The registers of the control die's fields but those of NMG and the rosters. -/
def FieldReg (a : Nat) : Prop := TrackReg a ∨ BudgetReg a ∨ AccessReg a

section
variable {s : State} {t : Nat} {d : List Word}

theorem setTracks_spares : Spares TrackReg s ((List.range 512).foldl (setTrack d) s) := by
  refine .foldl fun u n hn => .putB .refl ?_
  have hn' : n < 512 := List.mem_range.1 hn
  simp only [TrackReg, LDG_TRK_CFG_open, LDG_TRK_CFG]
  omega

theorem setBudgets_spares : Spares BudgetReg s ((List.range 104).foldl (setBudget d) s) := by
  refine .foldl fun u c hc => ?_
  have hc' : c < 104 := List.mem_range.1 hc
  have h : BudgetReg (PSW_BUD c).addr := by simp only [BudgetReg, PSW_BUD]; omega
  exact .put (.put .refl h) h

theorem setAccess_spares : Spares AccessReg s (setAccess s t d) :=
  .put (.put (.put (.putB .refl (.inl rfl)) (.inr (.inl rfl))) (.inr (.inl rfl))) (.inr (.inr rfl))

theorem commitFields_spares : Spares FieldReg s (commitFields s t d) := by
  rw [commitFields_eq]
  exact ((setAccess_spares.mono fun _ h => .inr (.inr h)).trans (setBudgets_spares.mono fun _ h => .inr (.inl h))).trans
    (setTracks_spares.mono fun _ h => .inl h)

/-- What the tracks and the budget do not hold is as the access unit's fields leave it. -/
theorem commitFields_get_access {f : Fd} (hT : ¬ TrackReg f.r.addr) (hB : ¬ BudgetReg f.r.addr) :
    (commitFields s t d).get f = (setAccess s t d).get f := by
  rw [commitFields_eq, setTracks_spares.get hT, setBudgets_spares.get hB]

theorem commitFields_probing : (commitFields s t d).bit ACC_CFG_en = probes t d := by
  have hget := commitFields_get_access (s := s) (t := t) (d := d) (f := ACC_CFG_en) (by unfold TrackReg; decide) (by unfold BudgetReg; decide)
  have hbit : (commitFields s t d).bit ACC_CFG_en = (setAccess s t d).bit ACC_CFG_en := congrArg (· == 1) hget
  rw [hbit, setAccess, State.bit_put_reg (by decide), State.bit_put_reg (by decide), State.bit_put_reg (by decide),
    State.bit_putB_same _ _ _ (by decide) (by decide)]

theorem commitFields_antennas : (commitFields s t d).get ACC_POLL_amask = getBits (dw d 8) 31 28 := by
  rw [commitFields_get_access (by unfold TrackReg; decide) (by unfold BudgetReg; decide), setAccess, State.get_put_reg _ _ _ _ (by decide),
    State.get_put_fld _ ACC_POLL_per ACC_POLL_amask _ rfl (by decide) (by decide) (by decide) (by decide) (by decide)]
  exact State.get_put_fits (f := ACC_POLL_amask) (by decide) (by decide) (getBits_lt _ 31 28)

theorem commitFields_probePeriod : (commitFields s t d).get ACC_POLL_per = getBits (dw d 8) 15 0 := by
  rw [commitFields_get_access (by unfold TrackReg; decide) (by unfold BudgetReg; decide), setAccess, State.get_put_reg _ _ _ _ (by decide)]
  exact State.get_put_fits (f := ACC_POLL_per) (by decide) (by decide) (getBits_lt _ 15 0)

theorem commitFields_ceiling : (commitFields s t d).get PSW_BUD_CFG_ceiling = getBits (dw d 0x1C) 15 0 := by
  rw [commitFields_get_access (by unfold TrackReg; decide) (by unfold BudgetReg; decide), setAccess]
  exact State.get_put_fits (f := PSW_BUD_CFG_ceiling) (by decide) (by decide) (getBits_lt _ 15 0)

theorem commitFields_track {n : Nat} (hn : n < 512) : (commitFields s t d).bit (LDG_TRK_CFG_open n) = dbit d 0x28 n := by
  rw [commitFields_eq]
  refine foldl_settles_always (g := fun u => u.bit (LDG_TRK_CFG_open n)) (fun u => ?_) (fun u m hm hne => ?_) (List.mem_range.2 hn)
  · exact u.bit_putB_same _ _ (by simp [LDG_TRK_CFG_open]) rfl
  · exact State.bit_put_reg (by simp only [LDG_TRK_CFG_open, LDG_TRK_CFG]; omega)

theorem budgetByte_lt (c : Nat) : budgetByte d c < 256 := by
  have h := getBits_lt (dw d ((0xAC + c) / 4 * 4)) (8 * ((0xAC + c) % 4) + 7) (8 * ((0xAC + c) % 4))
  have hw : 8 * ((0xAC + c) % 4) + 7 - 8 * ((0xAC + c) % 4) + 1 = 8 := by omega
  rwa [hw] at h

/-- The byte as the statements say it. -/
theorem budgetByte_eq (c : Nat) : budgetByte d c = (byteOf (d.getD ((0xAC + c) / 4) 0) (c % 4)).toNat := by
  have hword : (0xAC + c) / 4 * 4 / 4 = (0xAC + c) / 4 := by omega
  have hbyte : (0xAC + c) % 4 = c % 4 := by omega
  rw [budgetByte, dw, hword, hbyte, toNat_byteOf]

/-- The budgets set, a channel has the priority and the floor of its byte. -/
theorem setBudgets_get {c : Nat} (hc : c < 104) :
    ((List.range 104).foldl (setBudget d) s).get (PSW_BUD_prio c) = budgetByte d c / 64 ∧
      ((List.range 104).foldl (setBudget d) s).get (PSW_BUD_floor c) = budgetByte d c % 32 := by
  have hlt := budgetByte_lt (d := d) c
  have hother (u : State) (m : Nat) (hne : m ≠ c) : (setBudget d u m).rd (PSW_BUD c) = u.rd (PSW_BUD c) := by
    have ha : (PSW_BUD c).addr ≠ (PSW_BUD m).addr := by simp only [PSW_BUD]; omega
    rw [setBudget, State.rd_put_other _ _ _ _ ha, State.rd_put_other _ _ _ _ ha]
  constructor
  · refine foldl_settles_always (g := fun u => u.get (PSW_BUD_prio c)) (fun u => ?_) (fun u m _ hne => ?_) (List.mem_range.2 hc)
    · rw [setBudget, State.get_put_fld _ (PSW_BUD_floor c) (PSW_BUD_prio c) _ rfl (by simp [PSW_BUD_floor]) (by simp [PSW_BUD_floor])
        (by simp [PSW_BUD_prio]) (by simp [PSW_BUD_prio]) (by simp [PSW_BUD_prio, PSW_BUD_floor])]
      exact State.get_put_fits (f := PSW_BUD_prio c) (by simp [PSW_BUD_prio]) (by simp [PSW_BUD_prio]) (by simp only [PSW_BUD_prio]; omega)
    · exact congrArg (fun w => getBits w 31 30) (hother u m hne)
  · refine foldl_settles_always (g := fun u => u.get (PSW_BUD_floor c)) (fun u => ?_) (fun u m _ hne => ?_) (List.mem_range.2 hc)
    · exact State.get_put_fits (f := PSW_BUD_floor c) (by simp [PSW_BUD_floor]) (by simp [PSW_BUD_floor]) (by simp only [PSW_BUD_floor]; omega)
    · exact congrArg (fun w => getBits w 28 24) (hother u m hne)

theorem commitFields_budget {c : Nat} (hc : c < 104) :
    (commitFields s t d).get (PSW_BUD_prio c) = budgetByte d c / 64 ∧ (commitFields s t d).get (PSW_BUD_floor c) = budgetByte d c % 32 := by
  have ha : ¬ TrackReg (PSW_BUD c).addr := by simp only [TrackReg, PSW_BUD]; omega
  rw [commitFields_eq, setTracks_spares.get (f := PSW_BUD_prio c) ha, setTracks_spares.get (f := PSW_BUD_floor c) ha]
  exact setBudgets_get hc

end

/-! ## The buses and the rosters -/

/-- The registers that the commit of the buses may write: those of NMG_BUSb_CFG with the ones of `BusReg`. -/
def NetReg (a : Nat) : Prop := 0x40200000 ≤ a ∧ a < 0x403B0000

section
variable {s : State} {d : List Word} {b r : Nat}

theorem busReg_net {a : Nat} (h : BusReg a) : NetReg a := ⟨h.1, h.2.1⟩

theorem busReg_busCfg : ¬ BusReg (NMG_BUS_CFG b).addr := by simp only [BusReg, NMG_BUS_CFG]; omega

/-- One bus as a commit sets it. -/
def setBusFields (d : List Word) (s : State) (b : Nat) : State := busPin (s.putB (NMG_BUS_CFG_wake b) (bitOf (dw d 0x10) b)) b (dtwo d 0x14 b)

theorem commitBuses_eq : commitBuses s d = (List.range 22).foldl (setBusFields d) s := rfl

/-- What a bus's commit sets in its own register and what it leaves of the others is there before the pin acts. -/
theorem setBusFields_rd_cfg (hb : b < 22) (n : Nat) : (setBusFields d s b).rd (NMG_BUS_CFG n) =
    ((s.putB (NMG_BUS_CFG_wake b) (bitOf (dw d 0x10) b)).put (NMG_BUS_CFG_pin b) (dtwo d 0x14 b)).rd (NMG_BUS_CFG n) :=
  (busPin_spares hb _).rd _ busReg_busCfg

theorem commitBuses_spares : Spares NetReg s (commitBuses s d) := by
  refine .foldl fun u b hb => ?_
  have hb' : b < 22 := List.mem_range.1 hb
  have h : NetReg (NMG_BUS_CFG b).addr := by simp only [NetReg, NMG_BUS_CFG]; omega
  exact (Spares.put (.putB .refl h) h).trans ((busPin_spares hb' _).mono fun _ => busReg_net)

theorem setBusFields_other (hb : b < 22) {n : Nat} (hne : b ≠ n) : (setBusFields d s b).rd (NMG_BUS_CFG n) = s.rd (NMG_BUS_CFG n) := by
  have ha : (NMG_BUS_CFG n).addr ≠ (NMG_BUS_CFG b).addr := by simp only [NMG_BUS_CFG]; omega
  rw [setBusFields_rd_cfg hb, State.rd_put_other _ _ _ _ ha, State.rd_putB_other _ _ _ _ ha]

theorem commitBuses_wake (hb : b < 22) : (commitBuses s d).bit (NMG_BUS_CFG_wake b) = bitOf (d.getD 4 0) b := by
  rw [commitBuses_eq]
  refine foldl_settles_always (g := fun u => u.bit (NMG_BUS_CFG_wake b)) (fun u => ?_) (fun u m hm hne => ?_) (List.mem_range.2 hb)
  · have hget : (setBusFields d u b).get (NMG_BUS_CFG_wake b) = (u.putB (NMG_BUS_CFG_wake b) (bitOf (dw d 0x10) b)).get (NMG_BUS_CFG_wake b) := by
      refine (congrArg (fun w => getBits w 27 27) (setBusFields_rd_cfg hb b)).trans ?_
      exact State.get_put_fld _ (NMG_BUS_CFG_pin b) (NMG_BUS_CFG_wake b) _ rfl (by simp [NMG_BUS_CFG_pin]) (by simp [NMG_BUS_CFG_pin])
        (by simp [NMG_BUS_CFG_wake]) (by simp [NMG_BUS_CFG_wake]) (by simp [NMG_BUS_CFG_wake, NMG_BUS_CFG_pin])
    exact (congrArg (· == 1) hget).trans (u.bit_putB_same _ _ (by simp [NMG_BUS_CFG_wake]) rfl)
  · exact congrArg (fun w => getBits w 27 27 == 1) (setBusFields_other (List.mem_range.1 hm) hne)

theorem commitBuses_pin (hb : b < 22) : (commitBuses s d).get (NMG_BUS_CFG_pin b) = dtwo d 0x14 b := by
  rw [commitBuses_eq]
  refine foldl_settles_always (g := fun u => u.get (NMG_BUS_CFG_pin b)) (fun u => ?_) (fun u m hm hne => ?_) (List.mem_range.2 hb)
  · refine (congrArg (fun w => getBits w 29 28) (setBusFields_rd_cfg hb b)).trans ?_
    exact State.get_put_fits (f := NMG_BUS_CFG_pin b) (by simp [NMG_BUS_CFG_pin]) (by simp [NMG_BUS_CFG_pin])
      (by simpa [NMG_BUS_CFG_pin] using dtwo_lt d b 0x14)
  · exact congrArg (fun w => getBits w 29 28) (setBusFields_other (List.mem_range.1 hm) hne)

/-- One roster as a commit sets it. -/
def setRoster (d : List Word) (boundary : Option Nat) (s : State) (r : Nat) : State :=
  if dbit d 0x20 r then rosterEnableFrom s r (judgedFrom s (rosAxis s r) boundary) else rosterDisable s r

theorem commitRosters_eq (boundary : Option Nat) : commitRosters s d boundary = ((List.range 63).map (· + 1)).foldl (setRoster d boundary) s := rfl

theorem setRoster_spares (boundary : Option Nat) : TlnSpares (RosterCfg r) s (setRoster d boundary s r) := by
  unfold setRoster
  split
  · exact rosterEnableFrom_spares _
  · exact rosterDisable_spares

theorem setRoster_en (boundary : Option Nat) : (setRoster d boundary s r).bit (TLN_ROS_CFG_en r) = dbit d 0x20 r := by
  unfold setRoster
  split
  next h => rw [rosterEnableFrom_en, h]
  next h => rw [rosterDisable_en, Bool.eq_false_iff.2 h]

theorem mem_rosters : r ∈ (List.range 63).map (· + 1) ↔ 1 ≤ r ∧ r < 64 := by
  simp only [List.mem_map, List.mem_range]
  constructor
  · rintro ⟨k, hk, rfl⟩
    omega
  · rintro ⟨h1, h64⟩
    exact ⟨r - 1, by omega, by omega⟩

theorem commitRosters_spares (boundary : Option Nat) : TlnSpares RosterReg s (commitRosters s d boundary) := by
  refine .foldl fun u r hr => ?_
  have hr' := mem_rosters.1 hr
  refine (setRoster_spares boundary).mono fun a ha => ?_
  obtain rfl : a = (TLN_ROS_CFG r).addr := ha
  simp only [RosterReg, TLN_ROS_CFG]
  omega

theorem commitRosters_en (boundary : Option Nat) (h1 : 1 ≤ r) (h64 : r < 64) : (commitRosters s d boundary).bit (TLN_ROS_CFG_en r) = dbit d 0x20 r := by
  rw [commitRosters_eq]
  refine foldl_settles_always (g := fun u => u.bit (TLN_ROS_CFG_en r)) (fun u => setRoster_en boundary) (fun u m _ hne => ?_) (mem_rosters.2 ⟨h1, h64⟩)
  refine (setRoster_spares boundary).bit ?_
  simp only [RosterCfg, TLN_ROS_CFG_en, TLN_ROS_CFG]
  omega

end

end Sys2Proof.Machine
end

section
/-! The frames of a commit: what each gives its power die, and what of the other die and of the frames behind it stays (R532). -/
namespace Sys2Proof.Machine
open Sys2Proof Reg

/-! ## The fields of a power die (R529) -/

/-- The registers of the fields of power die `e`. -/
def DieReg (e a : Nat) : Prop := e < 2 ∧ (a = (PSW_DIE_CFG e).addr ∨ (∃ c, c < 104 ∧ dieOf c = e ∧ a = (PSW_CH_SAFE c).addr) ∨
  (∃ k, k < 48 ∧ k / 24 = e ∧ a = (LED_K_CFG k).addr) ∨ a = (LED_M_CFG e).addr)

section
variable {a e x c : Nat}

theorem dieReg_hold (he : e < 2) : DieReg e (PSW_DIE_CFG e).addr := ⟨he, .inl rfl⟩
theorem dieReg_chan (he : e < 2) (hc : c < 104) (h : dieOf c = e) : DieReg e (PSW_CH_SAFE c).addr := ⟨he, .inr (.inl ⟨c, hc, h, rfl⟩)⟩
theorem dieReg_sink (he : e < 2) {k : Nat} (hk : k < 48) (h : k / 24 = e) : DieReg e (LED_K_CFG k).addr := ⟨he, .inr (.inr (.inl ⟨k, hk, h, rfl⟩))⟩
theorem dieReg_port (he : e < 2) : DieReg e (LED_M_CFG e).addr := ⟨he, .inr (.inr (.inr rfl))⟩

theorem dieOf_lt (hc : c < 104) : dieOf c < 2 := by
  unfold dieOf stageOnDie
  split_ifs <;> omega

/-- Where the registers of the power dies' fields lie. -/
theorem DieReg.range (h : DieReg e a) : (0x40100000 ≤ a ∧ a < 0x40120000 ∧ a % 0x100 = 0x20) ∨ (0x40120000 ≤ a ∧ a < 0x40122000 ∧ a % 0x1000 = 4) ∨
    (0x40140000 ≤ a ∧ a < 0x40142000) := by
  obtain ⟨he, rfl | ⟨c, hc, -, rfl⟩ | ⟨k, hk, -, rfl⟩ | rfl⟩ := h
  · simp only [PSW_DIE_CFG]; omega
  · simp only [PSW_CH_SAFE]; omega
  · simp only [LED_K_CFG]; omega
  · simp only [LED_M_CFG]; omega

/-- The registers of one die's fields are not those of the other's. -/
theorem DieReg.unique (h : DieReg e a) (h' : DieReg x a) : e = x := by
  obtain ⟨he, h⟩ := h
  obtain ⟨hx, h'⟩ := h'
  obtain h | ⟨c, hc, hce, h⟩ | ⟨k, hk, hke, h⟩ | h := h <;> obtain h' | ⟨c', hc', hce', h'⟩ | ⟨k', hk', hke', h'⟩ | h' := h' <;>
    simp only [PSW_DIE_CFG, PSW_CH_SAFE, LED_K_CFG, LED_M_CFG] at h h'
  case inr.inl.inr.inl =>
    obtain rfl : c = c' := by omega
    exact hce.symm.trans hce'
  all_goals omega

theorem not_dieReg_par (hx : x < 2) : ¬ DieReg e (PSW_DIE_PAR x).addr := by
  intro h
  have hr := h.range
  simp only [PSW_DIE_PAR] at hr
  omega

end

/-! ## What a die applies -/

section
variable {s t : State} {d : List Word} {e c k : Nat}

theorem isFollower_congr (h : t.rd (PSW_DIE_PAR (dieOf c)) = s.rd (PSW_DIE_PAR (dieOf c))) : isFollower t c = isFollower s c := by
  unfold isFollower leadOf membersOf parOf
  rw [h]

/-- The class of a channel, but of a follower's. -/
def setChanClass (d : List Word) (s : State) (c : Nat) : State := if isFollower s c then s else s.put (PSW_CH_SAFE_class c) (dtwo d 0x68 c)
/-- The class of a sink. -/
def setSinkClass (d : List Word) (s : State) (k : Nat) : State := s.put (LED_K_CFG_class k) (dtwo d 0x84 k)
/-- The sinks of a die. -/
def dieSinks (e : Nat) : List Nat := (List.range 48).filter fun k => sinkDie k == e
/-- The hold window that a descriptor gives a die. -/
def holdOf (d : List Word) (e : Nat) : Nat := if e = 0 then getBits (dw d 0xC) 9 0 else getBits (dw d 0xC) 25 16

theorem commitDie_eq : commitDie s e d = ((dieSinks e).foldl (setSinkClass d) ((dieChans e).foldl (setChanClass d)
    (s.put (PSW_DIE_CFG_hold e) (holdOf d e)))).put (LED_M_CFG_class e) (getBits (dw d 0x90) (2 * e + 1) (2 * e)) := rfl

theorem mem_dieChans : c ∈ dieChans e ↔ c < 104 ∧ dieOf c = e := by simp [dieChans]
theorem mem_dieSinks : k ∈ dieSinks e ↔ k < 48 ∧ k / 24 = e := by simp [dieSinks, sinkDie]

theorem setChanClass_spares {A : Nat → Prop} (hA : A (PSW_CH_SAFE c).addr) : Spares A s (setChanClass d s c) := by
  unfold setChanClass
  split
  · exact .refl
  · exact .put .refl hA

theorem setChans_spares {A : Nat → Prop} (hA : ∀ c, c < 104 → dieOf c = e → A (PSW_CH_SAFE c).addr) : Spares A s ((dieChans e).foldl (setChanClass d) s) :=
  .foldl fun _ c hc => setChanClass_spares (hA c (mem_dieChans.1 hc).1 (mem_dieChans.1 hc).2)

theorem setSinks_spares {A : Nat → Prop} (hA : ∀ k, k < 48 → k / 24 = e → A (LED_K_CFG k).addr) : Spares A s ((dieSinks e).foldl (setSinkClass d) s) :=
  .foldl fun _ k hk => .put .refl (hA k (mem_dieSinks.1 hk).1 (mem_dieSinks.1 hk).2)

theorem commitDie_spares (he : e < 2) : Spares (DieReg e) s (commitDie s e d) := by
  have hhold : Spares (DieReg e) s (s.put (PSW_DIE_CFG_hold e) (holdOf d e)) := .put .refl (dieReg_hold he)
  rw [commitDie_eq]
  exact .put ((hhold.trans (setChans_spares fun _ => dieReg_chan he)).trans (setSinks_spares fun _ => dieReg_sink he)) (dieReg_port he)

theorem holdOf_lt : holdOf d e < 1024 := by
  unfold holdOf
  split
  · exact getBits_lt _ 9 0
  · exact getBits_lt _ 25 16

/-- What the classes of sinks and port do not hold is as the hold window and the channels' classes leave it. -/
theorem commitDie_rd_eq {q : Rg} (hq : q.addr < 0x40140000) :
    (commitDie s e d).rd q = ((dieChans e).foldl (setChanClass d) (s.put (PSW_DIE_CFG_hold e) (holdOf d e))).rd q := by
  have hport : q.addr ≠ (LED_M_CFG_class e).r.addr := by simp only [LED_M_CFG_class, LED_M_CFG]; omega
  have hsink : ∀ k, k < 48 → k / 24 = e → q.addr ≠ (LED_K_CFG k).addr := fun k _ _ => by simp only [LED_K_CFG]; omega
  rw [commitDie_eq, State.rd_put_other _ _ _ _ hport]
  exact (setSinks_spares hsink).rd q fun h => h rfl

theorem commitDie_hold (he : e < 2) : (commitDie s e d).get (PSW_DIE_CFG_hold e) = holdOf d e := by
  have hq : (PSW_DIE_CFG e).addr < 0x40140000 := by simp only [PSW_DIE_CFG]; omega
  have hchan : ∀ c, c < 104 → dieOf c = e → (PSW_DIE_CFG e).addr ≠ (PSW_CH_SAFE c).addr := fun c hc _ => by simp only [PSW_CH_SAFE, PSW_DIE_CFG]; omega
  have hrd : (commitDie s e d).rd (PSW_DIE_CFG e) = (s.put (PSW_DIE_CFG_hold e) (holdOf d e)).rd (PSW_DIE_CFG e) :=
    (commitDie_rd_eq hq).trans ((setChans_spares hchan).rd _ fun h => h rfl)
  exact (congrArg (fun w => getBits w 9 0) hrd).trans
    (State.get_put_fits (f := PSW_DIE_CFG_hold e) (by simp [PSW_DIE_CFG_hold]) (by simp [PSW_DIE_CFG_hold]) holdOf_lt)

theorem commitDie_chanClass (hc : c < 104) (h : dieOf c = e) :
    (commitDie s e d).get (PSW_CH_SAFE_class c) = if isFollower s c then s.get (PSW_CH_SAFE_class c) else dtwo d 0x68 c := by
  have hq : (PSW_CH_SAFE c).addr < 0x40140000 := by simp only [PSW_CH_SAFE]; omega
  have hhold : (PSW_CH_SAFE c).addr ≠ (PSW_DIE_CFG e).addr := by simp only [PSW_CH_SAFE, PSW_DIE_CFG]; omega
  have hpar : (PSW_DIE_PAR (dieOf c)).addr ≠ (PSW_DIE_CFG e).addr := by simp only [PSW_DIE_PAR, PSW_DIE_CFG]; omega
  have hstep (u : State) (y : Nat) (hy : y ∈ dieChans e) (hu : isFollower u c = isFollower s c) : isFollower (setChanClass d u y) c = isFollower s c := by
    have hne : (PSW_DIE_PAR (dieOf c)).addr ≠ (PSW_CH_SAFE y).addr := by
      have hy' := (mem_dieChans.1 hy).1
      simp only [PSW_DIE_PAR, PSW_CH_SAFE]
      omega
    exact (isFollower_congr ((setChanClass_spares hne).rd _ fun h => h rfl)).trans hu
  have hother (u : State) (y : Nat) (hne : y ≠ c) : (setChanClass d u y).get (PSW_CH_SAFE_class c) = u.get (PSW_CH_SAFE_class c) := by
    have ha : (PSW_CH_SAFE c).addr ≠ (PSW_CH_SAFE y).addr := by simp only [PSW_CH_SAFE]; omega
    exact (setChanClass_spares ha).get fun h => h rfl
  have hbase : isFollower (s.put (PSW_DIE_CFG_hold e) (holdOf d e)) c = isFollower s c := isFollower_congr (s.rd_put_other _ _ _ hpar)
  refine (congrArg (fun w => getBits w 1 0) (commitDie_rd_eq hq)).trans ?_
  split
  next hf =>
    refine Eq.trans (foldl_keeps (g := fun u => u.get (PSW_CH_SAFE_class c)) hstep (fun u hu y _ => ?_) hbase) (s.get_put_reg _ _ _ hhold)
    by_cases hy : y = c
    · rw [hy, setChanClass, if_pos (hu.trans hf)]
    · exact hother u y hy
  next hf =>
    refine foldl_settles (g := fun u => u.get (PSW_CH_SAFE_class c)) hstep (fun u hu => ?_) (fun u _ y _ hne => hother u y hne) (mem_dieChans.2 ⟨hc, h⟩) hbase
    rw [setChanClass, if_neg (hu ▸ hf)]
    exact State.get_put_fits (f := PSW_CH_SAFE_class c) (by simp [PSW_CH_SAFE_class]) (by simp [PSW_CH_SAFE_class])
      (by simpa [PSW_CH_SAFE_class] using dtwo_lt d c 0x68)

theorem commitDie_sinkClass (hk : k < 48) (h : k / 24 = e) : (commitDie s e d).get (LED_K_CFG_class k) = dtwo d 0x84 k := by
  have hport : (LED_K_CFG k).addr ≠ (LED_M_CFG e).addr := by simp only [LED_K_CFG, LED_M_CFG]; omega
  rw [commitDie_eq, State.get_put_reg _ (LED_M_CFG_class e) (LED_K_CFG_class k) _ hport]
  refine foldl_settles_always (g := fun u => u.get (LED_K_CFG_class k)) (fun u => ?_) (fun u y _ hne => ?_) (mem_dieSinks.2 ⟨hk, h⟩)
  · exact State.get_put_fits (f := LED_K_CFG_class k) (by simp [LED_K_CFG_class]) (by simp [LED_K_CFG_class])
      (by simpa [LED_K_CFG_class] using dtwo_lt d k 0x84)
  · have ha : (LED_K_CFG k).addr ≠ (LED_K_CFG y).addr := by simp only [LED_K_CFG]; omega
    exact u.get_put_reg (LED_K_CFG_class y) (LED_K_CFG_class k) _ ha

theorem commitDie_portClass : (commitDie s e d).get (LED_M_CFG_class e) = getBits (dw d 0x90) (2 * e + 1) (2 * e) := by
  have hlt := getBits_lt (dw d 0x90) (2 * e + 1) (2 * e)
  have hw : 2 * e + 1 - 2 * e + 1 = 2 := by omega
  rw [hw] at hlt
  exact State.get_put_fits (f := LED_M_CFG_class e) (by simp [LED_M_CFG_class]) (by simp [LED_M_CFG_class]) hlt

end

/-! ## The directions of the die links (R16, R17) -/

/-- A direction whose waiting frames have entered it as far as there is room. -/
def LinkDir.filled (x : LinkDir) (may : FrameBody → Bool) : LinkDir :=
  let (go, keep) := departs may (8 - x.unacked.length) x.waiting
  go.foldl LinkDir.push { x with waiting := keep }

/-- Two states in which frames may go to the power dies alike. -/
structure SameFeed (s t : State) : Prop where
  links : t.rd SYS_LINK_STATUS = s.rd SYS_LINK_STATUS
  fault : t.rd FLT_STATUS = s.rd FLT_STATUS
  psw : t.psw = s.psw
  upd : t.upd = s.upd
  bist : t.bist = s.bist

section
variable {s t u : State} {d e : Nat} {up up' : Bool}

theorem SameFeed.refl : SameFeed s s := ⟨rfl, rfl, rfl, rfl, rfl⟩

theorem SameFeed.trans (h : SameFeed s t) (h' : SameFeed t u) : SameFeed s u :=
  ⟨h'.links.trans h.links, h'.fault.trans h.fault, h'.psw.trans h.psw, h'.upd.trans h.upd, h'.bist.trans h.bist⟩

theorem Spares.sameFeed {A : Nat → Prop} (h : Spares A s t) (hl : ¬ A SYS_LINK_STATUS.addr) (hf : ¬ A FLT_STATUS.addr) : SameFeed s t :=
  ⟨h.rd _ hl, h.rd _ hf, h.psw, h.upd, h.bist⟩

theorem SameFeed.dieReached (h : SameFeed s t) (d : Nat) : dieReached t d = dieReached s d := by
  unfold Machine.dieReached State.die
  rw [h.psw]

theorem SameFeed.dieFed (h : SameFeed s t) (d : Nat) : dieFed t d = dieFed s d := by
  unfold Machine.dieFed dieLinked linkState idleOnly State.get FLT_STATUS_mode
  rw [h.links, h.fault, h.upd, h.bist]

theorem SameFeed.mayGo (h : SameFeed s t) (d : Nat) (up : Bool) : mayGo t d up = mayGo s d up := by
  funext b
  unfold Machine.mayGo
  rw [h.dieFed]
  unfold dieLinked linkState idleOnly
  rw [h.links, h.upd, h.bist]

theorem SameFeed.linkClear (h : SameFeed s t) (hd : ∀ up, t.dir d up = s.dir d up) : linkClear t d = linkClear s d := by
  unfold Machine.linkClear
  rw [h.dieFed, hd, hd]

@[simp] theorem State.dir_setDir_same (x : LinkDir) : (s.setDir d up x).dir d up = x := SMap.get_set_same _ _ _ _

/-- The other direction of the die, and the directions of the other die, stay. -/
theorem State.dir_setDir_other (x : LinkDir) (h : e ≠ d ∨ up' ≠ up) : (s.setDir d up x).dir e up' = s.dir e up' := by
  refine SMap.get_set_other _ _ _ _ _ _ ?_
  cases up <;> cases up' <;> simp only [b2n] <;> simp at h ⊢ <;> omega

theorem fillDir_eq : fillDir s d up = s.setDir d up ((s.dir d up).filled (mayGo s d up)) := rfl

/-- A frame that is handed to a direction stands behind what waits. -/
theorem queueFrame_dir_same (b : FrameBody) :
    (queueFrame s d up b).dir d up = LinkDir.filled { s.dir d up with waiting := (s.dir d up).waiting ++ [b] } (mayGo s d up) := by
  unfold queueFrame
  rw [fillDir_eq, State.dir_setDir_same, State.dir_setDir_same]
  rfl

theorem queueFrame_dir_other (b : FrameBody) (h : e ≠ d) : (queueFrame s d up b).dir e up' = s.dir e up' := by
  unfold queueFrame
  rw [fillDir_eq, State.dir_setDir_other _ (.inl h), State.dir_setDir_other _ (.inl h)]

theorem exchange_dir_other (h : e ≠ d) : (exchange s d).dir e up' = s.dir e up' := by
  unfold exchange
  rw [State.dir_setDir_other _ (.inl h), State.dir_setDir_other _ (.inl h)]

end

end Sys2Proof.Machine
end

section
/-! The commit frames of both dies together (R532). -/
namespace Sys2Proof.Machine
open Sys2Proof Reg

/-! ## A frame ahead of every other -/

/-- Whether a frame passes to a die and is acknowledged at once. -/
def passes (s : State) (e : Nat) : Bool := dieReached s e && linkClear s e

section
variable {s : State} {e : Nat}

theorem viaDieFirst_of_passes (h : passes s e = true) (b : FrameBody) (f : State → State) : viaDieFirst s e b f = exchange (f s) e := by
  obtain ⟨hr, hc⟩ := Bool.and_eq_true_iff.1 h
  simp [viaDieFirst, hr, hc]

/-- A frame that does not pass at once stands before what waits, or is ignored. -/
theorem viaDieFirst_of_not_passes (h : passes s e = false) (b : FrameBody) (f : State → State) : viaDieFirst s e b f =
    if dieReached s e then fillDir (s.setDir e false { s.dir e false with waiting := b :: (s.dir e false).waiting }) e false else s := by
  unfold viaDieFirst
  cases hr : dieReached s e with
  | false => rfl
  | true =>
    have hc : linkClear s e = false := by simpa [passes, hr] using h
    simp [hc]

theorem viaDieFirst_dir_of_queued (hr : dieReached s e = true) (hc : linkClear s e = false) (b : FrameBody) (f : State → State) :
    (viaDieFirst s e b f).dir e false = LinkDir.filled { s.dir e false with waiting := b :: (s.dir e false).waiting } (mayGo s e false) := by
  rw [viaDieFirst_of_not_passes (by simp [passes, hc]), if_pos hr, fillDir_eq, State.dir_setDir_same, State.dir_setDir_same]
  rfl

end

/-! ## One commit frame -/

/-- The commit frame of die `e`. -/
def dieCommit (s : State) (e : Nat) : State := viaDieFirst s e .commit fun s => applyStaging s e

theorem commitFrames_eq (s : State) : commitFrames s = dieCommit (dieCommit s 0) 1 := rfl

/-- What concerns the other die, and all that decides whether frames may go, is the same in `t` as in `s`; of the registers the fields of die `e` alone
may differ. -/
structure BesideDie (e : Nat) (s t : State) : Prop where
  feed : SameFeed s t
  rd : ∀ q : Rg, ¬ DieReg e q.addr → t.rd q = s.rd q
  cpu : t.cpu = s.cpu
  staged : ∀ x, x ≠ e → t.out.onDie.find x = s.out.onDie.find x
  dir : ∀ x, x ≠ e → ∀ up, t.dir x up = s.dir x up

section
variable {s t u : State} {d : List Word} {e : Nat}

theorem BesideDie.refl : BesideDie e s s := ⟨.refl, fun _ _ => rfl, rfl, fun _ _ => rfl, fun _ _ _ => rfl⟩

theorem BesideDie.trans (h : BesideDie e s t) (h' : BesideDie e t u) : BesideDie e s u where
  feed := h.feed.trans h'.feed
  rd q hq := (h'.rd q hq).trans (h.rd q hq)
  cpu := h'.cpu.trans h.cpu
  staged x hx := (h'.staged x hx).trans (h.staged x hx)
  dir x hx up := (h'.dir x hx up).trans (h.dir x hx up)

theorem Spares.besideDie (h : Spares (DieReg e) s t) : BesideDie e s t where
  feed := by
    have out (a : Nat) (ha : a < 0x40100000) : ¬ DieReg e a := fun hd => by
      have hr := hd.range
      omega
    exact h.sameFeed (out _ (by decide)) (out _ (by decide))
  rd := h.rd
  cpu := h.cpu
  staged x _ := by rw [h.out]
  dir x _ up := by
    unfold State.dir
    rw [h.lnk]

theorem besideDie_setDir (up : Bool) (x : LinkDir) : BesideDie e s (s.setDir e up x) :=
  ⟨⟨rfl, rfl, rfl, rfl, rfl⟩, fun _ _ => rfl, rfl, fun _ _ => rfl, fun _ hy _ => State.dir_setDir_other _ (.inl hy)⟩

theorem applyStaging_some (h : s.out.onDie.find e = some d) :
    applyStaging s e = (commitDie s e d).modOut fun o => { o with onDie := o.onDie.erase e } := by
  rw [applyStaging, h]

theorem applyStaging_beside (he : e < 2) : BesideDie e s (applyStaging s e) := by
  cases h : s.out.onDie.find e with
  | none =>
    rw [applyStaging, h]
    exact .refl
  | some d =>
    rw [applyStaging_some h]
    exact (commitDie_spares he).besideDie.trans
      ⟨⟨rfl, rfl, rfl, rfl, rfl⟩, fun _ _ => rfl, rfl, fun _ hx => SMap.find_erase_other _ _ _ hx, fun _ _ _ => rfl⟩

theorem dieCommit_beside (he : e < 2) : BesideDie e s (dieCommit s e) := by
  unfold dieCommit
  cases h : passes s e with
  | true =>
    rw [viaDieFirst_of_passes h]
    exact ((applyStaging_beside he).trans (besideDie_setDir _ _)).trans (besideDie_setDir _ _)
  | false =>
    rw [viaDieFirst_of_not_passes h]
    split
    · exact (besideDie_setDir _ _).trans (besideDie_setDir _ _)
    · exact .refl

/-- What a die has staged is gone once its commit frame has passed. -/
theorem dieCommit_staged_of_passes (h : passes s e = true) (hd : s.out.onDie.find e = some d) : (dieCommit s e).out.onDie.find e = none := by
  rw [dieCommit, viaDieFirst_of_passes h, applyStaging_some hd]
  exact SMap.find_erase_same _ _

theorem dieCommit_rd_of_passes (h : passes s e = true) (hd : s.out.onDie.find e = some d) (q : Rg) : (dieCommit s e).rd q = (commitDie s e d).rd q := by
  rw [dieCommit, viaDieFirst_of_passes h, applyStaging_some hd]
  rfl

/-- A commit frame that does not pass leaves the fields and what is staged alone. -/
theorem dieCommit_of_not_passes (h : passes s e = false) : (dieCommit s e).regs = s.regs ∧ (dieCommit s e).out = s.out := by
  rw [dieCommit, viaDieFirst_of_not_passes h]
  split <;> exact ⟨rfl, rfl⟩

end

/-! ## Both commit frames -/

/-- The traffic with power die `e`, and what it has staged, are the same in both states. -/
structure SameTraffic (e : Nat) (s t : State) : Prop where
  feed : SameFeed s t
  dir : ∀ up, t.dir e up = s.dir e up
  staged : t.out.onDie.find e = s.out.onDie.find e

/-- What concerns power die `e` is the same in both states: the traffic with it, what it has staged, and every register but the fields of the
other die. -/
structure AtDie (e : Nat) (s t : State) : Prop extends SameTraffic e s t where
  rd : ∀ q : Rg, (∀ x, x ≠ e → ¬ DieReg x q.addr) → t.rd q = s.rd q

section
variable {s t u : State} {d : List Word} {e x c k : Nat}

theorem AtDie.refl : AtDie e s s := ⟨⟨.refl, fun _ => rfl, rfl⟩, fun _ _ => rfl⟩

theorem SameTraffic.dieReached (h : SameTraffic e s t) : dieReached t e = dieReached s e := h.feed.dieReached e
theorem SameTraffic.linkClear (h : SameTraffic e s t) : linkClear t e = linkClear s e := h.feed.linkClear h.dir

theorem SameTraffic.passes (h : SameTraffic e s t) : passes t e = passes s e := by
  unfold Machine.passes
  rw [h.dieReached, h.linkClear]

theorem BesideDie.atDie (h : BesideDie x s t) (hx : e ≠ x) : AtDie e s t :=
  ⟨⟨h.feed, h.dir e hx, h.staged e hx⟩, fun q hq => h.rd q (hq x hx.symm)⟩

/-- A field of one die is none of the other's. -/
theorem AtDie.rd_dieReg (h : AtDie e s t) {q : Rg} (hq : DieReg e q.addr) : t.rd q = s.rd q := h.rd q fun _ hx hd => hx (hd.unique hq)

/-- What both commit frames do to die `e` is what its own does in a state that agrees with the first on the die. -/
theorem commitFrames_atDie (s : State) (he : e < 2) : ∃ u, AtDie e s u ∧ AtDie e (dieCommit u e) (commitFrames s) := by
  rw [commitFrames_eq]
  obtain rfl | rfl : e = 0 ∨ e = 1 := by omega
  · exact ⟨s, .refl, (dieCommit_beside (by decide)).atDie (by decide)⟩
  · exact ⟨dieCommit s 0, (dieCommit_beside (by decide)).atDie (by decide), .refl⟩

/-- Both commit frames leave every register but the fields of the dies alone. -/
theorem commitFrames_rd {q : Rg} (h0 : ¬ DieReg 0 q.addr) (h1 : ¬ DieReg 1 q.addr) : (commitFrames s).rd q = s.rd q :=
  ((dieCommit_beside (by decide)).rd q h1).trans ((dieCommit_beside (by decide)).rd q h0)

theorem commitFrames_cpu : (commitFrames s).cpu = s.cpu := (dieCommit_beside (by decide)).cpu.trans (dieCommit_beside (by decide)).cpu

/-- A die whose commit frame passes has given up what it had staged, and its fields read as it has applied it. -/
theorem commitFrames_of_passes (he : e < 2) (h : passes s e = true) (hd : s.out.onDie.find e = some d) :
    (commitFrames s).out.onDie.find e = none ∧ ∃ u, AtDie e s u ∧ ∀ q : Rg, DieReg e q.addr → (commitFrames s).rd q = (commitDie u e d).rd q := by
  obtain ⟨u, hu, ht⟩ := commitFrames_atDie s he
  have hp : passes u e = true := hu.passes.trans h
  have hd' : u.out.onDie.find e = some d := hu.staged.trans hd
  exact ⟨ht.staged.trans (dieCommit_staged_of_passes hp hd'), u, hu, fun q hq => (ht.rd_dieReg hq).trans (dieCommit_rd_of_passes hp hd' q)⟩

/-- A die whose commit frame does not pass keeps its fields and what it has staged. -/
theorem commitFrames_of_not_passes (he : e < 2) (h : passes s e = false) :
    (commitFrames s).out.onDie.find e = s.out.onDie.find e ∧ ∀ q : Rg, DieReg e q.addr → (commitFrames s).rd q = s.rd q := by
  obtain ⟨u, hu, ht⟩ := commitFrames_atDie s he
  obtain ⟨hregs, hout⟩ := dieCommit_of_not_passes (hu.passes.trans h)
  refine ⟨ht.staged.trans ((congrArg (fun o => o.onDie.find e) hout).trans hu.staged), fun q hq => ?_⟩
  have hrd : (dieCommit u e).rd q = u.rd q := by
    unfold State.rd
    rw [hregs]
  exact (ht.rd_dieReg hq).trans (hrd.trans (hu.rd_dieReg hq))

/-- A commit frame that waits stands before all others that do. -/
theorem commitFrames_dir_of_queued (he : e < 2) (hr : dieReached s e = true) (hc : linkClear s e = false) :
    (commitFrames s).dir e false = (viaDieFirst s e .commit id).dir e false := by
  obtain ⟨u, hu, ht⟩ := commitFrames_atDie s he
  have hr' : dieReached u e = true := hu.dieReached.trans hr
  have hc' : linkClear u e = false := hu.linkClear.trans hc
  rw [ht.dir, dieCommit, viaDieFirst_dir_of_queued hr' hc', viaDieFirst_dir_of_queued hr hc, hu.dir, hu.feed.mayGo]

theorem commitFrames_hold (he : e < 2) (h : passes s e = true) (hd : s.out.onDie.find e = some d) :
    (commitFrames s).get (PSW_DIE_CFG_hold e) = holdOf d e := by
  obtain ⟨-, u, hu, hrd⟩ := commitFrames_of_passes he h hd
  exact (congrArg (fun w => getBits w 9 0) (hrd _ (dieReg_hold he))).trans (commitDie_hold he)

theorem commitFrames_portClass (he : e < 2) (h : passes s e = true) (hd : s.out.onDie.find e = some d) :
    (commitFrames s).get (LED_M_CFG_class e) = getBits (dw d 0x90) (2 * e + 1) (2 * e) := by
  obtain ⟨-, u, hu, hrd⟩ := commitFrames_of_passes he h hd
  exact (congrArg (fun w => getBits w 1 0) (hrd _ (dieReg_port he))).trans commitDie_portClass

theorem commitFrames_sinkClass (hk : k < 48) (h : passes s (k / 24) = true) (hd : s.out.onDie.find (k / 24) = some d) :
    (commitFrames s).get (LED_K_CFG_class k) = dtwo d 0x84 k := by
  have he : k / 24 < 2 := by omega
  obtain ⟨-, u, hu, hrd⟩ := commitFrames_of_passes he h hd
  exact (congrArg (fun w => getBits w 1 0) (hrd _ (dieReg_sink he hk rfl))).trans (commitDie_sinkClass hk rfl)

theorem commitFrames_chanClass (hc : c < 104) (h : passes s (dieOf c) = true) (hd : s.out.onDie.find (dieOf c) = some d) :
    (commitFrames s).get (PSW_CH_SAFE_class c) = if isFollower s c then s.get (PSW_CH_SAFE_class c) else dtwo d 0x68 c := by
  have he := dieOf_lt hc
  obtain ⟨-, u, hu, hrd⟩ := commitFrames_of_passes he h hd
  have hown : DieReg (dieOf c) (PSW_CH_SAFE c).addr := dieReg_chan he hc rfl
  have hf : isFollower u c = isFollower s c := isFollower_congr (hu.rd _ fun x _ => not_dieReg_par he)
  have hclass : u.get (PSW_CH_SAFE_class c) = s.get (PSW_CH_SAFE_class c) := congrArg (fun w => getBits w 1 0) (hu.rd_dieReg hown)
  refine (congrArg (fun w => getBits w 1 0) (hrd _ hown)).trans ?_
  rw [← hf, ← hclass]
  exact commitDie_chanClass hc rfl

/-- A field of a die whose commit frame does not pass reads as before. -/
theorem commitFrames_get_of_not_passes (he : e < 2) (h : passes s e = false) {f : Fd} (hf : DieReg e f.r.addr) : (commitFrames s).get f = s.get f :=
  congrArg (fun w => getBits w f.hi f.lo) ((commitFrames_of_not_passes he h).2 _ hf)

end

end Sys2Proof.Machine
end

section
/-! The commit as a whole, and a change that is abandoned (R532, R534). -/
namespace Sys2Proof.Machine
open Sys2Proof Reg

/-! ## Where the registers of a commit lie -/

section
variable {a e : Nat}

theorem not_dieReg_of_range (h : a < 0x40100000 ∨ 0x40122000 ≤ a ∧ a < 0x40140000 ∨ 0x40142000 ≤ a) : ¬ DieReg e a := fun hd => by
  have hr := hd.range
  omega

theorem not_fieldReg_of_dieReg (h : DieReg e a) : ¬ FieldReg a := fun hf => by
  have hr := h.range
  simp only [FieldReg, TrackReg, BudgetReg, AccessReg, ACC_CFG, ACC_POLL, PSW_BUD_CFG] at hf
  omega

theorem not_netReg_of_dieReg (h : DieReg e a) : ¬ NetReg a := fun hn => by
  have hr := h.range
  simp only [NetReg] at hn
  omega

theorem not_rosterReg_of_dieReg (h : DieReg e a) : ¬ RosterReg a := fun hn => by
  have hr := h.range
  simp only [RosterReg] at hn
  omega

end

/-! ## What a commit writes -/

/-- All fields of a descriptor written, before the change ends. -/
def commitWrites (s : State) (t : Nat) (d : List Word) (boundary : Option Nat) : State :=
  commitRosters (commitBuses (commitFrames (commitFields s t d)) d) d boundary

section
variable {s : State} {t : Nat} {d : List Word} {boundary : Option Nat}

/-- The rosters are written last. -/
theorem commitWrites_rd_buses {q : Rg} (hr : ¬ RosterReg q.addr) :
    (commitWrites s t d boundary).rd q = (commitBuses (commitFrames (commitFields s t d)) d).rd q := (commitRosters_spares boundary).rd hr

theorem commitWrites_rd_frames {q : Rg} (hn : ¬ NetReg q.addr) (hr : ¬ RosterReg q.addr) :
    (commitWrites s t d boundary).rd q = (commitFrames (commitFields s t d)).rd q :=
  (commitWrites_rd_buses hr).trans (commitBuses_spares.rd q hn)

theorem commitWrites_rd_fields {q : Rg} (hd : ∀ e, ¬ DieReg e q.addr) (hn : ¬ NetReg q.addr) (hr : ¬ RosterReg q.addr) :
    (commitWrites s t d boundary).rd q = (commitFields s t d).rd q :=
  (commitWrites_rd_frames hn hr).trans (commitFrames_rd (hd 0) (hd 1))

theorem commitWrites_rd_other {q : Rg} (hf : ¬ FieldReg q.addr) (hd : ∀ e, ¬ DieReg e q.addr) (hn : ¬ NetReg q.addr) (hr : ¬ RosterReg q.addr) :
    (commitWrites s t d boundary).rd q = s.rd q := (commitWrites_rd_fields hd hn hr).trans (commitFields_spares.rd q hf)

theorem commitWrites_lnk : (commitWrites s t d boundary).lnk = (commitFrames (commitFields s t d)).lnk :=
  (commitRosters_spares boundary).lnk.trans commitBuses_spares.lnk

theorem commitWrites_onDie : (commitWrites s t d boundary).out = (commitFrames (commitFields s t d)).out :=
  (commitRosters_spares boundary).out.trans commitBuses_spares.out

theorem commitWrites_cpu : (commitWrites s t d boundary).cpu = s.cpu :=
  (commitRosters_spares boundary).cpu.trans (commitBuses_spares.cpu.trans (commitFrames_cpu.trans commitFields_spares.cpu))

/-- The status of the change is none of the fields that a commit writes. -/
theorem commitWrites_status : (commitWrites s t d boundary).rd SYS_OUT_STATUS = s.rd SYS_OUT_STATUS := by
  refine commitWrites_rd_other ?_ (fun e => not_dieReg_of_range (.inl (by decide))) ?_ ?_
  · simp only [FieldReg, TrackReg, BudgetReg, AccessReg]
    decide
  · unfold NetReg
    decide
  · unfold RosterReg
    decide

end

/-! ## The end of a change -/

/-- A change that has been committed ends (R531, R532). -/
def commitEnds (s : State) (t : Nat) (d : List Word) : State :=
  ((((outDrop s 1).wrap SYS_OUT_STATUS_count).putB SYS_OUT_STATUS_dirty false).put SYS_OUT_STATUS_cur t).modOut fun o => { o with force := some d }

/-- The registers that the end of a change may write: the status, and those of its record. -/
def EndReg (a : Nat) : Prop := a = SYS_OUT_STATUS.addr ∨ RecordReg a

section
variable {s : State} {d : List Word} {boundary : Option Nat} {t n why : Nat}

theorem outCommit_of_passed (hs : s.out.staged = some d) (hf : commitFailure s d = 0) : outCommit s boundary =
    outRec (commitEnds (commitWrites s (s.get SYS_OUT_STATUS_target) d boundary) (s.get SYS_OUT_STATUS_target) d) 0x20 (outCur s)
      (s.get SYS_OUT_STATUS_target) 0 0 := by
  unfold outCommit
  rw [hs]
  dsimp only
  rw [hf]
  rfl

theorem outCommit_of_failed (hs : s.out.staged = some d) (hf : commitFailure s d = why) (hw : why ≠ 0) : outCommit s boundary =
    outRec ((outDrop s 2).put SYS_OUT_STATUS_why why) 0x21 (outCur s) (s.get SYS_OUT_STATUS_target) 0 why := by
  unfold outCommit
  rw [hs]
  dsimp only
  rw [hf]
  split
  · exact absurd rfl hw
  · rfl

theorem outRec_spares (code before target res why : Nat) : Spares RecordReg s (outRec s code before target res why) := blockRec_spares _ _

/-- The status is no register of a record. -/
theorem outRec_status (code before target res why : Nat) : (outRec s code before target res why).rd SYS_OUT_STATUS = s.rd SYS_OUT_STATUS :=
  (outRec_spares code before target res why).rd _ (by unfold RecordReg; decide)

theorem outRec_get_status {f : Fd} (hf : f.r = SYS_OUT_STATUS) (code before target res why : Nat) :
    (outRec s code before target res why).get f = s.get f := by
  unfold State.get
  rw [hf, outRec_status]

/-- The part of the state that `modOut` changes is no register. -/
theorem State.rd_modOut (q : Rg) (g : OutSt → OutSt) : (s.modOut g).rd q = s.rd q := rfl
theorem State.get_modOut (f : Fd) (g : OutSt → OutSt) : (s.modOut g).get f = s.get f := rfl

theorem outDrop_rd {q : Rg} (hq : q.addr ≠ SYS_OUT_STATUS.addr) : (outDrop s n).rd q = s.rd q := by
  rw [outDrop, State.rd_modOut, State.rd_put_other _ _ _ _ hq, State.rd_put_other _ _ _ _ hq, State.rd_put_other _ _ _ _ hq]

theorem commitEnds_rd {q : Rg} (hq : q.addr ≠ SYS_OUT_STATUS.addr) : (commitEnds s t d).rd q = s.rd q := by
  rw [commitEnds, State.rd_modOut, State.rd_put_other _ _ _ _ hq, State.rd_putB_other _ _ _ _ hq, State.wrap, State.rd_put_other _ _ _ _ hq,
    outDrop_rd hq]

theorem outDrop_status (hn : n < 4) : (outDrop s n).get SYS_OUT_STATUS_state = 0 ∧ (outDrop s n).get SYS_OUT_STATUS_target = 0x3F ∧
    (outDrop s n).get SYS_OUT_STATUS_last = n ∧ (outDrop s n).get SYS_OUT_STATUS_cur = s.get SYS_OUT_STATUS_cur ∧
    (outDrop s n).get SYS_OUT_STATUS_count = s.get SYS_OUT_STATUS_count := by
  unfold outDrop
  simp only [State.get_modOut]
  refine ⟨?_, ?_, ?_, ?_, ?_⟩
  · simp (disch := decide) only [State.get_put_fld, State.get_put_same]
    rfl
  · simp (disch := decide) only [State.get_put_fld, State.get_put_same]
    rfl
  · exact State.get_put_fits (f := SYS_OUT_STATUS_last) (by decide) (by decide) hn
  · simp (disch := decide) only [State.get_put_fld]
  · simp (disch := decide) only [State.get_put_fld]

theorem commitEnds_status (ht : t < 64) : (commitEnds s t d).get SYS_OUT_STATUS_state = 0 ∧ (commitEnds s t d).get SYS_OUT_STATUS_last = 1 ∧
    (commitEnds s t d).get SYS_OUT_STATUS_target = 0x3F ∧ (commitEnds s t d).bit SYS_OUT_STATUS_dirty = false ∧
    (commitEnds s t d).get SYS_OUT_STATUS_count = (s.get SYS_OUT_STATUS_count + 1) % 256 ∧ (commitEnds s t d).get SYS_OUT_STATUS_cur = t := by
  obtain ⟨hstate, htarget, hlast, -, hcount⟩ := outDrop_status (s := s) (n := 1) (by decide)
  have hmod : 2 ^ (SYS_OUT_STATUS_count.hi - SYS_OUT_STATUS_count.lo + 1) = 256 := rfl
  refine ⟨?_, ?_, ?_, ?_, ?_, ?_⟩
  · rw [commitEnds, State.get_modOut]
    simp (disch := decide) only [State.wrap, State.putB, State.get_put_fld, hstate]
  · rw [commitEnds, State.get_modOut]
    simp (disch := decide) only [State.wrap, State.putB, State.get_put_fld, hlast]
  · rw [commitEnds, State.get_modOut]
    simp (disch := decide) only [State.wrap, State.putB, State.get_put_fld, htarget]
  · rw [commitEnds, State.bit, State.get_modOut, State.get_put_fld _ SYS_OUT_STATUS_cur SYS_OUT_STATUS_dirty _ rfl (by decide) (by decide) (by decide)
      (by decide) (by decide)]
    exact State.bit_putB_same _ SYS_OUT_STATUS_dirty false (by decide) (by decide)
  · rw [commitEnds, State.get_modOut]
    simp (disch := decide) only [State.wrap, State.putB, State.get_put_fld, State.get_put_same, hcount, hmod]
  · rw [commitEnds, State.get_modOut]
    exact State.get_put_fits (f := SYS_OUT_STATUS_cur) (by decide) (by decide) ht

end

end Sys2Proof.Machine
end

section
/-! What a commit leaves behind, read field by field (R529, R532). -/
namespace Sys2Proof.Machine
open Sys2Proof Reg

section
variable {s u : State} {d : List Word} {t e : Nat}

theorem commitEnds_out : (commitEnds s t d).out = { s.out with staged := none, now := false, force := some d } := rfl
theorem commitEnds_lnk : (commitEnds s t d).lnk = s.lnk := rfl
theorem commitEnds_cpu : (commitEnds s t d).cpu = s.cpu := rfl

theorem commitFields_sameFeed : SameFeed s (commitFields s t d) := by
  refine commitFields_spares.sameFeed ?_ ?_
  · simp only [FieldReg, TrackReg, BudgetReg, AccessReg]
    decide
  · simp only [FieldReg, TrackReg, BudgetReg, AccessReg]
    decide

theorem commitFields_dir (up : Bool) : (commitFields s t d).dir e up = s.dir e up := by
  unfold State.dir
  rw [commitFields_spares.lnk]

theorem commitFields_passes : passes (commitFields s t d) e = passes s e := by
  unfold passes
  rw [commitFields_sameFeed.dieReached, commitFields_sameFeed.linkClear commitFields_dir]

theorem commitFields_out : (commitFields s t d).out = s.out := commitFields_spares.out

theorem EndReg.range {a : Nat} (h : EndReg a) : a < 0x40001000 ∨ 0x40080000 ≤ a ∧ a < 0x40081000 := by
  simp only [EndReg, RecordReg, SYS_OUT_STATUS, EVR_NEWEST, EVR_PAGE, EVR_LOST] at h
  omega

/-- A frame that waits ahead of every other does so alike in states that agree on the traffic with its die. -/
theorem viaDieFirst_dir_congr (hf : SameFeed s u) (hd : ∀ up, u.dir e up = s.dir e up) (hr : dieReached s e = true) (hc : linkClear s e = false)
    (b : FrameBody) (f : State → State) : (viaDieFirst u e b f).dir e false = (viaDieFirst s e b f).dir e false := by
  rw [viaDieFirst_dir_of_queued hr hc, viaDieFirst_dir_of_queued ((hf.dieReached e).trans hr) ((hf.linkClear hd).trans hc), hd, hf.mayGo]

end

/-! ## A change that is committed -/

section
variable {s : State} {d : List Word} {boundary : Option Nat} {e c k n r : Nat} (hs : s.out.staged = some d) (hf : commitFailure s d = 0)
include hs hf

theorem outCommit_rd {q : Rg} (hq : ¬ EndReg q.addr) :
    (outCommit s boundary).rd q = (commitWrites s (s.get SYS_OUT_STATUS_target) d boundary).rd q := by
  rw [outCommit_of_passed hs hf, (outRec_spares _ _ _ _ _).rd _ fun h => hq (.inr h), commitEnds_rd fun h => hq (.inl h)]

theorem outCommit_cpu : (outCommit s boundary).cpu = s.cpu := by
  rw [outCommit_of_passed hs hf, (outRec_spares _ _ _ _ _).cpu, commitEnds_cpu, commitWrites_cpu]

theorem outCommit_dir (up : Bool) :
    (outCommit s boundary).dir e up = (commitFrames (commitFields s (s.get SYS_OUT_STATUS_target) d)).dir e up := by
  unfold State.dir
  rw [outCommit_of_passed hs hf, (outRec_spares _ _ _ _ _).lnk, commitEnds_lnk, commitWrites_lnk]

theorem outCommit_out_eq : (outCommit s boundary).out =
    { (commitFrames (commitFields s (s.get SYS_OUT_STATUS_target) d)).out with staged := none, now := false, force := some d } := by
  rw [outCommit_of_passed hs hf, (outRec_spares _ _ _ _ _).out, commitEnds_out, commitWrites_onDie]

theorem outCommit_out : (outCommit s boundary).out = { (outCommit s boundary).out with staged := none, now := false, force := some d } := by
  rw [outCommit_out_eq hs hf]

theorem outCommit_onDie : (outCommit s boundary).out.onDie = (commitFrames (commitFields s (s.get SYS_OUT_STATUS_target) d)).out.onDie := by
  rw [outCommit_out_eq hs hf]

theorem outCommit_status : (outCommit s boundary).get SYS_OUT_STATUS_state = 0 ∧ (outCommit s boundary).get SYS_OUT_STATUS_last = 1 ∧
    (outCommit s boundary).get SYS_OUT_STATUS_target = 0x3F ∧ (outCommit s boundary).bit SYS_OUT_STATUS_dirty = false ∧
    (outCommit s boundary).get SYS_OUT_STATUS_count = (s.get SYS_OUT_STATUS_count + 1) % 256 ∧
    (outCommit s boundary).get SYS_OUT_STATUS_cur = s.get SYS_OUT_STATUS_target := by
  have hcount : (commitWrites s (s.get SYS_OUT_STATUS_target) d boundary).get SYS_OUT_STATUS_count = s.get SYS_OUT_STATUS_count :=
    congrArg (fun w => getBits w 23 16) commitWrites_status
  have h := commitEnds_status (s := commitWrites s (s.get SYS_OUT_STATUS_target) d boundary) (d := d) (t := s.get SYS_OUT_STATUS_target)
    (s.get_lt SYS_OUT_STATUS_target)
  rw [hcount] at h
  unfold State.bit at h ⊢
  rw [outCommit_of_passed hs hf]
  simp only [outRec_get_status (f := SYS_OUT_STATUS_state) rfl, outRec_get_status (f := SYS_OUT_STATUS_last) rfl,
    outRec_get_status (f := SYS_OUT_STATUS_target) rfl, outRec_get_status (f := SYS_OUT_STATUS_dirty) rfl,
    outRec_get_status (f := SYS_OUT_STATUS_count) rfl, outRec_get_status (f := SYS_OUT_STATUS_cur) rfl]
  exact h

/-! ### The fields of the power dies -/

theorem outCommit_rd_die {q : Rg} (hq : DieReg e q.addr) :
    (outCommit s boundary).rd q = (commitFrames (commitFields s (s.get SYS_OUT_STATUS_target) d)).rd q := by
  have hend : ¬ EndReg q.addr := fun h => by
    have hr := h.range
    have hr' := hq.range
    omega
  rw [outCommit_rd hs hf hend, commitWrites_rd_frames (not_netReg_of_dieReg hq) (not_rosterReg_of_dieReg hq)]

theorem outCommit_get_die {f : Fd} (hq : DieReg e f.r.addr) :
    (outCommit s boundary).get f = (commitFrames (commitFields s (s.get SYS_OUT_STATUS_target) d)).get f :=
  congrArg (fun w => getBits w f.hi f.lo) (outCommit_rd_die hs hf hq)

/-- A die whose frame does not pass at once has the commit frame before all others, and keeps its fields and what it has staged. -/
theorem outCommit_of_queued (he : e < 2) (hr : dieReached s e = true) (hc : linkClear s e = false) :
    (outCommit s boundary).dir e false = (viaDieFirst s e .commit id).dir e false ∧ (outCommit s boundary).out.onDie.find e = s.out.onDie.find e := by
  have hnp : passes (commitFields s (s.get SYS_OUT_STATUS_target) d) e = false := commitFields_passes.trans (by simp [passes, hc])
  have hfeed := commitFields_sameFeed (s := s) (t := s.get SYS_OUT_STATUS_target) (d := d)
  constructor
  · rw [outCommit_dir hs hf, commitFrames_dir_of_queued he ((hfeed.dieReached e).trans hr) ((hfeed.linkClear commitFields_dir).trans hc)]
    exact viaDieFirst_dir_congr hfeed commitFields_dir hr hc _ _
  · rw [outCommit_onDie hs hf, (commitFrames_of_not_passes he hnp).1, commitFields_out]

theorem outCommit_get_of_not_passes (he : e < 2) (h : passes s e = false) {f : Fd} (hq : DieReg e f.r.addr) : (outCommit s boundary).get f = s.get f := by
  rw [outCommit_get_die hs hf hq, commitFrames_get_of_not_passes he (commitFields_passes.trans h) hq,
    commitFields_spares.get (not_fieldReg_of_dieReg hq)]

theorem outCommit_of_passes (he : e < 2) (h : passes s e = true) (hd : s.out.onDie.find e = some d) :
    (outCommit s boundary).get (PSW_DIE_CFG_hold e) = holdOf d e ∧
      (outCommit s boundary).get (LED_M_CFG_class e) = getBits (dw d 0x90) (2 * e + 1) (2 * e) ∧ (outCommit s boundary).out.onDie.find e = none := by
  have hp : passes (commitFields s (s.get SYS_OUT_STATUS_target) d) e = true := commitFields_passes.trans h
  have hd' : (commitFields s (s.get SYS_OUT_STATUS_target) d).out.onDie.find e = some d := by rw [commitFields_out, hd]
  rw [outCommit_get_die hs hf (f := PSW_DIE_CFG_hold e) (dieReg_hold he), outCommit_get_die hs hf (f := LED_M_CFG_class e) (dieReg_port he),
    outCommit_onDie hs hf]
  exact ⟨commitFrames_hold he hp hd', commitFrames_portClass he hp hd', (commitFrames_of_passes he hp hd').1⟩

theorem outCommit_sinkClass (hk : k < 48) (h : passes s (k / 24) = true) (hd : s.out.onDie.find (k / 24) = some d) :
    (outCommit s boundary).get (LED_K_CFG_class k) = dtwo d 0x84 k := by
  rw [outCommit_get_die hs hf (f := LED_K_CFG_class k) (dieReg_sink (by omega) hk rfl)]
  exact commitFrames_sinkClass hk (commitFields_passes.trans h) (by rw [commitFields_out, hd])

theorem outCommit_chanClass (hc : c < 104) (h : passes s (dieOf c) = true) (hd : s.out.onDie.find (dieOf c) = some d) :
    (outCommit s boundary).get (PSW_CH_SAFE_class c) = if isFollower s c then s.get (PSW_CH_SAFE_class c) else dtwo d 0x68 c := by
  have hown : DieReg (dieOf c) (PSW_CH_SAFE c).addr := dieReg_chan (dieOf_lt hc) hc rfl
  have hpar : ¬ FieldReg (PSW_DIE_PAR (dieOf c)).addr := by
    have he := dieOf_lt hc
    simp only [FieldReg, TrackReg, BudgetReg, AccessReg, ACC_CFG, ACC_POLL, PSW_BUD_CFG, PSW_DIE_PAR]
    omega
  rw [outCommit_get_die hs hf (f := PSW_CH_SAFE_class c) hown, commitFrames_chanClass hc (commitFields_passes.trans h) (by rw [commitFields_out, hd]),
    isFollower_congr (commitFields_spares.rd _ hpar), commitFields_spares.get (f := PSW_CH_SAFE_class c) (not_fieldReg_of_dieReg hown)]

/-! ### The fields of the control die -/

/-- What neither the power dies nor the networks nor the rosters hold is as the control die's fields leave it. -/
theorem outCommit_rd_fields {q : Rg} (hq : 0x40070000 ≤ q.addr ∧ q.addr < 0x40080000 ∨ 0x40122000 ≤ q.addr ∧ q.addr < 0x40140000 ∨
    0x40142000 ≤ q.addr ∧ q.addr < 0x40200000) : (outCommit s boundary).rd q = (commitFields s (s.get SYS_OUT_STATUS_target) d).rd q := by
  have hend : ¬ EndReg q.addr := fun h => by
    have hr := h.range
    omega
  refine (outCommit_rd hs hf hend).trans (commitWrites_rd_fields (fun e => not_dieReg_of_range (by omega)) ?_ ?_)
  · unfold NetReg
    omega
  · unfold RosterReg
    omega

theorem outCommit_get_fields {f : Fd} (hq : 0x40070000 ≤ f.r.addr ∧ f.r.addr < 0x40080000 ∨ 0x40122000 ≤ f.r.addr ∧ f.r.addr < 0x40140000 ∨
    0x40142000 ≤ f.r.addr ∧ f.r.addr < 0x40200000) : (outCommit s boundary).get f = (commitFields s (s.get SYS_OUT_STATUS_target) d).get f :=
  congrArg (fun w => getBits w f.hi f.lo) (outCommit_rd_fields hs hf hq)

theorem outCommit_bit_fields {f : Fd} (hq : 0x40070000 ≤ f.r.addr ∧ f.r.addr < 0x40080000 ∨ 0x40122000 ≤ f.r.addr ∧ f.r.addr < 0x40140000 ∨
    0x40142000 ≤ f.r.addr ∧ f.r.addr < 0x40200000) : (outCommit s boundary).bit f = (commitFields s (s.get SYS_OUT_STATUS_target) d).bit f :=
  congrArg (· == 1) (outCommit_get_fields hs hf hq)

theorem outCommit_probing : (outCommit s boundary).bit ACC_CFG_en = probes (s.get SYS_OUT_STATUS_target) d :=
  (outCommit_bit_fields hs hf (by decide)).trans commitFields_probing

theorem outCommit_antennas : (outCommit s boundary).get ACC_POLL_amask = getBits (dw d 8) 31 28 :=
  (outCommit_get_fields hs hf (by decide)).trans commitFields_antennas

theorem outCommit_probePeriod : (outCommit s boundary).get ACC_POLL_per = getBits (dw d 8) 15 0 :=
  (outCommit_get_fields hs hf (by decide)).trans commitFields_probePeriod

theorem outCommit_ceiling : (outCommit s boundary).get PSW_BUD_CFG_ceiling = getBits (dw d 0x1C) 15 0 :=
  (outCommit_get_fields hs hf (by decide)).trans commitFields_ceiling

theorem outCommit_track (hn : n < 512) : (outCommit s boundary).bit (LDG_TRK_CFG_open n) = dbit d 0x28 n :=
  (outCommit_bit_fields hs hf (by simp only [LDG_TRK_CFG_open, LDG_TRK_CFG]; omega)).trans (commitFields_track hn)

theorem outCommit_budget (hc : c < 104) :
    (outCommit s boundary).get (PSW_BUD_prio c) = budgetByte d c / 64 ∧ (outCommit s boundary).get (PSW_BUD_floor c) = budgetByte d c % 32 := by
  obtain ⟨hprio, hfloor⟩ := commitFields_budget (s := s) (t := s.get SYS_OUT_STATUS_target) (d := d) hc
  exact ⟨(outCommit_get_fields hs hf (by simp only [PSW_BUD_prio, PSW_BUD]; omega)).trans hprio,
    (outCommit_get_fields hs hf (by simp only [PSW_BUD_floor, PSW_BUD]; omega)).trans hfloor⟩

theorem outCommit_bus (hn : n < 22) :
    (outCommit s boundary).bit (NMG_BUS_CFG_wake n) = bitOf (d.getD 4 0) n ∧ (outCommit s boundary).get (NMG_BUS_CFG_pin n) = dtwo d 0x14 n := by
  have hend : ¬ EndReg (NMG_BUS_CFG n).addr := fun h => by
    have hr := h.range
    simp only [NMG_BUS_CFG] at hr
    omega
  have hros : ¬ RosterReg (NMG_BUS_CFG n).addr := by
    simp only [RosterReg, NMG_BUS_CFG]
    omega
  have hrd := (outCommit_rd (boundary := boundary) hs hf hend).trans (commitWrites_rd_buses hros)
  exact ⟨(congrArg (fun w => getBits w 27 27 == 1) hrd).trans (commitBuses_wake hn), (congrArg (fun w => getBits w 29 28) hrd).trans (commitBuses_pin hn)⟩

theorem outCommit_roster (h1 : 1 ≤ r) (h64 : r < 64) : (outCommit s boundary).bit (TLN_ROS_CFG_en r) = dbit d 0x20 r := by
  have hend : ¬ EndReg (TLN_ROS_CFG r).addr := fun h => by
    have hr := h.range
    simp only [TLN_ROS_CFG] at hr
    omega
  exact (congrArg (fun w => getBits w 31 31 == 1) (outCommit_rd hs hf hend)).trans (commitRosters_en boundary h1 h64)

/-- A commit gives no command to a channel. -/
theorem outCommit_command (hc : c < 104) : (outCommit s boundary).get (PSW_CH_STATE_cmd c) = s.get (PSW_CH_STATE_cmd c) := by
  have hend : ¬ EndReg (PSW_CH_STATE c).addr := fun h => by
    have hr := h.range
    simp only [PSW_CH_STATE] at hr
    omega
  have hdie (e : Nat) : ¬ DieReg e (PSW_CH_STATE c).addr := fun h => by
    have hr := h.range
    simp only [PSW_CH_STATE] at hr
    omega
  refine congrArg (fun w => getBits w 31 28) ((outCommit_rd hs hf hend).trans (commitWrites_rd_other ?_ hdie ?_ ?_))
  · simp only [FieldReg, TrackReg, BudgetReg, AccessReg, ACC_CFG, ACC_POLL, PSW_BUD_CFG, PSW_CH_STATE]
    omega
  · simp only [NetReg, PSW_CH_STATE]
    omega
  · simp only [RosterReg, PSW_CH_STATE]
    omega

end

/-! ## A change that is abandoned -/

section
variable {s : State} {d : List Word} {boundary : Option Nat} {why : Nat}

/-- A change that fails a check ends with its reason, and nothing is written (R534). -/
theorem outCommit_of_failure (hs : s.out.staged = some d) (hf : commitFailure s d = why) (hw : why ≠ 0) (hlt : why < 8) :
    (outCommit s boundary).get SYS_OUT_STATUS_state = 0 ∧ (outCommit s boundary).get SYS_OUT_STATUS_last = 2 ∧
      (outCommit s boundary).get SYS_OUT_STATUS_why = why ∧ (outCommit s boundary).get SYS_OUT_STATUS_cur = s.get SYS_OUT_STATUS_cur ∧
      (outCommit s boundary).out = { s.out with staged := none, now := false } ∧ (outCommit s boundary).psw = s.psw ∧
      (outCommit s boundary).tln = s.tln ∧ (outCommit s boundary).cpu = s.cpu ∧ ∀ q : Rg, ¬ EndReg q.addr → (outCommit s boundary).rd q = s.rd q := by
  obtain ⟨hstate, -, hlast, hcur, -⟩ := outDrop_status (s := s) (n := 2) (by decide)
  have hrec := fun code before target res => outRec_spares (s := (outDrop s 2).put SYS_OUT_STATUS_why why) code before target res why
  rw [outCommit_of_failed hs hf hw]
  refine ⟨?_, ?_, ?_, ?_, (hrec _ _ _ _).out, (hrec _ _ _ _).psw, (hrec _ _ _ _).tln, (hrec _ _ _ _).cpu, fun q hq => ?_⟩
  · rw [outRec_get_status rfl]
    simp (disch := decide) only [State.get_put_fld, hstate]
  · rw [outRec_get_status rfl]
    simp (disch := decide) only [State.get_put_fld, hlast]
  · rw [outRec_get_status rfl]
    exact State.get_put_fits (f := SYS_OUT_STATUS_why) (by decide) (by decide) hlt
  · rw [outRec_get_status rfl]
    simp (disch := decide) only [State.get_put_fld, hcur]
  · have hst : q.addr ≠ SYS_OUT_STATUS.addr := fun h => hq (.inl h)
    rw [(hrec _ _ _ _).rd _ fun h => hq (.inr h), State.rd_put_other _ _ _ _ hst, outDrop_rd hst]

end

end Sys2Proof.Machine
end

section
/-! The commands of an outfit change: CHANGE and CANCEL (R531, R538, R541). -/
namespace Sys2Proof.Machine
open Sys2Proof Reg

/-! ## The commands -/

section
variable {s : State} {w : CtxId} {t : Fin 32} {now : Bool}

theorem exec_change : exec (.change w t now) s = .next (outCommand s w 1 t now) := rfl
theorem exec_cancel : exec (.cancel w) s = .next (outCommand s w 2 0 false) := rfl
theorem exec_stagingAck : exec .stagingAck s = .next (stagingAck s) := rfl

/-- No leaf gates SYS_OUT_CMD. -/
theorem gatedOff_outCmd : gatedOff s SYS_OUT_CMD.addr = false := rfl

theorem outCommand_held (hr : ctlReached s = false) (op n : Nat) : outCommand s w op n now = s := s.granted_held _ _ _ _ hr

theorem outCommand_denied (hr : ctlReached s = true) (hw : w ≠ 0) (op n : Nat) :
    outCommand s w op n now = s.violate w 3 (BitVec.ofNat 32 SYS_OUT_CMD.addr) := by
  have hb : (w.val == 0) = false := beq_false_of_ne (Fin.val_ne_zero_iff.2 hw)
  rw [outCommand, hb]
  exact s.granted_refused _ _ _ hr

theorem outCommand_change (hr : ctlReached s = true) (n : Nat) : outCommand s 0 1 n now = outChange s n now :=
  s.granted_ok _ _ _ hr gatedOff_outCmd

theorem outCommand_cancel (hr : ctlReached s = true) (n : Nat) :
    outCommand s 0 2 n now = if outChanging s then outEnd (outDrop s 3) 0 else outEnd s 1 := s.granted_ok _ _ _ hr gatedOff_outCmd

end

/-! ## The end of a command -/

section
variable {s : State} {code : Nat}

theorem outEnd_rd {q : Rg} (hq : q.addr ≠ SYS_OUT_CMD_RESULT.addr) : (outEnd s code).rd q = s.rd q := by
  rw [outEnd, State.rd_put_other _ _ _ _ hq, State.wrap, State.rd_put_other _ _ _ _ hq]

theorem outEnd_get {f : Fd} (hf : f.r.addr ≠ SYS_OUT_CMD_RESULT.addr) : (outEnd s code).get f = s.get f :=
  congrArg (fun w => getBits w f.hi f.lo) (outEnd_rd hf)

theorem outEnd_code (hc : code < 16) : (outEnd s code).get SYS_OUT_CMD_RESULT_code = code := State.get_put_fits (by decide) (by decide) hc

/-- Status and result are all that a command ending in `outEnd` writes. -/
theorem regsBut_outEnd {u : State} (h : ∀ q : Rg, q.addr ≠ SYS_OUT_STATUS.addr → u.rd q = s.rd q) :
    RegsBut [SYS_OUT_STATUS, SYS_OUT_CMD_RESULT] s (outEnd u code) := by
  intro q hq
  simp only [List.map_cons, List.map_nil, List.mem_cons, List.not_mem_nil, or_false, not_or] at hq
  exact (outEnd_rd hq.2).trans (h q hq.1)

end

/-! ## The refusals of CHANGE (R538) -/

section
variable {s : State} {t : Nat} {now : Bool} {d : List Word} {code : Nat}

/-- The codes of R538 with their conditions, lowest first. -/
theorem changeRefusal_eq : changeRefusal s t now d =
    if s.get SYS_OUT_STATUS_state ≠ 0 ∨ s.bit PWR_STATUS_hs = true ∨ s.pwr.phase = .parking ∨ s.pwr.phase = .offing ∨ s.get FLT_STATUS_mode = 2 then 1
    else if bitOf (d.getD 0 0) 31 = false then 2
    else if s.get SYS_OUT_STATUS_cur ≠ 0x3F ∧ s.get SYS_OUT_STATUS_cur ≠ t ∧ bitOf ((s.out.force.getD []).getD 1 0) t = false then 3
    else if s.get SYS_OUT_CFG_roster ≠ 0 ∧ bitOf (d.getD (8 + s.get SYS_OUT_CFG_roster / 32) 0) (s.get SYS_OUT_CFG_roster % 32) = false then 4
    else if s.pwr.phase = .doze ∧ ¬ bitOf (d.getD 0 0) 0 = true then 5
    else if now = true ∧ s.get SYS_OUT_STATUS_cur ≠ 0x3F ∧ s.get SYS_OUT_STATUS_cur ≠ t then 6
    else if ¬ (s.get (PSW_DIE_STATE_state 0) = 0 ∧ s.get (PSW_DIE_STATE_state 1) = 0) then 7
    else if now = false ∧ (s.get SYS_OUT_CFG_roster = 0 ∨
        ¬ (s.bit (TLN_ROS_CFG_en (s.get SYS_OUT_CFG_roster)) = true ∧ s.get (TLN_ROS_CFG_axis (s.get SYS_OUT_CFG_roster)) = 1)) then 8
    else 0 := by
  have hroster : enablesRoster d (s.get SYS_OUT_CFG_roster) = (s.get SYS_OUT_CFG_roster != 0 &&
      bitOf (d.getD (8 + s.get SYS_OUT_CFG_roster / 32) 0) (s.get SYS_OUT_CFG_roster % 32)) := by rw [enablesRoster, dbit_word d _ 8]
  unfold changeRefusal
  refine if_congr ?_ rfl (if_congr ?_ rfl (if_congr ?_ rfl (if_congr ?_ rfl (if_congr ?_ rfl (if_congr ?_ rfl (if_congr ?_ rfl (if_congr ?_ rfl rfl)))))))
  · simp [outChanging, or_assoc]
  · simp [dw]
  · simp [outInForce, outCur, permitsNext, dw]
  · simp only [outRoster, hroster]
    simp
    tauto
  · simp [permitsDoze, dw]
  · simp [outInForce, outCur, and_assoc, eq_comm (a := t)]
  · simp [bothServed, dieState, imp_iff_not_or]
  · simp [outRoster, rosOn, rosAxis, imp_iff_not_or, or_assoc]

theorem outChange_refused (h : changeRefusal s t now (descriptor s t) = code) (hc : code ≠ 0) : outChange s t now =
    blockRec (outEnd s code) 0x21 ([s.get SYS_OUT_STATUS_cur, t, code, 0].map (BitVec.ofNat 8) ++ leBytes 4 (s.rd SYS_OUT_STATUS).toNat) := by
  have hst : (outEnd s code).rd SYS_OUT_STATUS = s.rd SYS_OUT_STATUS := outEnd_rd (by decide)
  have hout : outChange s t now = outRec (outEnd s code) 0x21 (outCur s) t code 0 := by
    unfold outChange
    dsimp only
    rw [h]
    split
    · exact absurd rfl hc
    · rfl
  rw [hout, outRec, hst]
  rfl

end

end Sys2Proof.Machine
end

section
/-! The staging frames of a change that CHANGE accepts (R531). -/
namespace Sys2Proof.Machine
open Sys2Proof Reg

/-! ## One staging frame -/

/-- The staging frame of die `e`: the fields of descriptor `d` on their way to it. -/
def stagingFrame (d : List Word) (s : State) (e : Nat) : State := viaDie s e (.staging d) fun s => takeStaging s e d

/-- From `s` to `t` nothing has changed but the traffic with die `e` and what it has staged. -/
structure BesideStaging (e : Nat) (s t : State) : Prop where
  only : ∃ l m, t = { s with lnk := l, out := { s.out with onDie := m } }
  staged : ∀ x, x ≠ e → t.out.onDie.find x = s.out.onDie.find x
  dir : ∀ x, x ≠ e → ∀ up, t.dir x up = s.dir x up

/-- In `t` the staging frame of `d` that `s` sent to die `e` has been received, or it waits, or a die that is off has been left alone. -/
structure StagingSent (d : List Word) (e : Nat) (s t : State) : Prop where
  received : dieReached s e = true → linkClear s e = true → t.out.onDie.find e = some d
  queued : dieReached s e = true → linkClear s e = false →
    t.dir e false = (queueFrame s e false (.staging d)).dir e false ∧ t.out.onDie.find e = s.out.onDie.find e
  ignored : dieReached s e = false → t.dir e false = s.dir e false ∧ t.out.onDie.find e = s.out.onDie.find e

section
variable {s t u v : State} {d : List Word} {e x : Nat}

theorem BesideStaging.rd (h : BesideStaging e s t) (q : Rg) : t.rd q = s.rd q := by
  obtain ⟨l, m, rfl⟩ := h.only
  rfl

theorem BesideStaging.sameTraffic (h : BesideStaging e s t) (hx : x ≠ e) : SameTraffic x s t where
  feed := by
    obtain ⟨l, m, rfl⟩ := h.only
    exact ⟨rfl, rfl, rfl, rfl, rfl⟩
  dir := h.dir x hx
  staged := h.staged x hx

/-- Whatever becomes of a staging frame concerns its die alone. -/
theorem stagingFrame_beside : BesideStaging e s (stagingFrame d s e) := by
  unfold stagingFrame
  rcases viaDie_cases (s := s) e (.staging d) (fun s => takeStaging s e d) with ⟨-, h⟩ | ⟨-, -, h⟩ | ⟨-, -, h⟩ <;> rw [h]
  case inl => exact ⟨⟨_, _, rfl⟩, fun _ _ => rfl, fun _ _ _ => rfl⟩
  case inr.inl => exact ⟨⟨_, _, rfl⟩, fun x hx => SMap.find_ins_other _ _ _ _ hx, fun x hx up => exchange_dir_other hx⟩
  case inr.inr => exact ⟨⟨_, _, rfl⟩, fun _ _ => rfl, fun x hx up => queueFrame_dir_other _ hx⟩

theorem stagingFrame_sent : StagingSent d e s (stagingFrame d s e) := by
  unfold stagingFrame
  rcases viaDie_cases (s := s) e (.staging d) (fun s => takeStaging s e d) with ⟨hr, h⟩ | ⟨hr, hc, h⟩ | ⟨hr, hc, h⟩ <;> rw [h]
  case inl => exact ⟨fun hr' => absurd hr' (by simp [hr]), fun hr' => absurd hr' (by simp [hr]), fun _ => ⟨rfl, rfl⟩⟩
  case inr.inl =>
    exact ⟨fun _ _ => SMap.find_ins_same _ _ _, fun _ hc' => absurd hc' (by simp [hc]), fun hr' => absurd hr' (by simp [hr])⟩
  case inr.inr => exact ⟨fun _ hc' => absurd hc' (by simp [hc]), fun _ _ => ⟨rfl, rfl⟩, fun hr' => absurd hr' (by simp [hr])⟩

/-- Only the traffic with the die and what it has staged decide what becomes of its staging frame. -/
theorem StagingSent.congr (h : StagingSent d e s t) (hs : SameTraffic e u s) (ht : SameTraffic e t v) : StagingSent d e u v where
  received hr hc := ht.staged.trans (h.received (hs.dieReached.trans hr) (hs.linkClear.trans hc))
  queued hr hc := by
    obtain ⟨hdir, hstaged⟩ := h.queued (hs.dieReached.trans hr) (hs.linkClear.trans hc)
    refine ⟨?_, ht.staged.trans (hstaged.trans hs.staged)⟩
    rw [ht.dir, hdir, queueFrame_dir_same, queueFrame_dir_same, hs.dir, hs.feed.mayGo]
  ignored hr := by
    obtain ⟨hdir, hstaged⟩ := h.ignored (hs.dieReached.trans hr)
    exact ⟨(ht.dir false).trans (hdir.trans (hs.dir false)), ht.staged.trans (hstaged.trans hs.staged)⟩

end

/-! ## Both staging frames -/

/-- The staging frames of both dies, sent one after the other. -/
def stagingFrames (d : List Word) (s : State) : State := [0, 1].foldl (stagingFrame d) s

section
variable {s t u v : State} {d : List Word} {e : Nat}

theorem SameTraffic.refl : SameTraffic e s s := ⟨.refl, fun _ => rfl, rfl⟩

/-- The frame of one die leaves the traffic with the other alone: each die's frame is sent as if it were the only one. -/
theorem stagingFrames_sent (he : e < 2) : StagingSent d e s (stagingFrames d s) := by
  unfold stagingFrames
  rw [List.foldl_cons, List.foldl_cons, List.foldl_nil]
  obtain rfl | rfl : e = 0 ∨ e = 1 := by omega
  · exact stagingFrame_sent.congr .refl (stagingFrame_beside.sameTraffic (by decide))
  · exact stagingFrame_sent.congr (stagingFrame_beside.sameTraffic (by decide)) .refl

theorem stagingFrames_only : ∃ l m, stagingFrames d s = { s with lnk := l, out := { s.out with onDie := m } } := by
  obtain ⟨l0, m0, h0⟩ := (stagingFrame_beside (d := d) (s := s) (e := 0)).only
  obtain ⟨l1, m1, h1⟩ := (stagingFrame_beside (d := d) (s := stagingFrame d s 0) (e := 1)).only
  exact ⟨l1, m1, h1.trans (by rw [h0])⟩

theorem stagingFrames_rd (q : Rg) : (stagingFrames d s).rd q = s.rd q := (stagingFrame_beside.rd q).trans (stagingFrame_beside.rd q)

end

/-! ## CHANGE accepted -/

/-- A change of descriptor `d` to outfit `t` begins: it is Staging (R531). -/
def changeBegins (s : State) (t : Nat) (now : Bool) (d : List Word) : State :=
  ((s.put SYS_OUT_STATUS_state 1).put SYS_OUT_STATUS_target t).modOut fun o => { o with staged := some d, now := now }

section
variable {s : State} {t e : Nat} {now : Bool} {d : List Word}

theorem outChange_accepted (h : changeRefusal s t now (descriptor s t) = 0) :
    outChange s t now = outEnd (stagingFrames (descriptor s t) (changeBegins s t now (descriptor s t))) 0 := by
  unfold outChange
  dsimp only
  rw [h]
  rfl

theorem changeBegins_rd {q : Rg} (hq : q.addr ≠ SYS_OUT_STATUS.addr) : (changeBegins s t now d).rd q = s.rd q :=
  (State.rd_put_other _ _ _ _ hq).trans (State.rd_put_other _ _ _ _ hq)

theorem changeBegins_status (ht : t < 64) : (changeBegins s t now d).get SYS_OUT_STATUS_state = 1 ∧ (changeBegins s t now d).get SYS_OUT_STATUS_target = t ∧
    (changeBegins s t now d).get SYS_OUT_STATUS_cur = s.get SYS_OUT_STATUS_cur := by
  unfold changeBegins
  refine ⟨?_, ?_, ?_⟩
  · rw [State.get_modOut]
    simp (disch := decide) only [State.get_put_fld, State.get_put_same]
    rfl
  · rw [State.get_modOut]
    exact State.get_put_fits (f := SYS_OUT_STATUS_target) (by decide) (by decide) ht
  · rw [State.get_modOut]
    simp (disch := decide) only [State.get_put_fld]

/-- The start of a change leaves the traffic with the dies alone. -/
theorem changeBegins_traffic : SameTraffic e s (changeBegins s t now d) :=
  ⟨⟨changeBegins_rd (by decide), changeBegins_rd (by decide), rfl, rfl, rfl⟩, fun _ => rfl, rfl⟩

theorem stagingSent_changeBegins (he : e < 2) : StagingSent d e s (outEnd (stagingFrames d (changeBegins s t now d)) 0) :=
  (stagingFrames_sent he).congr changeBegins_traffic ⟨⟨outEnd_rd (by decide), outEnd_rd (by decide), rfl, rfl, rfl⟩, fun _ => rfl, rfl⟩

/-- A CHANGE that is accepted is Staging; beside its status it has changed the die links and what the dies have staged. -/
theorem outChange_staging (ht : t < 64) : let u := outEnd (stagingFrames d (changeBegins s t now d)) 0
    u.get SYS_OUT_STATUS_state = 1 ∧ u.get SYS_OUT_STATUS_target = t ∧ u.get SYS_OUT_STATUS_cur = s.get SYS_OUT_STATUS_cur ∧
      u.get SYS_OUT_CMD_RESULT_code = 0 ∧ u = { s with regs := u.regs, out := { s.out with staged := some d, now := now, onDie := u.out.onDie }, lnk := u.lnk } ∧
      RegsBut [SYS_OUT_STATUS, SYS_OUT_CMD_RESULT] s u := by
  intro u
  obtain ⟨hstate, htarget, hcur⟩ := changeBegins_status (s := s) (now := now) (d := d) ht
  have hget {f : Fd} (hf : f.r.addr ≠ SYS_OUT_CMD_RESULT.addr) : u.get f = (changeBegins s t now d).get f :=
    (outEnd_get hf).trans (congrArg (fun w => getBits w f.hi f.lo) (stagingFrames_rd f.r))
  refine ⟨(hget (by decide)).trans hstate, (hget (by decide)).trans htarget, (hget (by decide)).trans hcur, outEnd_code (by decide), ?_,
    regsBut_outEnd fun q hq => (stagingFrames_rd q).trans (changeBegins_rd hq)⟩
  obtain ⟨l, m, honly⟩ := stagingFrames_only (d := d) (s := changeBegins s t now d)
  unfold u
  rw [honly]
  rfl

end

/-! ## CANCEL -/

section
variable {s : State}

/-- CANCEL of a change that is Staging or Armed discards it. -/
theorem outDrop_cancelled : let u := outEnd (outDrop s 3) 0
    u.get SYS_OUT_STATUS_state = 0 ∧ u.get SYS_OUT_STATUS_target = 0x3F ∧ u.get SYS_OUT_STATUS_last = 3 ∧
      u.get SYS_OUT_STATUS_cur = s.get SYS_OUT_STATUS_cur ∧ u.get SYS_OUT_CMD_RESULT_code = 0 ∧
      u = { s with regs := u.regs, out := { s.out with staged := none, now := false } } ∧ RegsBut [SYS_OUT_STATUS, SYS_OUT_CMD_RESULT] s u := by
  intro u
  obtain ⟨hstate, htarget, hlast, hcur, -⟩ := outDrop_status (s := s) (n := 3) (by decide)
  exact ⟨(outEnd_get (by decide)).trans hstate, (outEnd_get (by decide)).trans htarget, (outEnd_get (by decide)).trans hlast,
    (outEnd_get (by decide)).trans hcur, outEnd_code (by decide), rfl, regsBut_outEnd fun q hq => outDrop_rd hq⟩

end

end Sys2Proof.Machine
end

section
/-! When a change commits: on both acknowledgements, or at a period of the changing roster (R531, R532, R534). -/
namespace Sys2Proof.Machine
open Sys2Proof Reg

/-! ## The checks of a commit (R534) -/

section
variable {s : State} {d : List Word}

/-- The checks of R534 with their conditions, lowest first. -/
theorem commitFailure_eq : commitFailure s d =
    if s.get (PSW_DIE_STATE_state 0) ≠ 0 ∨ s.get (PSW_DIE_STATE_state 1) ≠ 0 then 1
    else if s.bit PWR_STATUS_hs = true then 2
    else if s.pwr.phase = .doze ∧ bitOf (d.getD 0 0) 0 = false then 3
    else if s.out.now = false ∧ ¬ (s.bit (TLN_ROS_CFG_en (s.get SYS_OUT_CFG_roster)) = true ∧ s.get (TLN_ROS_CFG_axis (s.get SYS_OUT_CFG_roster)) = 1) then 4
    else if s.get FLT_STATUS_mode = 2 then 5
    else 0 := by
  unfold commitFailure
  refine if_congr ?_ rfl (if_congr ?_ rfl (if_congr ?_ rfl (if_congr ?_ rfl (if_congr ?_ rfl rfl))))
  · simp [bothServed, dieState]
  · rfl
  · simp [permitsDoze, dw]
  · simp [outRoster, rosOn, rosAxis, imp_iff_not_or]
  · simp

/-- Conditions under which every check passes: both dies Served, no handshake, no Doze that the outfit does not permit, no Stop, and with now = 0 the
changing roster enabled on A1. -/
theorem commitFailure_eq_zero (hserved : s.get (PSW_DIE_STATE_state 0) = 0 ∧ s.get (PSW_DIE_STATE_state 1) = 0) (hhs : ¬ s.bit PWR_STATUS_hs = true)
    (hdoze : ¬ (s.pwr.phase = .doze ∧ ¬ bitOf (d.getD 0 0) 0 = true)) (hstop : ¬ s.get FLT_STATUS_mode = 2)
    (hroster : s.out.now = true ∨ s.bit (TLN_ROS_CFG_en (s.get SYS_OUT_CFG_roster)) = true ∧ s.get (TLN_ROS_CFG_axis (s.get SYS_OUT_CFG_roster)) = 1) :
    commitFailure s d = 0 := by
  have h1 : ¬ (s.get (PSW_DIE_STATE_state 0) ≠ 0 ∨ s.get (PSW_DIE_STATE_state 1) ≠ 0) := by simp [hserved]
  have h3 : ¬ (s.pwr.phase = .doze ∧ bitOf (d.getD 0 0) 0 = false) := by rwa [Bool.not_eq_true] at hdoze
  have h4 : ¬ (s.out.now = false ∧ ¬ (s.bit (TLN_ROS_CFG_en (s.get SYS_OUT_CFG_roster)) = true ∧
      s.get (TLN_ROS_CFG_axis (s.get SYS_OUT_CFG_roster)) = 1)) := fun ⟨hnow, hr⟩ => hroster.elim (by simp [hnow]) hr
  rw [commitFailure_eq, if_neg h1, if_neg hhs, if_neg h3, if_neg h4, if_neg hstop]

/-- With now = 1 no roster is checked. -/
theorem commitFailure_of_now (hn : s.out.now = true) : commitFailure s d =
    if s.get (PSW_DIE_STATE_state 0) ≠ 0 ∨ s.get (PSW_DIE_STATE_state 1) ≠ 0 then 1
    else if s.bit PWR_STATUS_hs = true then 2
    else if s.pwr.phase = .doze ∧ bitOf (d.getD 0 0) 0 = false then 3
    else if s.get FLT_STATUS_mode = 2 then 5
    else 0 := by
  simp [commitFailure_eq, hn]

/-- The reason for which a change with now = 1 that fails some check is abandoned. -/
def failedCheck (s : State) (d : List Word) : Nat :=
  if s.get (PSW_DIE_STATE_state 0) ≠ 0 ∨ s.get (PSW_DIE_STATE_state 1) ≠ 0 then 1
  else if s.bit PWR_STATUS_hs = true then 2
  else if s.pwr.phase = .doze ∧ bitOf (d.getD 0 0) 0 = false then 3
  else 5

theorem failedCheck_range : failedCheck s d ≠ 0 ∧ failedCheck s d < 8 := by
  unfold failedCheck
  split_ifs <;> decide

/-- With now = 1 a change that is not good fails the lowest check whose condition does not hold. -/
theorem commitFailure_of_not_good (hn : s.out.now = true) (hbad : ¬ ((s.get (PSW_DIE_STATE_state 0) = 0 ∧ s.get (PSW_DIE_STATE_state 1) = 0) ∧
    ¬ s.bit PWR_STATUS_hs = true ∧ ¬ (s.pwr.phase = .doze ∧ ¬ bitOf (d.getD 0 0) 0 = true) ∧ ¬ s.get FLT_STATUS_mode = 2)) :
    commitFailure s d = failedCheck s d := by
  rw [commitFailure_of_now hn, failedCheck]
  refine if_ctx_congr .rfl (fun _ => rfl) fun h1 => if_ctx_congr .rfl (fun _ => rfl) fun h2 => if_ctx_congr .rfl (fun _ => rfl) fun h3 => if_pos ?_
  rw [not_or, not_not, not_not] at h1
  rw [← Bool.not_eq_true] at h3
  exact by_contra fun h5 => hbad ⟨h1, h2, h3, h5⟩

end

/-! ## Both acknowledgements -/

/-- The state in which a change has become Armed. -/
def armed (s : State) : State := s.put SYS_OUT_STATUS_state 2

section
variable {s : State} {d : List Word} {c e : Nat}

/-- The hold window of a power die, named by its number. -/
theorem holdOf_fin (d : List Word) (e : Fin 2) : holdOf d e = if e = 0 then getBits (d.getD 3 0) 9 0 else getBits (d.getD 3 0) 25 16 := by
  simp only [holdOf, Fin.val_eq_zero_iff]
  rfl

theorem stagingTaken_iff : stagingTaken s = true ↔ ∀ e : Fin 2, s.out.onDie.find e ≠ none ∧ s.out.onDie.find e = s.out.staged := by
  simp [stagingTaken, Fin.forall_fin_two, Option.isSome_iff_ne_none]

theorem stagingAck_ignored (h : ¬ (s.get SYS_OUT_STATUS_state = 1 ∧ stagingTaken s = true ∧ ctlReached s = true)) : stagingAck s = s := if_neg h

theorem stagingAck_arms (h1 : s.get SYS_OUT_STATUS_state = 1) (ht : stagingTaken s = true) (hr : ctlReached s = true) :
    stagingAck s = if s.out.now then outCommit (armed s) none else armed s := if_pos ⟨h1, ht, hr⟩

theorem armed_get {f : Fd} (hf : f.r.addr ≠ SYS_OUT_STATUS.addr) : (armed s).get f = s.get f := s.get_put_reg _ _ _ hf
theorem armed_rd {q : Rg} (hq : q.addr ≠ SYS_OUT_STATUS.addr) : (armed s).rd q = s.rd q := s.rd_put_other _ _ _ hq
theorem armed_target : (armed s).get SYS_OUT_STATUS_target = s.get SYS_OUT_STATUS_target :=
  s.get_put_fld _ _ _ rfl (by decide) (by decide) (by decide) (by decide) (by decide)
theorem armed_cur : (armed s).get SYS_OUT_STATUS_cur = s.get SYS_OUT_STATUS_cur :=
  s.get_put_fld _ _ _ rfl (by decide) (by decide) (by decide) (by decide) (by decide)
theorem armed_count : (armed s).get SYS_OUT_STATUS_count = s.get SYS_OUT_STATUS_count :=
  s.get_put_fld _ _ _ rfl (by decide) (by decide) (by decide) (by decide) (by decide)

theorem armed_traffic : SameTraffic e s (armed s) := ⟨⟨armed_rd (by decide), armed_rd (by decide), rfl, rfl, rfl⟩, fun _ => rfl, rfl⟩

theorem armed_isFollower : isFollower (armed s) c = isFollower s c := isFollower_congr (armed_rd (by simp only [PSW_DIE_PAR, SYS_OUT_STATUS]; omega))

theorem armed_commitFailure (hn : s.out.now = true) : commitFailure (armed s) d = commitFailure s d := by
  have hbit : (armed s).bit PWR_STATUS_hs = s.bit PWR_STATUS_hs := congrArg (· == 1) (armed_get (by decide))
  have h (e : Nat) : (armed s).get (PSW_DIE_STATE_state e) = s.get (PSW_DIE_STATE_state e) :=
    armed_get (by simp only [PSW_DIE_STATE_state, PSW_DIE_STATE, SYS_OUT_STATUS]; omega)
  rw [commitFailure_of_now hn, commitFailure_of_now (s := armed s) hn, h, h, hbit, armed_get (f := FLT_STATUS_mode) (by decide)]
  rfl

/-! ### The change commits at once -/

section
variable (hs : (armed s).out.staged = some d) (hf : commitFailure (armed s) d = 0)
include hs hf

theorem commitNow_status : let u := outCommit (armed s) none
    u.get SYS_OUT_STATUS_state = 0 ∧ u.get SYS_OUT_STATUS_last = 1 ∧ u.get SYS_OUT_STATUS_target = 0x3F ∧ u.bit SYS_OUT_STATUS_dirty = false ∧
      u.get SYS_OUT_STATUS_count = (s.get SYS_OUT_STATUS_count + 1) % 256 ∧ u.get SYS_OUT_STATUS_cur = s.get SYS_OUT_STATUS_target := by
  have h := outCommit_status (boundary := none) hs hf
  rw [armed_count, armed_target] at h
  exact h

/-- The die whose commit frame has to wait has it ahead of every other, and what is staged stays with it. -/
theorem commitNow_of_queued (he : e < 2) (hd : s.out.onDie.find e = some d) (hr : dieReached s e = true) (hc : linkClear s e = false) :
    (outCommit (armed s) none).dir e false = (viaDieFirst s e .commit id).dir e false ∧ (outCommit (armed s) none).out.onDie.find e = some d := by
  have ht := armed_traffic (s := s) (e := e)
  obtain ⟨hdir, honDie⟩ := outCommit_of_queued (boundary := none) hs hf he (ht.dieReached.trans hr) (ht.linkClear.trans hc)
  exact ⟨hdir.trans (viaDieFirst_dir_congr ht.feed ht.dir hr hc _ _), honDie.trans hd⟩

/-- The die whose commit frame passes has applied what it had staged. -/
theorem commitNow_of_passes (e : Fin 2) (h : passes s e = true) (hd : s.out.onDie.find e = some d) :
    (outCommit (armed s) none).get (PSW_DIE_CFG_hold e) = (if e = 0 then getBits (d.getD 3 0) 9 0 else getBits (d.getD 3 0) 25 16) ∧
      (outCommit (armed s) none).get (LED_M_CFG_class e) = getBits (d.getD 36 0) (2 * e + 1) (2 * e) ∧
      (outCommit (armed s) none).out.onDie.find e = none := by
  obtain ⟨hhold, hport, hgone⟩ := outCommit_of_passes (boundary := none) hs hf e.isLt (armed_traffic.passes.trans h) hd
  exact ⟨hhold.trans (holdOf_fin d e), hport, hgone⟩

theorem commitNow_chanClass_of_passes (hc : c < 104) (h : passes s (dieOf c) = true) (hd : s.out.onDie.find (dieOf c) = some d) :
    (outCommit (armed s) none).get (PSW_CH_SAFE_class c) = if isFollower s c then s.get (PSW_CH_SAFE_class c)
      else getBits (d.getD (26 + c / 16) 0) (2 * (c % 16) + 1) (2 * (c % 16)) := by
  rw [outCommit_chanClass hs hf hc (armed_traffic.passes.trans h) hd, armed_isFollower,
    armed_get (f := PSW_CH_SAFE_class c) (by simp only [PSW_CH_SAFE_class, PSW_CH_SAFE, SYS_OUT_STATUS]; omega)]
  exact congrArg _ (dtwo_word d c 26)

theorem commitNow_chanClass_of_not_passes (hc : c < 104) (h : passes s (dieOf c) = false) :
    (outCommit (armed s) none).get (PSW_CH_SAFE_class c) = s.get (PSW_CH_SAFE_class c) := by
  rw [outCommit_get_of_not_passes hs hf (dieOf_lt hc) (armed_traffic.passes.trans h) (f := PSW_CH_SAFE_class c) (dieReg_chan (dieOf_lt hc) hc rfl)]
  exact armed_get (by simp only [PSW_CH_SAFE_class, PSW_CH_SAFE, SYS_OUT_STATUS]; omega)

theorem commitNow_sinkClass_of_passes (hc : c < 48) (h : passes s (c / 24) = true) (hd : s.out.onDie.find (c / 24) = some d) :
    (outCommit (armed s) none).get (LED_K_CFG_class c) = getBits (d.getD (33 + c / 16) 0) (2 * (c % 16) + 1) (2 * (c % 16)) := by
  rw [outCommit_sinkClass hs hf hc (armed_traffic.passes.trans h) hd]
  exact dtwo_word d c 33

theorem commitNow_sinkClass_of_not_passes (hc : c < 48) (h : passes s (c / 24) = false) :
    (outCommit (armed s) none).get (LED_K_CFG_class c) = s.get (LED_K_CFG_class c) := by
  have he : c / 24 < 2 := by omega
  rw [outCommit_get_of_not_passes hs hf he (armed_traffic.passes.trans h) (f := LED_K_CFG_class c) (dieReg_sink he hc rfl)]
  exact armed_get (by simp only [LED_K_CFG_class, LED_K_CFG, SYS_OUT_STATUS]; omega)

theorem commitNow_probing : (outCommit (armed s) none).bit ACC_CFG_en = (bitOf (d.getD 0 0) 3 && s.get SYS_OUT_STATUS_target != 7) := by
  rw [outCommit_probing hs hf, armed_target]
  rfl

theorem commitNow_bus {n : Nat} (hn : n < 22) : (outCommit (armed s) none).bit (NMG_BUS_CFG_wake n) = bitOf (d.getD 4 0) n ∧
    (outCommit (armed s) none).get (NMG_BUS_CFG_pin n) = getBits (d.getD (5 + n / 16) 0) (2 * (n % 16) + 1) (2 * (n % 16)) := by
  rw [← dtwo_word d n 5]
  exact outCommit_bus hs hf hn

theorem commitNow_roster {r : Nat} (h1 : 1 ≤ r) (h64 : r < 64) :
    (outCommit (armed s) none).bit (TLN_ROS_CFG_en r) = bitOf (d.getD (8 + r / 32) 0) (r % 32) := by
  rw [← dbit_word d r 8]
  exact outCommit_roster hs hf h1 h64

theorem commitNow_track {n : Nat} (hn : n < 512) :
    (outCommit (armed s) none).bit (LDG_TRK_CFG_open n) = bitOf (d.getD (10 + n / 32) 0) (n % 32) := by
  rw [← dbit_word d n 10]
  exact outCommit_track hs hf hn

theorem commitNow_budget (hc : c < 104) : (outCommit (armed s) none).get (PSW_CH_STATE_cmd c) = s.get (PSW_CH_STATE_cmd c) ∧
    (outCommit (armed s) none).get (PSW_BUD_prio c) = (byteOf (d.getD ((0xAC + c) / 4) 0) (c % 4)).toNat / 64 ∧
    (outCommit (armed s) none).get (PSW_BUD_floor c) = (byteOf (d.getD ((0xAC + c) / 4) 0) (c % 4)).toNat % 32 := by
  rw [← budgetByte_eq, outCommit_command hs hf hc]
  exact ⟨armed_get (by simp only [PSW_CH_STATE_cmd, PSW_CH_STATE, SYS_OUT_STATUS]; omega), outCommit_budget hs hf hc⟩

end

end

/-! ## A period of the changing roster -/

section
variable {s : State} {d : List Word} {due : Due} {ds : List Due} {r n : Nat}

/-- The state with the head of the due queue taken off. -/
def withDue (s : State) (ds : List Due) : State := { s with tln := { s.tln with due := ds } }

theorem rosterPeriodStart_served {r : Fin 64} (hrun : tlnRuns s = true) (hdue : s.tln.due = due :: ds) (hkind : due.kind = .period r n) :
    exec (.rosterPeriodStart r) s = .next (fireStart (withDue s ds) due r n) := by
  have hhead : headStart s = some r.val := by rw [headStart, hdue]; dsimp only; rw [hkind]
  have hserve : serveDue s = fireStart (withDue s ds) due r n := by rw [serveDue, hdue]; dsimp only; rw [hkind]; rfl
  have hexec : exec (.rosterPeriodStart r) s = .next (if tlnRuns s && headStart s == some r.val then serveDue s else s) := rfl
  rw [hexec, hrun, hhead, hserve]
  simp

/-- The commit comes first; what the period start does after it stays in the rosters. -/
theorem fireStart_changing (hr : r < 64) (hc : changing s r = true) : TlnSpares RosterReg (outCommit s (some (rosStart s r n))) (fireStart s due r n) := by
  unfold fireStart
  rw [if_pos hc]
  dsimp only
  split
  · exact startPeriod_spares _ _ hr
  · exact .refl

/-- The changing roster starts a period, and the Armed change passes its checks: it has committed. -/
theorem fireStart_commits (hr : r < 64) (hc : changing s r = true) (hs : s.out.staged = some d) (hf : commitFailure s d = 0) :
    let u := fireStart s due r n
    u.get SYS_OUT_STATUS_state = 0 ∧ u.get SYS_OUT_STATUS_last = 1 ∧ u.get SYS_OUT_STATUS_cur = s.get SYS_OUT_STATUS_target ∧
      u.out = { u.out with staged := none, now := false, force := some d } ∧ u.bit ACC_CFG_en = probes (s.get SYS_OUT_STATUS_target) d := by
  intro u
  have hspare : TlnSpares RosterReg (outCommit s (some (rosStart s r n))) u := fireStart_changing hr hc
  have hstatus : ¬ RosterReg SYS_OUT_STATUS.addr := by unfold RosterReg; decide
  have haccess : ¬ RosterReg ACC_CFG.addr := by unfold RosterReg; decide
  obtain ⟨hstate, hlast, -, -, -, hcur⟩ := outCommit_status (boundary := some (rosStart s r n)) hs hf
  refine ⟨(hspare.get hstatus).trans hstate, (hspare.get hstatus).trans hlast, (hspare.get hstatus).trans hcur, ?_,
    (hspare.bit haccess).trans (outCommit_probing hs hf)⟩
  rw [hspare.out]
  exact outCommit_out hs hf

end

end Sys2Proof.Machine
end

section
/-! Outfits change whole or not at all (R528 to R541). -/
namespace Sys2Proof.Machine
open Sys2Proof Reg

/-! ## Every clause of a change, from its own part -/

section
variable {s : State} {d : List Word} {code : Nat} {t : Fin 32} {now : Bool}

/-- A CHANGE that is refused, as the command performs it. -/
theorem exec_change_refused (hr : ctlReached s = true) (h : changeRefusal s t now (descriptor s t) = code) (hc : code ≠ 0) :
    exec (.change 0 t now) s = .next (blockRec ((s.wrap SYS_OUT_CMD_RESULT_seq).put SYS_OUT_CMD_RESULT_code code) 0x21
      ([s.get SYS_OUT_STATUS_cur, t.val, code, 0].map (BitVec.ofNat 8) ++ leBytes 4 (s.rd SYS_OUT_STATUS).toNat)) := by
  rw [exec_change]
  exact congrArg _ ((outCommand_change hr t).trans (outChange_refused h hc))

/-- A CHANGE that is accepted, as the command performs it. -/
theorem exec_change_accepted (hr : ctlReached s = true) (h : changeRefusal s t now (descriptor s t) = 0) :
    exec (.change 0 t now) s = .next (outEnd (stagingFrames (descriptor s t) (changeBegins s t now (descriptor s t))) 0) := by
  rw [exec_change]
  exact congrArg _ ((outCommand_change hr t).trans (outChange_accepted h))

theorem exec_cancel_idle (hr : ctlReached s = true) (h : s.get SYS_OUT_STATUS_state = 0) : exec (.cancel 0) s = .next (outEnd s 1) := by
  rw [exec_cancel]
  refine congrArg _ ((outCommand_cancel hr _).trans (if_neg ?_))
  simp [outChanging, h]

theorem exec_cancel_changing (hr : ctlReached s = true) (h : s.get SYS_OUT_STATUS_state ≠ 0) :
    exec (.cancel 0) s = .next (outEnd (outDrop s 3) 0) := by
  rw [exec_cancel]
  refine congrArg _ ((outCommand_cancel hr _).trans (if_pos ?_))
  simp [outChanging, h]

theorem changing_of_armed {r : Nat} (h2 : s.get SYS_OUT_STATUS_state = 2) (hr : s.get SYS_OUT_CFG_roster = r) (hn : s.out.now = false) :
    changing s r = true := by
  simp [changing, h2, hr, hn]

theorem not_endReg_track {n : Nat} (hn : n < 512) : ¬ EndReg (LDG_TRK_CFG n).addr := fun h => by
  have hr := h.range
  simp only [LDG_TRK_CFG] at hr
  omega

theorem passes_iff {e : Nat} : passes s e = true ↔ dieReached s e = true ∧ linkClear s e = true := Bool.and_eq_true_iff

theorem not_passes_iff {e : Nat} : ¬ (dieReached s e = true ∧ linkClear s e = true) ↔ passes s e = false := by
  rw [← passes_iff, Bool.not_eq_true]

end

/-- Settles O57: a change is refused or begun as a whole, and it ends in one commit of all its fields or with nothing written. -/
theorem outfitsChangeWhole : Obligations.OutfitsChangeWhole := by
  unfold Obligations.OutfitsChangeWhole
  intro s o inForce cur st roster rosterGood served hs stop doze taken dozes
  refine ⟨?denied, ?change, ?cancelIdle, ?cancelChanging, ?notAcknowledged, ?arms, ?commitsNow, ?commitsAtPeriod⟩
  case denied =>
    intro w t now hw i hi
    simp only [List.mem_cons, List.not_mem_nil, or_false] at hi
    obtain rfl | rfl := hi
    · rw [exec_change]
      exact ⟨fun hr => congrArg _ (outCommand_held hr _ _), fun hr => congrArg _ (outCommand_denied hr hw _ _)⟩
    · rw [exec_cancel]
      exact ⟨fun hr => congrArg _ (outCommand_held hr _ _), fun hr => congrArg _ (outCommand_denied hr hw _ _)⟩
  case change =>
    intro hr t now d ending Refused c1 c2 c3 c4 c5 c6 c8
    have hcode := changeRefusal_eq (s := s) (t := t) (now := now) (d := d)
    refine ⟨fun h1 => ?_, fun h1 h2 => ?_, fun h1 h2 h3 => ?_, fun h1 h2 h3 h4 => ?_, fun h1 h2 h3 h4 h5 => ?_, fun h1 h2 h3 h4 h5 h6 => ?_,
      fun h1 h2 h3 h4 h5 h6 h7 => ?_, fun h1 h2 h3 h4 h5 h6 h7 h8 => ?_, fun h1 h2 h3 h4 h5 h6 h7 h8 => ?_⟩
    · exact exec_change_refused hr (hcode.trans (if_pos h1)) (by decide)
    · exact exec_change_refused hr (by rw [hcode, if_neg h1, if_pos h2]) (by decide)
    · exact exec_change_refused hr (by rw [hcode, if_neg h1, if_neg h2, if_pos h3]) (by decide)
    · exact exec_change_refused hr (by rw [hcode, if_neg h1, if_neg h2, if_neg h3, if_pos h4]) (by decide)
    · exact exec_change_refused hr (by rw [hcode, if_neg h1, if_neg h2, if_neg h3, if_neg h4, if_pos h5]) (by decide)
    · exact exec_change_refused hr (by rw [hcode, if_neg h1, if_neg h2, if_neg h3, if_neg h4, if_neg h5, if_pos h6]) (by decide)
    · exact exec_change_refused hr (by rw [hcode, if_neg h1, if_neg h2, if_neg h3, if_neg h4, if_neg h5, if_neg h6, if_pos h7]) (by decide)
    · exact exec_change_refused hr (by rw [hcode, if_neg h1, if_neg h2, if_neg h3, if_neg h4, if_neg h5, if_neg h6, if_neg (not_not.2 h7), if_pos h8])
        (by decide)
    · have hzero : changeRefusal s t now (descriptor s t) = 0 := by
        rw [hcode, if_neg h1, if_neg h2, if_neg h3, if_neg h4, if_neg h5, if_neg h6, if_neg (not_not.2 h7), if_neg h8]
      obtain ⟨hstate, htarget, hcur, hresult, honly, hregs⟩ := outChange_staging (s := s) (d := d) (now := now) (t := t) (by omega)
      refine ⟨_, exec_change_accepted hr hzero, hstate, htarget, hcur, hresult, honly, hregs, fun e => ?_⟩
      obtain ⟨hreceived, hqueued, hignored⟩ := stagingSent_changeBegins (s := s) (t := t) (now := now) (d := d) e.isLt
      exact ⟨hreceived, hqueued, hignored⟩
  case cancelIdle => exact exec_cancel_idle
  case cancelChanging => exact fun hr h => ⟨_, exec_cancel_changing hr h, outDrop_cancelled⟩
  case notAcknowledged =>
    intro h
    rw [exec_stagingAck]
    refine congrArg _ (stagingAck_ignored fun ⟨h1, ht, hr⟩ => ?_)
    rw [stagingTaken_iff] at ht
    rcases h with h | h | h
    · exact h h1
    · exact h ht
    · simp [h] at hr
  case arms =>
    intro h1 ht hr hn
    rw [exec_stagingAck, stagingAck_arms h1 (stagingTaken_iff.2 ht) hr, if_neg (by simp [show s.out.now = false from hn])]
    rfl
  case commitsNow =>
    intro d h1 ht hr hn hd good why target
    have hack : exec .stagingAck s = .next (outCommit (armed s) none) := by
      rw [exec_stagingAck]
      exact congrArg _ ((stagingAck_arms h1 (stagingTaken_iff.2 ht) hr).trans (if_pos hn))
    have harmed : (armed s).out.staged = some d := hd
    have hwhy := armed_commitFailure (d := d) hn
    refine ⟨fun hbad => ?abandoned, fun hgood => ?committed⟩
    case abandoned =>
      obtain ⟨hne, hlt⟩ := failedCheck_range (s := s) (d := d)
      have hfail : commitFailure (armed s) d = failedCheck s d := hwhy.trans (commitFailure_of_not_good hn hbad)
      obtain ⟨hstate, hlast, hreason, hcur, hout, hpsw, htln, hcpu, hrd⟩ := outCommit_of_failure (boundary := none) harmed hfail hne hlt
      refine ⟨_, hack, hstate, hlast, hreason, hcur.trans armed_cur, hout, hpsw, htln, hcpu, fun n hn => ?_⟩
      exact (hrd _ (not_endReg_track hn)).trans (armed_rd (by simp only [LDG_TRK_CFG, SYS_OUT_STATUS]; omega))
    case committed =>
      obtain ⟨hserved, hhs, hdoze, hstop⟩ := hgood
      have hf : commitFailure (armed s) d = 0 := hwhy.trans (commitFailure_eq_zero hserved hhs hdoze hstop (.inl hn))
      have honDie (e : Nat) (he : e < 2) : s.out.onDie.find e = some d := (ht ⟨e, he⟩).2.trans hd
      obtain ⟨hstate, hlast, htarget, hdirty, hcount, hcur⟩ := commitNow_status harmed hf
      refine ⟨_, hack, hstate, hlast, htarget, hdirty, hcount, hcur, outCommit_out harmed hf, congrArg _ (outCommit_cpu harmed hf), ?dies,
        commitNow_probing harmed hf, outCommit_antennas harmed hf, outCommit_probePeriod harmed hf, outCommit_ceiling harmed hf,
        fun n hn => commitNow_bus harmed hf hn, fun r h1 h64 => commitNow_roster harmed hf h1 h64, fun n hn => commitNow_track harmed hf hn,
        fun c hc => commitNow_budget harmed hf hc⟩
      case dies =>
        intro now
        refine ⟨fun e => commitNow_of_queued harmed hf e.isLt (honDie e e.isLt), fun e h => ?_, fun c hc h => ?_, fun c hc h => ?_, fun k hk h => ?_,
          fun k hk h => ?_⟩
        · exact commitNow_of_passes harmed hf e (passes_iff.2 h) (honDie e e.isLt)
        · exact commitNow_chanClass_of_passes harmed hf hc (passes_iff.2 h) (honDie _ (dieOf_lt hc))
        · exact commitNow_chanClass_of_not_passes harmed hf hc (not_passes_iff.1 h)
        · exact commitNow_sinkClass_of_passes harmed hf hk (passes_iff.2 h) (honDie _ (by omega))
        · exact commitNow_sinkClass_of_not_passes harmed hf hk (not_passes_iff.1 h)
  case commitsAtPeriod =>
    intro r d n due hrun hdue hkind h2 hr hn hd hserved hhs hdoze hgood hstop
    obtain ⟨ds, hdue⟩ := hdue
    have hchanging : changing s r = true := changing_of_armed h2 hr hn
    have hpass : commitFailure (withDue s ds) d = 0 := commitFailure_eq_zero hserved hhs hdoze hstop (.inr hgood)
    exact ⟨_, rosterPeriodStart_served hrun hdue hkind, fireStart_commits (s := withDue s ds) r.isLt hchanging hd hpass⟩

end Sys2Proof.Machine
end

section
/-! The step, the state after reset, and the ALU, accumulator and control syllables (R103 to R114, R129 to R143). -/
namespace Sys2Proof.Machine
open Sys2Proof

/-- Settles O1: the step at a queue that is not empty (`step_cons`). -/
theorem stepRunsFrontCommand : Obligations.StepRunsFrontCommand :=
  fun c cs s h => step_cons s c cs h

/-- Settles O59: after reset every store is empty, and nothing waits. -/
theorem resetMeetsTheInvariant : Obligations.ResetMeetsTheInvariant := by
  unfold Obligations.ResetMeetsTheInvariant Inv
  rw [Memory.wf_reset]
  exact ⟨rfl, rfl⟩

/-! ## The values of ALU syllables -/

theorem setWidth_ofNat_four (n : Fin 16) : (BitVec.ofNat 4 n.val).setWidth 32 = BitVec.ofNat 32 n.val := by
  revert n
  decide

/-- A word cut to its low `k` bits. -/
theorem setWidth_setWidth_eq_and (k : Nat) (v : Word) : (v.setWidth k).setWidth 32 = v &&& (BitVec.allOnes k).setWidth 32 := by
  ext i hi
  by_cases h : i < k <;> simp [h, BitVec.getLsbD_eq_getElem hi]

/-- The leading zeros are counted by the highest bit that is set. -/
theorem clz_eq {v : Word} {n : Nat} (hn : n ≤ 32) (hz : ∀ i, 32 - n ≤ i → i < 32 → v.getLsbD i = false) (ho : n < 32 → v.getLsbD (31 - n) = true) :
    clz v = n := by
  unfold clz
  rcases Nat.lt_or_eq_of_le hn with h | rfl
  · refine List.findIdx_eq (by simpa using h) |>.2 ⟨by simpa using ho h, fun j hj => ?_⟩
    simpa using hz (31 - j) (by omega) (by omega)
  · have hlen : ((List.range 32).map fun i => 31 - i).length = 32 := by simp
    conv_rhs => rw [← hlen]
    refine List.findIdx_eq_length.2 fun i hi => ?_
    obtain ⟨j, hj, rfl⟩ := List.mem_map.1 hi
    rw [hz _ (by omega) (by omega)]

theorem cswWord_of_no_branch (r : CRegs) :
    cswWord { r with branch := none } = BitVec.ofNat 32 (2 * b2n r.accsat + 4 * b2n r.ov0 + 8 * b2n r.ov1 + 4096 * r.qrdy.toNat) := by
  simp only [cswWord, Option.isSome_none, b2n, Bool.false_eq_true, if_false]
  congr 1
  omega

/-- Settles O5: each syllable is issued with one result (`completes_gives`), of the value its operation computes. -/
theorem aluSyllablesWithoutWiden : Obligations.AluSyllablesWithoutWiden := by
  unfold Obligations.AluSyllablesWithoutWiden
  intro s c sl gd rd rs q h r hg Gives imm
  have gives_of {i : Instr} {spell : Option Widen → Bool} {f : Option Widen → State → State} (v : CRegs → Word)
      (hi : exec i s = .next (issue c sl spell gd f s)) (hs : spell none = true) (hf : ∀ u, f none u = result u c 1 rd (v (u.ctx c).regs)) :
      Gives i (v r) := completes_gives (g := fun r => .g rd (v r)) hi h hs hg hf
  refine ⟨?mov, ?add, ?sub, ?and, ?addi, ?ins, ?not, ?neg, ?abs, ?clz, ?sext8, ?sext16, ?zext8, ?zext16, ?rdpred, ?rdq, ?rdcsw⟩
  case mov => exact gives_of (fun r => r.rg rs) rfl rfl fun _ => rfl
  case add => exact gives_of (fun r => r.rg rd + r.rg rs) rfl rfl fun _ => rfl
  case sub => exact gives_of (fun r => r.rg rd - r.rg rs) rfl rfl fun _ => rfl
  case and => exact gives_of (fun r => r.rg rd &&& r.rg rs) rfl rfl fun _ => rfl
  case addi => exact gives_of (fun r => r.rg rd + immS rs none) rfl rfl fun _ => rfl
  case ins =>
    rw [← setWidth_ofNat_four]
    exact gives_of (fun r => (r.rg rd <<< 4) ||| immU rs none) rfl rfl fun _ => rfl
  case not => exact gives_of (fun r => ~~~ r.rg rd) rfl rfl fun _ => rfl
  case neg => exact gives_of (fun r => 0 - r.rg rd) rfl rfl fun _ => rfl
  case abs => exact gives_of (fun r => if (r.rg rd).msb then 0 - r.rg rd else r.rg rd) rfl rfl fun _ => rfl
  case clz =>
    intro n hn hz ho
    rw [← clz_eq hn hz ho]
    exact gives_of (fun r => BitVec.ofNat 32 (clz (r.rg rd))) rfl rfl fun _ => rfl
  case sext8 => exact gives_of (fun r => ((r.rg rd).setWidth 8).signExtend 32) rfl rfl fun _ => rfl
  case sext16 => exact gives_of (fun r => ((r.rg rd).setWidth 16).signExtend 32) rfl rfl fun _ => rfl
  case zext8 =>
    rw [show r.rg rd &&& 0xFF = ((r.rg rd).setWidth 8).setWidth 32 from (setWidth_setWidth_eq_and 8 _).symm]
    exact gives_of (fun r => ((r.rg rd).setWidth 8).setWidth 32) rfl rfl fun _ => rfl
  case zext16 =>
    rw [show r.rg rd &&& 0xFFFF = ((r.rg rd).setWidth 16).setWidth 32 from (setWidth_setWidth_eq_and 16 _).symm]
    exact gives_of (fun r => ((r.rg rd).setWidth 16).setWidth 32) rfl rfl fun _ => rfl
  case rdpred => exact gives_of (fun r => r.p.setWidth 32 ||| 1) rfl rfl fun _ => rfl
  case rdq => exact gives_of (fun r => r.rq q) rfl rfl fun _ => rfl
  case rdcsw =>
    rw [← cswWord_of_no_branch]
    exact gives_of (fun r => cswWord { r with branch := none }) rfl rfl fun _ => rfl

end Sys2Proof.Machine
end

section
/-! ALU syllables under a WIDEN, and the accumulator syllables (R111 to R114, R130, R132, R142). -/
namespace Sys2Proof.Machine
open Sys2Proof

/-! ## The fields of a WIDEN's payload -/

/-- A field of a word is a quotient and a remainder. -/
theorem getBits_eq (w : Word) (hi lo : Nat) (h : hi < 32) : getBits w hi lo = w.toNat / 2 ^ lo % 2 ^ (hi - lo + 1) := by
  refine Nat.eq_of_testBit_eq fun i => ?_
  rw [testBit_getBits _ _ _ _ h, Nat.testBit_mod_two_pow, Nat.testBit_div_two_pow, BitVec.testBit_toNat, Nat.add_comm lo]
  congr 1
  exact decide_eq_decide.2 Nat.lt_add_one_iff.symm

/-- The fields of a payload, as numbers (R129). -/
theorem getBits_payload (imm : Byte) : getBits (imm.setWidth 32) 7 7 = imm.toNat / 128 ∧ getBits (imm.setWidth 32) 7 6 = imm.toNat / 64 ∧
    getBits (imm.setWidth 32) 7 5 = imm.toNat / 32 ∧ getBits (imm.setWidth 32) 6 4 = imm.toNat / 16 % 8 ∧ getBits (imm.setWidth 32) 5 4 = imm.toNat / 16 % 4 ∧
    getBits (imm.setWidth 32) 4 4 = imm.toNat / 16 % 2 ∧ getBits (imm.setWidth 32) 3 2 = imm.toNat / 4 % 4 ∧ getBits (imm.setWidth 32) 3 0 = imm.toNat % 16 ∧
    getBits (imm.setWidth 32) 1 0 = imm.toNat % 4 := by
  have field (hi lo : Nat) (h : hi < 32) : getBits (imm.setWidth 32) hi lo = imm.toNat / 2 ^ lo % 2 ^ (hi - lo + 1) := by
    rw [getBits_eq _ _ _ h, BitVec.toNat_setWidth_of_le (by decide)]
  have top {m n : Nat} (h : m * n = 256) : imm.toNat / m < n := Nat.div_lt_of_lt_mul (h ▸ imm.isLt)
  exact ⟨(field 7 7 (by decide)).trans (Nat.mod_eq_of_lt (top rfl)), (field 7 6 (by decide)).trans (Nat.mod_eq_of_lt (top rfl)),
    (field 7 5 (by decide)).trans (Nat.mod_eq_of_lt (top rfl)), field 6 4 (by decide), field 5 4 (by decide), field 4 4 (by decide), field 3 2 (by decide),
    (field 3 0 (by decide)).trans (congrArg (· % 16) (Nat.div_one _)), (field 1 0 (by decide)).trans (congrArg (· % 4) (Nat.div_one _))⟩

/-- The fields of a payload by what the masks of R132 and R142 leave of it. -/
theorem getBits_masked : ∀ imm : Byte,
    (getBits (imm.setWidth 32) 3 0 = (imm &&& 0xEF).toNat % 32 ∧ getBits (imm.setWidth 32) 7 5 = (imm &&& 0xEF).toNat / 32 ∧
      getBits (imm.setWidth 32) 4 4 = b2n (imm.getLsbD 4)) ∧
    (getBits (imm.setWidth 32) 6 4 = (imm &&& 0x7F).toNat / 16 ∧ getBits (imm.setWidth 32) 3 2 = (imm &&& 0x7F).toNat / 4 % 4 ∧
      getBits (imm.setWidth 32) 1 0 = (imm &&& 0x7F).toNat % 4) ∧
    getBits (imm.setWidth 32) 6 4 = (imm &&& 0x7C).toNat / 16 ∧ getBits (imm.setWidth 32) 3 2 = (imm &&& 0x7C).toNat / 4 % 4 := by
  decide +kernel

/-- The fields of an immediate shift (R132): its selector, the bits it needs clear, and the top bit of the amount. -/
theorem getBits_of_shift {imm : Byte} {sel : Fin 16} (h : imm &&& 0xEF = BitVec.ofNat 8 sel) :
    getBits (imm.setWidth 32) 3 0 = sel ∧ getBits (imm.setWidth 32) 7 5 = 0 ∧ getBits (imm.setWidth 32) 4 4 = b2n (imm.getLsbD 4) := by
  have hsel : ∀ sel : Fin 16, (BitVec.ofNat 8 sel).toNat % 32 = sel ∧ (BitVec.ofNat 8 sel).toNat / 32 = 0 := by decide
  obtain ⟨⟨h30, h75, h44⟩, -⟩ := getBits_masked imm
  rw [h] at h30 h75
  exact ⟨h30.trans (hsel sel).1, h75.trans (hsel sel).2, h44⟩

/-- What an operation number of the multiply-accumulate words gives (R142). -/
theorem toNat_macOp : ∀ op : Fin 8, (BitVec.ofNat 8 (16 * op)).toNat / 16 = op ∧ (BitVec.ofNat 8 (16 * op)).toNat / 4 % 4 = 0 ∧
    (BitVec.ofNat 8 (16 * op)).toNat % 4 = 0 := by decide

/-- The operation of a payload whose low seven bits name it (R142). -/
theorem getBits_of_macOp {imm : Byte} {op : Fin 8} (h : imm &&& 0x7F = BitVec.ofNat 8 (16 * op)) :
    getBits (imm.setWidth 32) 6 4 = op ∧ getBits (imm.setWidth 32) 3 2 = 0 ∧ getBits (imm.setWidth 32) 1 0 = 0 := by
  obtain ⟨-, ⟨h64, h32, h10⟩, -⟩ := getBits_masked imm
  rw [h] at h64 h32 h10
  obtain ⟨hop, hzero, hlow⟩ := toNat_macOp op
  exact ⟨h64.trans hop, h32.trans hzero, h10.trans hlow⟩

/-- The operation of a payload whose two lowest bits are of the shift (R142). -/
theorem getBits_of_macShiftOp {imm : Byte} {op : Fin 8} (h : imm &&& 0x7C = BitVec.ofNat 8 (16 * op)) :
    getBits (imm.setWidth 32) 6 4 = op ∧ getBits (imm.setWidth 32) 3 2 = 0 := by
  obtain ⟨-, -, h64, h32⟩ := getBits_masked imm
  rw [h] at h64 h32
  obtain ⟨hop, hzero, -⟩ := toNat_macOp op
  exact ⟨h64.trans hop, h32.trans hzero⟩

/-! ## LOG operations and immediates -/

/-- Settles O6: each syllable is issued with one result (`completes_gives`), of the value its operation computes. -/
theorem aluSyllablesUnderWiden : Obligations.AluSyllablesUnderWiden := by
  unfold Obligations.AluSyllablesUnderWiden
  intro s c w gd rd rs h r hg Gives imm n m
  have gives_of {i : Instr} {gd : Nat} {spell : Option Widen → Bool} {f : Option Widen → State → State} (v : CRegs → Word)
      (hi : exec i s = .next (issue c .B spell gd f s)) (hs : spell (some w) = true) (hf : ∀ u, f (some w) u = result u c 1 rd (v (u.ctx c).regs)) :
      Gives i (v r) := completes_gives (g := fun r => .g rd (v r)) hi h hs hg hf
  have log_of {i : Instr} {sel : Nat} (op : Word → Word → Word) (hi : exec i s = .next (logOp c rd rs sel op s)) (hs : w.imm.toNat = sel) :
      Gives i (op (r.rg rd) (r.rg rs)) :=
    gives_of (f := fun _ s => let r := (s.ctx c).regs; result s c 1 rd (op (r.rg rd) (r.rg rs))) (fun r => op (r.rg rd) (r.rg rs)) hi (beq_iff_eq.2 hs)
      fun _ => rfl
  have shift_of {i : Instr} (sel : Fin 16) (op : Word → Nat → Word) (hi : exec i s = .next (shiftImm c rd rs sel op s))
      (hs : w.imm &&& 0xEF = BitVec.ofNat 8 sel) : Gives i (op (r.rg rd) n) := by
    obtain ⟨hsel, hzero, hfour⟩ := getBits_of_shift hs
    rw [show n = getBits (w.imm.setWidth 32) 4 4 * 16 + rs from by rw [hfour, Nat.mul_comm]]
    exact gives_of (fun r => op (r.rg rd) _) hi (by simp [withWiden, Widen.bits, hsel, hzero]) fun _ => rfl
  have signed {p q : Prop} [Decidable p] [Decidable q] (a b : Word) (hpq : p ↔ ¬ q) : (if p then a else b) = if q then b else a := by
    simp only [hpq, ite_not]
  refine ⟨?movi, ?addi, ?ins, ?add, ?and, ?or, ?xor, ?andn, ?shl, ?shr, ?sar, ?min, ?max, ?minu, ?maxu, ?movr, ?shli, ?shri, ?sari⟩
  case movi => exact gives_of (fun _ => immS rs (some w)) rfl rfl fun _ => rfl
  case addi => exact gives_of (fun r => r.rg rd + immS rs (some w)) rfl rfl fun _ => rfl
  case ins => exact gives_of (fun r => (r.rg rd <<< 12) ||| immU rs (some w)) rfl rfl fun _ => rfl
  case add => exact gives_of (fun r => r.rg rd + r.rg rs) rfl rfl fun _ => rfl
  case and => exact fun hs => gives_of (fun r => r.rg rd &&& r.rg rs) rfl (beq_iff_eq.2 hs) fun _ => rfl
  case or => exact fun hs => log_of (· ||| ·) rfl (hs ▸ rfl)
  case xor => exact fun hs => log_of (· ^^^ ·) rfl (hs ▸ rfl)
  case andn => exact fun hs => log_of (fun a b => a &&& ~~~ b) rfl (hs ▸ rfl)
  case shl => exact fun hs => log_of (fun a b => a <<< (b.toNat % 32)) rfl (hs ▸ rfl)
  case shr => exact fun hs => log_of (fun a b => a >>> (b.toNat % 32)) rfl (hs ▸ rfl)
  case sar => exact fun hs => log_of (fun a b => a.sshiftRight (b.toNat % 32)) rfl (hs ▸ rfl)
  case min =>
    intro hs
    rw [signed (q := (r.rg rs).slt (r.rg rd) = true) _ _ (by simp [BitVec.slt])]
    exact log_of (fun a b => if b.slt a then b else a) rfl (hs ▸ rfl)
  case max =>
    intro hs
    have := log_of (i := .max c rd rs) (fun a b => if a.slt b then b else a) rfl (hs ▸ rfl)
    simpa [BitVec.slt] using this
  case minu =>
    intro hs
    rw [signed (q := (r.rg rs).ult (r.rg rd) = true) _ _ (by simp [BitVec.ult])]
    exact log_of (fun a b => if b.ult a then b else a) rfl (hs ▸ rfl)
  case maxu =>
    intro hs
    have := log_of (i := .maxu c rd rs) (fun a b => if a.ult b then b else a) rfl (hs ▸ rfl)
    simpa [BitVec.ult] using this
  case movr => exact fun hs => log_of (fun _ b => b) rfl (hs ▸ rfl)
  case shli => exact fun hs => shift_of 0xB (fun a n => a <<< n) rfl hs
  case shri => exact fun hs => shift_of 0xC (fun a n => a >>> n) rfl hs
  case sari => exact fun hs => shift_of 0xD (fun a n => a.sshiftRight n) rfl hs

/-! ## Accumulator syllables -/

theorem accWrite_fits (sat : Bool) {z : Int} (h1 : -2 ^ 71 ≤ z) (h2 : z < 2 ^ 71) : accWrite sat z = (BitVec.ofInt 72 z, false) :=
  if_pos ⟨h1, by unfold accMax; omega⟩

theorem accWrite_above (sat : Bool) {z : Int} (h : 2 ^ 71 ≤ z) :
    accWrite sat z = (if sat then BitVec.ofInt 72 (2 ^ 71 - 1) else BitVec.ofInt 72 z, true) := by
  have hmax : ¬ (accMin ≤ z ∧ z ≤ accMax) := fun hz => by unfold accMax at hz; omega
  have hmin : ¬ z < accMin := by unfold accMin; omega
  rw [accWrite, if_neg hmax, if_neg hmin]
  cases sat <;> rfl

theorem accWrite_below (sat : Bool) {z : Int} (h : z < -2 ^ 71) :
    accWrite sat z = (if sat then BitVec.ofInt 72 (-2 ^ 71) else BitVec.ofInt 72 z, true) := by
  have hmin : z < accMin := h
  have hfits : ¬ (accMin ≤ z ∧ z ≤ accMax) := fun hz => by omega
  rw [accWrite, if_neg hfits, if_pos hmin]
  cases sat <;> rfl

theorem signExtend_shiftLeft (v : Word) (k : Nat) : (v.signExtend 72) <<< k = BitVec.ofInt 72 (v.toInt * 2 ^ k) := by
  have htwo : BitVec.twoPow 72 k = BitVec.ofInt 72 (2 ^ k) := by
    apply BitVec.eq_of_toNat_eq
    rw [BitVec.toNat_twoPow, BitVec.toNat_ofInt]
    norm_cast
  rw [BitVec.shiftLeft_eq_mul_twoPow, BitVec.ofInt_mul, htwo, BitVec.signExtend]

/-- Settles O9: each syllable is issued with one result at distance 3 (`completes_gives`), the sums as R111 writes them (`accWrite_fits`,
`accWrite_above`, `accWrite_below`). -/
theorem accumulatorSyllables : Obligations.AccumulatorSyllables := by
  unfold Obligations.AccumulatorSyllables
  intro s c w ra rb h hg r i a x y sh Acc Sum
  have hi : macAcc (some w) = i := (getBits_payload w.imm).1
  have hsh : macShift (some w) rb = sh := by
    obtain ⟨-, -, -, -, -, -, -, -, h10⟩ := getBits_payload w.imm
    rw [macShift, Widen.bits, h10]
  have acc_of {j : Instr} {spell : Option Widen → Bool} {f : Option Widen → State → State} (v : CRegs → Sys2Proof.Acc × Bool)
      (hj : exec j s = .next (issue c .B spell 0 f s)) (hs : spell (some w) = true)
      (hf : ∀ u, f (some w) u = produce u c 3 (.acc (macAcc (some w)) (v (u.ctx c).regs).1 (v (u.ctx c).regs).2)) : Acc j (v r).1 (v r).2 := by
    have := completes_gives (g := fun r => .acc (macAcc (some w)) (v r).1 (v r).2) hj h hs hg hf
    rwa [hi] at this
  have sum_of {j : Instr} (op : Fin 8) (z : Int → Word → Word → Int) (hj : exec j s = .next (accumulate c op ra rb 0 z s))
      (hs : w.imm &&& 0x7F = BitVec.ofNat 8 (16 * op)) : Sum j (z a x y) := by
    obtain ⟨hop, hzero, hlow⟩ := getBits_of_macOp hs
    have hw := acc_of (fun r => accWrite r.accsat (z (r.acc (macAcc (some w))).toInt (r.rg ra) (r.rg rb))) hj
      (by simp [macSpell, Widen.bits, hop, hzero, hlow]) fun _ => rfl
    rw [hi] at hw
    change Acc j (accWrite r.accsat (z a x y)).1 (accWrite r.accsat (z a x y)).2 at hw
    refine ⟨fun h1 h2 => ?_, fun h1 => ?_, fun h1 => ?_⟩
    · rwa [accWrite_fits _ h1 h2] at hw
    · rwa [accWrite_above _ h1] at hw
    · rwa [accWrite_below _ h1] at hw
  have spelt (op : Fin 8) (hs : w.imm &&& 0x7F = BitVec.ofNat 8 (16 * op)) : macSpell op (some w) = true := by
    obtain ⟨hop, hzero, hlow⟩ := getBits_of_macOp hs
    simp [macSpell, Widen.bits, hop, hzero, hlow]
  have speltShift (op : Fin 8) (h5 : 5 ≤ op.val) (hs : w.imm &&& 0x7C = BitVec.ofNat 8 (16 * op)) : macSpell op (some w) = true := by
    obtain ⟨hop, hzero⟩ := getBits_of_macShiftOp hs
    simp [macSpell, Widen.bits, hop, hzero, h5]
  refine ⟨?mac, ?msu, ?macu, ?mul, ?mull, ?ext, ?lda, ?asr⟩
  case mac => exact sum_of 0 (fun a x y => a + x.toInt * y.toInt) rfl
  case msu => exact sum_of 1 (fun a x y => a - x.toInt * y.toInt) rfl
  case macu => exact sum_of 2 (fun a x y => a + (x.toNat : Int) * y.toNat) rfl
  case mul => exact fun hs => acc_of (fun r => (BitVec.ofInt 72 ((r.rg ra).toInt * (r.rg rb).toInt), false)) rfl (spelt 3 hs) fun _ => rfl
  case mull =>
    intro hs
    exact completes_gives (g := fun r => .g ra (r.rg ra * r.rg rb)) rfl h (spelt 4 hs) hg fun _ => rfl
  case ext =>
    intro hs h40
    have hspell : (macSpell 5 (some w) && decide (macShift (some w) rb ≤ 40)) = true := by
      rw [show macSpell 5 (some w) = true from speltShift 5 (by decide) hs, hsh, decide_eq_true h40]; rfl
    have := completes_gives (g := fun r => .g ra (extField r.accsat (r.acc (macAcc (some w))) (macShift (some w) rb)))
      (i := .ext c ra rb) rfl h hspell hg fun _ => rfl
    rw [hi, hsh] at this
    exact this
  case lda =>
    intro hs h40
    have hspell : (macSpell 6 (some w) && decide (macShift (some w) rb ≤ 40)) = true := by
      rw [show macSpell 6 (some w) = true from speltShift 6 (by decide) hs, hsh, decide_eq_true h40]; rfl
    rw [← hsh, ← signExtend_shiftLeft]
    exact acc_of (fun r => (((r.rg ra).signExtend 72) <<< macShift (some w) rb, false)) rfl hspell fun _ => rfl
  case asr =>
    intro hs
    rw [← hsh, ← hi]
    exact acc_of (fun r => ((r.acc (macAcc (some w))).sshiftRight (macShift (some w) rb), false)) rfl (speltShift 7 (by decide) hs) fun _ => rfl

end Sys2Proof.Machine
end

section
/-! What the reading of a register or of a field gives after writes, and which registers an operation leaves as they are. -/
namespace Sys2Proof.Machine
open Sys2Proof Reg

/-! ## Fields -/

/-- A field that lies in its word: what every field of the register maps is. -/
noncomputable def Fd.ok (f : Fd) : Bool := f.hi < 32 && f.lo ≤ f.hi

/-- The number of values a field holds. -/
noncomputable def Fd.size (f : Fd) : Nat := 2 ^ (f.hi - f.lo + 1)

/-- Two fields without a bit in common. -/
noncomputable def Fd.apart (f g : Fd) : Bool := g.hi < f.lo || f.hi < g.lo

theorem Fd.ok_iff {f : Fd} : f.ok = true ↔ f.hi < 32 ∧ f.lo ≤ f.hi := by simp [Fd.ok]

section
variable (s : State) {f g : Fd} {n : Nat} {b : Bool} {r q : Rg} {v : Word}

theorem State.get_put (h : f.ok = true) : (s.put f n).get f = n % f.size := by
  obtain ⟨h1, h2⟩ := Fd.ok_iff.1 h
  exact s.get_put_same f n h1 h2

theorem State.get_put_of_lt (h : f.ok = true) (hn : n < f.size) : (s.put f n).get f = n := by
  rw [s.get_put h, Nat.mod_eq_of_lt hn]

theorem State.get_putB (h : f.ok = true) : (s.putB f b).get f = b2n b := by
  have hb : b2n b < 2 := by cases b <;> decide
  exact s.get_put_of_lt h (hb.trans_le (Nat.le_self_pow (Nat.succ_ne_zero _) 2))

theorem State.bit_putB (h : f.ok = true) : (s.putB f b).bit f = b := by
  rw [State.bit, s.get_putB h]
  cases b <;> rfl

/-- Another field of the register written reads as before. -/
theorem State.get_put_apart (f g : Fd) (hr : g.r = f.r) (hf : f.ok = true) (hg : g.ok = true) (h : f.apart g = true) : (s.put f n).get g = s.get g := by
  obtain ⟨hf1, hf2⟩ := Fd.ok_iff.1 hf
  obtain ⟨hg1, hg2⟩ := Fd.ok_iff.1 hg
  exact s.get_put_fld f g n hr hf1 hf2 hg1 hg2 (by simpa [Fd.apart] using h)

theorem State.get_wr_other (h : g.r.addr ≠ r.addr) : (s.wr r v).get g = s.get g := by
  rw [State.get, s.rd_wr_other _ _ _ h, State.get]

theorem State.bit_wr_other (h : g.r.addr ≠ r.addr) : (s.wr r v).bit g = s.bit g := by
  rw [State.bit, s.get_wr_other h, State.bit]

theorem State.bit_put_apart (f g : Fd) (hr : g.r = f.r) (hf : f.ok = true) (hg : g.ok = true) (h : f.apart g = true) : (s.put f n).bit g = s.bit g := by
  rw [State.bit, s.get_put_apart f g hr hf hg h, State.bit]

/-- A count stays at the largest value of its width. -/
theorem satInc_eq_min (k m : Nat) : satInc k m = min (2 ^ k - 1) (m + 1) := by
  unfold satInc
  split
  next h => exact (Nat.min_eq_right (Nat.le_sub_one_of_lt h)).symm
  next h => exact (Nat.min_eq_left ((Nat.sub_le _ 1).trans (Nat.not_lt.1 h))).symm

theorem State.get_count (h : f.ok = true) : (s.count f).get f = min (f.size - 1) (s.get f + 1) := by
  have hp : 0 < f.size := Nat.two_pow_pos _
  rw [State.count, satInc_eq_min, ← Fd.size, s.get_put_of_lt h (by omega)]

/-- A field is known by the registers alone. -/
theorem State.get_congr {s t : State} (h : t.rd f.r = s.rd f.r) : t.get f = s.get f := by rw [State.get, h, State.get]

theorem State.bit_congr {s t : State} (h : t.rd f.r = s.rd f.r) : t.bit f = s.bit f := by rw [State.bit, State.get_congr h, State.bit]

end

/-! ## Registers that stay -/

section
variable {s t u : State} {rs : List Rg} {r q : Rg} {f : Fd}

theorem RegsBut.refl : RegsBut rs s s := fun _ _ => rfl

theorem RegsBut.trans (h : RegsBut rs s t) (h' : RegsBut rs t u) : RegsBut rs s u := fun q hq => (h' q hq).trans (h q hq)

theorem RegsBut.of_regs (h : t.regs = s.regs) : RegsBut rs s t := fun q _ => by rw [State.rd, h, State.rd]

theorem RegsBut.wr (h : RegsBut rs s t) {v : Word} (hr : r.addr ∈ rs.map Rg.addr) : RegsBut rs s (t.wr r v) :=
  fun q hq => (t.rd_wr_other r q v fun e => hq (e ▸ hr)).trans (h q hq)

theorem RegsBut.put (h : RegsBut rs s t) {n : Nat} (hr : f.r.addr ∈ rs.map Rg.addr) : RegsBut rs s (t.put f n) := h.wr hr
theorem RegsBut.putB (h : RegsBut rs s t) {b : Bool} (hr : f.r.addr ∈ rs.map Rg.addr) : RegsBut rs s (t.putB f b) := h.wr hr
theorem RegsBut.count (h : RegsBut rs s t) (hr : f.r.addr ∈ rs.map Rg.addr) : RegsBut rs s (t.count f) := h.wr hr

theorem RegsBut.rd (h : RegsBut rs s t) (hr : r.addr ∉ rs.map Rg.addr) : t.rd r = s.rd r := h r hr
theorem RegsBut.get (h : RegsBut rs s t) (hr : f.r.addr ∉ rs.map Rg.addr) : t.get f = s.get f := State.get_congr (h _ hr)

end

/-! ## Violations (R14) -/

section
variable (s : State) (c kind : Nat) (a : Word)

/-- The violation registers of a context. -/
noncomputable def violRegs (c : Nat) : List Rg := [(TSK_CTX_VIOL_count c).r, TSK_CTX_VADDR c]

theorem violate_regsBut : RegsBut (violRegs c) s (s.violate c kind a) := by
  have hviol : (TSK_CTX_VIOL c).addr ∈ (violRegs c).map Rg.addr := List.mem_cons_self
  have hvaddr : (TSK_CTX_VADDR c).addr ∈ (violRegs c).map Rg.addr := List.mem_cons_of_mem _ List.mem_cons_self
  unfold State.violate
  refine .count ?_ hviol
  split
  · exact .wr (.put .refl hviol) hvaddr
  · exact .refl

theorem get_violate_count : (s.violate c kind a).get (TSK_CTX_VIOL_count c) = min 65535 (s.get (TSK_CTX_VIOL_count c) + 1) := by
  unfold State.violate
  rw [State.get_count _ rfl]
  split
  · have hother : (TSK_CTX_VIOL_count c).r.addr ≠ (TSK_CTX_VADDR c).addr := by simp only [TSK_CTX_VIOL_count, TSK_CTX_VIOL, TSK_CTX_VADDR]; omega
    rw [State.get_wr_other _ hother, State.get_put_apart _ (TSK_CTX_VIOL_kind c) (TSK_CTX_VIOL_count c) rfl rfl rfl rfl]
    rfl
  · rfl

theorem violate_ctx (d : Nat) : (s.violate c kind a).ctx d = s.ctx d := by
  rw [s.violate_only]
  rfl

end

end Sys2Proof.Machine
end

section
/-! Transfers, and the loads and stores of data SRAM (R91, R103 to R105, R137 to R141). -/
namespace Sys2Proof.Machine
open Sys2Proof Reg

/-! ## Transfers -/

section
variable {s t u : State} {c : Nat}

/-- No result on its way is of the open packet where its issue has just begun (R98). -/
theorem tick_not_fresh (s : State) (c : Nat) : ∀ l ∈ ((tick s c).ctx c).regs.lands, l.fresh = false := by
  obtain ⟨x, hx, h⟩ : ∃ x : Ctx, (∀ l ∈ x.regs.lands, l.fresh = false) ∧ OnlyData (s.setCtx c x) (tick s c) := by
    refine ⟨_, ?_, foldl_enterStore_onlyData _ c _⟩
    intro l hl
    obtain ⟨k, -, rfl⟩ := List.mem_map.1 (List.mem_filter.1 hl).1
    rfl
  rw [h.ctx, State.ctx_setCtx_same]
  exact hx

/-- A result discards nothing where none on its way is of the open packet (R100). -/
theorem gives_of_not_fresh {d : Nat} {g : Target} {r : CRegs} (h : ∀ l ∈ r.lands, l.fresh = false) :
    gives d g r = { r with lands := r.lands ++ [⟨d, true, g⟩] } := by
  have hkeep : r.lands.filterMap (leftBeside g) = r.lands := by
    conv_rhs => rw [← List.filterMap_some (l := r.lands)]
    refine List.filterMap_congr fun l hl => ?_
    obtain ⟨_, fresh, tgt⟩ := l
    obtain rfl : fresh = false := h _ hl
    rfl
  rw [gives, hkeep]

theorem take_of_delay {tr : Transfer} {link : Bool} (h : (u.ctx c).regs.branch ≠ none) : take u c tr link = u := by
  rw [take, if_pos (Option.isSome_iff_ne_none.2 h)]

theorem take_of_free {tr : Transfer} (h : (u.ctx c).regs.branch = none) :
    take u c tr false = u.setCtx c { u.ctx c with packet := (u.ctx c).packet.map fun k => { k with taken := some tr } } := by
  simp [take, h]

theorem take_link_of_free {tr : Transfer} (h : (u.ctx c).regs.branch = none) :
    take u c tr true = result (take u c tr false) c 1 15 (BitVec.ofNat 32 (((u.ctx c).regs.pc + 4) % 2 ^ 21)) := by
  simp [take, h]

/-- A syllable of slot A that no guard stops has its effect on the open packet. -/
theorem completes_of_open {i : Instr} {spell : Option Widen → Bool} {f : Option Widen → State → State} {y : Ctx}
    (hi : exec i s = .next (issue c .A spell 0 f s)) (h : Before s c none .A) (hs : spell none = true)
    (hf : ∀ u, CtxNow (tick s c) u c { (tick s c).ctx c with packet := some ⟨false, none, none⟩ } → CtxNow u (f none u) c y) :
    Completes i s fun t => CtxNow (tick s c) t c y := by
  refine ⟨_, hi, ?_⟩
  rw [issue_of_before h hs, show guardHolds ((atIssue s c .A).ctx c).regs 0 none = true from rfl, if_pos rfl]
  have hopen : CtxNow (tick s c) (openPacket s c) c { (tick s c).ctx c with packet := some ⟨false, none, none⟩ } := by
    rw [openPacket_of_before h]
    exact .setCtx ..
  exact hopen.trans (hf _ hopen)

end

/-- Settles O10: the effect of each transfer on the open packet (`completes_of_open`), by whether the packet is a delay packet. -/
theorem transfersAndWiden : Obligations.TransfersAndWiden := by
  unfold Obligations.TransfersAndWiden
  intro s c gd n off rs ps imm h x r Leaves
  have leaves_of {i : Instr} {spell : Option Widen → Bool} {f : Option Widen → State → State} {tr : Option Transfer} {w : Option Widen}
      {ls : List Landing} (hi : exec i s = .next (issue c .A spell 0 f s)) (hs : spell none = true)
      (hf : ∀ u : State, u.ctx c = { x with packet := some ⟨false, none, none⟩ } →
        CtxNow u (f none u) c { x with packet := some ⟨false, w, tr⟩, regs := { r with lands := r.lands ++ ls } }) : Leaves i tr w ls :=
    completes_of_open hi h hs fun u hu => hf u hu.1
  have nil : { r with lands := r.lands ++ [] } = r := by rw [List.append_nil]
  have stays {u : State} (hu : u.ctx c = { x with packet := some ⟨false, none, none⟩ }) :
      CtxNow u u c { x with packet := some ⟨false, none, none⟩, regs := { r with lands := r.lands ++ [] } } := by
    rw [nil]
    exact ⟨hu, fun _ _ => rfl, rfl⟩
  have delay {u : State} {tr : Transfer} {link : Bool} (hb : r.branch ≠ none) (hu : u.ctx c = { x with packet := some ⟨false, none, none⟩ }) :
      CtxNow u (take u c tr link) c { x with packet := some ⟨false, none, none⟩, regs := { r with lands := r.lands ++ [] } } := by
    rw [take_of_delay (by rw [hu]; exact hb)]
    exact stays hu
  have free {u : State} {tr : Transfer} (hb : r.branch = none) (hu : u.ctx c = { x with packet := some ⟨false, none, none⟩ }) :
      CtxNow u (take u c tr false) c { x with packet := some ⟨false, none, some tr⟩, regs := { r with lands := r.lands ++ [] } } := by
    rw [take_of_free (by rw [hu]; exact hb), hu, nil]
    exact .setCtx ..
  have hregs {u : State} (hu : u.ctx c = { x with packet := some ⟨false, none, none⟩ }) : (u.ctx c).regs = r := by rw [hu]
  have hspell (hn : ¬ (gd = 0 ∧ n = true)) : (! (gd == 0 && n)) = true := by cases n <;> simp_all
  refine ⟨?widen, fun hb => ⟨?taken, ?notTaken, ?jr, ?callr, ?wait⟩, fun hb => ⟨?brDelay, ?jrDelay, ?callrDelay, ?waitDelay⟩⟩
  case widen =>
    refine leaves_of rfl rfl fun u hu => ?_
    rw [nil]
    unfold State.modCtx
    rw [hu]
    exact .setCtx ..
  case taken =>
    intro hn hg
    refine leaves_of rfl (hspell hn) fun u hu => ?_
    rw [hregs hu, if_pos (by rw [hg]; cases n <;> rfl)]
    exact free hb hu
  case notTaken =>
    intro hn hg
    refine leaves_of rfl (hspell hn) fun u hu => ?_
    rw [hregs hu, if_neg (by rw [hg]; cases n <;> decide)]
    exact stays hu
  case jr =>
    refine leaves_of rfl rfl fun u hu => ?_
    rw [hregs hu]
    exact free hb hu
  case callr =>
    refine leaves_of rfl rfl fun u hu => ?_
    rw [take_link_of_free (by rw [hregs hu]; exact hb), hregs hu]
    have hfree := free (tr := ⟨regTarget (r.rg rs), false⟩) hb hu
    refine hfree.trans ?_
    have hgive := produce_ctxNow (take u c ⟨regTarget (r.rg rs), false⟩ false) c 1 (.g 15 (BitVec.ofNat 32 ((r.pc + 4) % 2 ^ 21)))
    rwa [hfree.1, nil, gives_of_not_fresh (tick_not_fresh s c)] at hgive
  case wait =>
    refine leaves_of rfl rfl fun u hu => ?_
    rw [hregs hu]
    exact free hb hu
  case brDelay =>
    intro hn
    refine leaves_of rfl (hspell hn) fun u hu => ?_
    dsimp only
    split
    · exact delay hb hu
    · exact stays hu
  case jrDelay => exact leaves_of rfl rfl fun u hu => delay hb hu
  case callrDelay => exact leaves_of rfl rfl fun u hu => delay hb hu
  case waitDelay => exact leaves_of rfl rfl fun u hu => delay hb hu

end Sys2Proof.Machine
end

section
/-! Loads and stores of data SRAM (R91, R93, R102, R140, R141). -/
namespace Sys2Proof.Machine
open Sys2Proof Reg

/-! ## Bytes of a word -/

theorem wordOf_setWidth_eight (b0 b1 b2 b3 : Byte) (k : Fin 4) : (wordOf b0 b1 b2 b3 >>> (8 * k.val)).setWidth 8 = [b0, b1, b2, b3][k] := by
  rw [BitVec.setWidth_ushiftRight_eq_extractLsb, wordOf]
  match k with
  | 0 => exact BitVec.extractLsb'_append_eq_right
  | 1 => exact (BitVec.extractLsb'_append_eq_of_le (by decide)).trans BitVec.extractLsb'_append_eq_right
  | 2 => exact (BitVec.extractLsb'_append_eq_of_le (by decide)).trans ((BitVec.extractLsb'_append_eq_of_le (by decide)).trans BitVec.extractLsb'_append_eq_right)
  | 3 =>
    exact (BitVec.extractLsb'_append_eq_of_le (by decide)).trans ((BitVec.extractLsb'_append_eq_of_le (by decide)).trans
      ((BitVec.extractLsb'_append_eq_of_le (by decide)).trans BitVec.extractLsb'_eq_self))

theorem wordOf_append (b0 b1 b2 b3 : Byte) : wordOf b0 b1 b2 b3 = (b3 ++ b2) ++ (b1 ++ b0) := BitVec.append_assoc

theorem wordOf_low_half (b0 b1 b2 b3 : Byte) : (wordOf b0 b1 b2 b3).setWidth 16 = b1 ++ b0 := by
  rw [wordOf_append]
  exact BitVec.setWidth_append_eq_right

theorem wordOf_high_half (b0 b1 b2 b3 : Byte) : (wordOf b0 b1 b2 b3 >>> 16).setWidth 16 = b3 ++ b2 := by
  rw [wordOf_append, BitVec.setWidth_ushiftRight_eq_extractLsb]
  exact BitVec.extractLsb'_append_eq_left

/-- The byte of its word at an address. -/
theorem State.dWord_byte (s : State) (a : Nat) : (s.dWord (a / 4 * 4) >>> (8 * (a % 4))).setWidth 8 = s.dByte a := by
  have hlt : a % 4 < 4 := Nat.mod_lt _ (by decide)
  have h := wordOf_setWidth_eight (s.dByte (a / 4 * 4)) (s.dByte (a / 4 * 4 + 1)) (s.dByte (a / 4 * 4 + 2)) (s.dByte (a / 4 * 4 + 3)) ⟨a % 4, hlt⟩
  have ha : a = a / 4 * 4 + a % 4 := by omega
  rw [State.dWord, h]
  conv_rhs => rw [ha]
  generalize a % 4 = k at hlt
  interval_cases k <;> rfl

/-- The halfword of its word at an even address. -/
theorem State.dWord_half (s : State) {a : Nat} (h : a % 2 = 0) : (s.dWord (a / 4 * 4) >>> (8 * (a % 4))).setWidth 16 = s.dByte (a + 1) ++ s.dByte a := by
  have ha := Nat.div_add_mod' a 4
  obtain h0 | h2 : a % 4 = 0 ∨ a % 4 = 2 := by omega
  · rw [h0] at ha ⊢
    conv_rhs => rw [← ha]
    exact wordOf_low_half ..
  · rw [h2] at ha ⊢
    conv_rhs => rw [← ha]
    exact wordOf_high_half ..

theorem State.dWord_whole (s : State) {a : Nat} (h : a % 4 = 0) :
    s.dWord (a / 4 * 4) >>> (8 * (a % 4)) = s.dByte (a + 3) ++ s.dByte (a + 2) ++ s.dByte (a + 1) ++ s.dByte a := by
  rw [h, show a / 4 * 4 = a by omega]
  rfl

/-! ## The fields of a payload -/

/-- The payload of a MEM syllable, 0 without a WIDEN (R140). -/
noncomputable def memImm : Option Widen → Nat
  | some w => w.imm.toNat
  | none => 0

theorem memSpell_eq (dir width : Nat) (w : Option Widen) (h : memImm w / 16 = 8 * dir + width) (hw : width < 8) : memSpell dir width w = true := by
  cases w with
  | none =>
    have : dir = 0 ∧ width = 0 := by simp only [memImm] at h; omega
    simp [memSpell, this]
  | some w =>
    obtain ⟨hd, -, -, hwd, -⟩ := getBits_payload w.imm
    rw [show 128 = 16 * 8 from rfl, ← Nat.div_div_eq_div_mul, show w.imm.toNat / 16 = 8 * dir + width from h, Nat.mul_add_div (by decide),
      Nat.div_eq_of_lt hw] at hd
    rw [show w.imm.toNat / 16 = 8 * dir + width from h, Nat.mul_add_mod, Nat.mod_eq_of_lt hw] at hwd
    rw [memSpell, Widen.bits, Widen.bits, hd, hwd, Nat.add_zero, beq_self_eq_true, beq_self_eq_true]
    rfl

theorem memAddr_eq (r : CRegs) (ra size : Nat) (w : Option Widen) :
    memAddr r ra size w = (r.rg ra + BitVec.ofNat 32 (size * (memImm w % 16))).toNat / size * size := by
  cases w with
  | none => simp [memAddr, memImm]
  | some w =>
    obtain ⟨-, -, -, -, -, -, -, hlow, -⟩ := getBits_payload w.imm
    simp only [memAddr, memImm, Widen.bits, hlow, Nat.mul_comm size]

/-! ## The end of slot B -/

section
variable {s t u : State} {c : Nat} {w : Option Widen} {i : Instr} {gd : Nat} {spell : Option Widen → Bool} {f : Option Widen → State → State}

/-- A syllable of slot B whose guard holds has its effect, and its packet ends. -/
theorem exec_of_slotB (hi : exec i s = .next (issue c .B spell gd f s)) (h : Before s c w .B) (hs : spell w = true)
    (hg : guardHolds (s.ctx c).regs gd w = true) : exec i s = .next (closePacket (f w s) c) := by
  rw [hi, issue_of_before h hs, show (atIssue s c .B) = s from rfl, hg]
  rfl

/-- The end of a packet whose slot B changed the registers alone. -/
theorem closePacket_ctxNow {g : CRegs → CRegs} (h : Before s c w .B) (hpc : ∀ r, (g r).pc = r.pc) (hb : ∀ r, (g r).branch = r.branch)
    (hu : u.ctx c = s.ctx c) (ht : CtxNow u t c { s.ctx c with regs := g (s.ctx c).regs }) :
    CtxNow u (closePacket t c) c (afterPacket (s.ctx c) (g (s.ctx c).regs)) := by
  obtain ⟨tk, hk⟩ := h
  have hbefore : Before u c w .B := ⟨tk, hu ▸ hk⟩
  rw [← hu] at ht ⊢
  exact issued_of_ctxNow (sl := .B) hbefore hpc hb ht

end

/-! ## Loads -/

theorem inData_iff {a : Nat} {b : Bool} : (decide (a < dSize) && b) = true ↔ a < 0xC00000 ∧ b = true := by
  rw [Bool.and_eq_true, decide_eq_true_eq]
  exact Iff.rfl

section
variable {s : State} {c : CtxId} {w : Option Widen} {i : Instr} {width size gd : Nat} {rd ra : GReg} {pick : Word → Word} {v : Word}

/-- The address of a MEM syllable's access. -/
noncomputable def accessAddr (s : State) (c : CtxId) (w : Option Widen) (ra : GReg) (size : Nat) : Nat := memAddr (s.ctx c).regs ra size w

/-- What the end of a violating access shows. -/
theorem violated_completes {g : CRegs → CRegs} {t : State} {k : Nat} {a : Word} (hi : exec i s = .next (closePacket t c)) (h : Before s c w .B)
    (hpc : ∀ r, (g r).pc = r.pc) (hb : ∀ r, (g r).branch = r.branch)
    (ht : CtxNow (s.violate c k a) t c { s.ctx c with regs := g (s.ctx c).regs }) :
    Completes i s fun t => t.ctx c = afterPacket (s.ctx c) (g (s.ctx c).regs) ∧
      t.get (TSK_CTX_VIOL_count c) = min 65535 (s.get (TSK_CTX_VIOL_count c) + 1) ∧
      t = { s with regs := t.regs, cpu := { s.cpu with ctxs := t.cpu.ctxs } } ∧ RegsBut [(TSK_CTX_VIOL_count c).r, TSK_CTX_VADDR c] s t := by
  obtain ⟨hctx, -, hrest⟩ := closePacket_ctxNow h hpc hb (violate_ctx s c k a c) ht
  have hregs : (closePacket t c).regs = (s.violate c k a).regs := by rw [hrest]
  refine ⟨_, hi, hctx, ?_, ?_, ?_⟩
  · rw [← get_violate_count s c k a]
    exact State.get_congr (by rw [State.rd, hregs, State.rd])
  · rw [hrest, s.violate_only]
  · exact (violate_regsBut s c k a).trans (.of_regs hregs)

variable (hi : exec i s = .next (load c width size rd ra gd pick s)) (h : Before s c w .B) (hs : memSpell 0 width w = true)
  (hg : guardHolds (s.ctx c).regs gd w = true)
include hi h hs hg

/-- A load from a word without an error mark gives its register the bytes there. -/
theorem load_completes (ha : accessAddr s c w ra size < 0xC00000 ∧ s.covered c (accessAddr s c w ra size) size false = true)
    (hm : SMap.get 0 s.cpu.dmemErr (accessAddr s c w ra size / 4) = 0)
    (hv : pick (s.dWord (accessAddr s c w ra size / 4 * 4) >>> (8 * (accessAddr s c w ra size % 4))) = v) :
    Completes i s fun t => Issued s t c .B (gives 3 (.g rd v)) := by
  refine ⟨_, exec_of_slotB hi h hs hg, ?_⟩
  unfold accessAddr at ha hm hv
  dsimp only
  rw [if_pos (inData_iff.2 ha), hm, if_neg (by decide), if_neg (by decide), hv]
  exact closePacket_ctxNow h (fun _ => rfl) (fun _ => rfl) rfl (produce_ctxNow ..)

/-- A load from a word with a correctable error corrects it and raises source 7 (R93). -/
theorem load_corrects (ha : accessAddr s c w ra size < 0xC00000 ∧ s.covered c (accessAddr s c w ra size) size false = true)
    (hm : SMap.get 0 s.cpu.dmemErr (accessAddr s c w ra size / 4) = 1)
    (hv : pick (s.dWord (accessAddr s c w ra size / 4 * 4) >>> (8 * (accessAddr s c w ra size % 4))) = v) :
    Completes i s fun t => t.ctx c = afterPacket (s.ctx c) (gives 3 (.g rd v) (s.ctx c).regs) ∧
      SMap.get 0 t.cpu.dmemErr (accessAddr s c w ra size / 4) = 0 ∧ t.raiseQ = s.raiseQ ++ [⟨7, false, false, 0⟩] ∧
      t = { s with raiseQ := t.raiseQ, cpu := { s.cpu with ctxs := t.cpu.ctxs, dmemErr := t.cpu.dmemErr } } := by
  refine ⟨_, exec_of_slotB hi h hs hg, ?_⟩
  unfold accessAddr at ha hm hv ⊢
  generalize memAddr (s.ctx c).regs ra size w = a at ha hm hv ⊢
  dsimp only
  rw [if_pos (inData_iff.2 ha), hm, if_neg (by decide), if_pos rfl]
  let u := ({ s with cpu := { s.cpu with dmemErr := SMap.set 0 s.cpu.dmemErr (a / 4) 0 } }).raise 7
  obtain ⟨hctx, -, hrest⟩ := closePacket_ctxNow (u := u) (g := gives 3 (.g rd v)) h (fun _ => rfl) (fun _ => rfl) rfl (produce_ctxNow ..)
  have heq : pick (u.dWord (a / 4 * 4) >>> (8 * (a % 4))) = v := hv
  change (closePacket (result u c 3 rd (pick (u.dWord (a / 4 * 4) >>> (8 * (a % 4))))) c).ctx c = _ ∧ _
  rw [heq]
  refine ⟨hctx, ?_, ?_, ?_⟩ <;> unfold result <;> rw [hrest]
  · exact SMap.get_set_same (0 : Nat) s.cpu.dmemErr (a / 4) 0
  · rfl
  · rfl

/-- A load outside data SRAM or the data windows counts a violation and gives 0 (R91). -/
theorem load_violates (ha : ¬ (accessAddr s c w ra size < 0xC00000 ∧ s.covered c (accessAddr s c w ra size) size false = true)) :
    Completes i s fun t => t.ctx c = afterPacket (s.ctx c) (gives 3 (.g rd 0) (s.ctx c).regs) ∧
      t.get (TSK_CTX_VIOL_count c) = min 65535 (s.get (TSK_CTX_VIOL_count c) + 1) ∧
      t = { s with regs := t.regs, cpu := { s.cpu with ctxs := t.cpu.ctxs } } ∧ RegsBut [(TSK_CTX_VIOL_count c).r, TSK_CTX_VADDR c] s t := by
  refine violated_completes (g := gives 3 (.g rd 0)) (k := 1) (a := BitVec.ofNat 32 (accessAddr s c w ra size)) ((exec_of_slotB hi h hs hg).trans ?_) h
    (fun _ => rfl) (fun _ => rfl) (t := result (s.violate c 1 (BitVec.ofNat 32 (accessAddr s c w ra size))) c 3 rd 0) ?_
  · unfold accessAddr at ha ⊢
    dsimp only
    rw [if_neg (inData_iff.not.2 ha)]
  · have := produce_ctxNow (s.violate c 1 (BitVec.ofNat 32 (accessAddr s c w ra size))) c 3 (.g rd 0)
    rwa [violate_ctx] at this

end

/-! ## Stores -/

section
variable {s : State} {c : CtxId} {w : Option Widen} {i : Instr} {width size : Nat} {rd ra : GReg} {be : BitVec 4} {v : Word}
variable (hi : exec i s = .next (store c width size rd ra s)) (h : Before s c w .B) (hs : memSpell 1 width w = true)
  (hg : guardHolds (s.ctx c).regs 0 w = true)
include hi h hs hg

theorem store_completes (ha : accessAddr s c w ra size < 0xC00000 ∧ s.covered c (accessAddr s c w ra size) size true = true)
    (hbe : BitVec.ofNat 4 ((2 ^ size - 1) * 2 ^ (accessAddr s c w ra size % 4)) = be)
    (hv : (s.ctx c).regs.rg rd <<< (8 * (accessAddr s c w ra size % 4)) = v) :
    Completes i s fun t => Issued s t c .B fun r => { r with stores := r.stores ++ [⟨2, true, accessAddr s c w ra size / 4 * 4, be, v⟩] } := by
  refine ⟨_, exec_of_slotB hi h hs hg, ?_⟩
  unfold accessAddr at ha hbe hv ⊢
  dsimp only
  rw [if_pos (inData_iff.2 ha), hbe, hv]
  exact closePacket_ctxNow (g := fun r => { r with stores := r.stores ++ [⟨2, true, memAddr (s.ctx c).regs ra size w / 4 * 4, be, v⟩] }) h
    (fun _ => rfl) (fun _ => rfl) rfl (.setCtx ..)

theorem store_violates (ha : ¬ (accessAddr s c w ra size < 0xC00000 ∧ s.covered c (accessAddr s c w ra size) size true = true)) :
    Completes i s fun t => t.ctx c = afterPacket (s.ctx c) (s.ctx c).regs ∧
      t.get (TSK_CTX_VIOL_count c) = min 65535 (s.get (TSK_CTX_VIOL_count c) + 1) ∧
      t = { s with regs := t.regs, cpu := { s.cpu with ctxs := t.cpu.ctxs } } ∧ RegsBut [(TSK_CTX_VIOL_count c).r, TSK_CTX_VADDR c] s t := by
  refine violated_completes (g := id) (k := 1) (a := BitVec.ofNat 32 (accessAddr s c w ra size)) ((exec_of_slotB hi h hs hg).trans ?_) h
    (fun _ => rfl) (fun _ => rfl) (t := s.violate c 1 (BitVec.ofNat 32 (accessAddr s c w ra size))) ⟨violate_ctx .., fun _ _ => rfl, rfl⟩
  unfold accessAddr at ha ⊢
  dsimp only
  rw [if_neg (inData_iff.not.2 ha)]

end

/-- Settles O8: each load by `load_completes`, `load_corrects` and `load_violates`, each store by `store_completes` and `store_violates`. -/
theorem loadsStoresAndTheirViolations : Obligations.LoadsStoresAndTheirViolations := by
  unfold Obligations.LoadsStoresAndTheirViolations
  intro s c w gd rd ra h hg hgd r imm at_ op Inside Loads Stores
  have himm : imm = memImm w := by cases w <;> rfl
  have hat (size : Nat) : at_ size = accessAddr s c w ra size := by
    rw [accessAddr, memAddr_eq, ← himm]
  have hmod (size : Nat) : at_ size % size = 0 := Nat.mul_mod_left ..
  have guard (h0 : op ≠ 0) : guardHolds (s.ctx c).regs 0 w = true := by
    obtain rfl | ⟨w, rfl⟩ := w.eq_none_or_eq_some
    · exact absurd (by rw [show op = imm / 16 from rfl, himm]; rfl) h0
    · exact hg
  have spells {dir width : Nat} (ho : op = 8 * dir + width) (hw : width < 8) : memSpell dir width w = true :=
    memSpell_eq dir width w (himm ▸ ho) hw
  have loads {i : Instr} {size width gd : Nat} {pick : Word → Word} {v : Word} (hi : exec i s = .next (load c width size rd ra gd pick s))
      (hw : memSpell 0 width w = true) (hgd : guardHolds (s.ctx c).regs gd w = true)
      (hv : pick (s.dWord (at_ size / 4 * 4) >>> (8 * (at_ size % 4))) = v) : Loads i size v := by
    simp only [Loads, Inside, hat] at hv ⊢
    exact ⟨fun ha hm => load_completes hi h hw hgd ha hm hv, fun ha hm => load_corrects hi h hw hgd ha hm hv, fun ha => load_violates hi h hw hgd ha⟩
  have stores {i : Instr} {size width : Nat} {be : BitVec 4} {v : Word} (hi : exec i s = .next (store c width size rd ra s))
      (hw : memSpell 1 width w = true) (hgd : guardHolds (s.ctx c).regs 0 w = true)
      (hbe : BitVec.ofNat 4 ((2 ^ size - 1) * 2 ^ (at_ size % 4)) = be) (hv : r.rg rd <<< (8 * (at_ size % 4)) = v) : Stores i size be v := by
    simp only [Stores, Inside, hat] at hbe hv ⊢
    exact ⟨fun ha => store_completes hi h hw hgd ha hbe hv, fun ha => store_violates hi h hw hgd ha⟩
  refine ⟨fun ho => ?ldW, fun ho => ?ldHu, fun ho => ?ldHs, fun ho => ?ldBu, fun ho => ?ldBs, fun ho => ?stW, fun ho => ?stH, fun ho => ?stB⟩
  case ldW => exact loads (gd := gd) (pick := id) rfl (spells ho (by decide)) hg (s.dWord_whole (hmod 4))
  case ldHu =>
    exact loads (pick := fun v => (v.setWidth 16).setWidth 32) rfl (spells (width := 1) ho (by decide)) (guard (by omega))
      (congrArg (BitVec.setWidth 32) (s.dWord_half (hmod 2)))
  case ldHs =>
    exact loads (pick := fun v => (v.setWidth 16).signExtend 32) rfl (spells (width := 2) ho (by decide)) (guard (by omega))
      (congrArg (BitVec.signExtend 32) (s.dWord_half (hmod 2)))
  case ldBu =>
    exact loads (pick := fun v => (v.setWidth 8).setWidth 32) rfl (spells (width := 3) ho (by decide)) (guard (by omega))
      (congrArg (BitVec.setWidth 32) (s.dWord_byte _))
  case ldBs =>
    exact loads (pick := fun v => (v.setWidth 8).signExtend 32) rfl (spells (width := 4) ho (by decide)) (guard (by omega))
      (congrArg (BitVec.signExtend 32) (s.dWord_byte _))
  case stW =>
    exact stores rfl (spells (dir := 1) (width := 0) ho (by decide)) (guard (by omega)) (by rw [hmod 4]; rfl) (by rw [hmod 4]; simp)
  case stH =>
    refine stores rfl (spells (dir := 1) (width := 1) ho (by decide)) (guard (by omega)) ?_ rfl
    obtain h0 | h2 : at_ 2 % 4 = 0 ∨ at_ 2 % 4 = 2 := by have := hmod 2; omega
    · rw [h0]; rfl
    · rw [h2]; rfl
  case stB =>
    exact stores rfl (spells (dir := 1) (width := 3) ho (by decide)) (guard (by omega)) (by rw [Nat.pow_one, Nat.one_mul]) rfl

end Sys2Proof.Machine
end

section
/-! Sparse stores with rising keys, the words of a frame, and the lanes: what a context's stop leaves (R115, R120, R121, R155). -/
namespace Sys2Proof.Machine
open Sys2Proof Reg

/-! ## Stores with rising keys -/

theorem SMap.sorted_set {α : Type} [DecidableEq α] (d : α) (m : SMap α) (k : Nat) (v : α) (h : m.sorted = true) : SMap.sorted (m.set d k v) = true := by
  unfold SMap.set
  split
  · exact SMap.sorted_filter _ _ h
  · exact SMap.sorted_ins _ _ _ h

/-- Where keys rise strictly, an entry is what its key reads as. -/
theorem SMap.find_of_mem {α : Type} {m : SMap α} {k : Nat} {v : α} (h : m.sorted = true) (hm : (k, v) ∈ m) : m.find k = some v := by
  induction m with
  | nil => cases hm
  | cons e m ih =>
    obtain ⟨k', v'⟩ := e
    simp only [SMap.sorted, Bool.and_eq_true, List.all_eq_true, decide_eq_true_eq] at h
    obtain ⟨hlt, hrest⟩ := h
    simp only [SMap.find]
    rcases List.mem_cons.1 hm with e | hm
    · obtain ⟨rfl, rfl⟩ := Prod.mk.inj e
      rw [if_pos rfl]
    · rw [if_neg (Nat.ne_of_lt (hlt _ hm)), ih hrest hm]

theorem State.ctx_of_mem {s : State} {c : Nat} {x : Ctx} (h : SMap.sorted s.cpu.ctxs = true) (hm : (c, x) ∈ s.cpu.ctxs) : s.ctx c = x := by
  rw [State.ctx, SMap.get, SMap.find_of_mem h hm, Option.getD_some]

/-! ## The words of a frame -/

section
variable {s : State} {c w k : Nat} {l : List Word}

/-- The words of a frame after a run of them has been written. -/
theorem frame_setFrames (s : State) (c w k : Nat) (l : List Word) :
    (setFrames s c w l).frame c k = if w ≤ k ∧ k < w + l.length then l.getD (k - w) 0 else s.frame c k := by
  induction l generalizing s w with
  | nil =>
    rw [if_neg (by simp)]
    rfl
  | cons v l ih =>
    rw [setFrames, ih]
    have hset : (s.setFrame c w v).frame c k = if k = w then v else s.frame c k := by
      split
      · subst k; exact s.frame_setFrame_same c w v
      · exact SMap.get_set_other _ _ _ _ _ _ (by omega)
    rw [hset]
    simp only [List.length_cons]
    by_cases hk : k = w
    · subst hk
      rw [if_neg (by omega), if_pos rfl, if_pos (by omega), Nat.sub_self]
      rfl
    · by_cases hin : w + 1 ≤ k ∧ k < w + 1 + l.length
      · rw [if_pos hin, if_pos (by omega), show k - w = (k - (w + 1)) + 1 by omega]
        rfl
      · rw [if_neg hin, if_neg hk, if_neg (by omega)]

/-- Nothing has changed but context memory. -/
def OnlyFrames (s t : State) : Prop := t = { s with cpu := { s.cpu with frames := t.cpu.frames } }

theorem OnlyFrames.trans {s t u : State} (h : OnlyFrames s t) (h' : OnlyFrames t u) : OnlyFrames s u := by
  unfold OnlyFrames at h h' ⊢
  exact h'.trans (by rw [h])

theorem setFrames_onlyFrames (s : State) (c w : Nat) (l : List Word) : OnlyFrames s (setFrames s c w l) := by
  induction l generalizing s w with
  | nil => rfl
  | cons v l ih => exact OnlyFrames.trans (t := s.setFrame c w v) rfl (ih _ _)

theorem setFrames_ctx (s : State) (c w d : Nat) (l : List Word) : (setFrames s c w l).ctx d = s.ctx d := by
  have h := setFrames_onlyFrames s c w l
  unfold OnlyFrames at h
  rw [h]
  rfl

/-- The frame words that show a stop (R120): its cause, the packet and the address. -/
theorem writeFrame_exc (s : State) (c : Nat) (cause pc addr : Word) :
    (writeFrame s c (cause, pc, addr)).frame c 0x1D = cause ∧ (writeFrame s c (cause, pc, addr)).frame c 0x1E = pc ∧
      (writeFrame s c (cause, pc, addr)).frame c 0x1F = addr := by
  have hcount (t : State) {k : Nat} (hk : k ≠ 0x3B) : (countCommit t c).frame c k = t.frame c k :=
    SMap.get_set_other _ _ _ _ _ _ (by omega)
  unfold writeFrame
  refine ⟨?_, ?_, ?_⟩ <;>
    rw [hcount _ (by decide), frame_setFrames, if_neg fun h => absurd h.1 (by decide), frame_setFrames, if_pos ⟨by decide, by simp⟩] <;> rfl

/-- A written frame leaves every context as it was, but for the mark of what its own activation has committed. -/
theorem writeFrame_ctx (s : State) (c : Nat) (exc : Word × Word × Word) :
    ∃ (b : Bool) (fs : SMap Word), writeFrame s c exc =
      { s.setCtx c { s.ctx c with committedAct := b } with cpu := { (s.setCtx c { s.ctx c with committedAct := b }).cpu with frames := fs } } := by
  have hcount (t : State) (h : OnlyFrames s t) : ∃ (b : Bool) (fs : SMap Word), countCommit t c =
      { s.setCtx c { s.ctx c with committedAct := b } with cpu := { (s.setCtx c { s.ctx c with committedAct := b }).cpu with frames := fs } } := by
    unfold OnlyFrames at h
    generalize t.cpu.frames = fs at h
    subst h
    exact ⟨_, _, rfl⟩
  unfold writeFrame
  refine hcount _ ?_
  exact ((((setFrames_onlyFrames ..).trans (setFrames_onlyFrames ..)).trans (setFrames_onlyFrames ..)).trans (setFrames_onlyFrames ..)).trans
    (setFrames_onlyFrames ..)

end

/-! ## Lanes (R155) -/

theorem best_mem {f : Nat → Nat → Bool} {l : List Nat} {x : Nat} (h : best f l = some x) : x ∈ l := by
  induction l generalizing x with
  | nil => cases h
  | cons a l ih =>
    simp only [best] at h
    split at h
    · cases h
      exact List.mem_cons_self
    · next y hy =>
      split at h
      · cases h
        exact List.mem_cons_of_mem _ (ih hy)
      · cases h
        exact List.mem_cons_self

theorem mode_of_nextReady {s : State} {p d : Nat} (hs : SMap.sorted s.cpu.ctxs = true) (h : nextReady s p = some d) : (s.ctx d).mode = .ready := by
  obtain ⟨⟨k, x⟩, hx, rfl⟩ := List.mem_map.1 (best_mem h)
  obtain ⟨hmem, hmode⟩ := List.mem_filter.1 hx
  rw [State.ctx_of_mem hs hmem]
  exact (of_decide_eq_true hmode).1

theorem toResident_ctx_other (s : State) {c d p lane : Nat} (h : d ≠ c) : (toResident s c p lane).ctx d = s.ctx d := by
  unfold toResident
  dsimp only
  rw [State.ctx_modCtx_other _ _ _ _ h, countCommit, State.ctx_modCtx_other _ _ _ _ h]
  rfl

theorem toResident_frame (s : State) {c d p lane w : Nat} (hw : w < 0x3B) : (toResident s c p lane).frame d w = s.frame d w := by
  have hkey : 64 * d + w ≠ 64 * c + 0x3B := by omega
  exact SMap.get_set_other _ _ _ _ _ _ hkey

/-- A freed lane leaves alone a context that is not Ready, and the words of every frame before the commit count. -/
theorem laneFree_ctx (s : State) {c p : Nat} (hs : SMap.sorted s.cpu.ctxs = true) (h : (s.ctx c).mode ≠ .ready) : (laneFree s p).ctx c = s.ctx c := by
  unfold laneFree
  split
  · next hd => exact toResident_ctx_other s fun e => h (e ▸ mode_of_nextReady hs hd)
  · rfl

theorem laneFree_frame (s : State) {c p w : Nat} (hw : w < 0x3B) : (laneFree s p).frame c w = s.frame c w := by
  unfold laneFree
  split
  · exact toResident_frame s hw
  · rfl

/-! ## The stop of a context -/

section
variable {s : State} {c : Nat}

/-- One own issue changes the registers of its context alone, and of these not the program counter, beside data SRAM. -/
theorem tick_eq (s : State) (c : Nat) : ∃ r : CRegs, r.pc = (s.ctx c).regs.pc ∧ OnlyData (s.setCtx c { s.ctx c with regs := r }) (tick s c) := by
  refine ⟨_, ?_, foldl_enterStore_onlyData _ c _⟩
  exact landAll_pc _ _

theorem OnlyData.ctxs {s t : State} (h : OnlyData s t) : t.cpu.ctxs = s.cpu.ctxs := by
  unfold OnlyData at h
  rw [h]

theorem tick_sorted (hs : SMap.sorted s.cpu.ctxs = true) : SMap.sorted (tick s c).cpu.ctxs = true := by
  obtain ⟨r, -, h⟩ := tick_eq s c
  rw [h.ctxs]
  exact SMap.sorted_set _ _ _ _ hs

theorem tick_ctx_self (s : State) (c : Nat) : ∃ r : CRegs, r.pc = (s.ctx c).regs.pc ∧ (tick s c).ctx c = { s.ctx c with regs := r } := by
  obtain ⟨r, hr, h⟩ := tick_eq s c
  exact ⟨r, hr, (h.ctx c).trans (State.ctx_setCtx_same ..)⟩

theorem flush_ctx_self (s : State) (c : Nat) : ∃ r : CRegs, r.pc = (s.ctx c).regs.pc ∧ (flush s c).ctx c = { s.ctx c with regs := r } := by
  obtain ⟨r1, h1, e1⟩ := tick_ctx_self s c
  obtain ⟨r2, h2, e2⟩ := tick_ctx_self (tick s c) c
  obtain ⟨r3, h3, e3⟩ := tick_ctx_self (tick (tick s c) c) c
  rw [e1] at h2 e2
  rw [e2] at h3 e3
  exact ⟨r3, h3.trans (h2.trans h1), e3⟩

/-- What the stop of a context shows (R120, R121): it is Stopped and bound to no ticket, and its frame has the cause, the packet and the address. -/
structure Stopped (t : State) (c : Nat) (cause pc addr : Word) : Prop where
  mode : (t.ctx c).mode = .stopped
  bound : (t.ctx c).bound = none
  cause : t.frame c 0x1D = cause
  pc : t.frame c 0x1E = pc
  addr : t.frame c 0x1F = addr

theorem State.setCtx_sorted {x : Ctx} (hs : SMap.sorted s.cpu.ctxs = true) : SMap.sorted (s.setCtx c x).cpu.ctxs = true :=
  SMap.sorted_set _ _ _ _ hs

theorem writeFrame_sorted {exc : Word × Word × Word} (hs : SMap.sorted s.cpu.ctxs = true) : SMap.sorted (writeFrame s c exc).cpu.ctxs = true := by
  obtain ⟨b, fs, hw⟩ := writeFrame_ctx s c exc
  rw [hw]
  exact State.setCtx_sorted hs

/-- A context that is set Stopped, its frame written, shows that after its lane has gone to another. -/
theorem stopped_of_setCtx {p : Nat} {x : Ctx} {cause pc addr : Word} (hs : SMap.sorted s.cpu.ctxs = true) (hm : x.mode = .stopped)
    (hb : x.bound = none) (hf : s.frame c 0x1D = cause ∧ s.frame c 0x1E = pc ∧ s.frame c 0x1F = addr) :
    Stopped (laneFree (s.setCtx c x).stamped p) c cause pc addr := by
  obtain ⟨h1, h2, h3⟩ := hf
  have hself : (s.setCtx c x).stamped.ctx c = x := State.ctx_setCtx_same ..
  have hsorted : SMap.sorted (s.setCtx c x).stamped.cpu.ctxs = true := SMap.sorted_set Ctx.init s.cpu.ctxs c x hs
  have hfree : (laneFree (s.setCtx c x).stamped p).ctx c = x :=
    (laneFree_ctx _ hsorted (by rw [hself, hm]; decide)).trans hself
  exact ⟨by rw [hfree, hm], by rw [hfree, hb], (laneFree_frame _ (by decide)).trans h1, (laneFree_frame _ (by decide)).trans h2,
    (laneFree_frame _ (by decide)).trans h3⟩

theorem stopRunning_stopped {cause : Nat} {addr : Word} (hs : SMap.sorted s.cpu.ctxs = true) (he : (s.ctx c).ended = false) :
    Stopped (stopRunning s c cause addr .stopped) c (BitVec.ofNat 32 cause) (BitVec.ofNat 32 (s.ctx c).regs.pc) addr := by
  obtain ⟨r, hpc, hctx⟩ := flush_ctx_self s c
  have hsorted : SMap.sorted (flush s c).cpu.ctxs = true := by
    unfold flush
    exact tick_sorted (tick_sorted (tick_sorted hs))
  have hpc' : (s.ctx c).regs.pc = ((flush s c).ctx c).regs.pc := by rw [hctx, ← hpc]
  unfold stopRunning
  rw [if_neg (by simp [he]), hpc']
  exact stopped_of_setCtx (writeFrame_sorted hsorted) rfl rfl (writeFrame_exc ..)

/-- A context that stops itself in slot A (R120). -/
theorem stopSelf_stopped {cause : Nat} {addr : Word} (hs : SMap.sorted s.cpu.ctxs = true) (h : Before s c none .A) :
    Stopped (stopSelf (openPacket s c) c cause addr) c (BitVec.ofNat 32 cause) (BitVec.ofNat 32 (s.ctx c).regs.pc) addr := by
  obtain ⟨r, hpc, hctx⟩ := tick_ctx_self s c
  have he : (s.ctx c).ended = false := by
    have hissue := h.2.2.1
    simp only [canIssue, Bool.and_eq_true, Bool.not_eq_true'] at hissue
    exact hissue.1.2
  have hopen := openPacket_of_before h
  rw [hctx] at hopen
  have hself : (dropPacket (openPacket s c) c).ctx c =
      { s.ctx c with packet := none, regs := { r with lands := r.lands.filter (! ·.fresh), stores := r.stores.filter (! ·.fresh) } } := by
    rw [dropPacket, State.ctx_modCtx_same, hopen, State.ctx_setCtx_same]
  have hsorted : SMap.sorted (dropPacket (openPacket s c) c).cpu.ctxs = true := by
    rw [hopen]
    exact SMap.sorted_set _ _ _ _ (SMap.sorted_set _ _ _ _ (tick_sorted hs))
  have hstop := stopRunning_stopped (cause := cause) (addr := addr) hsorted (by rw [hself]; exact he)
  rw [hself] at hstop
  dsimp only at hstop
  rwa [hpc] at hstop

end

end Sys2Proof.Machine
end

section
/-! The encoding of syllables: the fields of a word put together (R126 to R149), and TRAP and undefined syllables (R120, R128, R138). -/
namespace Sys2Proof.Machine
open Sys2Proof

/-! ## Fields as numbers -/

theorem toNat_append_eq {m n : Nat} (x : BitVec m) (y : BitVec n) : (x ++ y).toNat = x.toNat * 2 ^ n + y.toNat := by
  rw [BitVec.toNat_append, ← Nat.shiftLeft_add_eq_or_of_lt y.isLt, Nat.shiftLeft_eq]

section
variable (gd : Guard) (m : Fin 16) (rd rs : GReg)

theorem assemble_eq_append : assemble gd m rd rs = (.ofFin gd : BitVec 2) ++ (.ofFin m : BitVec 4) ++ (.ofFin rd : BitVec 4) ++ (.ofFin rs : BitVec 4) := by
  refine BitVec.eq_of_toNat_eq ?_
  unfold assemble
  simp only [toNat_append_eq, BitVec.toNat_ofFin, BitVec.toNat_ofNat]
  omega

theorem sylGuard_assemble : sylGuard (assemble gd m rd rs) = gd := by
  rw [assemble_eq_append, sylGuard]
  simp (disch := decide) only [BitVec.extractLsb'_append_eq_of_le, Nat.reduceSub, BitVec.extractLsb'_eq_self]

theorem sylMajor_assemble : sylMajor (assemble gd m rd rs) = m := by
  rw [assemble_eq_append, sylMajor]
  simp (disch := decide) only [BitVec.extractLsb'_append_eq_of_le, Nat.reduceSub, BitVec.extractLsb'_append_eq_right]

theorem sylRd_assemble : sylRd (assemble gd m rd rs) = rd := by
  rw [assemble_eq_append, sylRd]
  simp (disch := decide) only [BitVec.extractLsb'_append_eq_of_le, Nat.reduceSub, BitVec.extractLsb'_append_eq_right]

theorem sylRs_assemble : sylRs (assemble gd m rd rs) = rs := by
  rw [assemble_eq_append, sylRs, BitVec.extractLsb'_append_eq_right]

theorem getBits_syl (y : Syl) (lo n : Nat) (h : lo + n < 32) : getBits (y.setWidth 32) (lo + n) lo = (y.extractLsb' lo (n + 1)).toNat := by
  rw [getBits_eq _ _ _ h, BitVec.toNat_setWidth_of_le (by decide), BitVec.extractLsb'_toNat, Nat.shiftRight_eq_div_pow, Nat.add_sub_cancel_left]

/-- The fields by which `undefinedSyl` judges a word put together. -/
theorem getBits_assemble : getBits ((assemble gd m rd rs).setWidth 32) 11 8 = m ∧ getBits ((assemble gd m rd rs).setWidth 32) 7 4 = rd ∧
    getBits ((assemble gd m rd rs).setWidth 32) 3 0 = rs ∧ getBits ((assemble gd m rd rs).setWidth 32) 13 12 = gd :=
  ⟨(getBits_syl _ 8 3 (by decide)).trans (congrArg Fin.val (sylMajor_assemble gd m rd rs)),
    (getBits_syl _ 4 3 (by decide)).trans (congrArg Fin.val (sylRd_assemble gd m rd rs)),
    (getBits_syl _ 0 3 (by decide)).trans (congrArg Fin.val (sylRs_assemble gd m rd rs)),
    (getBits_syl _ 12 1 (by decide)).trans (congrArg Fin.val (sylGuard_assemble gd m rd rs))⟩

/-- In slot A a word of majors 0 to 6 or 0xB is defined, and one of majors 7 to 9 is not (R128). -/
theorem undefinedSyl_A_assemble (hm : m ≠ 0xA) : undefinedSyl .A none (assemble gd m rd rs) = decide (7 ≤ m.val ∧ m.val ≤ 9) := by
  obtain ⟨h1, h2, h3, h4⟩ := getBits_assemble gd m rd rs
  have : m.val ≠ 10 := fun h => hm (Fin.ext h)
  simp [undefinedSyl, h1, h2, h3, h4, this]

/-- In slot B without a WIDEN a word of majors 0 to 8 is defined, and one of majors from 10 is not (R128). -/
theorem undefinedSyl_B_assemble (hm : m ≠ 9) : undefinedSyl .B none (assemble gd m rd rs) = decide (10 ≤ m.val) := by
  obtain ⟨h1, h2, h3, h4⟩ := getBits_assemble gd m rd rs
  have : m.val ≠ 9 := fun h => hm (Fin.ext h)
  simp [undefinedSyl, h1, this]

theorem undefinedSyl_B_of_major (w : Option Widen) (hm : 10 ≤ m) : undefinedSyl .B w (assemble gd m rd rs) = true := by
  obtain ⟨h1, h2, h3, h4⟩ := getBits_assemble gd m rd rs
  have : 10 ≤ m.val := hm
  simp [undefinedSyl, h1, this]

end

/-! ## The words of slot A that are put together otherwise -/

/-- A word is put together from its own fields. -/
theorem eq_assemble (y : Syl) : y = assemble (sylGuard y) (sylMajor y) (sylRd y) (sylRs y) := by
  rw [assemble_eq_append]
  change y = y.extractLsb' 12 2 ++ y.extractLsb' 8 4 ++ y.extractLsb' 4 4 ++ y.extractLsb' 0 4
  rw [BitVec.extractLsb'_append_extractLsb'_eq_extractLsb' (start₁ := 8) (len₁ := 4) (by decide),
    BitVec.extractLsb'_append_extractLsb'_eq_extractLsb' (start₁ := 4) (len₁ := 4) (by decide),
    BitVec.extractLsb'_append_extractLsb'_eq_extractLsb' (start₁ := 0) (len₁ := 4) (by decide)]
  exact BitVec.extractLsb'_eq_self.symm

/-- Which words of the branch major are undefined (R128, R138). -/
theorem undefinedSyl_br {y : Syl} (hm : (sylMajor y).val = 0xA) : undefinedSyl .A none y =
    (sylGuard y == 0 && decide (8 ≤ (sylRd y).val) && ((sylRd y).val == 0xB || ((sylRd y).val == 0xA && decide ((sylRs y).val ≠ 0)))) := by
  obtain ⟨h1, h2, h3, h4⟩ := getBits_assemble (sylGuard y) (sylMajor y) (sylRd y) (sylRs y)
  rw [← eq_assemble] at h1 h2 h3 h4
  have hg : (sylGuard y == 0) = ((sylGuard y).val == 0) := by
    rw [Bool.eq_iff_iff, beq_iff_eq, beq_iff_eq, Fin.ext_iff]
    rfl
  simp [undefinedSyl, h1, h2, h3, h4, hm, hg]

/-- A word of WIDEN is defined. -/
theorem undefinedSyl_of_widen {y : Syl} (hm : 12 ≤ (sylMajor y).val) : undefinedSyl .A none y = false := by
  have h := undefinedSyl_A_assemble (sylGuard y) (sylMajor y) (sylRd y) (sylRs y) (by rintro e; rw [e] at hm; exact absurd hm (by decide))
  rw [← eq_assemble] at h
  rw [h, decide_eq_false_iff_not]
  omega

theorem br_fields (gd : BitVec 2) (n : Bool) (off : BitVec 7) (h : ¬ (gd = 0 ∧ n = true)) :
    let y : Syl := gd ++ 0xA#4 ++ BitVec.ofBool n ++ off
    undefinedSyl .A none y = false ∧ (sylMajor y).val = 0xA ∧ sylGuard y = gd.toFin ∧ y.getLsbD 7 = n ∧ y.extractLsb' 0 7 = off := by
  intro y
  have hm : (sylMajor y).val = 0xA := by
    simp (disch := decide) only [y, sylMajor, BitVec.extractLsb'_append_eq_of_le, Nat.reduceSub, BitVec.extractLsb'_append_eq_right]
    rfl
  have hg : sylGuard y = gd.toFin := by
    simp (disch := decide) only [y, sylGuard, BitVec.extractLsb'_append_eq_of_le, Nat.reduceSub, BitVec.extractLsb'_eq_self]
  have hn : y.getLsbD 7 = n := by
    simp only [y, BitVec.getLsbD_append, Nat.reduceLT, if_false, Nat.reduceSub, if_true]
    cases n <;> rfl
  refine ⟨?_, hm, hg, hn, BitVec.extractLsb'_append_eq_right⟩
  rw [undefinedSyl_br hm, hg, Bool.and_eq_false_iff, Bool.and_eq_false_iff]
  refine .inl ?_
  by_cases hz : gd = 0
  · obtain rfl : n = false := Bool.eq_false_iff.2 fun hn => h ⟨hz, hn⟩
    have hrd : (sylRd y).val = off.toNat / 16 % 16 := by
      simp (disch := decide) only [y, sylRd, BitVec.append_assoc, BitVec.cast_eq, BitVec.extractLsb'_append_eq_of_add_le]
      rw [BitVec.val_toFin, BitVec.extractLsb'_toNat, toNat_append_eq, Nat.shiftRight_eq_div_pow]
      exact congrArg (· / 16 % 16) (Nat.zero_add _)
    have hoff := off.isLt
    exact .inr (decide_eq_false (by omega))
  · exact .inl (beq_eq_false_iff_ne.2 fun e => hz (BitVec.eq_of_toFin_eq e))

theorem trap_fields : ∀ code : BitVec 6,
    let y : Syl := 0x2B#8 ++ code
    undefinedSyl .A none y = false ∧ (sylMajor y).val = 0xA ∧ sylGuard y = 0 ∧ y.getLsbD 7 = true ∧ y.getLsbD 6 = true ∧ y.extractLsb' 0 6 = code := by
  decide +kernel

theorem jump_fields : ∀ (rs : BitVec 4) (link : Fin 2),
    let y : Syl := (0x0A8#10 + BitVec.ofNat 10 link) ++ rs
    undefinedSyl .A none y = false ∧ (sylMajor y).val = 0xA ∧ sylGuard y = 0 ∧ y.getLsbD 7 = true ∧ y.getLsbD 6 = false ∧
      (y.extractLsb' 4 2).toNat = link ∧ sylRs y = rs.toFin := by
  decide +kernel

theorem widen_fields (neg : Bool) (hi : BitVec 1) (lo : BitVec 2) (imm : Byte) :
    let y : Syl := BitVec.ofBool neg ++ hi ++ 3#2 ++ lo ++ imm
    undefinedSyl .A none y = false ∧ 12 ≤ (sylMajor y).val ∧ y.getLsbD 13 = neg ∧ y.extractLsb' 12 1 ++ y.extractLsb' 8 2 = (hi ++ lo : BitVec 3) ∧
      y.extractLsb' 0 8 = imm := by
  intro y
  have hm : sylMajor y = (3#2 ++ lo).toFin := by
    simp (disch := decide) only [y, sylMajor, BitVec.extractLsb'_append_eq_of_le, Nat.reduceSub]
    rw [BitVec.append_assoc, BitVec.cast_eq, BitVec.extractLsb'_append_eq_right]
  have hm12 : 12 ≤ (sylMajor y).val := by
    rw [hm]
    exact (by decide : ∀ lo : BitVec 2, 12 ≤ (3#2 ++ lo).toFin.val) lo
  refine ⟨undefinedSyl_of_widen hm12, hm12, ?_, ?_, BitVec.extractLsb'_append_eq_right⟩
  · simp only [y, BitVec.getLsbD_append, Nat.reduceLT, if_false, Nat.reduceSub]
    cases neg <;> rfl
  · simp (disch := decide) only [y, BitVec.extractLsb'_append_eq_of_le, Nat.reduceSub, BitVec.extractLsb'_append_eq_right]

section
variable {c : CtxId} {y : Syl}

theorem decodeSyl_A (hu : undefinedSyl .A none y = false) : decodeSyl c .A none y = decodeA c y := by
  rw [decodeSyl, if_neg (by rw [hu]; decide)]

theorem decodeSyl_B {w : Option Widen} (hu : undefinedSyl .B w y = false) : decodeSyl c .B w y = decodeB c w y := by
  rw [decodeSyl, if_neg (by rw [hu]; decide)]

theorem decodeA_br (hm : (sylMajor y).val = 0xA) : decodeA c y = decodeBr c y := by
  rw [decodeA, hm]
  rfl

theorem decodeA_widen (hm : 12 ≤ (sylMajor y).val) :
    decodeA c y = .widen c (widenOf y).neg (y.extractLsb' 12 1 ++ y.extractLsb' 8 2 : BitVec 3).toFin (widenOf y).imm := by
  have hcases : ∀ m : Fin 16, 12 ≤ m.val → m = 12 ∨ m = 13 ∨ m = 14 ∨ m = 15 := by decide
  unfold decodeA
  obtain h | h | h | h := hcases _ hm <;> rw [h] <;> rfl

end

theorem decodeSyl_br {c : CtxId} {gd : BitVec 2} {n : Bool} {off : BitVec 7} (h : ¬ (gd = 0 ∧ n = true)) :
    decodeSyl c .A none (gd ++ 0xA#4 ++ BitVec.ofBool n ++ off) = .br c gd.toFin n off := by
  obtain ⟨hu, hm, hg, h7, hoff⟩ := br_fields gd n off h
  have hbr : ¬ ((gd.toFin : Guard) = 0 ∧ n = true) := fun ⟨hz, hn⟩ => h ⟨BitVec.eq_of_toFin_eq hz, hn⟩
  rw [decodeSyl_A hu, decodeA_br hm, decodeBr, hg, h7, if_neg hbr, hoff]

theorem decodeSyl_trap {c : CtxId} {code : BitVec 6} : decodeSyl c .A none (0x2B#8 ++ code) = .trap c code.toFin := by
  obtain ⟨hu, hm, hg, h7, h6, hcode⟩ := trap_fields code
  rw [decodeSyl_A hu, decodeA_br hm, decodeBr, hg, h7, h6, if_pos ⟨rfl, rfl⟩, if_pos rfl, hcode]

theorem decodeSyl_jump {c : CtxId} {rs : BitVec 4} :
    decodeSyl c .A none (0x0A8#10 ++ rs) = .jr c rs.toFin ∧ decodeSyl c .A none (0x0A9#10 ++ rs) = .callr c rs.toFin := by
  constructor
  · obtain ⟨hu, hm, hg, h7, h6, hl, hrs⟩ := jump_fields rs 0
    refine (decodeSyl_A hu).trans ((decodeA_br hm).trans ?_)
    rw [decodeBr, hg, h7, h6, if_pos ⟨rfl, rfl⟩, if_neg (by decide), hl, hrs]
    rfl
  · obtain ⟨hu, hm, hg, h7, h6, hl, hrs⟩ := jump_fields rs 1
    refine (decodeSyl_A hu).trans ((decodeA_br hm).trans ?_)
    rw [decodeBr, hg, h7, h6, if_pos ⟨rfl, rfl⟩, if_neg (by decide), hl, hrs]
    rfl

theorem decodeSyl_widen {c : CtxId} {neg : Bool} {hi : BitVec 1} {lo : BitVec 2} {imm : Byte} :
    decodeSyl c .A none (BitVec.ofBool neg ++ hi ++ 3#2 ++ lo ++ imm) = .widen c neg (hi ++ lo : BitVec 3).toFin imm ∧
    widenIn (BitVec.ofBool neg ++ hi ++ 3#2 ++ lo ++ imm) = some ⟨neg, (hi ++ lo : BitVec 3).toNat, imm⟩ := by
  obtain ⟨hu, hm, hneg, hps, himm⟩ := widen_fields neg hi lo imm
  constructor
  · rw [decodeSyl_A hu, decodeA_widen hm, widenOf, hneg, hps, himm]
  · rw [widenIn, if_pos hm, widenOf, hneg, hps, himm]

/-! ## Words put together -/

section
variable (c : CtxId) (gd : Guard) (rd rs : GReg) (w : Widen)

theorem undefinedSyl_log : undefinedSyl .B (some w) (assemble gd 3 rd rs) =
    (decide (w.bits 7 5 ≠ 0) || w.bits 3 0 == 0xE || (w.bits 4 4 == 1 && ! (decide (0xB ≤ w.bits 3 0) && decide (w.bits 3 0 ≤ 0xD)))) := by
  obtain ⟨h1, h2, h3, h4⟩ := getBits_assemble gd 3 rd rs
  simp [undefinedSyl, h1]

/-- Under a WIDEN every word of majors 0 to 6 but LOG is defined. -/
theorem undefinedSyl_widened {m : Fin 16} (hm : m ∈ [0, 1, 2, 4, 5, 6]) : undefinedSyl .B (some w) (assemble gd m rd rs) = false := by
  unfold undefinedSyl
  rw [(getBits_assemble gd m rd rs).1]
  simp only [List.mem_cons, List.not_mem_nil, or_false] at hm
  obtain rfl | rfl | rfl | rfl | rfl | rfl := hm <;> rfl

theorem undefinedSyl_mac : undefinedSyl .B (some w) (assemble gd 8 rd rs) =
    (decide (w.bits 3 2 ≠ 0) || (decide (w.bits 6 4 ≤ 4) && decide (w.bits 1 0 ≠ 0)) ||
      ((w.bits 6 4 == 5 || w.bits 6 4 == 6) && decide (40 < w.bits 1 0 * 16 + rs))) := by
  obtain ⟨h1, h2, h3, h4⟩ := getBits_assemble gd 8 rd rs
  simp [undefinedSyl, h1, h3]

/-- A PIO word that writes a port, or that binds a ticket, is defined. -/
theorem undefinedSyl_pio (h : w.bits 7 6 = 1 ∨ w.bits 7 6 = 3 ∧ w.bits 5 4 = 0) : undefinedSyl .B (some w) (assemble gd 9 rd rs) = false := by
  obtain ⟨h1, h2, h3, h4⟩ := getBits_assemble gd 9 rd rs
  rcases h with h | ⟨h, h'⟩
  · simp [undefinedSyl, h1, h]
  · simp [undefinedSyl, h1, h, h']

theorem undefinedSyl_mem : undefinedSyl .B (some w) (assemble gd 7 rd rs) =
    (decide (5 ≤ w.bits 6 4) || (w.bits 7 7 == 1 && (w.bits 6 4 == 2 || w.bits 6 4 == 4))) := by
  obtain ⟨h1, h2, h3, h4⟩ := getBits_assemble gd 7 rd rs
  simp [undefinedSyl, h1]

end

/-- A word of MEM is the command that the top four bits `k` of its payload name (R140). -/
theorem decodeSyl_mem {c : CtxId} {gd : Guard} {rd rs : GReg} {w : Widen} {k : Nat} {i : Instr} (ho : w.imm.toNat / 16 = k)
    (hu : (decide (5 ≤ k % 8) || (k / 8 == 1 && (k % 8 == 2 || k % 8 == 4))) = false)
    (h : w.bits 7 7 = k / 8 → w.bits 6 4 = k % 8 → decodeMem c w (assemble gd 7 rd rs) = i) : decodeSyl c .B (some w) (assemble gd 7 rd rs) = i := by
  obtain ⟨h77, -, -, h64, -⟩ := getBits_payload w.imm
  have h77' : w.bits 7 7 = k / 8 := by rw [← ho, Nat.div_div_eq_div_mul]; exact h77
  have h64' : w.bits 6 4 = k % 8 := ho ▸ h64
  have hu' : undefinedSyl .B (some w) (assemble gd 7 rd rs) = false := by rw [undefinedSyl_mem, h77', h64', hu]
  refine (decodeSyl_B hu').trans (Eq.trans ?_ (h h77' h64'))
  rw [decodeB, sylMajor_assemble]
  rfl

/-- Under a WIDEN the words are the commands that its payload makes of them (R130, R132, R140, R142, R144, R147). -/
theorem decodeSyl_under (c : CtxId) (gd : Guard) (rd rs : GReg) (w : Widen) :
    let y (m : Fin 16) : Syl := assemble gd m rd rs
    let Under (m : Fin 16) (i : Instr) : Prop := decodeSyl c .B (some w) (y m) = i
    Under 0 (.movi c rd rs) ∧ Under 4 (.addi c .B gd rd rs) ∧
      (w.imm = 0x01 → Under 3 (.or c rd rs)) ∧ (w.imm = 0x04 → Under 3 (.shl c rd rs)) ∧ (w.imm = 0x0E → Under 3 (.undefinedSyllable c .B (y 3))) ∧
      (w.imm.toNat / 16 = 1 → Under 7 (.ldHu c rd rs)) ∧ (w.imm.toNat / 16 = 8 → Under 7 (.stW c rd rs)) ∧ (w.imm.toNat / 16 = 9 → Under 7 (.stH c rd rs)) ∧
      (w.imm.toNat / 16 = 5 → Under 7 (.undefinedSyllable c .B (y 7))) ∧ (w.imm &&& 0x7F = 0x10 → Under 8 (.msu c rd rs)) ∧
      (w.imm.toNat / 64 = 1 → Under 9 (.pwr c rd rs)) ∧ (w.imm.toNat / 16 = 12 → Under 9 (.lbind c rd)) := by
  intro y Under
  have hgd (m : Fin 16) : sylGuard (y m) = gd := sylGuard_assemble gd m rd rs
  have hm (m : Fin 16) : sylMajor (y m) = m := sylMajor_assemble gd m rd rs
  have hrd (m : Fin 16) : sylRd (y m) = rd := sylRd_assemble gd m rd rs
  have hrs (m : Fin 16) : sylRs (y m) = rs := sylRs_assemble gd m rd rs
  obtain ⟨-, h76, -, h64, h54, -⟩ := getBits_payload w.imm
  have defined {m : Fin 16} {i : Instr} (hu : undefinedSyl .B (some w) (y m) = false) (h : decodeB c (some w) (y m) = i) : Under m i :=
    (decodeSyl_B hu).trans h
  have alu {m : Fin 16} {i : Instr} (hu : m ∈ [0, 1, 2, 4, 5, 6]) (h : decodeB c (some w) (y m) = i) : Under m i :=
    defined (undefinedSyl_widened gd rd rs w hu) h
  refine ⟨?_, ?_, fun h => ?_, fun h => ?_, fun h => ?_, fun h => ?_, fun h => ?_, fun h => ?_, fun h => ?_, fun h => ?_, fun h => ?_, fun h => ?_⟩
  · exact alu (by decide) (by rw [decodeB, hm, hgd, hrd, hrs]; rfl)
  · exact alu (by decide) (by rw [decodeB, hm, hgd, hrd, hrs]; rfl)
  · refine defined ((undefinedSyl_log gd rd rs w).trans (by simp only [Widen.bits, h]; rfl)) ?_
    rw [decodeB, hm]
    change decodeLog c w (y 3) = _
    rw [decodeLog, Widen.bits, h, hrd, hrs]
    rfl
  · refine defined ((undefinedSyl_log gd rd rs w).trans (by simp only [Widen.bits, h]; rfl)) ?_
    rw [decodeB, hm]
    change decodeLog c w (y 3) = _
    rw [decodeLog, Widen.bits, h, hrd, hrs]
    rfl
  · exact if_pos ((undefinedSyl_log gd rd rs w).trans (by simp only [Widen.bits, h]; rfl))
  · exact decodeSyl_mem h (by decide) fun e1 e2 => by rw [decodeMem, e1, e2, sylRd_assemble, sylRs_assemble]; rfl
  · exact decodeSyl_mem h (by decide) fun e1 e2 => by rw [decodeMem, e1, e2, sylRd_assemble, sylRs_assemble]; rfl
  · exact decodeSyl_mem h (by decide) fun e1 e2 => by rw [decodeMem, e1, e2, sylRd_assemble, sylRs_assemble]; rfl
  · exact if_pos ((undefinedSyl_mem gd rd rs w).trans (by simp only [Widen.bits, h64, h, Nat.reduceMod, Nat.reduceLeDiff, decide_true, Bool.true_or]))
  · obtain ⟨hop, hzero, hlow⟩ := getBits_of_macOp (op := 1) h
    refine defined ((undefinedSyl_mac gd rd rs w).trans (by simp only [Widen.bits, hop, hzero, hlow]; rfl)) ?_
    rw [decodeB, hm]
    change decodeMac c w (y 8) = _
    rw [decodeMac, Widen.bits, hop, hrd, hrs]
    rfl
  · rw [h] at h76
    refine defined (undefinedSyl_pio gd rd rs w (.inl h76)) ?_
    rw [decodeB, hm]
    change decodePio c w (y 9) = _
    rw [decodePio, Widen.bits, h76, hrd, hrs]
    rfl
  · have h76' : w.bits 7 6 = 3 := h76.trans (by rw [show 64 = 16 * 4 from rfl, ← Nat.div_div_eq_div_mul, h])
    have h54' : w.bits 5 4 = 0 := h54.trans (by rw [h])
    refine defined (undefinedSyl_pio gd rd rs w (.inr ⟨h76', h54'⟩)) ?_
    rw [decodeB, hm]
    change decodePio c w (y 9) = _
    rw [decodePio, h76', h54', hrd]
    rfl

/-- Settles O11: the stops by `stopSelf_stopped`, the words by their fields. -/
theorem trapAndUndefinedSyllableStop : Obligations.TrapAndUndefinedSyllableStop := by
  unfold Obligations.TrapAndUndefinedSyllableStop
  refine ⟨fun s c code w hs h => ⟨?trap, fun hu => ?undefined⟩, fun c gd rd rs => ?words, fun c gd n off h => decodeSyl_br h,
    fun c code => decodeSyl_trap, fun c rs => decodeSyl_jump, fun c neg hi lo imm => decodeSyl_widen⟩
  case trap =>
    have hstop := stopSelf_stopped (cause := 4) (addr := BitVec.ofNat 32 code) hs h
    have hexec : exec (.trap c code) s = .next (stopSelf (openPacket s c) c 4 (BitVec.ofNat 32 code)) := by
      show execTrap c code s = _
      unfold execTrap
      rw [issue_of_before h rfl, show guardHolds ((atIssue s c .A).ctx c).regs 0 none = true from rfl, if_pos rfl, afterEffect, atEffect]
    exact ⟨_, hexec, hstop.mode, hstop.cause, hstop.pc, hstop.addr, hstop.bound⟩
  case undefined =>
    have hpc : ((openPacket s c).ctx c).regs.pc = (s.ctx c).regs.pc := by
      rw [openPacket_of_before h, State.ctx_setCtx_same]
      exact tick_pc s c
    have hk : ((openPacket s c).ctx c).packet = some ⟨false, none, none⟩ := by rw [openPacket_of_before h, State.ctx_setCtx_same]
    have hstop := stopSelf_stopped (cause := 1) (addr := BitVec.ofNat 32 (s.ctx c).regs.pc) hs h
    refine ⟨(stopSelf (openPacket s c) c 1 (BitVec.ofNat 32 (s.ctx c).regs.pc)).raise 4 (BitVec.ofNat 32 c), ?_, ?_⟩
    · have hA : (Slot.A = Slot.B && (s.ctx c).packet.isSome) = false := rfl
      show execUndefinedSyllable c .A w s = _
      simp [execUndefinedSyllable, hk, hu, hpc]
    · exact ⟨hstop.mode, hstop.cause, hstop.pc, hstop.addr, _, rfl⟩
  case words =>
    intro y InA InB
    have inA {m : Fin 16} {i : Instr} (hm : m.val < 7 ∨ m.val = 11) (h : decodeA c (y m) = i) : InA m i :=
      (decodeSyl_A ((undefinedSyl_A_assemble gd m rd rs (by rintro rfl; simp at hm)).trans (decide_eq_false (by omega)))).trans h
    have inB {m : Fin 16} {i : Instr} (hm : m.val < 9) (h : decodeB c none (y m) = i) : InB m i :=
      (decodeSyl_B ((undefinedSyl_B_assemble gd m rd rs (by rintro rfl; simp at hm)).trans (decide_eq_false (by omega)))).trans h
    have hgd (m : Fin 16) : sylGuard (y m) = gd := sylGuard_assemble gd m rd rs
    have hm (m : Fin 16) : sylMajor (y m) = m := sylMajor_assemble gd m rd rs
    have hrd (m : Fin 16) : sylRd (y m) = rd := sylRd_assemble gd m rd rs
    have hrs (m : Fin 16) : sylRs (y m) = rs := sylRs_assemble gd m rd rs
    refine ⟨?_, ?_, ?_, ?_, ?_, ?_, fun hne => ?_, ?_, ?_, ?_, ?_, ?_, ?_, ?_, ?_, fun m hu => ?_, fun m w hu => ?_, fun w => ?_⟩
    · exact inA (by decide) (by rw [decodeA, hm, hgd, hrd, hrs]; rfl)
    · exact inA (by decide) (by rw [decodeA, hm, hgd, hrd, hrs]; rfl)
    · exact inA (by decide) (by rw [decodeA, hm, hgd, hrd, hrs]; rfl)
    · exact inA (by decide) (by rw [decodeA, hm, hgd, hrd, hrs]; rfl)
    · exact inA (by decide) (by rw [decodeA, hm, hgd, hrd, hrs]; rfl)
    · exact inA (by decide) (by rw [decodeA, hm, hgd, hrd, hrs]; rfl)
    · exact inA (by decide) (by rw [decodeA, hm]; change decodeCmp c (y 11) = _; rw [decodeCmp, hgd, hrd, hrs]; exact if_pos hne)
    · exact inB (by decide) (by rw [decodeB, hm, hgd, hrd, hrs]; rfl)
    · exact inB (by decide) (by rw [decodeB, hm, hgd, hrd, hrs]; rfl)
    · exact inB (by decide) (by rw [decodeB, hm, hgd, hrd, hrs]; rfl)
    · exact inB (by decide) (by rw [decodeB, hm, hgd, hrd, hrs]; rfl)
    · exact inB (by decide) (by rw [decodeB, hm, hgd, hrd, hrs]; rfl)
    · exact inB (by decide) (by rw [decodeB, hm, hgd, hrd, hrs]; rfl)
    · exact inB (by decide) (by rw [decodeB, hm, hgd, hrd, hrs]; rfl)
    · exact inB (by decide) (by rw [decodeB, hm, hgd, hrd, hrs]; rfl)
    · exact (if_pos ((undefinedSyl_A_assemble gd m rd rs (by rintro rfl; simp at hu)).trans (decide_eq_true (by omega))))
    · exact if_pos (undefinedSyl_B_of_major gd m rd rs w hu)
    · exact decodeSyl_under c gd rd rs w

end Sys2Proof.Machine
end

section
/-! What is read of a register after an operation that writes none. -/
namespace Sys2Proof.Machine
open Sys2Proof
variable (s : State) (q : Rg) (fd : Fd)

@[simp] theorem State.rd_setCtx (c : Nat) (x : Ctx) : (s.setCtx c x).rd q = s.rd q := rfl
@[simp] theorem State.get_setCtx (c : Nat) (x : Ctx) : (s.setCtx c x).get fd = s.get fd := State.get_congr (s.rd_setCtx fd.r c x)
@[simp] theorem State.rd_modLnk (f : LnkSt → LnkSt) : (s.modLnk f).rd q = s.rd q := rfl
@[simp] theorem State.get_modLnk (f : LnkSt → LnkSt) : (s.modLnk f).get fd = s.get fd := State.get_congr (s.rd_modLnk fd.r f)
@[simp] theorem State.bit_modLnk (f : LnkSt → LnkSt) : (s.modLnk f).bit fd = s.bit fd := State.bit_congr (s.rd_modLnk fd.r f)
@[simp] theorem State.rd_modPwr (f : PwrSt → PwrSt) : (s.modPwr f).rd q = s.rd q := rfl
@[simp] theorem State.get_modPwr (f : PwrSt → PwrSt) : (s.modPwr f).get fd = s.get fd := State.get_congr (s.rd_modPwr fd.r f)
@[simp] theorem State.rd_modSt (k : Nat) (f : Stitch → Stitch) : (s.modSt k f).rd q = s.rd q := rfl
@[simp] theorem State.bit_modSt (k : Nat) (f : Stitch → Stitch) : (s.modSt k f).bit fd = s.bit fd := State.bit_congr (s.rd_modSt fd.r k f)

end Sys2Proof.Machine
end

section
/-! The commands and the retraining of the die links (R28). -/
namespace Sys2Proof.Machine
open Sys2Proof Reg

/-! ## Access to a register that no leaf gates -/

section
variable {s : State} {r : Rg} {f : State → State}

theorem gatedOff_of_leafless {a : Nat} (h : leafOf a = none) : gatedOff s a = false := by
  rw [gatedOff, h]

/-- Context 0 reaches every register that no leaf gates. -/
theorem granted_zero (hr : ctlReached s = true) (h : leafOf r.addr = none) : s.granted 0 true r f = f s :=
  State.granted_ok s 0 r f hr (gatedOff_of_leafless h)

/-- A register for context 0 alone, written by another. -/
theorem granted_other {w : CtxId} (hr : ctlReached s = true) (hw : w ≠ 0) : s.granted w (w.val == 0) r f = s.violate w 3 (BitVec.ofNat 32 r.addr) := by
  have h0 : (w.val == 0) = false := beq_eq_false_iff_ne.2 fun e => hw (Fin.ext e)
  rw [h0, State.granted_refused s w r f hr]

end

/-! ## The states of the links -/

section
variable {s t : State} {k j v : Nat}

theorem linkState_congr (h : t.rd SYS_LINK_STATUS = s.rd SYS_LINK_STATUS) : linkState t j = linkState s j := by
  rw [linkState, h, linkState]

theorem linkState_setLink_same (hk : k < 4) (hv : v < 4) : linkState (setLink s k v) k = v := by
  rw [linkState, setLink, State.rd_wr_same, getBits_setBits_same _ _ _ _ (by omega) (by omega), show 2 * k + 1 - 2 * k + 1 = 2 by omega]
  exact Nat.mod_eq_of_lt hv

theorem linkState_setLink_other (hk : k < 4) (hj : j < 4) (h : j ≠ k) : linkState (setLink s k v) j = linkState s j := by
  rw [linkState, setLink, State.rd_wr_same, getBits_setBits_other _ _ _ _ _ _ (by omega) (by omega) (by omega) (by omega) (by omega), linkState]

theorem linkState_put {f : Fd} {n : Nat} (hr : f.r = SYS_LINK_STATUS) (hf : f.ok = true) (hlo : 8 ≤ f.lo) (hj : j < 4) :
    linkState (s.put f n) j = linkState s j := by
  obtain ⟨h1, h2⟩ := Fd.ok_iff.1 hf
  rw [linkState, State.put, hr, State.rd_wr_same, getBits_setBits_other _ _ _ _ _ _ h1 h2 (by omega) (by omega) (by omega), linkState]

/-- The end of a link command leaves the states of the links. -/
theorem linkState_linkDone {code : Nat} (hj : j < 4) : linkState (linkDone s code) j = linkState s j :=
  (linkState_put rfl rfl (by decide) hj).trans (linkState_put rfl rfl (by decide) hj)

theorem linkDone_busy (s : State) (code : Nat) : (linkDone s code).bit SYS_LINK_STATUS_busy = false := by
  rw [linkDone, State.bit_put_apart _ SYS_LINK_STATUS_code SYS_LINK_STATUS_busy rfl rfl rfl rfl, State.bit_putB _ rfl]

theorem linkDone_code (s : State) {code : Nat} (h : code < 8) : (linkDone s code).get SYS_LINK_STATUS_code = code :=
  State.get_put_of_lt _ rfl h

end

/-! ## Commands -/

section
variable {s : State} {k : Fin 4}

theorem linkCommand_zero (hr : ctlReached s = true) (hb : s.bit SYS_LINK_STATUS_busy = false) (op j : Nat) :
    linkCommand s 0 op j = linkEffect s op j := by
  have h := granted_zero (r := SYS_LINK_CMD) (f := fun s => if s.bit SYS_LINK_STATUS_busy then s else linkEffect s op j) hr (by decide)
  rw [if_neg (by rw [hb]; decide)] at h
  exact h

theorem linkCommand_other {w : CtxId} (hr : ctlReached s = true) (hw : w ≠ 0) (op j : Nat) : linkCommand s w op j = s.violate w 3 0x40000020 :=
  granted_other hr hw

end

/-! ## The end of a retraining -/

/-- What a retraining has done to its link before the command it belongs to ends: the runs of failed CRCs start again, and after a pass what waits
enters frames. -/
noncomputable def retrained (s : State) (k : Nat) (pass : Bool) : State :=
  let s := (setLink s k (if pass then 0 else 1)).modLnk fun l => { l with runs := SMap.set 0 (SMap.set 0 l.runs (2 * k) 0) (2 * k + 1) 0 }
  if pass then fillDir (fillDir s (linkDie k) false) (linkDie k) true else s

section
variable {s : State} {k : Nat} {pass : Bool}

theorem retrained_regs : (retrained s k pass).regs = (setLink s k (if pass then 0 else 1)).regs := by cases pass <;> rfl

theorem retrained_rejoin : (retrained s k pass).lnk.rejoin = s.lnk.rejoin := by cases pass <;> rfl

theorem retrained_only : retrained s k pass = { s with regs := (retrained s k pass).regs, lnk := (retrained s k pass).lnk } := by cases pass <;> rfl

theorem linkState_retrained {k j : Fin 4} : linkState (retrained s k pass) j = if j = k then (if pass then 0 else 1) else linkState s j := by
  rw [linkState_congr (s := setLink s k (if pass then 0 else 1)) (by rw [State.rd, retrained_regs, State.rd])]
  by_cases h : j = k
  · rw [if_pos h, h, linkState_setLink_same k.isLt (by split <;> decide)]
  · rw [if_neg h, linkState_setLink_other k.isLt j.isLt fun e => h (Fin.ext e)]

theorem retrained_regsBut : RegsBut [SYS_LINK_STATUS] s (retrained s k pass) :=
  (RegsBut.wr .refl List.mem_cons_self).trans (.of_regs retrained_regs)

theorem linkDone_regsBut (code : Nat) : RegsBut [SYS_LINK_STATUS] s (linkDone s code) :=
  (RegsBut.refl.putB List.mem_cons_self).put List.mem_cons_self

/-- The end of a retraining, by whether a REJOIN of the link is in progress. -/
theorem trainEnd_eq (hd : dieRuns s = true) (hk : linkState s k = 2) (pass : Bool) : trainEnd s k pass =
    if s.lnk.rejoin = some k then (linkDone (retrained s k pass) (if pass then 0 else 2)).modLnk fun l => { l with rejoin := none }
    else if pass then retrained s k pass else (retrained s k pass).raise (24 + k) := by
  have hgo : ¬ (linkState s k ≠ 2 ∨ (! dieRuns s) = true) := by simp [hd, hk]
  unfold trainEnd
  rw [if_neg hgo, ← retrained_rejoin (pass := pass)]
  rfl

end

/-- Settles O2: SYS_LINK_CMD by `linkEffect`, the end of retraining by `trainEnd_eq`. -/
theorem linkCommandsAndRetraining : Obligations.LinkCommandsAndRetraining := by
  unfold Obligations.LinkCommandsAndRetraining
  refine ⟨fun s k hr hb => ?commands, fun s k hd hk => ⟨?pass, ?fail⟩, fun s w k => ⟨fun hr => ?held, fun hd => ?dead⟩⟩
  case commands =>
    have hs (w : State) (h : linkEffect s 1 k = w) : exec (.linkSiding 0 k) s = .next w := congrArg _ ((linkCommand_zero hr hb 1 k).trans h)
    have hj (w : State) (h : linkEffect s 2 k = w) : exec (.linkRejoin 0 k) s = .next w := congrArg _ ((linkCommand_zero hr hb 2 k).trans h)
    refine ⟨fun h1 => ⟨hs _ (if_pos h1), hj _ (if_pos h1)⟩, fun h1 h0 => hs _ ((if_neg h1).trans (if_pos h0)),
      fun h1 h0 => hs _ ((if_neg h1).trans (if_neg (not_not.2 h0))), fun h1 => hj _ (if_neg h1), fun w hw => ⟨?_, ?_⟩⟩
    · exact congrArg _ (linkCommand_other hr hw 1 k)
    · exact congrArg _ (linkCommand_other hr hw 2 k)
  case pass =>
    refine ⟨_, congrArg Host.Outcome.next (trainEnd_eq hd hk true), ?_⟩
    by_cases hre : s.lnk.rejoin = some k.val
    · rw [if_pos hre]
      have hstate (j : Fin 4) : linkState ((linkDone (retrained s k true) 0).modLnk fun l => { l with rejoin := none }) j =
          if j = k then 0 else linkState s j := by
        rw [linkState_congr (State.rd_modLnk ..), linkState_linkDone j.isLt, linkState_retrained]
        rfl
      refine ⟨(hstate k).trans (if_pos rfl), fun j hj => (hstate j).trans (if_neg hj), rfl, fun _ => ⟨?_, ?_, rfl⟩,
        (retrained_regsBut.trans (linkDone_regsBut 0)).trans (.of_regs (State.modLnk_regs ..)), rfl⟩
      · rw [State.bit_modLnk, linkDone_busy]
      · exact (State.get_modLnk ..).trans (linkDone_code _ (by decide))
    · rw [if_neg hre, if_pos rfl]
      exact ⟨linkState_retrained.trans (if_pos rfl), fun j hj => linkState_retrained.trans (if_neg hj), rfl, fun h => absurd h hre, retrained_regsBut,
        retrained_only⟩
  case fail =>
    refine ⟨_, congrArg Host.Outcome.next (trainEnd_eq hd hk false), ?_⟩
    by_cases hre : s.lnk.rejoin = some k.val
    · rw [if_pos hre]
      have hstate (j : Fin 4) : linkState ((linkDone (retrained s k false) 2).modLnk fun l => { l with rejoin := none }) j =
          if j = k then 1 else linkState s j := by
        rw [linkState_congr (State.rd_modLnk ..), linkState_linkDone j.isLt, linkState_retrained]
        rfl
      refine ⟨(hstate k).trans (if_pos rfl), fun j hj => (hstate j).trans (if_neg hj), fun _ => ⟨?_, ?_, rfl, rfl⟩,
        fun h => absurd hre h, (retrained_regsBut.trans (linkDone_regsBut 2)).trans (.of_regs (State.modLnk_regs ..)), rfl⟩
      · rw [State.bit_modLnk, linkDone_busy]
      · exact (State.get_modLnk ..).trans (linkDone_code _ (by decide))
    · have hstays : stays (24 + k) = false := by clear hre hk; revert k; decide
      rw [if_neg hre, if_neg Bool.false_ne_true]
      exact ⟨linkState_retrained.trans (if_pos rfl), fun j hj => linkState_retrained.trans (if_neg hj), fun h => absurd h hre,
        fun _ => by rw [State.raise_raiseQ, hstays]; rfl, retrained_regsBut, rfl⟩
  case held =>
    exact ⟨congrArg _ (s.granted_held _ _ _ _ hr), congrArg _ (s.granted_held _ _ _ _ hr)⟩
  case dead =>
    have hgo : linkState s k ≠ 2 ∨ (! dieRuns s) = true := .inr (by simp [hd])
    exact ⟨congrArg _ (if_pos hgo), congrArg _ (if_pos hgo)⟩

end Sys2Proof.Machine
end

section
/-! The commands of the stationmaster and the core pairs (R152 to R169). -/
namespace Sys2Proof.Machine
open Sys2Proof Reg

/-! ## Items removed: nothing changes but the timeline -/

/-- Nothing has changed but the timeline. -/
def OnlyTln (s t : State) : Prop := t = { s with tln := t.tln }

section
variable {s t u : State}

theorem OnlyTln.refl : OnlyTln s s := rfl

theorem OnlyTln.setItem (k : Nat) (i : Item) : OnlyTln s (s.setItem k i) := rfl

theorem OnlyTln.setRos (r : Nat) (x : Roster) : OnlyTln s (s.setRos r x) := rfl

theorem OnlyTln.freeSlot (k : Nat) (st : SlotState) : OnlyTln s (s.freeSlot k st) := rfl

theorem OnlyTln.trans (h : OnlyTln s t) (h' : OnlyTln t u) : OnlyTln s u := by
  unfold OnlyTln at h h' ⊢
  exact h'.trans (by rw [h])

theorem OnlyTln.cpu (h : OnlyTln s t) : t.cpu = s.cpu := by
  unfold OnlyTln at h
  rw [h]

theorem OnlyTln.regs (h : OnlyTln s t) : t.regs = s.regs := by
  unfold OnlyTln at h
  rw [h]

theorem OnlyTln.ctx (h : OnlyTln s t) (c : Nat) : t.ctx c = s.ctx c := by rw [State.ctx, h.cpu, State.ctx]

theorem OnlyTln.frame (h : OnlyTln s t) (c w : Nat) : t.frame c w = s.frame c w := by rw [State.frame, h.cpu, State.frame]

theorem freeLeaving_onlyTln (s : State) (r : Nat) : OnlyTln s (freeLeaving s r) :=
  List.foldlRecOn _ _ (motive := OnlyTln s) .refl fun t h k _ => by
    split
    · exact h
    · exact h.trans (.freeSlot ..)

theorem applyStaged_onlyTln (s : State) (r : Nat) : OnlyTln s (applyStaged s r) :=
  OnlyTln.trans (List.foldlRecOn _ _ (motive := OnlyTln s) .refl fun _ h _ _ => h.trans (.setItem ..)) (freeLeaving_onlyTln _ r)

theorem settleRoster_onlyTln (s : State) (r : Nat) : OnlyTln s (settleRoster s r) := by
  unfold settleRoster
  dsimp only
  generalize List.filter _ (s.ros r).periods = ps
  have h : OnlyTln s (freeLeaving (s.setRos r { s.ros r with periods := ps }) r) := OnlyTln.trans (.setRos ..) (freeLeaving_onlyTln _ r)
  split
  · exact h.trans (applyStaged_onlyTln _ r)
  · exact h

theorem dropInstances_onlyTln (s : State) (k : Nat) : OnlyTln s (s.dropInstances k) := by
  unfold State.dropInstances
  dsimp only
  split <;> rfl

theorem removeItem_onlyTln (s : State) (k : Nat) : OnlyTln s (s.removeItem k) := by
  unfold State.removeItem
  have h : OnlyTln s ((s.dropInstances k).freeSlot k .cancelled) := (dropInstances_onlyTln s k).trans (.freeSlot ..)
  dsimp only
  split
  · exact h
  · exact h.trans (settleRoster_onlyTln _ _)

theorem removeItems_onlyTln (s : State) (p : Item → Bool) : OnlyTln s (s.removeItems p) :=
  List.foldlRecOn _ _ (motive := OnlyTln s) .refl fun t h k _ => h.trans (removeItem_onlyTln t k)

end

/-! ## The protocol of TSK_CMD -/

section
variable {s : State}

theorem leafOf_tsk {a : Nat} (h : a / 0x10000 = 0x4005) : leafOf a = none := by
  unfold leafOf
  rw [h]
  rfl

theorem tskOnly_held (hr : ctlReached s = false) (w : Nat) (r : Rg) (f : State → State) : tskOnly s w r f = s := s.granted_held _ _ _ _ hr

theorem tskOnly_other {w : CtxId} (hr : ctlReached s = true) (hw : w ≠ 0) (r : Rg) (f : State → State) :
    tskOnly s w r f = s.violate w 3 (BitVec.ofNat 32 r.addr) := granted_other hr hw

theorem tskOnly_zero (hr : ctlReached s = true) {r : Rg} (h : r.addr / 0x10000 = 0x4005) (f : State → State) : tskOnly s 0 r f = f s :=
  granted_zero hr (leafOf_tsk h)

/-- A command written while none is in progress. -/
theorem tskCommand_free (hr : ctlReached s = true) (hb : s.bit TSK_CMD_RESULT_busy = false) (op t : Nat) :
    tskCommand s 0 op t = onlyCode (tskEffect s op t).1 (tskEffect s op t).2 := by
  rw [tskCommand, tskOnly_zero hr rfl, if_neg (by rw [hb]; decide)]
  rfl

theorem tskCommand_busy (hr : ctlReached s = true) (hb : s.bit TSK_CMD_RESULT_busy = true) (op t : Nat) : tskCommand s 0 op t = s := by
  rw [tskCommand, tskOnly_zero hr rfl, if_pos hb]

/-- Each command of the table is a write of TSK_CMD. -/
theorem exec_tskCommands {w : CtxId} {n : Fin 512} {t : State} (h : ∀ op, tskCommand s w op n = t) : ∀ i ∈ tskCommands w n, exec i s = .next t := by
  intro i hi
  have hall (op : Nat) : (.next (tskCommand s w op n) : Host.Outcome State Fault Refusal) = .next t := congrArg _ (h op)
  simp only [tskCommands, List.mem_cons, List.not_mem_nil, or_false] at hi
  rcases hi with rfl | rfl | rfl | rfl | rfl | rfl | rfl | rfl | rfl | rfl | rfl | rfl <;> exact hall _

theorem onlyCode_accepted (s : State) (code : Nat) : Accepted (onlyCode s code) code := ⟨State.bit_putB _ rfl, rfl⟩

theorem settleDrained_nil (h : s.ldg.drained = []) : settleDrained s = s := by
  have hsame : ({ s with ldg := { s.ldg with drained := [] } } : State) = s := by rw [← h]
  rw [settleDrained, h]
  exact hsame

end

/-- Settles O15: each command by what TSK_CMD does of it. -/
theorem tskCommandProtocol : Obligations.TskCommandProtocol := by
  unfold Obligations.TskCommandProtocol
  intro s n inp pay
  refine ⟨fun hr => ⟨fun w => exec_tskCommands fun op => tskOnly_held hr _ _ _, ?held⟩,
    fun hr => ⟨fun hb => ⟨exec_tskCommands fun op => tskCommand_busy hr hb op _, fun hd => ?complete⟩,
      fun w hw => ⟨exec_tskCommands fun op => tskOnly_other hr hw _ _, ?other⟩, ?post, ?clear⟩⟩
  case complete =>
    refine (if_pos hb).trans (congrArg _ (settleDrained_nil hd))
  case held => exact congrArg Host.Outcome.next (tskOnly_held hr _ TSK_POST _)
  case other => exact congrArg Host.Outcome.next (tskOnly_other hr hw TSK_POST _)
  case post =>
    have hpay : pay.val % 16384 = pay.val := Nat.mod_eq_of_lt pay.isLt
    refine congrArg Host.Outcome.next ((tskOnly_zero hr (r := TSK_POST) rfl _).trans ?_)
    rw [State.eventTo, hpay]
  case clear =>
    exact congrArg Host.Outcome.next (tskOnly_zero hr (r := TSK_CTX_VIOL n) (by simp only [TSK_CTX_VIOL]; omega) _)

/-! ## Frames -/

section
variable {s : State} {c d w k : Nat} {v : Word}

@[simp] theorem State.ctx_setFrame (s : State) (c d w : Nat) (v : Word) : (s.setFrame c w v).ctx d = s.ctx d := rfl
@[simp] theorem State.ctx_stamped (s : State) (d : Nat) : s.stamped.ctx d = s.ctx d := rfl
@[simp] theorem State.frame_setCtx (s : State) (c d w : Nat) (x : Ctx) : (s.setCtx c x).frame d w = s.frame d w := rfl
@[simp] theorem State.frame_modCtx (s : State) (c d w : Nat) (f : Ctx → Ctx) : (s.modCtx c f).frame d w = s.frame d w := rfl
@[simp] theorem State.frame_stamped (s : State) (d w : Nat) : s.stamped.frame d w = s.frame d w := rfl

theorem frame_setFrame (hk : k < 64) (hw : w < 64) : (s.setFrame c w v).frame d k = if d = c ∧ k = w then v else s.frame d k := by
  split
  · next h =>
    obtain ⟨rfl, rfl⟩ := h
    exact s.frame_setFrame_same _ _ _
  · next h => exact s.frame_setFrame_other c w d k v hw hk fun e => h (Prod.mk.inj e)

theorem createFrame_creation (s : State) (c entry : Nat) : CreationFrame (createFrame s c entry) c entry := by
  unfold createFrame CreationFrame
  dsimp only
  simp only [frame_setFrames, List.length_replicate, List.length_cons, List.length_nil]
  refine ⟨fun w hw => ?_, rfl, rfl, rfl, fun w h1 h2 => ?_⟩
  · rw [if_neg (by omega), if_neg (by omega), if_pos (by omega), List.getD_replicate _ (by omega)]
  · by_cases hlow : w < 0x21
    · rw [if_neg (by omega), if_pos (by omega)]
      interval_cases w <;> rfl
    · rw [if_pos (by omega), List.getD_replicate _ (by omega)]

theorem createFrame_onlyFrames (s : State) (c entry : Nat) : OnlyFrames s (createFrame s c entry) :=
  ((setFrames_onlyFrames ..).trans (setFrames_onlyFrames ..)).trans (setFrames_onlyFrames ..)

theorem OnlyFrames.ctx {t : State} (h : OnlyFrames s t) (c : Nat) : t.ctx c = s.ctx c := by
  unfold OnlyFrames at h
  rw [h]
  rfl

theorem OnlyFrames.regs {t : State} (h : OnlyFrames s t) : t.regs = s.regs := by
  unfold OnlyFrames at h
  rw [h]

theorem OnlyFrames.ctxs {t : State} (h : OnlyFrames s t) : t.cpu.ctxs = s.cpu.ctxs := by
  unfold OnlyFrames at h
  rw [h]

/-- A creation frame is known by the words below the dispatcher's own. -/
theorem CreationFrame.congr {t : State} {entry : Nat} (h : CreationFrame s c entry) (ht : ∀ w, w < 0x38 → t.frame c w = s.frame c w) :
    CreationFrame t c entry := by
  obtain ⟨h0, h1, h2, h3, h4⟩ := h
  exact ⟨fun w hw => (ht w (by omega)).trans (h0 w hw), (ht _ (by decide)).trans h1, (ht _ (by decide)).trans h2, (ht _ (by decide)).trans h3,
    fun w hw hw' => (ht w hw').trans (h4 w hw hw')⟩

end

/-! ## Commands on one context -/

section
variable {s : State} {c : Nat}

theorem createCtx_ctx (s : State) (c : Nat) : ((createCtx s c).ctx c).mode = .waiting := by
  rw [createCtx, placeCtx, State.ctx_modCtx_same, State.ctx_setCtx_same]

theorem createCtx_creation (s : State) (c : Nat) : CreationFrame (createCtx s c) c (s.get (TSK_CTX_ENTRY_pc c)) := by
  refine (createFrame_creation s c _).congr fun w hw => ?_
  rw [createCtx, placeCtx, State.frame_modCtx, State.frame_setCtx, frame_setFrames, if_neg (by omega)]

theorem createCtx_ctx_other {d : Nat} (h : d ≠ c) : (createCtx s c).ctx d = s.ctx d := by
  rw [createCtx, placeCtx, State.ctx_modCtx_other _ _ _ _ h, State.ctx_setCtx_other _ _ _ _ h, setFrames_ctx]
  exact (createFrame_onlyFrames s c _).ctx d

/-- A context without live registers stops: its stop fields are written, and it takes its new state (R121). -/
theorem stopIdle_frame (cause : Nat) (m : CtxMode) (w : Nat) : (stopIdle s c cause m).frame c w =
    if 0x1D ≤ w ∧ w < 0x20 then [BitVec.ofNat 32 cause, s.frame c 0x1B, 0].getD (w - 0x1D) 0 else s.frame c w :=
  frame_setFrames s c 0x1D w _

theorem stopIdle_mode (cause : Nat) (m : CtxMode) : ((stopIdle s c cause m).ctx c).mode = m := by
  rw [stopIdle, State.ctx_setCtx_same]

theorem stopIdle_ctx_other {d : Nat} (cause : Nat) (m : CtxMode) (h : d ≠ c) : (stopIdle s c cause m).ctx d = s.ctx d := by
  rw [stopIdle, State.ctx_setCtx_other _ _ _ _ h, setFrames_ctx]

theorem stopCtx_of_idle (h : (s.ctx c).mode = .waiting ∨ (s.ctx c).mode = .ready) (cause : Nat) (m : CtxMode) :
    stopCtx s c cause m = stopIdle s c cause m := by
  rcases h with h | h <;> rw [stopCtx, h]

/-- A context in its creation state but for its frame. -/
noncomputable def Ctx.restarted (x : Ctx) : Ctx :=
  { x with mode := .waiting, serving := none, again := none, bound := none, regs := CRegs.init, swapping := false, ended := false }

/-- What the restart of a context does before it may be given a lane (R152). -/
noncomputable def restarted (s : State) (c : Nat) : State :=
  ((createFrame (s.removeItemsOf c) c (s.get (TSK_CTX_ENTRY_pc c))).setFrame c 0x3A 0).modCtx c Ctx.restarted

theorem removeItemsOf_onlyTln (s : State) (c : Nat) : OnlyTln s (s.removeItemsOf c) := removeItems_onlyTln s _

theorem restarted_ctx_self (s : State) (c : Nat) : (restarted s c).ctx c = (s.ctx c).restarted := by
  rw [restarted, State.ctx_modCtx_same, State.ctx_setFrame, (createFrame_onlyFrames ..).ctx, (removeItemsOf_onlyTln s c).ctx]

theorem restarted_ctx_other {d : Nat} (h : d ≠ c) : (restarted s c).ctx d = s.ctx d := by
  rw [restarted, State.ctx_modCtx_other _ _ _ _ h, State.ctx_setFrame, (createFrame_onlyFrames ..).ctx, (removeItemsOf_onlyTln s c).ctx]

theorem restarted_regs (s : State) (c : Nat) : (restarted s c).regs = s.regs := by
  rw [restarted, State.modCtx_regs, State.setFrame_regs, (createFrame_onlyFrames ..).regs, (removeItemsOf_onlyTln s c).regs]

theorem restarted_creation (s : State) (c : Nat) : CreationFrame (restarted s c) c (s.get (TSK_CTX_ENTRY_pc c)) := by
  refine (createFrame_creation (s.removeItemsOf c) c _).congr fun w hw => ?_
  rw [restarted, State.frame_modCtx, frame_setFrame (by omega) (by decide), if_neg (by omega)]

theorem firstInp_congr {x y : Ctx} (h0 : x.in0 = y.in0) (h1 : x.in1 = y.in1) (h2 : x.in2 = y.in2) (h3 : x.in3 = y.in3) : x.firstInp = y.firstInp := by
  have hinp (i : Nat) : x.inp i = y.inp i := by
    unfold Ctx.inp
    rw [h0, h1, h2, h3]
  unfold Ctx.firstInp
  simp only [hinp]

theorem restarted_firstInp (s : State) (c : Nat) : ((restarted s c).ctx c).firstInp = (s.ctx c).firstInp := by
  rw [restarted_ctx_self]
  exact firstInp_congr rfl rfl rfl rfl

/-- A context that has become Ready on pair `p`. -/
noncomputable def Ctx.readied (p stamp : Nat) (x : Ctx) : Ctx := { x with mode := .ready, cur := p, readySince := stamp }

/-- A restarted context that has an event waiting is Ready. -/
noncomputable def restartedReady (s : State) (c : Nat) : State :=
  (restarted s c).stamped.modCtx c (Ctx.readied (homeOr (restarted s c).stamped c) (restarted s c).stamped.cpu.stamp)

theorem restartCtx_eq (s : State) (c : Nat) : restartCtx s c =
    if (s.ctx c).firstInp.isSome then laneFree (restartedReady s c) (homeOr (restarted s c).stamped c) else restarted s c := by
  have hentry : (s.removeItemsOf c).get (TSK_CTX_ENTRY_pc c) = s.get (TSK_CTX_ENTRY_pc c) :=
    State.get_congr (by rw [State.rd, (removeItemsOf_onlyTln s c).regs, State.rd])
  rw [← restarted_firstInp, restartedReady, restarted, ← hentry]
  rfl

theorem restartedReady_ctx_self (s : State) (c : Nat) : ∃ p n, (restartedReady s c).ctx c = (s.ctx c).restarted.readied p n :=
  ⟨_, _, by rw [restartedReady, State.ctx_modCtx_same, State.ctx_stamped, restarted_ctx_self]⟩

theorem restartedReady_ctx_other {d : Nat} (h : d ≠ c) : (restartedReady s c).ctx d = s.ctx d := by
  rw [restartedReady, State.ctx_modCtx_other _ _ _ _ h, State.ctx_stamped, restarted_ctx_other h]

theorem restartedReady_frame (s : State) (c d w : Nat) : (restartedReady s c).frame d w = (restarted s c).frame d w := by
  rw [restartedReady, State.frame_modCtx, State.frame_stamped]

end

/-- A command written while none is in progress is accepted with the code of what it does. -/
theorem completes_of_tsk {s : State} {i : Instr} {op : Nat} {n : Fin 512} {u : State} {code : Nat} {P : State → Prop} (hr : ctlReached s = true)
    (hb : s.bit TSK_CMD_RESULT_busy = false) (hi : exec i s = .next (tskCommand s 0 op n)) (he : tskEffect s op n = (u, code))
    (hP : P (onlyCode u code)) : Completes i s fun t => Accepted t code ∧ P t :=
  ⟨_, hi.trans (congrArg _ ((tskCommand_free hr hb op n).trans (by rw [he]))), onlyCode_accepted u code, hP⟩

@[simp] theorem onlyCode_ctx (s : State) (code d : Nat) : (onlyCode s code).ctx d = s.ctx d := rfl
@[simp] theorem onlyCode_frame (s : State) (code d w : Nat) : (onlyCode s code).frame d w = s.frame d w := rfl

theorem releaseCtx_ctx (s : State) (c d : Nat) : (releaseCtx s c).ctx d = if d = c then Ctx.init else s.ctx d := by
  rw [releaseCtx]
  split
  · next h => rw [h, State.ctx_setCtx_same]
  · next h => rw [State.ctx_setCtx_other _ _ _ _ h, (removeItemsOf_onlyTln s c).ctx]

/-- A context whose events have all been discarded. -/
noncomputable def Ctx.emptied (x : Ctx) : Ctx :=
  { x with in0 := Inp.none, in1 := Inp.none, in2 := Inp.none, in3 := Inp.none, serving := none, again := none }

theorem drainCtx_ctx (s : State) (c d : Nat) : (drainCtx s c).ctx d = if d = c then (s.ctx c).emptied else s.ctx d := by
  have hset : (drainCtx s c).ctx d = (s.setCtx c (s.ctx c).emptied).ctx d := rfl
  rw [hset]
  split
  · next h => rw [h, State.ctx_setCtx_same]
  · next h => rw [State.ctx_setCtx_other _ _ _ _ h]

theorem resumeCtx_of_quiet {s : State} {c : Nat} (h : inact s c = false) (h' : (s.ctx c).firstInp = none) :
    resumeCtx s c = s.setCtx c { s.ctx c with mode := .waiting } := by
  have hgo : ¬ (inact s c || (s.ctx c).firstInp.isSome) = true := by simp [h, h']
  exact if_neg hgo

/-- Settles O14: each command by what its row of the table does of a context in the state it accepts. -/
theorem contextCommands : Obligations.ContextCommands := by
  unfold Obligations.ContextCommands
  intro s n hn hr hb x Others quiet StopFields
  have hn0 : n.val ≠ 0 := fun h => hn (Fin.ext h)
  have accepted {i : Instr} {op : Nat} {u : State} {P : State → Prop} (hi : exec i s = .next (tskCommand s 0 op n))
      (he : tskEffect s op n = (u, 0)) (hP : P (onlyCode u 0)) : Completes i s fun t => Accepted t 0 ∧ P t := completes_of_tsk hr hb hi he hP
  have row {ok : Bool} {u : State} (hok : ok = true) : (if n.val = 0 then (s, 3) else if ok then (u, 0) else (s, 1)) = (u, 0) := by
    rw [if_neg hn0, if_pos hok]
  have stopped (hm : x.mode = .waiting ∨ x.mode = .ready) (cause : Nat) (m : CtxMode) :
      ((onlyCode (stopCtx s n cause m) 0).ctx n).mode = m ∧ StopFields (onlyCode (stopCtx s n cause m) 0) (BitVec.ofNat 32 cause) ∧
        Others (onlyCode (stopCtx s n cause m) 0) := by
    rw [stopCtx_of_idle hm]
    have hframe (w : Nat) : (onlyCode (stopIdle s n cause m) 0).frame n w =
        if 0x1D ≤ w ∧ w < 0x20 then [BitVec.ofNat 32 cause, s.frame n 0x1B, 0].getD (w - 0x1D) 0 else s.frame n w := stopIdle_frame cause m w
    refine ⟨stopIdle_mode cause m, ⟨hframe _, hframe _, hframe _, fun w _ h1 h2 h3 => (hframe w).trans (if_neg (by omega))⟩, fun d hd => ?_⟩
    rw [onlyCode_ctx, stopIdle_ctx_other cause m hd]
  refine ⟨fun hm => ?create, fun hm => ⟨?stop, ?siding⟩, fun hm hq => ?resume, fun hm => ⟨fun hi => ?restart, fun hi hroute => ?release, ?drain⟩⟩
  case create =>
    refine accepted (u := createCtx s n) rfl (row (decide_eq_true hm)) ⟨createCtx_ctx s n, (createCtx_creation s n).congr fun _ _ => onlyCode_frame .., fun d hd =>
      (onlyCode_ctx ..).trans (createCtx_ctx_other hd)⟩
  case stop =>
    refine accepted (u := stopCtx s n 5 .stopped) rfl (row (decide_eq_true ?_)) (stopped hm 5 .stopped)
    rcases hm with hm | hm <;> simp [hm, x]
  case siding =>
    refine accepted (u := stopCtx s n 6 .siding) rfl (row (decide_eq_true ?_)) (stopped hm 6 .siding)
    rcases hm with hm | hm <;> simp [hm, x]
  case resume =>
    refine accepted (u := resumeCtx s n) rfl (row (decide_eq_true hm)) ?_
    rw [resumeCtx_of_quiet hq.1 hq.2]
    exact ⟨by rw [onlyCode_ctx, State.ctx_setCtx_same], rfl, fun d hd =>
      (onlyCode_ctx ..).trans (State.ctx_setCtx_other _ _ _ _ hd)⟩
  case restart =>
    refine accepted (u := restartCtx s n) rfl (row (decide_eq_true hm)) ?_
    rw [restartCtx_eq, if_neg (by rw [hi]; decide)]
    exact ⟨by rw [onlyCode_ctx, restarted_ctx_self]; rfl, (restarted_creation s n).congr fun _ _ => onlyCode_frame .., fun d hd =>
      (onlyCode_ctx ..).trans (restarted_ctx_other hd)⟩
  case release =>
    refine accepted (u := releaseCtx s n) rfl ?_ ⟨?_, fun d hd => ?_⟩
    · have hgo : ¬ (routed s n || x.firstInp.isSome) = true := by simp [hroute, hi]
      exact (if_neg hn0).trans ((if_neg (not_not.2 hm)).trans (if_neg hgo))
    · rw [onlyCode_ctx, releaseCtx_ctx, if_pos rfl]
      rfl
    · rw [onlyCode_ctx, releaseCtx_ctx, if_neg hd]
  case drain =>
    refine accepted (u := drainCtx s n) rfl (row (decide_eq_true hm)) ?_
    simp only [onlyCode_ctx, drainCtx_ctx]
    exact ⟨rfl, rfl, fun d hd => (onlyCode_ctx ..).trans ((drainCtx_ctx ..).trans (if_neg hd)), rfl⟩

end Sys2Proof.Machine
end

section
/-! Lanes, pairs and tenants (R152 to R169): what the dispatcher's operations leave of the registers and of the other contexts. -/
namespace Sys2Proof.Machine
open Sys2Proof Reg

/-! ## Registers: the dispatcher's operations write none -/

section
variable (s : State) (c p : Nat)

theorem landNext_regs : (landNext s c).regs = s.regs := (foldl_enterStore_onlyData _ c _).regs

theorem writeFrame_regs (exc : Word × Word × Word) : (writeFrame s c exc).regs = s.regs := by
  obtain ⟨b, fs, h⟩ := writeFrame_ctx s c exc
  rw [h]
  rfl

theorem commitFrame_regs : (commitFrame s c).regs = s.regs := by rw [commitFrame, writeFrame_regs, landNext_regs]

theorem retire_regs : (retire s c).regs = s.regs := by
  unfold retire
  dsimp only
  split <;> rfl

theorem closePacket_regs : (closePacket s c).regs = s.regs := by
  unfold closePacket
  dsimp only
  split
  · rfl
  · split
    · rfl
    · split <;> rfl

theorem toResident_regs (lane : Nat) : (toResident s c p lane).regs = s.regs := rfl

theorem laneFree_regs : (laneFree s p).regs = s.regs := by
  unfold laneFree
  split
  · exact toResident_regs ..
  · rfl

theorem fillLanes_regs : (fillLanes s p).regs = s.regs := by rw [fillLanes, laneFree_regs, laneFree_regs, laneFree_regs, laneFree_regs]

/-- A context about to leave its lane: its packet closed, an activation that has ended retired. -/
noncomputable def leaving (s : State) (c : Nat) : State :=
  if ((closePacket s c).ctx c).ended then retire (closePacket s c) c else closePacket s c

theorem leaving_regs : (leaving s c).regs = s.regs := by
  unfold leaving
  split
  · rw [retire_regs, closePacket_regs]
  · rw [closePacket_regs]

/-- A context that has left its lane, its frame committed unless it was still being swapped in. -/
noncomputable def leftLane (s : State) (c : Nat) : State := if ((leaving s c).ctx c).swapping then leaving s c else commitFrame (leaving s c) c

theorem leftLane_regs : (leftLane s c).regs = s.regs := by
  unfold leftLane
  split
  · rw [leaving_regs]
  · rw [commitFrame_regs, leaving_regs]

/-- A swap-out changes the context alone beyond `leftLane`, and not its inputs; the mode it takes is the one asked for, or Waiting. -/
theorem swapOut_eq (m : CtxMode) : ∃ f : Ctx → Ctx, (∀ x, ((f x).mode = m ∨ (f x).mode = .waiting) ∧ ∀ i, (f x).inp i = x.inp i) ∧
    swapOut s c m = (leftLane s c).modCtx c f := by
  refine ⟨fun x => { x with
    mode := if ((closePacket s c).ctx c).ended && ((leaving s c).ctx c).firstInp.isNone then .waiting else m,
    cur := if ((closePacket s c).ctx c).ended then homeOr (leftLane s c) c else ((leftLane s c).ctx c).cur,
    swapping := false, ended := false, packet := none, regs := CRegs.init, readySince := (leftLane s c).cpu.stamp }, fun x => ?_, rfl⟩
  refine ⟨?_, fun _ => rfl⟩
  dsimp only
  split
  · exact .inr rfl
  · exact .inl rfl

theorem swapOut_regs (m : CtxMode) : (swapOut s c m).regs = s.regs := by
  obtain ⟨f, -, h⟩ := swapOut_eq s c m
  rw [h, State.modCtx_regs, leftLane_regs]

end

/-! ## The other contexts -/

section
variable {s : State} {c d p : Nat}

theorem tick_ctx_other (h : d ≠ c) : (tick s c).ctx d = s.ctx d := by
  obtain ⟨x, -, hx⟩ := tick_setCtx s c
  rw [hx.ctx, State.ctx_setCtx_other _ _ _ _ h]

theorem flush_ctx_other (h : d ≠ c) : (flush s c).ctx d = s.ctx d := by rw [flush, tick_ctx_other h, tick_ctx_other h, tick_ctx_other h]

theorem landNext_ctx_other (h : d ≠ c) : (landNext s c).ctx d = s.ctx d :=
  ((foldl_enterStore_onlyData _ c _).ctx d).trans (State.ctx_setCtx_other _ _ _ _ h)

theorem writeFrame_ctx_other {exc : Word × Word × Word} (h : d ≠ c) : (writeFrame s c exc).ctx d = s.ctx d := by
  obtain ⟨b, fs, hw⟩ := writeFrame_ctx s c exc
  rw [hw]
  exact State.ctx_setCtx_other _ _ _ _ h

theorem commitFrame_ctx_other (h : d ≠ c) : (commitFrame s c).ctx d = s.ctx d := by rw [commitFrame, writeFrame_ctx_other h, landNext_ctx_other h]

theorem retire_ctx_other (h : d ≠ c) : (retire s c).ctx d = s.ctx d := by
  unfold retire
  dsimp only
  split
  · rw [State.ctx_setFrame]
  · rw [State.ctx_setCtx_other _ _ _ _ h, State.ctx_setFrame]

theorem closePacket_ctx_other (h : d ≠ c) : (closePacket s c).ctx d = s.ctx d := by
  unfold closePacket
  dsimp only
  split
  · rfl
  · split
    · rw [State.ctx_setCtx_other _ _ _ _ h]
    · split <;> rw [State.ctx_setCtx_other _ _ _ _ h]

theorem leftLane_ctx_other (h : d ≠ c) : (leftLane s c).ctx d = s.ctx d := by
  have hleave : (leaving s c).ctx d = s.ctx d := by
    unfold leaving
    split
    · rw [retire_ctx_other h, closePacket_ctx_other h]
    · rw [closePacket_ctx_other h]
  unfold leftLane
  split
  · exact hleave
  · rw [commitFrame_ctx_other h, hleave]

theorem toResident_ctx_self (s : State) (c p lane : Nat) : ((toResident s c p lane).ctx c).mode = .resident ∧ ((toResident s c p lane).ctx c).cur = p := by
  unfold toResident
  dsimp only
  rw [State.ctx_modCtx_same]
  exact ⟨rfl, rfl⟩

theorem pairUp_of_freeLane {l : Nat} (h : freeLane s p = some l) : pairUp s p = true := by
  unfold freeLane at h
  split at h
  · assumption
  · cases h

/-- What a freed lane does of a context: nothing, or the context was Ready and is Resident on that pair, which is in traffic. -/
theorem laneFree_ctx_cases (hs : SMap.sorted s.cpu.ctxs = true) (d : Nat) : (laneFree s p).ctx d = s.ctx d ∨
    ((s.ctx d).mode = .ready ∧ ((laneFree s p).ctx d).mode = .resident) := by
  by_cases h : (s.ctx d).mode = .ready
  · unfold laneFree
    split
    · next c _ hn =>
      by_cases hd : d = c
      · subst hd
        exact .inr ⟨h, (toResident_ctx_self ..).1⟩
      · exact .inl (toResident_ctx_other s hd)
    · exact .inl rfl
  · exact .inl (laneFree_ctx s hs h)

end

/-! ## Sorted stores -/

section
variable {s : State} {c p : Nat}

theorem OnlyTln.ctxs {t : State} (h : OnlyTln s t) : t.cpu.ctxs = s.cpu.ctxs := by rw [h.cpu]

theorem setFrames_ctxs (w : Nat) (l : List Word) : (setFrames s c w l).cpu.ctxs = s.cpu.ctxs := (setFrames_onlyFrames s c w l).ctxs

theorem State.modCtx_sorted {f : Ctx → Ctx} (hs : SMap.sorted s.cpu.ctxs = true) : SMap.sorted (s.modCtx c f).cpu.ctxs = true := State.setCtx_sorted hs

@[simp] theorem State.setFrame_ctxs (w : Nat) (v : Word) : (s.setFrame c w v).cpu.ctxs = s.cpu.ctxs := rfl
@[simp] theorem State.stamped_ctxs : s.stamped.cpu.ctxs = s.cpu.ctxs := rfl

theorem setFrames_frame_other {d k w : Nat} {l : List Word} (h : d ≠ c) (hk : k < 64) (hl : w + l.length ≤ 64) :
    (setFrames s c w l).frame d k = s.frame d k := by
  induction l generalizing s w with
  | nil => rfl
  | cons v l ih =>
    rw [List.length_cons] at hl
    rw [setFrames, ih (by omega), frame_setFrame hk (by omega), if_neg fun e => h e.1]

theorem retire_sorted (hs : SMap.sorted s.cpu.ctxs = true) : SMap.sorted (retire s c).cpu.ctxs = true := by
  unfold retire
  dsimp only
  split
  · exact hs
  · exact State.setCtx_sorted hs

theorem closePacket_sorted (hs : SMap.sorted s.cpu.ctxs = true) : SMap.sorted (closePacket s c).cpu.ctxs = true := by
  unfold closePacket
  dsimp only
  split
  · exact hs
  · split
    · exact State.setCtx_sorted hs
    · split <;> exact State.setCtx_sorted hs

theorem toResident_sorted (lane : Nat) (hs : SMap.sorted s.cpu.ctxs = true) : SMap.sorted (toResident s c p lane).cpu.ctxs = true :=
  State.modCtx_sorted (State.modCtx_sorted hs)

theorem laneFree_sorted (hs : SMap.sorted s.cpu.ctxs = true) : SMap.sorted (laneFree s p).cpu.ctxs = true := by
  unfold laneFree
  split
  · exact toResident_sorted _ hs
  · exact hs

theorem flush_sorted (hs : SMap.sorted s.cpu.ctxs = true) : SMap.sorted (flush s c).cpu.ctxs = true := by
  rw [flush]
  exact tick_sorted (tick_sorted (tick_sorted hs))

theorem restarted_sorted (hs : SMap.sorted s.cpu.ctxs = true) : SMap.sorted (restarted s c).cpu.ctxs = true := by
  refine State.modCtx_sorted ?_
  rw [State.setFrame_ctxs, (createFrame_onlyFrames ..).ctxs, (removeItemsOf_onlyTln s c).ctxs]
  exact hs

theorem SMap.mem_of_find {α : Type} {m : SMap α} {k : Nat} {v : α} (h : m.find k = some v) : (k, v) ∈ m := by
  induction m with
  | nil => cases h
  | cons e m ih =>
    obtain ⟨j, x⟩ := e
    rw [SMap.find] at h
    split at h
    · next e =>
      cases h
      exact e ▸ List.mem_cons_self
    · exact List.mem_cons_of_mem _ (ih h)

/-- A context that is not Empty has an entry of its own. -/
theorem mem_ctxs (h : (s.ctx c).mode ≠ .empty) : (c, s.ctx c) ∈ s.cpu.ctxs := by
  have hfind : ∃ x, SMap.find s.cpu.ctxs c = some x := by
    rw [← Option.isSome_iff_exists, Option.isSome_iff_ne_none]
    intro hnone
    refine h ?_
    rw [State.ctx, SMap.get, hnone]
    rfl
  obtain ⟨x, hx⟩ := hfind
  have hctx : s.ctx c = x := by rw [State.ctx, SMap.get, hx, Option.getD_some]
  rw [hctx]
  exact SMap.mem_of_find hx

end

/-! ## TENANT_SIDING: each context of the tenant stops -/

/-- What the stop of one context keeps of the others: what is not Empty stays so, and what is in Siding stays there. -/
structure StopsOne (c : Nat) (s t : State) : Prop where
  sorted : SMap.sorted t.cpu.ctxs = true
  live : ∀ d, (s.ctx d).mode ≠ .empty → (t.ctx d).mode ≠ .empty
  siding : ∀ d, (s.ctx d).mode = .siding → (t.ctx d).mode = .siding
  self : (s.ctx c).mode ≠ .empty → (t.ctx c).mode = .siding

section
variable {s t : State} {c : Nat}

/-- A context set to Siding, from a state in which the other contexts are as they were, its lane given to another. -/
theorem stopsOne_of_laneFree {u : State} {x : Ctx} {p : Nat} (hs : SMap.sorted u.cpu.ctxs = true) (hu : ∀ d, d ≠ c → u.ctx d = s.ctx d)
    (hx : x.mode = .siding) : StopsOne c s (laneFree (u.setCtx c x).stamped p) := by
  have hsorted : SMap.sorted (u.setCtx c x).stamped.cpu.ctxs = true := State.setCtx_sorted (s := u) hs
  have hself : ((laneFree (u.setCtx c x).stamped p).ctx c).mode = .siding := by
    rw [laneFree_ctx _ hsorted (by rw [State.ctx_stamped, State.ctx_setCtx_same, hx]; decide), State.ctx_stamped, State.ctx_setCtx_same, hx]
  have hother (d : Nat) (h : d ≠ c) : (laneFree (u.setCtx c x).stamped p).ctx d = s.ctx d ∨
      ((s.ctx d).mode = .ready ∧ ((laneFree (u.setCtx c x).stamped p).ctx d).mode = .resident) := by
    have hc := laneFree_ctx_cases (p := p) hsorted d
    rwa [State.ctx_stamped, State.ctx_setCtx_other _ _ _ _ h, hu d h] at hc
  refine ⟨laneFree_sorted hsorted, fun d hd => ?_, fun d hd => ?_, fun _ => hself⟩
  · by_cases h : d = c
    · rw [h, hself]
      decide
    · rcases hother d h with e | ⟨-, e⟩
      · rwa [e]
      · rw [e]
        decide
  · by_cases h : d = c
    · rw [h, hself]
    · rcases hother d h with e | ⟨e, -⟩
      · rwa [e]
      · rw [e] at hd
        cases hd

theorem stopsOne_stopRunning {u : State} {cause : Nat} {addr : Word} (hs : SMap.sorted u.cpu.ctxs = true) (hu : ∀ d, d ≠ c → u.ctx d = s.ctx d) :
    StopsOne c s (stopRunning u c cause addr .siding) := by
  unfold stopRunning
  dsimp only
  generalize hv : (if (u.ctx c).ended = true then retire u c else u) = v
  have hvs : SMap.sorted v.cpu.ctxs = true ∧ ∀ d, d ≠ c → v.ctx d = s.ctx d := by
    subst hv
    split
    · exact ⟨retire_sorted hs, fun d h => (retire_ctx_other h).trans (hu d h)⟩
    · exact ⟨hs, hu⟩
  obtain ⟨hvs, hvd⟩ := hvs
  exact stopsOne_of_laneFree (writeFrame_sorted (flush_sorted hvs)) (fun d h => by rw [writeFrame_ctx_other h, flush_ctx_other h, hvd d h]) rfl

/-- A context whose mode alone is set to Siding. -/
theorem stopsOne_setCtx {u : State} {x : Ctx} (hs : SMap.sorted u.cpu.ctxs = true) (hu : ∀ d, d ≠ c → u.ctx d = s.ctx d) (hx : x.mode = .siding) :
    StopsOne c s (u.setCtx c x) := by
  have hself : ((u.setCtx c x).ctx c).mode = .siding := by rw [State.ctx_setCtx_same, hx]
  refine ⟨State.setCtx_sorted hs, fun d hd => ?_, fun d hd => ?_, fun _ => hself⟩
  · by_cases h : d = c
    · rw [h, hself]
      decide
    · rwa [State.ctx_setCtx_other _ _ _ _ h, hu d h]
  · by_cases h : d = c
    · rw [h, hself]
    · rwa [State.ctx_setCtx_other _ _ _ _ h, hu d h]

theorem stopCtx_stopsOne (hs : SMap.sorted s.cpu.ctxs = true) (cause : Nat) : StopsOne c s (stopCtx s c cause .siding) := by
  have same (h : (s.ctx c).mode = .siding ∨ (s.ctx c).mode = .empty) : StopsOne c s s :=
    ⟨hs, fun _ h => h, fun _ h => h, fun he => h.resolve_right he⟩
  have idle : StopsOne c s (stopIdle s c cause .siding) := by
    refine stopsOne_setCtx ?_ (fun d _ => setFrames_ctx ..) rfl
    rw [setFrames_ctxs]
    exact hs
  cases hm : (s.ctx c).mode with
  | resident =>
    simp only [stopCtx, hm]
    split
    · exact stopsOne_stopRunning (State.setCtx_sorted hs) fun d h => State.ctx_setCtx_other _ _ _ _ h
    · exact stopsOne_stopRunning (closePacket_sorted hs) fun d h => closePacket_ctx_other h
  | waiting => rw [stopCtx_of_idle (.inl hm)]; exact idle
  | ready => rw [stopCtx_of_idle (.inr hm)]; exact idle
  | stopped =>
    simp only [stopCtx, hm]
    exact stopsOne_setCtx hs (fun _ _ => rfl) rfl
  | siding =>
    simp only [stopCtx, hm]
    exact same (.inl hm)
  | empty =>
    simp only [stopCtx, hm]
    exact same (.inr hm)

theorem foldl_stopCtx_siding {l : List Nat} (hs : SMap.sorted s.cpu.ctxs = true) (hc : (s.ctx c).mode ≠ .empty) (h : c ∈ l ∨ (s.ctx c).mode = .siding) :
    ((l.foldl (fun s c => stopCtx s c 6 .siding) s).ctx c).mode = .siding := by
  induction l generalizing s with
  | nil => exact h.resolve_left List.not_mem_nil
  | cons d l ih =>
    have hone := stopCtx_stopsOne (c := d) hs 6
    refine ih hone.sorted (hone.live c hc) ?_
    rcases h with h | h
    · rcases List.mem_cons.1 h with rfl | h
      · exact .inr (hone.self hc)
      · exact .inl h
    · exact .inr (hone.siding c h)

theorem mem_ctxsOfTenant {k : Nat} (hc : (s.ctx c).mode ≠ .empty) (ht : s.tenant c = k) : c ∈ ctxsOfTenant s k := by
  refine List.mem_filter.2 ⟨List.mem_map.2 ⟨(c, s.ctx c), List.mem_filter.2 ⟨mem_ctxs hc, decide_eq_true hc⟩, rfl⟩, ?_⟩
  rw [ht]
  exact beq_self_eq_true k

end

/-! ## TENANT_RESTART: each context of the tenant in Siding restarts -/

/-- What the restart of some context keeps of a context `c` that has restarted: its frame, its events, and that it is not in Siding; without an
event it stays Waiting. -/
structure Restarted (s : State) (c entry : Nat) : Prop where
  mode : (s.ctx c).mode ≠ .siding
  frame : CreationFrame s c entry
  waiting : (s.ctx c).firstInp = none → (s.ctx c).mode = .waiting

section
variable {s : State} {c d p entry : Nat}

theorem toResident_firstInp (s : State) (c p lane d : Nat) : ((toResident s c p lane).ctx d).firstInp = (s.ctx d).firstInp := by
  by_cases h : d = c
  · subst h
    unfold toResident
    dsimp only
    rw [State.ctx_modCtx_same, countCommit, State.ctx_modCtx_same, State.ctx_setFrame]
    exact firstInp_congr rfl rfl rfl rfl
  · rw [toResident_ctx_other s h]

theorem laneFree_firstInp (s : State) (p d : Nat) : ((laneFree s p).ctx d).firstInp = (s.ctx d).firstInp := by
  unfold laneFree
  split
  · exact toResident_firstInp ..
  · rfl

theorem toResident_creation {lane : Nat} (h : CreationFrame s d entry) : CreationFrame (toResident s c p lane) d entry :=
  h.congr fun _ hw => toResident_frame s (by omega)

theorem laneFree_creation (h : CreationFrame s d entry) : CreationFrame (laneFree s p) d entry := by
  unfold laneFree
  split
  · exact toResident_creation h
  · exact h

theorem Restarted.laneFree (hs : SMap.sorted s.cpu.ctxs = true) (hw : (s.ctx c).mode = .ready → (s.ctx c).firstInp ≠ none) (h : Restarted s c entry) :
    Restarted (laneFree s p) c entry := by
  obtain ⟨hm, hf, hi⟩ := h
  rcases laneFree_ctx_cases (p := p) hs c with e | ⟨e, e'⟩
  · exact ⟨by rwa [e], laneFree_creation hf, by rwa [e]⟩
  · exact ⟨by rw [e']; decide, laneFree_creation hf, fun hn => absurd ((laneFree_firstInp s p c).symm.trans hn) (hw e)⟩

theorem Restarted.ready (h : Restarted s c entry) (hr : (s.ctx c).mode = .ready) : (s.ctx c).firstInp ≠ none := fun hn => by
  rw [h.waiting hn] at hr
  cases hr

theorem restarted_frame_other (h : d ≠ c) {w : Nat} (hw : w < 64) : (restarted s c).frame d w = s.frame d w := by
  rw [restarted, State.frame_modCtx, frame_setFrame hw (by decide), if_neg fun e => h e.1, createFrame, setFrames_frame_other h hw (by simp),
    setFrames_frame_other h hw (by simp), setFrames_frame_other h hw (by simp), (removeItemsOf_onlyTln s c).frame]

theorem readied_firstInp (x : Ctx) (p n : Nat) : (x.restarted.readied p n).firstInp = x.firstInp := firstInp_congr rfl rfl rfl rfl

theorem restartCtx_firstInp (s : State) (c d : Nat) : ((restartCtx s c).ctx d).firstInp = (s.ctx d).firstInp := by
  rw [restartCtx_eq]
  by_cases h : d = c
  · subst h
    split
    · obtain ⟨p, n, hx⟩ := restartedReady_ctx_self s d
      rw [laneFree_firstInp, hx, readied_firstInp]
    · rw [restarted_firstInp]
  · split
    · rw [laneFree_firstInp, restartedReady_ctx_other h]
    · rw [restarted_ctx_other h]

theorem restartedReady_sorted (hs : SMap.sorted s.cpu.ctxs = true) : SMap.sorted (restartedReady s c).cpu.ctxs = true := by
  rw [restartedReady]
  refine State.modCtx_sorted ?_
  rw [State.stamped_ctxs]
  exact restarted_sorted hs

theorem restartCtx_regs (s : State) (c : Nat) : (restartCtx s c).regs = s.regs := by
  rw [restartCtx_eq]
  split
  · rw [laneFree_regs, restartedReady, State.modCtx_regs, State.stamped_regs, restarted_regs]
  · rw [restarted_regs]

theorem restartCtx_sorted (hs : SMap.sorted s.cpu.ctxs = true) : SMap.sorted (restartCtx s c).cpu.ctxs = true := by
  rw [restartCtx_eq]
  split
  · exact laneFree_sorted (restartedReady_sorted hs)
  · exact restarted_sorted hs

/-- A restarted context shows its creation state. -/
theorem restartCtx_self (hs : SMap.sorted s.cpu.ctxs = true) : Restarted (restartCtx s c) c (s.get (TSK_CTX_ENTRY_pc c)) := by
  rw [restartCtx_eq]
  split
  · next hi =>
    obtain ⟨p, n, hx⟩ := restartedReady_ctx_self s c
    have hinp : ((restartedReady s c).ctx c).firstInp ≠ none := by
      rw [hx, readied_firstInp]
      exact Option.isSome_iff_ne_none.1 hi
    have hmode : ((restartedReady s c).ctx c).mode = .ready := by
      rw [hx]
      rfl
    refine Restarted.laneFree (restartedReady_sorted hs) (fun _ => hinp) ⟨by rw [hmode]; decide, ?_, fun h => absurd h hinp⟩
    exact (restarted_creation s c).congr fun w _ => restartedReady_frame s c c w
  · have hmode : ((restarted s c).ctx c).mode = .waiting := by
      rw [restarted_ctx_self]
      rfl
    exact ⟨by rw [hmode]; decide, restarted_creation s c, fun _ => hmode⟩

/-- The restart of another context keeps it. -/
theorem restartCtx_other (hs : SMap.sorted s.cpu.ctxs = true) (hd : c ≠ d) (h : Restarted s c entry) : Restarted (restartCtx s d) c entry := by
  have hframe : CreationFrame (restarted s d) c entry := h.frame.congr fun w hw => restarted_frame_other hd (by omega)
  obtain ⟨hm, -, hw⟩ := h
  rw [restartCtx_eq]
  split
  · have hctx := restartedReady_ctx_other (s := s) hd
    have hr : Restarted (restartedReady s d) c entry :=
      ⟨by rwa [hctx], hframe.congr fun w _ => restartedReady_frame s d c w, by rwa [hctx]⟩
    exact hr.laneFree (restartedReady_sorted hs) hr.ready
  · exact ⟨by rwa [restarted_ctx_other hd], hframe, by rwa [restarted_ctx_other hd]⟩

theorem foldl_restartCtx {l : List Nat} (hs : SMap.sorted s.cpu.ctxs = true) (h : c ∈ l ∨ Restarted s c (s.get (TSK_CTX_ENTRY_pc c))) :
    Restarted (l.foldl restartCtx s) c (s.get (TSK_CTX_ENTRY_pc c)) ∧ ((l.foldl restartCtx s).ctx c).firstInp = (s.ctx c).firstInp := by
  induction l generalizing s with
  | nil => exact ⟨h.resolve_left List.not_mem_nil, rfl⟩
  | cons d l ih =>
    have hentry : (restartCtx s d).get (TSK_CTX_ENTRY_pc c) = s.get (TSK_CTX_ENTRY_pc c) :=
      State.get_congr (by rw [State.rd, restartCtx_regs, State.rd])
    rw [← hentry, ← restartCtx_firstInp s d c]
    refine ih (restartCtx_sorted hs) ?_
    rw [hentry]
    by_cases hd : c = d
    · subst hd
      exact .inr (restartCtx_self hs)
    · exact h.imp (fun h => (List.mem_cons.1 h).resolve_left hd) (restartCtx_other hs hd)

end

/-! ## Pairs -/

section
variable {s t : State} {c d p q v : Nat}

theorem pairState_setPairState_same (hp : p < 8) (hv : v < 16) : pairState (setPairState s p v) p = v := by
  rw [pairState, setPairState, State.rd_wr_same, getBits_setBits_same _ _ _ _ (by omega) (by omega), show 4 * p + 3 - 4 * p + 1 = 4 by omega]
  exact Nat.mod_eq_of_lt hv

theorem pairState_congr (h : t.regs = s.regs) : pairState t p = pairState s p := by rw [pairState, State.rd, h, pairState, State.rd]

theorem onlyCode_pairState (s : State) (code p : Nat) : pairState (onlyCode s code) p = pairState s p :=
  congrArg (getBits · (4 * p + 3) (4 * p)) (State.rd_wr_other s TSK_CMD_RESULT TSK_PAIR_STATE _ (by decide))

theorem pairUp_congr (h : t.regs = s.regs) : pairUp t p = pairUp s p := by rw [pairUp, pairState_congr h, pairUp]

/-- No context is Resident on pair `p`, and the pair is in siding. -/
structure PairEmpty (p : Nat) (s : State) : Prop where
  siding : pairState s p = 1
  none : ∀ c, (s.ctx c).mode = .resident → (s.ctx c).cur ≠ p

theorem PairEmpty.down (h : PairEmpty p s) : pairUp s p = false := by
  rw [pairUp, h.siding]
  rfl

/-- A context that takes a lane of a pair in traffic, or leaves its lane, leaves such a pair as it is. -/
theorem PairEmpty.step (h : PairEmpty p s) (hr : t.regs = s.regs) (ho : ∀ d, d ≠ c → t.ctx d = s.ctx d)
    (hc : (t.ctx c).mode = .resident → (t.ctx c).cur ≠ p) : PairEmpty p t := by
  refine ⟨by rw [pairState_congr hr, h.siding], fun d hd => ?_⟩
  by_cases e : d = c
  · subst e
    exact hc hd
  · rw [ho d e] at hd ⊢
    exact h.none d hd

theorem PairEmpty.toResident {lane : Nat} (h : PairEmpty p s) (hq : pairUp s q = true) : PairEmpty p (toResident s c q lane) := by
  refine h.step (toResident_regs ..) (fun d hd => toResident_ctx_other s hd) fun _ => ?_
  rw [(toResident_ctx_self s c q lane).2]
  rintro rfl
  rw [h.down] at hq
  cases hq

theorem PairEmpty.laneFree (h : PairEmpty p s) : PairEmpty p (laneFree s q) := by
  unfold Machine.laneFree
  split
  · next hl _ => exact h.toResident (pairUp_of_freeLane hl)
  · exact h

theorem PairEmpty.fillLanes (h : PairEmpty p s) : PairEmpty p (fillLanes s q) := h.laneFree.laneFree.laneFree.laneFree

theorem PairEmpty.swapOut (h : PairEmpty p s) : PairEmpty p (swapOut s c .ready) := by
  obtain ⟨f, hf, he⟩ := swapOut_eq s c .ready
  refine h.step (c := c) (swapOut_regs ..) (fun d hd => ?_) fun hr => ?_
  · rw [he, State.ctx_modCtx_other _ _ _ _ hd, leftLane_ctx_other hd]
  · rw [he, State.ctx_modCtx_same] at hr
    rcases (hf ((leftLane s c).ctx c)).1 with e | e <;> rw [e] at hr <;> cases hr

theorem PairEmpty.evict (h : PairEmpty p s) (hq : pairUp s q = true) : PairEmpty p (evict s d c q) := by
  unfold Machine.evict
  have hin : ∀ lane, PairEmpty p (Machine.toResident (Machine.swapOut s d .ready) c q lane) := fun _ =>
    h.swapOut.toResident (by rwa [pairUp_congr (swapOut_regs ..)])
  dsimp only
  split
  · exact (hin _).laneFree
  · exact hin _

theorem PairEmpty.evictFor (h : PairEmpty p s) : PairEmpty p (evictFor s c) := by
  unfold Machine.evictFor
  dsimp only
  split
  · next hv =>
    split at hv
    · next hq => exact h.evict hq
    · cases hv
  · exact h

theorem moveOff_regs (s : State) (c : Nat) : (moveOff s c).regs = s.regs := by
  unfold moveOff
  dsimp only
  rw [State.modCtx_regs]
  split
  · exact (removeItems_onlyTln s _).regs
  · exact (removeItems_onlyTln s _).regs

theorem moveOff_ctx_other (h : d ≠ c) : (moveOff s c).ctx d = s.ctx d := by
  unfold moveOff
  dsimp only
  rw [State.ctx_modCtx_other _ _ _ _ h]
  split
  · exact (removeItems_onlyTln s _).ctx d
  · exact (removeItems_onlyTln s _).ctx d

theorem moveOff_mode (s : State) (c : Nat) : ((moveOff s c).ctx c).mode ≠ .resident := by
  have hmode (u : State) (hu : u.ctx c = s.ctx c) (f : Ctx → Ctx)
      (hf : ∀ y, (f y).mode = if (s.ctx c).mode = .resident then .ready else y.mode) : ((u.modCtx c f).ctx c).mode ≠ .resident := by
    rw [State.ctx_modCtx_same, hf, hu]
    split
    · decide
    · assumption
  unfold moveOff
  refine hmode _ ?_ _ fun y => rfl
  split
  · exact (removeItems_onlyTln s _).ctx c
  · exact (removeItems_onlyTln s _).ctx c

/-- The contexts of a pair all moved off: none is Resident there any more. -/
theorem foldl_moveOff {l : List Nat} (hd : pairState s p = 1) (h : ∀ c, (s.ctx c).mode = .resident → (s.ctx c).cur = p → c ∈ l) :
    PairEmpty p (l.foldl (fun s c => moveOff s c) s) := by
  induction l generalizing s with
  | nil => exact ⟨hd, fun c hc e => List.not_mem_nil (h c hc e)⟩
  | cons d l ih =>
    refine ih (by rwa [pairState_congr (moveOff_regs ..)]) fun c hc hp => ?_
    by_cases e : c = d
    · subst e
      exact absurd hc (moveOff_mode s c)
    · rw [moveOff_ctx_other e] at hc hp
      exact (List.mem_cons.1 (h c hc hp)).resolve_left e

theorem pairSiding_empty (hp : p < 8) : PairEmpty p (pairSiding s p) := by
  have hset : pairState (setPairState s.stamped p 1) p = 1 := pairState_setPairState_same hp (by decide)
  have hmem (c : Nat) (hc : (s.ctx c).mode = .resident) (e : (s.ctx c).cur = p) : c ∈ ctxsOn s p := by
    have hne : (s.ctx c).mode ≠ .empty := by rw [hc]; decide
    exact List.mem_map.2 ⟨(c, s.ctx c), List.mem_filter.2 ⟨mem_ctxs hne, decide_eq_true ⟨hne, e⟩⟩, rfl⟩
  unfold pairSiding
  refine List.foldlRecOn _ _ (motive := PairEmpty p) ?_ fun _ h _ _ => h.evictFor
  refine List.foldlRecOn _ _ (motive := PairEmpty p) ?_ fun _ h _ _ => h.fillLanes
  exact foldl_moveOff hset hmem

end

theorem stays_pair (p : Fin 8) : stays (16 + p) = false := by revert p; decide

/-- Settles O16: tenants by folds over their contexts, pairs by what their contexts' moves keep (`PairEmpty`). -/
theorem tenantAndPairCommands : Obligations.TenantAndPairCommands := by
  unfold Obligations.TenantAndPairCommands
  refine ⟨fun s hs hr hb => ?commands, fun s p hs => ⟨fun hu hl => ?mismatch, fun hu hl => ?last, fun hu => ?down,
    fun pass => ⟨fun h1 => ?result, fun h1 => ?none⟩⟩⟩
  case commands =>
    have accepted {i : Instr} {op : Nat} {n : Fin 512} {u : State} {P : State → Prop} (hi : exec i s = .next (tskCommand s 0 op n))
        (he : tskEffect s op n = (u, 0)) (hP : P (onlyCode u 0)) : Completes i s fun t => Accepted t 0 ∧ P t := completes_of_tsk hr hb hi he hP
    have refused {i : Instr} {op code : Nat} {n : Fin 512} (hi : exec i s = .next (tskCommand s 0 op n)) (he : tskEffect s op n = (s, code)) :
        exec i s = .next (onlyCode s code) := hi.trans (congrArg _ ((tskCommand_free hr hb op n).trans (by rw [he])))
    refine ⟨fun k hk hlt => ?siding, fun k c hk hm ht => ?restart, fun p hp hu hl => ?pairSiding, fun p hp => ⟨fun h2 => ?rejoin, fun h0 => ?test⟩,
      fun k => ⟨fun h => ?notSiding, fun h => ?notRestart, fun hk h => ?noneSiding, fun h => ⟨?_, ?_, ?_⟩,
        fun hk => ⟨fun h => ?isDown, fun h hl => ?isLast, fun h => ?notPassed, fun h => ?isUp⟩⟩⟩
    case siding =>
      refine accepted (op := 8) (u := tenantSiding s k) rfl (if_neg ?_) fun c hc ht => ?_
      · have hk0 : k.val ≠ 0 := fun h => hk (Fin.ext h)
        omega
      · rw [onlyCode_ctx]
        exact foldl_stopCtx_siding hs hc (.inl (mem_ctxsOfTenant hc ht))
    case restart =>
      have hlive : (s.ctx c).mode ≠ .empty := by rw [hm]; decide
      have hmem : c.val ∈ sidingOf s k := List.mem_filter.2 ⟨mem_ctxsOfTenant hlive ht, decide_eq_true hm⟩
      obtain ⟨h, hinp⟩ := foldl_restartCtx (l := sidingOf s k) hs (.inl hmem)
      have hsome : ¬ (sidingOf s k).isEmpty = true := fun he => List.not_mem_nil (List.isEmpty_iff.1 he ▸ hmem)
      refine accepted (op := 9) (u := tenantRestart s k) rfl ((if_neg (by omega)).trans (if_neg hsome)) ?_
      simp only [onlyCode_ctx]
      exact ⟨h.mode, h.frame.congr fun _ _ => onlyCode_frame .., fun hn => h.waiting (hinp.trans hn)⟩
    case pairSiding =>
      have h := pairSiding_empty (s := s) hp
      refine accepted (op := 0xC) (u := pairSiding s p) rfl ?_ ⟨(onlyCode_pairState ..).trans h.siding, fun c => h.none c⟩
      exact (if_neg (by omega)).trans ((if_neg (by simp [hu])).trans (if_neg (by omega)))
    case rejoin =>
      refine accepted (op := 0xD) rfl ((if_neg (by omega)).trans (if_pos h2)) ((onlyCode_pairState ..).trans ?_)
      rw [pairState_congr (fillLanes_regs ..)]
      refine (pairState_congr (t := State.stamped _) rfl).trans ?_
      exact List.foldlRecOn _ _ (motive := fun t => pairState t p = 0) (pairState_setPairState_same hp (by decide)) fun t h c _ =>
        (pairState_congr (State.modCtx_regs ..)).trans h
    case test =>
      have hu : ¬ pairUp s p = true := by simpa [pairUp] using h0
      exact accepted (op := 0xE) (u := setPairState s p 1) rfl ((if_neg (by omega)).trans (if_neg hu))
        ((onlyCode_pairState ..).trans (pairState_setPairState_same hp (by decide)))
    case notSiding => exact refused (op := 8) rfl (if_pos (h.imp (congrArg Fin.val) id))
    case notRestart => exact refused (op := 9) rfl (if_pos h)
    case noneSiding =>
      have hempty : (sidingOf s k).isEmpty = true := by
        rw [List.isEmpty_iff, List.eq_nil_iff_forall_not_mem]
        intro c hc
        obtain ⟨-, hm⟩ := List.mem_filter.1 hc
        have hm : (s.ctx c).mode = .siding := of_decide_eq_true hm
        exact h _ (mem_ctxs (by rw [hm]; decide)) hm
      exact refused (op := 9) rfl ((if_neg (by omega)).trans (if_pos hempty))
    · exact refused (op := 0xC) rfl (if_pos h)
    · exact refused (op := 0xD) rfl (if_pos h)
    · exact refused (op := 0xE) rfl (if_pos h)
    case isDown => exact refused (op := 0xC) rfl ((if_neg (by omega)).trans (if_pos (by simp [h])))
    case isLast => exact refused (op := 0xC) rfl ((if_neg (by omega)).trans ((if_neg (by simp [h])).trans (if_pos hl)))
    case notPassed => exact refused (op := 0xD) rfl ((if_neg (by omega)).trans (if_neg h))
    case isUp => exact refused (op := 0xE) rfl ((if_neg (by omega)).trans (if_pos h))
  case mismatch =>
    have h := pairSiding_empty (s := s) p.isLt
    refine ⟨(pairSiding s p).raise (16 + p) (BitVec.ofNat 32 p), ?_, ?_, fun c => h.none c, (pairSiding s p).raiseQ, ?_⟩
    · exact (if_pos hu).trans (by rw [if_pos hl])
    · exact (pairState_congr (State.raise_regs ..)).trans h.siding
    · rw [State.raise_raiseQ, stays_pair]
  case last =>
    refine (if_pos hu).trans ?_
    rw [if_neg (by omega), State.raise, stays_pair]
  case down => exact if_neg (by rw [hu]; decide)
  case result =>
    refine ⟨setPairState s p (if pass then 2 else 3), if_pos h1, pairState_setPairState_same p.isLt (by split <;> decide), rfl, ?_⟩
    exact RegsBut.refl.wr List.mem_cons_self
  case none => exact if_neg h1

end Sys2Proof.Machine
end

section
/-! Events and activations (R139, R152, R157 to R162). -/
namespace Sys2Proof.Machine
open Sys2Proof Reg

/-! ## Inputs -/

section
variable {x : Ctx} {i j : Nat} {v : Inp}

theorem Ctx.inp_setInp_same : (x.setInp i v).inp i = v := by
  match i with
  | 0 | 1 | 2 | _ + 3 => rfl

theorem Ctx.inp_setInp_other (hi : i < 4) (hj : j < 4) (h : j ≠ i) : (x.setInp i v).inp j = x.inp j := by
  interval_cases i <;> interval_cases j <;> first | rfl | exact absurd rfl h

theorem Ctx.setInp_regs : (x.setInp i v).regs = x.regs := by
  match i with
  | 0 | 1 | 2 | _ + 3 => rfl

theorem Ctx.setInp_serving : (x.setInp i v).serving = x.serving := by
  match i with
  | 0 | 1 | 2 | _ + 3 => rfl

theorem Ctx.firstInp_eq_none : x.firstInp = none ↔ ∀ i < 4, (x.inp i).q = [] := by
  unfold Ctx.firstInp
  rw [List.find?_eq_none]
  simp

end

/-! ## Events -/

section
variable {s : State} {src pay n i : Nat}

/-- An event on its way to the inputs by its route. -/
theorem routeEvent_of_route (h : src < 512) : routeEvent s ⟨src, pay, none⟩ =
    if s.bit (TSK_ROUTE_valid src) then deliver s (s.get (TSK_ROUTE_ctx src)) (s.get (TSK_ROUTE_input src)) ⟨src, pay⟩
    else s.count TSK_UNROUTED_count := by
  have h765 : src ≠ 765 := by omega
  exact if_neg h765

theorem exec_eventArrival {src : Fin 1024} {pay : Fin 16384} {n : CtxId} {i : Fin 4} (h : src.val < 512) : exec (.eventArrival src pay n i) s =
    .next (if clkRuns s then eventArrives s ⟨src.val, pay.val, none⟩ else if dieRuns s then { s with evq := s.evq ++ [⟨src.val, pay.val, none⟩] } else s) := by
  have hself : selfNaming src.val = false := by
    simp only [selfNaming, Bool.or_eq_false_iff, Bool.and_eq_false_iff, decide_eq_false_iff_not, beq_eq_false_iff_ne]
    omega
  have hm : (⟨src.val, pay.val, if selfNaming src then some (n.val, i.val) else none⟩ : EvMsg) = ⟨src.val, pay.val, none⟩ := by rw [hself]; rfl
  rw [← hm]
  rfl

/-- An event that does not end Doze is delivered, and that is all. -/
theorem eventArrives_of_not_doze {m : EvMsg} (h : s.pwr.phase ≠ .doze) : eventArrives s m = arriveEvent s m := by
  have hends (c : Nat) : endsDoze s c = false := by
    have hp : (s.pwr.phase == PwrPhase.doze) = false := beq_eq_false_iff_ne.2 h
    rw [endsDoze, hp]
    rfl
  unfold eventArrives
  cases eventTarget s m with
  | none => rfl
  | some c => exact if_neg (ne_true_of_eq_false (hends c))

/-- An event for a context that is neither Empty nor Waiting joins its queue input, or is dropped and counted where the queue is full. -/
theorem deliver_eq {e : Ev} (h1 : (s.ctx n).mode ≠ .empty) (h2 : (s.ctx n).mode ≠ .waiting) (h3 : latest s n i = false) :
    deliver s n i e = if ((s.ctx n).inp i).q.length < 8 then
        s.setCtx n ((s.ctx n).setInp i { (s.ctx n).inp i with q := ((s.ctx n).inp i).q ++ [e] })
      else s.wr (TSK_CTX_INOVF n) (setBits (s.rd (TSK_CTX_INOVF n)) (8 * i + 7) (8 * i) (satInc 8 (getBits (s.rd (TSK_CTX_INOVF n)) (8 * i + 7) (8 * i)))) := by
  unfold deliver
  dsimp only
  rw [if_neg h1, if_neg (by rw [h3]; decide), if_neg h2]

end

section
variable {s : State} {c i : Nat}

/-! ## Swaps -/

theorem State.get_putMax {f : Fd} {n : Nat} (h : f.ok = true) (hn : n < f.size) : (s.putMax f n).get f = max (s.get f) n := by
  unfold State.putMax
  split
  · rw [s.get_put_of_lt h hn]
    omega
  · omega

theorem RegsBut.putMax {rs : List Rg} {t : State} {f : Fd} {n : Nat} (h : RegsBut rs s t) (hr : f.r.addr ∈ rs.map Rg.addr) : RegsBut rs s (t.putMax f n) := by
  unfold State.putMax
  split
  · exact h.put hr
  · exact h

theorem putMax_only (f : Fd) (n : Nat) : s.putMax f n = { s with regs := (s.putMax f n).regs } := by
  unfold State.putMax
  split <;> rfl

/-- A context whose swap has ended, before its activation: it has the registers of its frame. -/
noncomputable def swapped (s : State) (c cycles : Nat) : State :=
  (s.setCtx c { s.ctx c with swapping := false, regs := readFrame s c }).putMax TSK_DISP_MAX_cycles (min cycles 255)

theorem swapComplete_eq {c : CtxId} (hr : ctlReached s = true) (hm : (s.ctx c).mode = .resident) (hw : (s.ctx c).swapping = true) (cycles : Nat) :
    exec (.swapComplete c cycles) s = .next (if inact (swapped s c cycles) c then swapped s c cycles else startActivation (swapped s c cycles) c) := by
  have hgo : (ctlReached s && decide ((s.ctx c).mode = .resident) && (s.ctx c).swapping) = true := by rw [hr, hw, hm]; rfl
  exact if_pos hgo

theorem swapped_ctx (s : State) (c cycles : Nat) : (swapped s c cycles).ctx c = { s.ctx c with swapping := false, regs := readFrame s c } := by
  rw [swapped, putMax_only]
  exact State.ctx_setCtx_same ..

theorem swapped_frame (s : State) (c cycles d w : Nat) : (swapped s c cycles).frame d w = s.frame d w := by
  rw [swapped, putMax_only]
  rfl

theorem swapped_latest (s : State) (c cycles d i : Nat) : latest (swapped s c cycles) d i = latest s d i := by
  have h : (swapped s c cycles).rd (TSK_CTX_INMODE d) = s.rd (TSK_CTX_INMODE d) := by
    refine (RegsBut.putMax (rs := [TSK_DISP_MAX]) .refl List.mem_cons_self).rd ?_
    simp only [TSK_DISP_MAX, TSK_CTX_INMODE, List.map, List.mem_singleton]
    omega
  rw [latest, h, latest]

theorem inact_swapped (s : State) (c cycles : Nat) : inact (swapped s c cycles) c = inact s c := by rw [inact, swapped_frame, inact]

/-! ## Activations -/

/-- What an activation that starts leaves (R158). -/
structure Activated (t : State) (c i : Nat) (w : Word) (q : List Ev) : Prop where
  word : (t.ctx c).regs.rq 3 = w
  ready : (t.ctx c).regs.qrdy.getLsbD 3 = true
  frame : t.frame c 0x38 = w
  unfinished : inact t c = true
  serving : (t.ctx c).serving = some i
  queue : ((t.ctx c).inp i).q = q

/-- A context whose activation serves input `i` with the event word `w`. -/
noncomputable def Ctx.activated (x : Ctx) (i : Nat) (w : Word) : Ctx :=
  ({ x with regs := { x.regs with q := SMap.set 0 x.regs.q 3 w, qrdy := x.regs.qrdy ||| 8, lands := x.regs.lands.filter fun l => l.tgt ≠ Target.rdyClear 3 },
            serving := some i, again := none }).setInp i
    { x.inp i with count := if (x.inp i).q.length < 2 then 0 else (x.inp i).count, delivered := true }

theorem startActivation_eq (h : (s.ctx c).nextInp = some i) : ∃ n, startActivation s c =
    (((s.setCtx c ((s.ctx c).activated i (wordAt s c i))).setFrame c 0x38 (wordAt s c i)).setFrame c 0x39 n).setFrame c 0x3A
      (BitVec.ofNat 32 (2 ^ 31 + i)) := by
  simp only [startActivation, h]
  exact ⟨_, rfl⟩

theorem inact_of_frame (hi : i < 4) (h : s.frame c 0x3A = BitVec.ofNat 32 (2 ^ 31 + i)) : inact s c = true := by
  rw [inact, h]
  interval_cases i <;> decide

theorem startActivation_activated (hi : i < 4) (h : (s.ctx c).nextInp = some i) :
    Activated (startActivation s c) c i (wordAt s c i) ((s.ctx c).inp i).q := by
  obtain ⟨n, he⟩ := startActivation_eq h
  have hctx : (startActivation s c).ctx c = (s.ctx c).activated i (wordAt s c i) := by
    rw [he, State.ctx_setFrame, State.ctx_setFrame, State.ctx_setFrame, State.ctx_setCtx_same]
  have hframe (w : Nat) (hw : w < 64) : (startActivation s c).frame c w = if w = 0x3A then BitVec.ofNat 32 (2 ^ 31 + i)
      else if w = 0x39 then n else if w = 0x38 then wordAt s c i else s.frame c w := by
    rw [he, frame_setFrame hw (by decide), frame_setFrame hw (by decide), frame_setFrame hw (by decide), State.frame_setCtx]
    simp only [true_and]
  refine ⟨?_, ?_, by simpa using hframe 0x38 (by decide), inact_of_frame hi (by simpa using hframe 0x3A (by decide)), ?_, ?_⟩
  · rw [hctx, Ctx.activated, Ctx.setInp_regs]
    exact SMap.get_set_same ..
  · rw [hctx, Ctx.activated, Ctx.setInp_regs]
    simp
  · rw [hctx, Ctx.activated, Ctx.setInp_serving]
  · rw [hctx, Ctx.activated, Ctx.inp_setInp_same]

/-- The input of an event that R167 delivers again, or else the lowest-numbered that holds one (R158). -/
theorem nextInp_eq {x : Ctx} {e : Ev} {es : List Ev} (hq : (x.inp i).q = e :: es) (h : x.again = some i ∨ (x.again = none ∧ x.firstInp = some i)) :
    x.nextInp = some i := by
  rcases h with h | ⟨h, h'⟩
  · simp [Ctx.nextInp, h, hq]
  · simp [Ctx.nextInp, h, h']

theorem wordAt_eq {e : Ev} {es : List Ev} (hi : i < 4) (hl : latest s c i = false) (hq : ((s.ctx c).inp i).q = e :: es) : wordAt s c i =
    if (s.ctx c).again = some i then s.frame c 0x38 else BitVec.ofNat 32 (i * 2 ^ 30 + e.src % 1024 * 2 ^ 14 + e.pay % 16384) := by
  unfold wordAt
  dsimp only
  rw [hl, hq]
  by_cases ha : (s.ctx c).again = some i
  · rw [if_pos ⟨ha, .inr rfl⟩, if_pos ha]
  · rw [if_neg fun h => ha h.1, if_neg ha, evWord, Nat.mod_eq_of_lt hi]
    simp

/-! ## The end of an activation -/

theorem OnlyData.frame {s t : State} (h : OnlyData s t) (d w : Nat) : t.frame d w = s.frame d w := by
  unfold OnlyData at h
  rw [h]
  rfl

theorem landNext_frame (s : State) (c d w : Nat) : (landNext s c).frame d w = s.frame d w := (foldl_enterStore_onlyData _ c _).frame d w

theorem landNext_pc (s : State) (c : Nat) : ((landNext s c).ctx c).regs.pc = (s.ctx c).regs.pc := by
  have h := (foldl_enterStore_onlyData (s.setCtx c { s.ctx c with regs :=
    { landAll (s.ctx c).regs ((s.ctx c).regs.lands.filter fun l => l.rem ≤ 1) with
      lands := (s.ctx c).regs.lands.filter fun l => 1 < l.rem, stores := (s.ctx c).regs.stores.filter fun p => 1 < p.rem } }) c
    ((s.ctx c).regs.stores.filter fun p => p.rem ≤ 1)).ctx c
  rw [State.ctx_setCtx_same] at h
  exact (congrArg (fun x : Ctx => x.regs.pc) h).trans (landAll_pc ..)

theorem entryWords_length (l : Landing) : (entryWords l).length = 4 := by
  unfold entryWords
  dsimp only
  split <;> rfl

theorem getD_entryWords_length (l : List Landing) (i : Nat) : ((l.map entryWords).getD i [0, 0, 0, 0]).length = 4 := by
  rw [List.getD_eq_getElem?_getD, List.getElem?_map]
  cases l[i]? with
  | none => rfl
  | some e => exact entryWords_length e

/-- A written frame holds the program counter, and keeps the dispatcher's own words. -/
theorem writeFrame_pc (s : State) (c : Nat) (exc : Word × Word × Word) : (writeFrame s c exc).frame c 0x1B = BitVec.ofNat 32 (s.ctx c).regs.pc ∧
    (writeFrame s c exc).frame c 0x3A = s.frame c 0x3A := by
  have hcount (t : State) {k : Nat} (hk : k ≠ 0x3B) : (countCommit t c).frame c k = t.frame c k :=
    SMap.get_set_other _ _ _ _ _ _ (by omega)
  unfold writeFrame
  refine ⟨?_, ?_⟩
  · rw [hcount _ (by decide), frame_setFrames, if_neg fun h => absurd h.1 (by decide), frame_setFrames, if_pos ⟨by decide, by simp⟩]
    rfl
  · rw [hcount _ (by decide), frame_setFrames, if_neg, frame_setFrames, if_neg (by simp), frame_setFrames, if_neg (by simp), frame_setFrames,
      if_neg (by simp), frame_setFrames, if_neg (by simp)]
    simp only [List.length_append, getD_entryWords_length]
    cases (s.ctx c).regs.stores <;> simp

theorem commitFrame_pc (s : State) (c : Nat) : (commitFrame s c).frame c 0x1B = BitVec.ofNat 32 (s.ctx c).regs.pc ∧
    (commitFrame s c).frame c 0x3A = s.frame c 0x3A := by
  obtain ⟨hpc, hact⟩ := writeFrame_pc (landNext s c) c (0, s.frame c 0x1E, 0)
  rw [landNext_pc] at hpc
  rw [landNext_frame] at hact
  exact ⟨hpc, hact⟩

theorem commitFrame_inp (s : State) (c i : Nat) : ((commitFrame s c).ctx c).inp i = (s.ctx c).inp i := by
  obtain ⟨b, fs, hw⟩ := writeFrame_ctx (landNext s c) c (0, s.frame c 0x1E, 0)
  have hself : (commitFrame s c).ctx c = { (landNext s c).ctx c with committedAct := b } := by
    rw [commitFrame, hw]
    exact State.ctx_setCtx_same ..
  have hland : ((landNext s c).ctx c).inp i = (s.ctx c).inp i := by
    rw [landNext, (foldl_enterStore_onlyData _ c _).ctx, State.ctx_setCtx_same]
    rfl
  rw [hself, ← hland]
  rfl

theorem commitFrame_sorted (hs : SMap.sorted s.cpu.ctxs = true) : SMap.sorted (commitFrame s c).cpu.ctxs = true := by
  refine writeFrame_sorted ?_
  rw [landNext, (foldl_enterStore_onlyData _ c _).ctxs]
  exact State.setCtx_sorted hs

/-- A context whose event in service has been retired from a queue input (R158). -/
noncomputable def Ctx.retired (x : Ctx) (i : Nat) : Ctx := ({ x with serving := none }).setInp i { x.inp i with q := (x.inp i).q.tail, delivered := false }

theorem retire_eq (h : (s.ctx c).serving = some i) (hl : latest s c i = false) :
    retire s c = (s.setFrame c 0x3A (setBits (s.frame c 0x3A) 31 31 0)).setCtx c ((s.ctx c).retired i) := by
  have hl' : latest (s.setFrame c 0x3A (setBits (s.frame c 0x3A) 31 31 0)) c i = false := hl
  simp only [retire, h, hl']
  rfl

theorem closePacket_none (h : (s.ctx c).packet = none) : closePacket s c = s := by simp only [closePacket, h]

/-- A swap-out of a context that has closed its packet and whose activation has not ended commits its frame. -/
theorem leftLane_eq (hp : (s.ctx c).packet = none) (he : (s.ctx c).ended = false) (hw : (s.ctx c).swapping = false) : leftLane s c = commitFrame s c := by
  have hleave : leaving s c = s := by
    rw [leaving, closePacket_none hp, if_neg (by rw [he]; decide)]
  rw [leftLane, hleave, if_neg (by rw [hw]; decide)]

/-- A context swapped out to Waiting, its lane given to another, stays as it is. -/
theorem laneFree_swapOut (hs : SMap.sorted s.cpu.ctxs = true) (hp : (s.ctx c).packet = none) (he : (s.ctx c).ended = false)
    (hw : (s.ctx c).swapping = false) (p : Nat) : ((laneFree (swapOut s c .waiting) p).ctx c).mode = .waiting ∧
      (∀ i, ((laneFree (swapOut s c .waiting) p).ctx c).inp i = (s.ctx c).inp i) ∧
      (laneFree (swapOut s c .waiting) p).frame c 0x1B = BitVec.ofNat 32 (s.ctx c).regs.pc ∧
      (laneFree (swapOut s c .waiting) p).frame c 0x3A = s.frame c 0x3A := by
  obtain ⟨f, hf, hout⟩ := swapOut_eq s c .waiting
  obtain ⟨hmode, hinp⟩ := hf ((commitFrame s c).ctx c)
  obtain ⟨hpc, hact⟩ := commitFrame_pc s c
  rw [leftLane_eq hp he hw] at hout
  have hself : ((commitFrame s c).modCtx c f).ctx c = f ((commitFrame s c).ctx c) := State.ctx_modCtx_same ..
  have hwait : (f ((commitFrame s c).ctx c)).mode = .waiting := hmode.elim id id
  rw [hout, laneFree_ctx _ (State.modCtx_sorted (commitFrame_sorted hs)) (by rw [hself, hwait]; decide), hself, laneFree_frame _ (by decide),
    laneFree_frame _ (by decide), State.frame_modCtx, State.frame_modCtx]
  exact ⟨hwait, fun i => (hinp i).trans (commitFrame_inp s c i), hpc, hact⟩

end

theorem dozeLeave_run (s : State) : (dozeLeave s).pwr.phase = .run ∧ (dozeLeave s).get PWR_STATUS_state = 0 := by
  have hseq (u : State) (op : Nat) : (seqTo u op).pwr = u.pwr ∧ RegsBut [CLK_STATUS] u (seqTo u op) := by
    unfold seqTo
    split
    · exact ⟨rfl, .of_regs rfl⟩
    · split
      · exact ⟨rfl, .refl⟩
      · exact ⟨rfl, (RegsBut.refl.putB List.mem_cons_self).trans (.of_regs rfl)⟩
  unfold dozeLeave
  obtain ⟨hp, hr⟩ := hseq (setPhase (s.put PWR_STATUS_state 0) .run) (opWanted (setPhase (s.put PWR_STATUS_state 0) .run))
  refine ⟨by rw [hp]; rfl, ?_⟩
  rw [hr.get (by decide), setPhase, State.get_modPwr, State.get_put_of_lt _ rfl (by decide)]

/-- A context whose last activation has been retired, its WAIT dealt with. -/
noncomputable def Ctx.done (x : Ctx) (i : Nat) : Ctx := { x.retired i with ended := false }

theorem Ctx.done_inp (x : Ctx) (i j : Nat) : (x.done i).inp j = (x.retired i).inp j := rfl

theorem Ctx.done_fields (x : Ctx) (i : Nat) : (x.done i).packet = x.packet ∧ (x.done i).ended = false ∧ (x.done i).swapping = x.swapping ∧
    (x.done i).regs.pc = x.regs.pc := by
  match i with
  | 0 | 1 | 2 | _ + 3 => exact ⟨rfl, rfl, rfl, rfl⟩

/-- The retirement with which the end of an activation begins. -/
theorem retired_last {s : State} {c i : Nat} (hs : SMap.sorted s.cpu.ctxs = true) (h : (s.ctx c).serving = some i) (hl : latest s c i = false) :
    ∃ u : State, u = (retire s.stamped c).modCtx c (fun x => { x with ended := false }) ∧ u.ctx c = (s.ctx c).done i ∧
      u.frame c 0x3A = setBits (s.frame c 0x3A) 31 31 0 ∧ SMap.sorted u.cpu.ctxs = true := by
  have hr := retire_eq (s := s.stamped) (c := c) h hl
  refine ⟨_, rfl, ?_, ?_, State.modCtx_sorted (retire_sorted hs)⟩
  · rw [State.ctx_modCtx_same, hr, State.ctx_setCtx_same]
    rfl
  · rw [State.frame_modCtx, hr, State.frame_setCtx, State.frame_setFrame_same, State.frame_stamped]

theorem bitOf_setBits_clear (w : Word) : bitOf (setBits w 31 31 0) 31 = false := by
  have h := getLsbD_setBits w 31 31 0 31 (by decide) (by decide)
  rw [bitOf, h]
  rfl

/-- The count of dropped events of an input, once one more is counted. -/
theorem dropped_counted {i : Nat} (hi : i < 4) (w : Word) :
    getBits (setBits w (8 * i + 7) (8 * i) (satInc 8 (getBits w (8 * i + 7) (8 * i)))) (8 * i + 7) (8 * i) = min 255 (getBits w (8 * i + 7) (8 * i) + 1) := by
  rw [getBits_setBits_same _ _ _ _ (by omega) (by omega), satInc_eq_min, show 8 * i + 7 - 8 * i + 1 = 8 by omega]
  exact Nat.mod_eq_of_lt (Nat.lt_of_le_of_lt (Nat.min_le_left _ _) (by decide))

/-- Settles O17: arrival by `deliver_eq`, swaps by `startActivation_activated`, the end of an activation by `laneFree_swapOut`. -/
theorem eventsAndActivations : Obligations.EventsAndActivations := by
  unfold Obligations.EventsAndActivations
  refine ⟨fun s src pay n i hsrc hdoze hclk => ?arrival, fun s src pay n i hsrc hdoze hv hctx hne hprio => ?doze,
    fun s src pay n i => ⟨fun hp hsrc => ?park, fun hd => ?dead⟩, fun s c cycles h => ?notSwapping, fun s c cycles hr hm hw => ⟨fun hi => ?resumes,
    fun i e es hi ha hq hl => ?starts⟩, fun s c i e hs hr hm hp hw he hserv hl hq hothers => ?ends⟩
  case arrival =>
    have harr : exec (.eventArrival src pay n i) s = .next (routeEvent { s with evq := s.evq.erase ⟨src.val, pay.val, none⟩ } ⟨src.val, pay.val, none⟩) := by
      rw [exec_eventArrival hsrc, if_pos hclk, eventArrives_of_not_doze hdoze]
      rfl
    generalize hu : { s with evq := s.evq.erase ⟨src.val, pay.val, none⟩ } = u at harr
    have hregs : u.regs = s.regs := by rw [← hu]
    have hbit (f : Fd) : u.bit f = s.bit f := State.bit_congr (by rw [State.rd, hregs, State.rd])
    have hget (f : Fd) : u.get f = s.get f := State.get_congr (by rw [State.rd, hregs, State.rd])
    have hrd (r : Rg) : u.rd r = s.rd r := by rw [State.rd, hregs, State.rd]
    have hctxs (d : Nat) : u.ctx d = s.ctx d := by rw [← hu]; rfl
    rw [routeEvent_of_route hsrc, hbit, hget, hget] at harr
    refine ⟨fun hv => ?unrouted, fun hv hctx hinp hne hnw hl => ?_⟩
    case unrouted =>
      rw [if_neg (by rw [hv]; decide)] at harr
      refine ⟨_, harr, ?_, by rw [← hu]; rfl, ?_⟩
      · rw [State.get_count _ rfl, hget]
        rfl
      · exact (RegsBut.of_regs hregs).trans (RegsBut.refl.count List.mem_cons_self)
    have hlu : latest u n i = false := by rw [latest, hrd]; exact hl
    rw [if_pos hv, hctx, hinp, deliver_eq (by rwa [hctxs]) (by rwa [hctxs]) hlu, hctxs, hrd] at harr
    refine ⟨fun hlt => ⟨_, harr.trans (congrArg _ (if_pos hlt)), ?_, fun d hd => ?_, by rw [← hu]; rfl⟩,
      fun hge => ⟨_, harr.trans (congrArg _ (if_neg (Nat.not_lt.2 hge))), ?_, by rw [← hu]; rfl, ?_⟩⟩
    · rw [State.ctx_setCtx_same, Ctx.inp_setInp_same]
    · rw [State.ctx_setCtx_other _ _ _ _ hd, hctxs]
    · rw [State.rd_wr_same]
      exact dropped_counted i.isLt _
    · exact (RegsBut.of_regs hregs).trans (RegsBut.refl.wr List.mem_cons_self)
  case doze =>
    have hclk : clkRuns s = true := by rw [clkRuns, hdoze]
    have hends : endsDoze s n = true := by
      rw [endsDoze, hdoze, decide_eq_true hprio, bne_iff_ne.2 hne]
      rfl
    have htarget : eventTarget s ⟨src.val, pay.val, none⟩ = some n.val := by
      have h765 : src.val ≠ 765 := by omega
      rw [eventTarget, if_neg h765]
      exact (if_pos hv).trans (congrArg some hctx)
    have harr : exec (.eventArrival src pay n i) s = .next (dozeLeave (arriveEvent s ⟨src.val, pay.val, none⟩)) := by
      rw [exec_eventArrival hsrc, if_pos hclk, eventArrives, htarget]
      exact congrArg _ (if_pos hends)
    exact ⟨_, harr, dozeLeave_run _⟩
  case park =>
    rw [exec_eventArrival hsrc, clkRuns, dieRuns, hp]
    rfl
  case dead =>
    have hclk : clkRuns s = false := by
      unfold dieRuns at hd
      unfold clkRuns
      split at hd <;> simp_all
    have harr : exec (.eventArrival src pay n i) s = .next (if clkRuns s then _ else if dieRuns s then _ else s) := rfl
    rw [harr, hclk, hd]
    rfl
  case notSwapping =>
    have hgo : ¬ (ctlReached s && decide ((s.ctx c).mode = .resident) && (s.ctx c).swapping) = true := by
      rcases h with h | h | h <;> simp [h]
    exact if_neg hgo
  case resumes =>
    rw [Completes, swapComplete_eq hr hm hw, inact_swapped, if_pos hi]
    refine ⟨_, rfl, ?_, ?_, ?_, ?_, ?_⟩
    · rw [swapped_ctx]
    · rw [swapped_ctx]
    · rw [swapped, State.get_putMax rfl (by show min cycles 255 < 256; omega), State.get_setCtx]
    · exact RegsBut.putMax (.of_regs (State.setCtx_regs ..)) List.mem_cons_self
    · rw [swapped, putMax_only]
      rfl
  case starts =>
    have hctx := swapped_ctx s c cycles
    have hq' : (((swapped s c cycles).ctx c).inp i).q = e :: es := by rw [hctx]; exact hq
    have hnext : ((swapped s c cycles).ctx c).nextInp = some i.val := nextInp_eq hq' (by rw [hctx]; exact ha)
    have hword := wordAt_eq i.isLt (swapped_latest s c cycles c i ▸ hl) hq'
    rw [hctx, swapped_frame] at hword
    rw [Completes, swapComplete_eq hr hm hw, inact_swapped, if_neg (by rw [hi]; decide)]
    obtain ⟨h1, h2, h3, h4, h5, h6⟩ := startActivation_activated i.isLt hnext
    exact ⟨_, rfl, h1.trans hword, h2, h3.trans h1.symm, h4, h5, h6.trans hq'⟩
  case ends =>
    have hclose := closePacket_none hp
    have hgo : (ctlReached s && decide ((s.ctx c).mode = .resident) && (s.ctx c).ended) = true := by rw [hr, hm, he]; rfl
    have hend : exec (.activationEnd c) s = .next (endActivation s c) := by
      refine Eq.trans (b := if (ctlReached s && decide (((closePacket s c).ctx c).mode = .resident) && ((closePacket s c).ctx c).ended) = true
        then .next (endActivation (closePacket s c) c) else .next s) rfl ?_
      rw [hclose, if_pos hgo]
    obtain ⟨u, hu, hctx, hact, hsu⟩ := retired_last (c := c) hs hserv hl
    have hinp (j : Nat) (hj : j < 4) : ((u.ctx c).inp j).q = [] := by
      rw [hctx, Ctx.done_inp]
      by_cases h : j = i.val
      · rw [h, Ctx.retired, Ctx.inp_setInp_same, hq]
        rfl
      · rw [Ctx.retired, Ctx.inp_setInp_other i.isLt hj h]
        exact hothers ⟨j, hj⟩ fun e => h (congrArg Fin.val e)
    have hnone : (u.ctx c).firstInp = none := Ctx.firstInp_eq_none.2 hinp
    have hout : endActivation s c = laneFree (swapOut u c .waiting) (u.ctx c).cur := by
      unfold endActivation
      dsimp only
      rw [← hu, if_neg (by rw [hnone]; decide)]
    obtain ⟨hpk, hen, hsw, hpc⟩ := Ctx.done_fields (s.ctx c) i
    rw [← hctx] at hpk hen hsw hpc
    obtain ⟨h1, h2, h3, h4⟩ := laneFree_swapOut hsu (hpk.trans hp) hen (hsw.trans hw) (u.ctx c).cur
    rw [Completes, hend, hout]
    refine ⟨_, rfl, h1, Ctx.firstInp_eq_none.2 fun j hj => by rw [h2, hinp j hj], ?_, by rw [h3, hpc]⟩
    rw [inact, h4, hact, bitOf_setBits_clear]

end Sys2Proof.Machine
end

section
/-! What the actions of channels, ports, switch inputs and CAN slots leave alone: the core, the timeline, the ledger, power, and the registers
below those of the ledger. -/
namespace Sys2Proof.Machine
open Sys2Proof Reg

/-- The end of the registers that no action at a die or a bus controller writes. -/
noncomputable def lowRegs : Nat := 0x40070000

/-- What an action at a die or a bus controller leaves alone. -/
structure Beside where
  pending : List Instr
  cpu : CpuSt
  tln : TlnSt
  ldg : LdgSt
  pwr : PwrSt
  acc : AccSt
  mtr : MtrSt
  upd : UpdSt
  bist : BistSt
  out : OutSt
  low : Nat → Option Word

/-- The part of a state that an action at a die or a bus controller leaves alone. -/
noncomputable def beside (s : State) : Beside :=
  { pending := s.pending, cpu := s.cpu, tln := s.tln, ldg := s.ldg, pwr := s.pwr, acc := s.acc, mtr := s.mtr, upd := s.upd, bist := s.bist,
    out := s.out, low := fun a => if a < lowRegs then SMap.find s.regs a else none }

section
variable {s t : State}

theorem tln_of_beside (h : beside t = beside s) : t.tln = s.tln := congrArg Beside.tln h

theorem rd_of_beside (h : beside t = beside s) {q : Rg} (hq : q.addr < lowRegs) : t.rd q = s.rd q := by
  have hlow := congrFun (congrArg Beside.low h) q.addr
  simp only [beside, if_pos hq] at hlow
  rw [State.rd, SMap.get, hlow]
  rfl

theorem find_wr_other {r : Rg} {v : Word} {a : Nat} (h : a ≠ r.addr) : SMap.find (s.wr r v).regs a = SMap.find s.regs a := by
  unfold State.wr SMap.set
  dsimp only
  split
  · exact SMap.find_erase_other _ _ _ h
  · exact SMap.find_ins_other _ _ _ _ h

@[simp] theorem beside_wr {r : Rg} {v : Word} (h : lowRegs ≤ r.addr) : beside (s.wr r v) = beside s := by
  have hlow (a : Nat) : (if a < lowRegs then SMap.find (s.wr r v).regs a else none) = if a < lowRegs then SMap.find s.regs a else none := by
    split
    · exact find_wr_other (by omega)
    · rfl
  unfold beside
  simp only [hlow]
  rfl

@[simp] theorem beside_put {f : Fd} {n : Nat} (h : lowRegs ≤ f.r.addr) : beside (s.put f n) = beside s := beside_wr h
@[simp] theorem beside_putB {f : Fd} {b : Bool} (h : lowRegs ≤ f.r.addr) : beside (s.putB f b) = beside s := beside_wr h
@[simp] theorem beside_count {f : Fd} (h : lowRegs ≤ f.r.addr) : beside (s.count f) = beside s := beside_wr h
@[simp] theorem beside_wrap {f : Fd} (h : lowRegs ≤ f.r.addr) : beside (s.wrap f) = beside s := beside_wr h

@[simp] theorem beside_raise (src : Nat) (d : Word) : beside (s.raise src d) = beside s := rfl

@[simp] theorem beside_ite {c : Prop} [Decidable c] (t u : State) : beside (if c then t else u) = if c then beside t else beside u := apply_ite ..

@[simp] theorem beside_ite_fst {c : Prop} [Decidable c] {α : Type} (t u : State × α) : beside (if c then t else u).1 = if c then beside t.1 else beside u.1 := by
  split <;> rfl

@[simp] theorem beside_foldl {α : Type} {l : List α} {f : State → α → State} (h : ∀ u x, beside (f u x) = beside u) : beside (l.foldl f s) = beside s :=
  List.foldlRecOn l f (motive := fun t => beside t = beside s) rfl fun t ht x _ => (h t x).trans ht

end

section
variable {s : State}

@[simp] theorem CAN_TT_STATUS_active_high (u : Nat) : lowRegs ≤ (CAN_TT_STATUS_active u).r.addr := Nat.le_add_right_of_le (by decide)
@[simp] theorem CAN_TT_STATUS_col_high (u : Nat) : lowRegs ≤ (CAN_TT_STATUS_col u).r.addr := Nat.le_add_right_of_le (by decide)
@[simp] theorem CAN_TT_STATUS_missed_high (u : Nat) : lowRegs ≤ (CAN_TT_STATUS_missed u).r.addr := Nat.le_add_right_of_le (by decide)
@[simp] theorem CAN_TT_STATUS_pendsw_high (u : Nat) : lowRegs ≤ (CAN_TT_STATUS_pendsw u).r.addr := Nat.le_add_right_of_le (by decide)
@[simp] theorem CAN_TT_STATUS_row_high (u : Nat) : lowRegs ≤ (CAN_TT_STATUS_row u).r.addr := Nat.le_add_right_of_le (by decide)
@[simp] theorem CAN_TT_STATUS_synced_high (u : Nat) : lowRegs ≤ (CAN_TT_STATUS_synced u).r.addr := Nat.le_add_right_of_le (by decide)
@[simp] theorem CAN_TXACKSEQ_high (u : Nat) : lowRegs ≤ (CAN_TXACKSEQ u).addr := Nat.le_add_right_of_le (by decide)
@[simp] theorem CAN_TXACK_badreq_high (u : Nat) : lowRegs ≤ (CAN_TXACK_badreq u).r.addr := Nat.le_add_right_of_le (by decide)
@[simp] theorem CAN_TXACK_count_high (u : Nat) : lowRegs ≤ (CAN_TXACK_count u).r.addr := Nat.le_add_right_of_le (by decide)
@[simp] theorem CAN_TXACK_outcome_high (u : Nat) : lowRegs ≤ (CAN_TXACK_outcome u).r.addr := Nat.le_add_right_of_le (by decide)
@[simp] theorem CAN_TXACK_ticketed_high (u : Nat) : lowRegs ≤ (CAN_TXACK_ticketed u).r.addr := Nat.le_add_right_of_le (by decide)
@[simp] theorem CAN_TXACK_track_high (u : Nat) : lowRegs ≤ (CAN_TXACK_track u).r.addr := Nat.le_add_right_of_le (by decide)
@[simp] theorem CAN_TXDONE_high (u w : Nat) : lowRegs ≤ (CAN_TXDONE u w).addr := Nat.le_add_right_of_le (Nat.le_add_right_of_le (by decide))
@[simp] theorem LDG_COUNT_DROP_mismatch_high : lowRegs ≤ LDG_COUNT_DROP_mismatch.r.addr := by decide
@[simp] theorem LED_K_STATUS_limp_high (k : Nat) : lowRegs ≤ (LED_K_STATUS_limp k).r.addr := Nat.le_add_right_of_le (by decide)
@[simp] theorem LED_P_ACKSEQ_high (p : Nat) : lowRegs ≤ (LED_P_ACKSEQ p).addr := Nat.le_add_right_of_le (by decide)
@[simp] theorem LED_P_ACK_badcmd_high (p : Nat) : lowRegs ≤ (LED_P_ACK_badcmd p).r.addr := Nat.le_add_right_of_le (by decide)
@[simp] theorem LED_P_ACK_count_high (p : Nat) : lowRegs ≤ (LED_P_ACK_count p).r.addr := Nat.le_add_right_of_le (by decide)
@[simp] theorem LED_P_ACK_outcome_high (p : Nat) : lowRegs ≤ (LED_P_ACK_outcome p).r.addr := Nat.le_add_right_of_le (by decide)
@[simp] theorem LED_P_ACK_ticketed_high (p : Nat) : lowRegs ≤ (LED_P_ACK_ticketed p).r.addr := Nat.le_add_right_of_le (by decide)
@[simp] theorem LED_P_ACK_track_high (p : Nat) : lowRegs ≤ (LED_P_ACK_track p).r.addr := Nat.le_add_right_of_le (by decide)
@[simp] theorem LED_P_STATUS_active_high (p : Nat) : lowRegs ≤ (LED_P_STATUS_active p).r.addr := Nat.le_add_right_of_le (by decide)
@[simp] theorem LED_P_STATUS_count_high (p : Nat) : lowRegs ≤ (LED_P_STATUS_count p).r.addr := Nat.le_add_right_of_le (by decide)
@[simp] theorem LED_P_STATUS_front_high (p : Nat) : lowRegs ≤ (LED_P_STATUS_front p).r.addr := Nat.le_add_right_of_le (by decide)
@[simp] theorem LED_P_STATUS_pend_high (p : Nat) : lowRegs ≤ (LED_P_STATUS_pend p).r.addr := Nat.le_add_right_of_le (by decide)
@[simp] theorem LED_P_STATUS_s_comb_high (p : Nat) : lowRegs ≤ (LED_P_STATUS_s_comb p).r.addr := Nat.le_add_right_of_le (by decide)
@[simp] theorem PSW_CH_ACKSEQ_high (c : Nat) : lowRegs ≤ (PSW_CH_ACKSEQ c).addr := Nat.le_add_right_of_le (by decide)
@[simp] theorem PSW_CH_ACK_badcmd_high (c : Nat) : lowRegs ≤ (PSW_CH_ACK_badcmd c).r.addr := Nat.le_add_right_of_le (by decide)
@[simp] theorem PSW_CH_ACK_count_high (c : Nat) : lowRegs ≤ (PSW_CH_ACK_count c).r.addr := Nat.le_add_right_of_le (by decide)
@[simp] theorem PSW_CH_ACK_outcome_high (c : Nat) : lowRegs ≤ (PSW_CH_ACK_outcome c).r.addr := Nat.le_add_right_of_le (by decide)
@[simp] theorem PSW_CH_ACK_ticketed_high (c : Nat) : lowRegs ≤ (PSW_CH_ACK_ticketed c).r.addr := Nat.le_add_right_of_le (by decide)
@[simp] theorem PSW_CH_ACK_track_high (c : Nat) : lowRegs ≤ (PSW_CH_ACK_track c).r.addr := Nat.le_add_right_of_le (by decide)
@[simp] theorem PSW_CH_DIAG_result_high (c : Nat) : lowRegs ≤ (PSW_CH_DIAG_result c).r.addr := Nat.le_add_right_of_le (by decide)
@[simp] theorem PSW_CH_STATE_cmd_high (c : Nat) : lowRegs ≤ (PSW_CH_STATE_cmd c).r.addr := Nat.le_add_right_of_le (by decide)
@[simp] theorem PSW_CH_STATE_eff_high (c : Nat) : lowRegs ≤ (PSW_CH_STATE_eff c).r.addr := Nat.le_add_right_of_le (by decide)
@[simp] theorem PSW_CH_STATE_value_high (c : Nat) : lowRegs ≤ (PSW_CH_STATE_value c).r.addr := Nat.le_add_right_of_le (by decide)
@[simp] theorem PSW_CH_STATUS_ilim_high (c : Nat) : lowRegs ≤ (PSW_CH_STATUS_ilim c).r.addr := Nat.le_add_right_of_le (by decide)
@[simp] theorem PSW_CH_STATUS_latch_high (c : Nat) : lowRegs ≤ (PSW_CH_STATUS_latch c).r.addr := Nat.le_add_right_of_le (by decide)
@[simp] theorem PSW_CH_STATUS_restarts_high (c : Nat) : lowRegs ≤ (PSW_CH_STATUS_restarts c).r.addr := Nat.le_add_right_of_le (by decide)
@[simp] theorem PSW_CH_STATUS_siding_high (c : Nat) : lowRegs ≤ (PSW_CH_STATUS_siding c).r.addr := Nat.le_add_right_of_le (by decide)
@[simp] theorem PSW_CH_STATUS_tsdwait_high (c : Nat) : lowRegs ≤ (PSW_CH_STATUS_tsdwait c).r.addr := Nat.le_add_right_of_le (by decide)
@[simp] theorem PSW_CH_STATUS_wire_high (c : Nat) : lowRegs ≤ (PSW_CH_STATUS_wire c).r.addr := Nat.le_add_right_of_le (by decide)

@[simp] theorem setDir_beside (d : Nat) (up : Bool) (x : LinkDir) : beside (s.setDir d up x) = beside s := (rfl)

@[simp] theorem fillDir_beside (d : Nat) (up : Bool) : beside (fillDir s d up) = beside s := by
  simp [fillDir]

@[simp] theorem queueFrame_beside (d : Nat) (up : Bool) (b : FrameBody) : beside (queueFrame s d up b) = beside s := by
  simp [queueFrame]

@[simp] theorem exchange_beside (d : Nat) : beside (exchange s d) = beside s := (rfl)

@[simp] theorem stageAct_beside (k : Nat) (tkt : Option (Nat × Word)) (perform : State → State) (h : ∀ u, beside (perform u) = beside u) : beside (stageAct s k tkt perform).1 = beside s := by
  unfold stageAct
  cases judge s k tkt with
  | plain mis =>
    cases mis with
    | false => exact h s
    | true => exact (h _).trans ((beside_raise ..).trans (beside_count (by simp)))
  | advance q => exact (h _).trans rfl
  | already => rfl

@[simp] theorem modChan_beside (c : Nat) (f : Chan → Chan) : beside (s.modChan c f) = beside s := (rfl)

@[simp] theorem onMembers_beside (c : Nat) (f : State → Nat → State) (h : ∀ u m, beside (f u m) = beside u) : beside (onMembers s c f) = beside s := by
  exact beside_foldl fun u m => h u m

@[simp] theorem settleOut_beside (c : Nat) : beside (settleOut s c) = beside s := by
  simp [settleOut]

@[simp] theorem setOut_beside (c : Nat) (o : OutCmd) : beside (setOut s c o) = beside s := by
  simp [setOut]

@[simp] theorem drawn_beside : beside (s.drawn) = beside s := (rfl)

@[simp] theorem recordCmd_beside (c cmd d : Nat) : beside (recordCmd s c cmd d) = beside s := by
  unfold recordCmd
  dsimp only
  split
  · rw [beside_put (by simp), beside_put (by simp)]
  · rw [drawn_beside, beside_put (by simp), beside_put (by simp)]

@[simp] theorem event_beside (src pay : Nat) : beside (s.event src pay) = beside s := (rfl)

@[simp] theorem dieTells_beside (d : Nat) (b : FrameBody) (f : State → State) (h : ∀ u, beside (f u) = beside u) : beside (dieTells s d b f) = beside s := by
  unfold dieTells
  split
  any_goals rfl
  split
  · exact h s
  · exact queueFrame_beside ..

@[simp] theorem dieEvent_beside (d src pay : Nat) : beside (dieEvent s d src pay) = beside s := by
  exact dieTells_beside d _ (fun s => s.event src pay) fun u => event_beside (s := u) src pay

@[simp] theorem chEvent_beside (c code detail : Nat) : beside (chEvent s c code detail) = beside s := by
  simp [chEvent]

@[simp] theorem testResult_beside (c r : Nat) : beside (testResult s c r) = beside s := by
  simp [testResult]

@[simp] theorem performCmd_beside (c cmd val : Nat) : beside (performCmd s c cmd val) = beside s := by
  simp [performCmd]

@[simp] theorem rejoin_beside (c val : Nat) : beside (rejoin s c val) = beside s := by
  simp [rejoin]

@[simp] theorem ackRegs_beside (c outcome : Nat) (bad : Bool) (tkt : Option (Nat × Word)) : beside (ackRegs s c outcome bad tkt) = beside s := by
  unfold ackRegs
  cases tkt <;> simp

@[simp] theorem ackAction_beside (c outcome : Nat) (bad : Bool) (tkt : Option (Nat × Word)) : beside (ackAction s c outcome bad tkt) = beside s := by
  simp [ackAction]

@[simp] theorem followerAction_beside (c : Nat) (tkt : Option (Nat × Word)) : beside (followerAction s c tkt).1 = beside s := by
  simp [followerAction]

@[simp] theorem chAction_beside (c cmd val : Nat) (tkt : Option (Nat × Word)) (item0 : Bool) : beside (chAction s c cmd val tkt item0).1 = beside s := by
  simp [chAction]

@[simp] theorem sendAction_beside (c cmd val : Nat) (tkt : Option (Nat × Word)) (item0 : Bool) (slot : Option (Nat × Nat)) : beside (sendAction s c cmd val tkt item0 slot).1 = beside s := by
  simp [sendAction]

@[simp] theorem setAdcQueue_beside (d : Nat) (q : List Nat) : beside (setAdcQueue s d q) = beside s := (rfl)

@[simp] theorem adcTrigger_beside (i : Nat) : beside (adcTrigger s i) = beside s := by
  simp [adcTrigger]

@[simp] theorem senseAction_beside (target : Nat) : beside (senseAction s target).1 = beside s := by
  simp [senseAction]

@[simp] theorem fireSample_beside (k gen target : Nat) : beside (fireSample s k gen target).1 = beside s := by
  simp [fireSample]

@[simp] theorem modCan_beside (u : Nat) (f : CanCtl → CanCtl) : beside (s.modCan u f) = beside s := (rfl)

@[simp] theorem missed_beside (u : Nat) : beside (missed s u) = beside s := by
  simp [missed]

@[simp] theorem canAck_beside (u outcome : Nat) (bad : Option Bool) (tkt : Option (Nat × Word)) : beside (canAck s u outcome bad tkt) = beside s := by
  unfold canAck
  cases tkt <;> cases bad <;> simp

@[simp] theorem ramFault_beside (u : Nat) : beside (ramFault s u) = beside s := by
  simp [ramFault]

@[simp] theorem setCanWord_beside (u w : Nat) (v : Word) : beside (s.setCanWord u w v) = beside s := by
  unfold State.setCanWord
  split <;> rfl

@[simp] theorem canEvent_beside (u code detail : Nat) : beside (canEvent s u code detail) = beside s := by
  simp [canEvent]

@[simp] theorem canRead_beside (u w : Nat) : beside (canRead s u w).1 = beside s := by
  simp [canRead]

@[simp] theorem endReq_beside (u : Nat) (r : CanReq) (result : Nat) : beside (endReq s u r result) = beside s := by
  simp [endReq]

@[simp] theorem addReq_beside (u : Nat) (r : CanReq) : beside (addReq s u r) = beside s := by
  simp [addReq]

@[simp] theorem slotFailed_beside (u : Nat) (r : CanReq) : beside (slotFailed s u r) = beside s := by
  simp [slotFailed]

@[simp] theorem takeCell_beside (u row col : Nat) (t : Option (Nat × Word)) (late : Bool) : beside (takeCell s u row col t late) = beside s := by
  unfold takeCell
  extract_lets s1 s2
  have h2 : beside s2 = beside s := by simp [s2, s1]
  clear_value s2
  split
  · simp [h2]
  · split
    split
    · simp [h2]
    · extract_lets b s3
      have h3 : beside s3 = beside s := by
        unfold s3
        split <;> simp [h2]
      clear_value s3
      split
      · exact h2
      · split
        · exact (missed_beside ..).trans h2
        · exact (modCan_beside u _).trans h2
      · simp [h3]

theorem beside_canTicket {u : Nat} {tkt tk : Option (Nat × Word)} {t : State} (h : canTicket s u tkt = some (t, tk)) : beside t = beside s := by
  unfold canTicket at h
  split at h
  · cases h
  · split at h
    · cases h
    · cases h
      rfl
  · cases h
    simp

@[simp] theorem slotRelease_beside (u row col : Nat) (tkt : Option (Nat × Word)) (late : Bool) : beside (slotRelease s u row col tkt late).1 = beside s := by
  unfold slotRelease
  split
  · simp
  · split
    · simp
    · next ht =>
      extract_lets s1 s2
      have h2 : beside s2 = beside s := by simp [s2, s1, beside_canTicket ht]
      clear_value s2
      split
      · simp [h2]
      · simp [h2]

@[simp] theorem modLed_beside (f : LedSt → LedSt) : beside (s.modLed f) = beside s := (rfl)

@[simp] theorem modMat_beside (m : Nat) (f : Mat → Mat) : beside (s.modMat m f) = beside s := by
  simp [State.modMat]

@[simp] theorem modF_beside (n : Nat) (f : FPort → FPort) : beside (s.modF n f) = beside s := by
  simp [State.modF]

@[simp] theorem portEvent_beside (p code detail : Nat) : beside (portEvent s p code detail) = beside s := by
  simp [portEvent]

@[simp] theorem setSink_beside (k : Nat) (x : Sink) : beside (s.setSink k x) = beside s := by
  simp [State.setSink]

@[simp] theorem matDark_beside (m : Nat) : beside (matDark s m) = beside s := by
  simp [matDark]

@[simp] theorem sinkMode_beside (k : Nat) (m : SinkMode) : beside (sinkMode s k m) = beside s := by
  simp [sinkMode]

@[simp] theorem matBlank_beside (m : Nat) : beside (matBlank s m) = beside s := by
  simp [matBlank]

@[simp] theorem modSt_beside (k : Nat) (f : Stitch → Stitch) : beside (s.modSt k f) = beside s := by
  simp [State.modSt]

@[simp] theorem becomesReturn_beside (k : Nat) : beside (becomesReturn s k) = beside s := by
  simp [becomesReturn]

@[simp] theorem startShift_beside (k : Nat) (zero rejoin again : Bool) : beside (startShift s k zero rejoin again) = beside s := by
  simp [startShift]

@[simp] theorem matEnable_beside (m : Nat) : beside (matEnable s m) = beside s := by
  simp [matEnable]

@[simp] theorem shiftCause_beside (k : Nat) : beside (shiftCause s k) = beside s := by
  simp [shiftCause]

@[simp] theorem swapEffect_beside (n : Nat) : beside (swapEffect s n) = beside s := by
  simp [swapEffect]

@[simp] theorem swapArrive_beside (n : Nat) : beside (swapArrive s n) = beside s := by
  simp [swapArrive]

@[simp] theorem latchAct_beside (k : Nat) : beside (latchAct s k) = beside s := by
  simp [latchAct]

@[simp] theorem portPerform_beside (p cmd val : Nat) : beside (portPerform s p cmd val) = beside s := by
  unfold portPerform
  split <;> simp

@[simp] theorem ackPort_beside (p outcome : Nat) (bad : Bool) (tkt : Option (Nat × Word)) : beside (ackPort s p outcome bad tkt) = beside s := by
  unfold ackPort
  cases tkt <;> simp

@[simp] theorem portAction_beside (p cmd val : Nat) (tkt : Option (Nat × Word)) : beside (portAction s p cmd val tkt false).1 = beside s := by
  simp [portAction]

@[simp] theorem latPin_beside (k op : Nat) : beside (latPin s k op).1 = beside s := by
  simp [latPin]

@[simp] theorem eventTo_beside (src pay ctx inp : Nat) : beside (s.eventTo src pay ctx inp) = beside s := (rfl)

@[simp] theorem modClk_beside (f : ClkSt → ClkSt) : beside (s.modClk f) = beside s := (rfl)

@[simp] theorem ckoutPin_beside (op : Nat) : beside (ckoutPin s op).1 = beside s := by
  simp [ckoutPin]


end

end Sys2Proof.Machine
end

section
/-! Firing (R180, R187 to R190) and the loss of an item (R208). -/
namespace Sys2Proof.Machine
open Sys2Proof Reg

/-! ## Slots -/

/-- An item whose slot has been given back. -/
noncomputable def Item.freed (i : Item) (st : SlotState) : Item := { i with st := st, leaving := false, stagedCancel := false, stagedArm := false }

section
variable (s : State) (j k : Nat) (i : Item)

@[simp] theorem State.item_setItem_same : (s.setItem k i).item k = i := SMap.get_set_same _ _ _ _
theorem State.item_setItem_other (h : j ≠ k) : (s.setItem k i).item j = s.item j := SMap.get_set_other _ _ _ _ _ _ h

@[simp] theorem State.item_freeSlot_same (st : SlotState) : (s.freeSlot k st).item k = (s.item k).freed st := SMap.get_set_same _ _ _ _
theorem State.item_freeSlot_other (st : SlotState) (h : j ≠ k) : (s.freeSlot k st).item j = s.item j := SMap.get_set_other _ _ _ _ _ _ h

@[simp] theorem State.freeSlot_due (st : SlotState) : (s.freeSlot k st).tln.due = s.tln.due := rfl
@[simp] theorem State.setItem_due : (s.setItem k i).tln.due = s.tln.due := rfl
@[simp] theorem State.setItem_axes : (s.setItem k i).tln.axes = s.tln.axes := rfl
@[simp] theorem State.setItem_freeQ : (s.setItem k i).tln.freeQ = s.tln.freeQ := rfl

end

/-! ## The action of an item -/

section
variable {s : State} {k n : Nat} {d : Due} {ds : List Due}

theorem fireAction_beside (s : State) (k : Nat) (i : Item) (late : Bool) : beside (fireAction s k i late).1 = beside s := by
  unfold fireAction
  dsimp only
  split
  · exact sendAction_beside ..
  · exact fireSample_beside ..
  · exact slotRelease_beside ..
  · exact eventTo_beside ..
  · split
    · exact ckoutPin_beside ..
    · exact latPin_beside ..
  · exact portAction_beside ..
  · exact portAction_beside ..

/-! ## The head of the due queue -/

/-- The lag and the lateness of an entry noted (R189). -/
noncomputable def noteLag (s : State) (d : Due) : State :=
  let u := s.putMax TLN_LAG_MAX_lag (min 65535 (engineCycle s - d.cyc))
  if d.late then u.count (TLN_AX_LATE_count d.axis) else u

/-- A slot about to fire: no second item fires in this cycle. -/
noncomputable def firing (s : State) (d : Due) : State := { noteLag s d with tln := { (noteLag s d).tln with fired := true } }

/-- The item of slot `k` fired with its action made. -/
noncomputable def acted (s : State) (d : Due) (k : Nat) : State × Nat := fireAction (firing s d) k ((noteLag s d).item k) d.late

theorem fireSlot_eq (s : State) (d : Due) (k : Nat) : fireSlot s d k = (acted s d k).1.setItem k { (acted s d k).1.item k with outcome := (acted s d k).2 } := rfl

theorem noteLag_only (s : State) (d : Due) : noteLag s d = { s with regs := (noteLag s d).regs } := by
  unfold noteLag
  dsimp only
  rw [putMax_only]
  split <;> rfl

theorem lagMax_ne_late (n : Nat) : (TLN_AX_LATE_count n).r.addr ∉ [TLN_LAG_MAX].map Rg.addr := by
  simp only [TLN_AX_LATE_count, TLN_AX_LATE, TLN_LAG_MAX, List.map, List.mem_singleton]
  omega

theorem putMax_lag (s : State) (n : Nat) : RegsBut [TLN_LAG_MAX] s (s.putMax TLN_LAG_MAX_lag n) := RegsBut.refl.putMax List.mem_cons_self

theorem noteLag_lag (s : State) (d : Due) : (noteLag s d).get TLN_LAG_MAX_lag = max (s.get TLN_LAG_MAX_lag) (min 65535 (engineCycle s - d.cyc)) := by
  have hmax := State.get_putMax (s := s) (f := TLN_LAG_MAX_lag) rfl (Nat.lt_of_le_of_lt (Nat.min_le_left 65535 (engineCycle s - d.cyc)) (by decide))
  unfold noteLag
  dsimp only
  split
  · refine (RegsBut.get (rs := [TLN_AX_LATE d.axis]) (RegsBut.refl.count List.mem_cons_self) ?_).trans hmax
    simp only [TLN_LAG_MAX_lag, TLN_LAG_MAX, TLN_AX_LATE, List.map, List.mem_singleton]
    omega
  · exact hmax

theorem noteLag_regs (s : State) {d : Due} (h : d.late = false) : RegsBut [TLN_LAG_MAX] s (noteLag s d) := by
  rw [noteLag, if_neg (by rw [h]; decide)]
  exact putMax_lag s _

theorem noteLag_late (s : State) {d : Due} (h : d.late = true) : RegsBut [TLN_LAG_MAX, TLN_AX_LATE d.axis] s (noteLag s d) ∧
    (noteLag s d).get (TLN_AX_LATE_count d.axis) = min 65535 (s.get (TLN_AX_LATE_count d.axis) + 1) := by
  rw [noteLag, if_pos h]
  refine ⟨(RegsBut.refl.putMax List.mem_cons_self).count (List.mem_cons_of_mem _ List.mem_cons_self), ?_⟩
  rw [State.get_count _ rfl, (putMax_lag s _).get (lagMax_ne_late _)]
  rfl

theorem acted_tln (s : State) (d : Due) (k : Nat) : (acted s d k).1.tln = { s.tln with fired := true } := by
  rw [acted, tln_of_beside (fireAction_beside ..), firing, noteLag_only]

theorem acted_item (s : State) (d : Due) (k j : Nat) : (acted s d k).1.item j = s.item j := by
  rw [State.item, acted_tln, State.item]

/-- What the fired item of a slot leaves of the timeline and of the registers. -/
theorem fireSlot_rest (s : State) (d : Due) (k : Nat) :
    (fireSlot s d k).tln.due = s.tln.due ∧ (fireSlot s d k).tln.axes = s.tln.axes ∧ (fireSlot s d k).tln.freeQ = s.tln.freeQ ∧
    (fireSlot s d k).item k = { s.item k with outcome := (acted s d k).2 } ∧ (∀ j, j ≠ k → (fireSlot s d k).item j = s.item j) ∧
    (fireSlot s d k).regs = (acted s d k).1.regs := by
  rw [fireSlot_eq, State.setItem_due, State.setItem_axes, State.setItem_freeQ, State.item_setItem_same, acted_tln, acted_item]
  exact ⟨rfl, rfl, rfl, rfl, fun j hj => by rw [State.item_setItem_other _ _ _ _ hj, acted_item], rfl⟩

end

/-! ## An item removed (R186, R208) -/

section
variable {s : State} {k r : Nat}

/-- The slot is cancelled: what follows of its roster leaves it so. -/
theorem freeLeaving_st (h : (s.item k).st = .cancelled) : ((freeLeaving s r).item k).st = .cancelled := by
  refine List.foldlRecOn _ _ (motive := fun t : State => (t.item k).st = .cancelled) h fun t ht j _ => ?_
  split
  · exact ht
  · by_cases e : k = j
    · subst e
      rw [State.item_freeSlot_same]
      rfl
    · rwa [State.item_freeSlot_other _ _ _ _ e]

theorem freeLeaving_due (s : State) (r : Nat) : (freeLeaving s r).tln.due = s.tln.due := by
  refine List.foldlRecOn _ _ (motive := fun t : State => t.tln.due = s.tln.due) rfl fun t ht j _ => ?_
  split
  · exact ht
  · rwa [State.freeSlot_due]

theorem applyStaged_st (h : (s.item k).st = .cancelled) : ((applyStaged s r).item k).st = .cancelled := by
  refine freeLeaving_st (List.foldlRecOn _ _ (motive := fun t : State => (t.item k).st = .cancelled) h fun t ht j _ => ?_)
  by_cases e : k = j
  · subst e
    rw [State.item_setItem_same]
    exact ht
  · rwa [State.item_setItem_other _ _ _ _ e]

theorem applyStaged_due (s : State) (r : Nat) : (applyStaged s r).tln.due = s.tln.due :=
  (freeLeaving_due ..).trans (List.foldlRecOn _ _ (motive := fun t : State => t.tln.due = s.tln.due) rfl fun t ht j _ => by rwa [State.setItem_due])

@[simp] theorem State.item_setRos (s : State) (r j : Nat) (x : Roster) : (s.setRos r x).item j = s.item j := rfl
@[simp] theorem State.setRos_due (s : State) (r : Nat) (x : Roster) : (s.setRos r x).tln.due = s.tln.due := rfl

theorem settleRoster_st (h : (s.item k).st = .cancelled) : ((settleRoster s r).item k).st = .cancelled := by
  unfold settleRoster
  dsimp only
  split
  · exact applyStaged_st (freeLeaving_st (by rwa [State.item_setRos]))
  · exact freeLeaving_st (by rwa [State.item_setRos])

theorem settleRoster_due (s : State) (r : Nat) : (settleRoster s r).tln.due = s.tln.due := by
  unfold settleRoster
  dsimp only
  split
  · rw [applyStaged_due, freeLeaving_due, State.setRos_due]
  · rw [freeLeaving_due, State.setRos_due]

theorem dropInstances_rest (s : State) (k j : Nat) :
    (s.dropInstances k).item j = s.item j ∧ (s.dropInstances k).tln.due = s.tln.due.filter fun d => ! d.ofSlot k := by
  unfold State.dropInstances
  dsimp only
  split <;> exact ⟨rfl, rfl⟩

theorem removeItem_rest (s : State) (k : Nat) : ((s.removeItem k).item k).st = .cancelled ∧
    (s.removeItem k).tln.due = s.tln.due.filter (fun d => ! d.ofSlot k) ∧ ((s.item k).roster = 0 → ∀ j, j ≠ k → (s.removeItem k).item j = s.item j) := by
  have hst : (((s.dropInstances k).freeSlot k .cancelled).item k).st = .cancelled := by
    rw [State.item_freeSlot_same]
    rfl
  have hdue : ((s.dropInstances k).freeSlot k .cancelled).tln.due = s.tln.due.filter fun d => ! d.ofSlot k := by
    rw [State.freeSlot_due]
    exact (dropInstances_rest s k k).2
  unfold State.removeItem
  dsimp only
  split
  · refine ⟨hst, hdue, fun _ j hj => ?_⟩
    rw [State.item_freeSlot_other _ _ _ _ hj]
    exact (dropInstances_rest s k j).1
  · next h => exact ⟨settleRoster_st hst, (settleRoster_due ..).trans hdue, fun h0 => absurd h0 h⟩

end

section
variable {s : State} {d : Due} {ds : List Due} {k n : Nat}

/-- The queue without the entry that is served. -/
noncomputable def unqueued (s : State) (ds : List Due) : State := { s with tln := { s.tln with due := ds } }

theorem exec_itemFire_single (hrun : tlnRuns s = true) (hd : s.tln.due = d :: ds) (hf : s.tln.fired = false) (hk : d.kind = .single k) :
    exec .itemFire s = .next ((fireSlot (unqueued s ds) d k).freeSlot k .fired) := by
  have hserve : serveDue s = (fireSlot (unqueued s ds) d k).freeSlot k .fired := by
    simp only [serveDue, hd, hk]
    rfl
  have hgo : (canServe s && (headStart s).isNone) = true := by
    simp only [canServe, headStart, hd, hk, hrun, hf, Option.isNone_none, Bool.not_false, Bool.or_true, Bool.and_self]
  exact (congrArg Host.Outcome.next (if_pos hgo)).trans (congrArg _ hserve)

theorem fired_item (s : State) (d : Due) (k : Nat) :
    ((fireSlot s d k).freeSlot k .fired).item k = { s.item k with outcome := (acted s d k).2 }.freed .fired := by
  rw [State.item_freeSlot_same, (fireSlot_rest s d k).2.2.2.1]

/-- A POST item: its event is on its way, with the outcome of R190. -/
theorem acted_post (h : ((noteLag s d).item k).kind = 4) : acted s d k = firePost (firing s d) ((noteLag s d).item k) := by
  rw [acted, fireAction, h]
  rfl

/-- A PIN item on CKOUT. -/
theorem acted_ckout (h : ((noteLag s d).item k).kind = 5) (h0 : getBits ((noteLag s d).item k).arg 2 0 = 0) :
    acted s d k = ckoutPin (firing s d) (getBits ((noteLag s d).item k).arg 5 4) := by
  rw [acted, fireAction, h]
  exact if_pos h0

theorem fired_regs (s : State) (d : Due) (k : Nat) : RegsBut [] (acted s d k).1 ((fireSlot s d k).freeSlot k .fired) :=
  .of_regs (fireSlot_rest s d k).2.2.2.2.2

theorem acted_lag (s : State) (d : Due) (k : Nat) : (acted s d k).1.get TLN_LAG_MAX_lag = max (s.get TLN_LAG_MAX_lag) (min 65535 (engineCycle s - d.cyc)) := by
  rw [← noteLag_lag]
  exact State.get_congr (rd_of_beside (fireAction_beside ..) (by decide))

theorem noteLag_item (s : State) (d : Due) (j : Nat) : (noteLag s d).item j = s.item j := by
  rw [noteLag_only]
  rfl

theorem noteLag_ctx (s : State) (d : Due) (c : Nat) : (noteLag s d).ctx c = s.ctx c := by
  rw [noteLag_only]
  rfl

/-- The state after the item at the head of the queue has fired. -/
noncomputable def served (s : State) (d : Due) (k : Nat) : State := (fireSlot s d k).freeSlot k .fired

theorem served_onlyTln (s : State) (d : Due) (k : Nat) : OnlyTln (acted s d k).1 (served s d k) := by
  rw [served, fireSlot_eq]
  exact (OnlyTln.setItem ..).trans (.freeSlot ..)

theorem firing_only (s : State) (d : Due) :
    firing s d = { s with regs := (noteLag s d).regs, tln := { s.tln with fired := true } } := by
  rw [firing, noteLag_only]

theorem served_item (s : State) (d : Due) (k : Nat) : (served s d k).item k = { s.item k with outcome := (acted s d k).2 }.freed .fired := fired_item s d k

/-- A POST item fired: beside the timeline and the lag, its event alone (R180, R190). -/
theorem served_post (h : (s.item k).kind = 4) : served s d k = { s with
      regs := (noteLag s d).regs, tln := (served s d k).tln,
      evq := s.evq ++ [⟨512 + (s.item k).axis, getBits (s.item k).arg 13 0 % 16384, some (getBits (s.item k).arg 24 16, getBits (s.item k).arg 31 30)⟩] } := by
  have hact := congrArg Prod.fst (acted_post (s := s) (d := d) (k := k) (by rw [noteLag_item, h]))
  rw [noteLag_item, firePost, firing_only, State.eventTo] at hact
  have honly := served_onlyTln s d k
  unfold OnlyTln at honly
  rw [hact] at honly
  exact honly

theorem acted_post_outcome (h : (s.item k).kind = 4) : (acted s d k).2 =
    if (s.ctx (getBits (s.item k).arg 24 16)).mode ≠ .empty ∧ (latest (noteLag s d) (getBits (s.item k).arg 24 16) (getBits (s.item k).arg 31 30) ∨
      ((s.ctx (getBits (s.item k).arg 24 16)).inp (getBits (s.item k).arg 31 30)).q.length < 8) then 1 else 4 := by
  have hact := congrArg Prod.snd (acted_post (s := s) (d := d) (k := k) (by rw [noteLag_item, h]))
  have hctx (c : Nat) : (firing s d).ctx c = s.ctx c := noteLag_ctx ..
  rw [noteLag_item, firePost] at hact
  simp only [hctx] at hact
  exact hact

theorem noteLag_latest (s : State) (d : Due) (c n : Nat) : latest (noteLag s d) c n = latest s c n := by
  have h : (noteLag s d).rd (TSK_CTX_INMODE c) = s.rd (TSK_CTX_INMODE c) := by
    have hne : ∀ q, (TSK_CTX_INMODE c).addr ∉ [TLN_LAG_MAX, TLN_AX_LATE q].map Rg.addr := fun q => by
      simp only [TSK_CTX_INMODE, TLN_LAG_MAX, TLN_AX_LATE, List.map, List.mem_cons, List.not_mem_nil, or_false]
      omega
    cases hl : d.late with
    | false => exact (noteLag_regs s hl).rd fun hm => hne 0 (by simp at hm ⊢; exact .inl hm)
    | true => exact (noteLag_late s hl).1.rd (hne _)
  rw [latest, h, latest]

/-- A PIN item on CKOUT fired (R180, R443). -/
theorem served_ckout (h : (s.item k).kind = 5) (h0 : getBits (s.item k).arg 2 0 = 0) :
    acted s d k = ckoutPin (firing s d) (getBits (s.item k).arg 5 4) := by
  have hact := acted_ckout (s := s) (d := d) (k := k) (by rw [noteLag_item, h]) (by rw [noteLag_item, h0])
  rwa [noteLag_item] at hact

theorem served_regs_of_ckout (hact : acted s d k = ckoutPin (firing s d) n) : (served s d k).regs = (noteLag s d).regs ∧
    (served s d k).clk = (ckoutPin (firing s d) n).1.clk := by
  have honly := served_onlyTln s d k
  have hregs : (ckoutPin (firing s d) n).1.regs = (noteLag s d).regs := by
    unfold ckoutPin
    split <;> rfl
  refine ⟨?_, ?_⟩
  · rw [honly.regs, hact, hregs]
  · unfold OnlyTln at honly
    rw [honly, hact]

end

/-- Settles O19: a served entry by `fireSlot_rest`, its action by its kind, a lost item by `removeItem_rest`. -/
theorem itemsFireOnce : Obligations.ItemsFireOnce := by
  unfold Obligations.ItemsFireOnce
  intro s d ds k hrun hd i
  refine ⟨fun h => ?idle, fun hf hk => ?fires, fun hf hk hl h4 => ?post, fun hf hk hl h5 h0 hop => ?pin, fun j => ⟨fun ha => ?lost, fun ha => ?notArmed⟩⟩
  case idle =>
    have hgo : ¬ (canServe s && (headStart s).isNone) = true := by
      simp only [canServe, headStart, hd, hrun]
      rcases h with h | h
      · cases hk : d.kind <;> simp [h, Due.isStart, hk]
      · cases hk : d.kind <;> simp_all [Due.isStart]
    exact congrArg Host.Outcome.next (if_neg hgo)
  case fires =>
    obtain ⟨h1, h2, h3, h4, h5, h6⟩ := fireSlot_rest (unqueued s ds) d k
    refine ⟨_, exec_itemFire_single hrun hd hf hk, ?_, ?_, ?_, fun j hj => ?_, ?_, ?_⟩
    · exact h1
    · rw [fired_item]
      rfl
    · exact congrArg (· ++ [k]) h3
    · rw [State.item_freeSlot_other _ _ _ _ hj, h5 j hj]
      rfl
    · exact h2
    · rw [(fired_regs (unqueued s ds) d k).get (by simp), acted_lag]
      rfl
  case post =>
    have hpay : getBits i.arg 13 0 % 16384 = getBits i.arg 13 0 := Nat.mod_eq_of_lt (getBits_lt ..)
    have hstate := served_post (s := unqueued s ds) (d := d) (k := k) h4
    have hout := acted_post_outcome (s := unqueued s ds) (d := d) (k := k) h4
    have hitem := served_item (unqueued s ds) d k
    refine ⟨served (unqueued s ds) d k, exec_itemFire_single hrun hd hf hk, ?_, ?_, ?_, fun h => ?_, fun hne hlen => ?_⟩
    · rw [← hpay]
      exact congrArg State.evq hstate
    · rw [hstate]
      rfl
    · rw [hstate]
      exact (RegsBut.of_regs (t := unqueued s ds) rfl).trans ((noteLag_regs (unqueued s ds) hl).trans (.of_regs rfl))
    · rw [hitem]
      refine hout.trans (if_neg ?_)
      rw [noteLag_latest]
      rintro ⟨hne, hin⟩
      rcases h with h | ⟨h, h8⟩
      · exact hne h
      · rcases hin with e | e
        · exact Bool.false_ne_true (h.symm.trans e)
        · exact absurd e (Nat.not_lt.2 h8)
    · rw [hitem]
      exact hout.trans (if_pos ⟨hne, .inr hlen⟩)
  case pin =>
    have hact := served_ckout (s := unqueued s ds) (d := d) (k := k) h5 h0
    obtain ⟨hregs, hclk⟩ := served_regs_of_ckout hact
    obtain ⟨hlate, hcount⟩ := noteLag_late (unqueued s ds) hl
    have hitem := served_item (unqueued s ds) d k
    have hbut : RegsBut [TLN_LAG_MAX, TLN_AX_LATE d.axis] s (served (unqueued s ds) d k) :=
      (RegsBut.of_regs (t := unqueued s ds) rfl).trans (hlate.trans (.of_regs hregs))
    have hmode : (firing (unqueued s ds) d).get CLK_CKOUT_mode = s.get CLK_CKOUT_mode := by
      refine (RegsBut.get (rs := [TLN_LAG_MAX, TLN_AX_LATE d.axis]) (hlate.trans (.of_regs rfl)) ?_).trans rfl
      simp only [CLK_CKOUT_mode, CLK_CKOUT, TLN_LAG_MAX, TLN_AX_LATE, List.map, List.mem_cons, List.not_mem_nil, or_false]
      omega
    refine ⟨served (unqueued s ds) d k, exec_itemFire_single hrun hd hf hk, ?_, hbut, fun h2 => ?_, fun h2 => ?_⟩
    · exact (State.get_congr (by rw [State.rd, hregs, State.rd])).trans hcount
    · have hpin : ckoutPin (firing (unqueued s ds) d) (getBits i.arg 5 4) = _ := if_pos ⟨hmode.trans h2, hop⟩
      refine ⟨?_, ?_⟩
      · rw [hitem]
        exact (congrArg Prod.snd hact).trans (congrArg Prod.snd hpin)
      · refine (congrArg (·.pin) (hclk.trans (congrArg (fun p => p.1.clk) hpin))).trans ?_
        have hsame : (firing (unqueued s ds) d).clk = s.clk := by
          rw [firing, noteLag_only]
          rfl
        exact congrArg (fun c : ClkSt => if getBits i.arg 5 4 = 0 then false else if getBits i.arg 5 4 = 1 then true else ! c.pin) hsame
    · have hpin : ckoutPin (firing (unqueued s ds) d) (getBits i.arg 5 4) = _ := if_neg fun h => h2 (hmode.symm.trans h.1)
      refine ⟨?_, ?_⟩
      · rw [hitem]
        exact (congrArg Prod.snd hact).trans (congrArg Prod.snd hpin)
      · refine (hclk.trans (congrArg (fun p => p.1.clk) hpin)).trans ?_
        rw [firing, noteLag_only]
        rfl
  case lost =>
    obtain ⟨h1, h2, h3⟩ := removeItem_rest s j
    have hexec : exec (.itemStoreError j) s = .next ((s.removeItem j).raise 60) := congrArg Host.Outcome.next (if_pos ha)
    refine ⟨_, hexec, h1, h2.trans (by rw [hd]), ?_, h3, ?_⟩
    · rw [State.raise_raiseQ, (removeItem_onlyTln s j)]
      rfl
    · rw [State.raise, (removeItem_onlyTln s j)]
  case notArmed => exact congrArg Host.Outcome.next (if_neg ha)

end Sys2Proof.Machine
end

section
/-! Rosters start and stop, and wake items (R193 to R201). -/
namespace Sys2Proof.Machine
open Sys2Proof Reg

/-! ## What settling a roster leaves -/

/-- Nothing has changed but slots given back or staged. -/
def OnlySlots (s t : State) : Prop := t = { s with tln := { s.tln with items := t.tln.items, freeQ := t.tln.freeQ } }

section
variable {s t u : State} {k q r n : Nat}

theorem OnlySlots.refl : OnlySlots s s := rfl
theorem OnlySlots.setItem (k : Nat) (i : Item) : OnlySlots s (s.setItem k i) := rfl
theorem OnlySlots.freeSlot (k : Nat) (st : SlotState) : OnlySlots s (s.freeSlot k st) := rfl

theorem OnlySlots.trans (h : OnlySlots s t) (h' : OnlySlots t u) : OnlySlots s u := by
  unfold OnlySlots at h h' ⊢
  exact h'.trans (by rw [h])

theorem OnlySlots.axes (h : OnlySlots s t) : t.tln.axes = s.tln.axes := by
  unfold OnlySlots at h
  rw [h]

theorem OnlySlots.ros (h : OnlySlots s t) (r : Nat) : t.ros r = s.ros r := by
  unfold OnlySlots at h
  rw [h]
  rfl

theorem OnlySlots.rd (h : OnlySlots s t) (q : Rg) : t.rd q = s.rd q := by
  unfold OnlySlots at h
  rw [h]
  rfl

theorem freeLeaving_onlySlots (s : State) (r : Nat) : OnlySlots s (freeLeaving s r) :=
  List.foldlRecOn _ _ (motive := OnlySlots s) .refl fun t h k _ => by
    split
    · exact h
    · exact h.trans (.freeSlot ..)

theorem applyStaged_onlySlots (s : State) (r : Nat) : OnlySlots s (applyStaged s r) :=
  OnlySlots.trans (List.foldlRecOn _ _ (motive := OnlySlots s) .refl fun _ h _ _ => h.trans (.setItem ..)) (freeLeaving_onlySlots _ r)

/-- Settling drops the periods that have ended, and gives slots back. -/
theorem settleRoster_onlySlots (s : State) (r : Nat) : ∃ ps, OnlySlots (s.setRos r { s.ros r with periods := ps }) (settleRoster s r) := by
  unfold settleRoster
  dsimp only
  generalize List.filter _ (s.ros r).periods = ps
  refine ⟨ps, ?_⟩
  split
  · exact (freeLeaving_onlySlots ..).trans (applyStaged_onlySlots ..)
  · exact freeLeaving_onlySlots ..

@[simp] theorem State.ros_setRos_same (s : State) (r : Nat) (x : Roster) : (s.setRos r x).ros r = x := SMap.get_set_same _ _ _ _
theorem State.ros_setRos_other (s : State) (x : Roster) (h : q ≠ r) : (s.setRos r x).ros q = s.ros q := SMap.get_set_other _ _ _ _ _ _ h

theorem settleRoster_axes (s : State) (r : Nat) : (settleRoster s r).tln.axes = s.tln.axes := by
  obtain ⟨ps, h⟩ := settleRoster_onlySlots s r
  exact h.axes

theorem settleRoster_ros (s : State) (r : Nat) : (∃ ps, (settleRoster s r).ros r = { s.ros r with periods := ps }) ∧
    ∀ q, q ≠ r → (settleRoster s r).ros q = s.ros q := by
  obtain ⟨ps, h⟩ := settleRoster_onlySlots s r
  refine ⟨⟨ps, (h.ros r).trans (s.ros_setRos_same r _)⟩, fun q hq => (h.ros q).trans (s.ros_setRos_other _ hq)⟩

theorem settleRoster_rd (s : State) (r : Nat) (q : Rg) : (settleRoster s r).rd q = s.rd q := by
  obtain ⟨ps, h⟩ := settleRoster_onlySlots s r
  exact h.rd q

/-! ## No armed item of a roster stays staged at a start -/

/-- No armed item of the roster is staged. -/
def NoneStaged (s : State) (r : Nat) : Prop :=
  ∀ k, (s.item k).st = .armed → (s.item k).roster = r → (s.item k).stagedArm = false ∧ (s.item k).stagedCancel = false

theorem NoneStaged.congr (h : NoneStaged s r) (hi : ∀ k, t.item k = s.item k) : NoneStaged t r := fun k => by
  rw [hi]
  exact h k

theorem NoneStaged.freeSlot (h : NoneStaged s r) (j : Nat) (st : SlotState) : NoneStaged (s.freeSlot j st) r := fun k hst hros => by
  by_cases hk : k = j
  · subst hk
    rw [State.item_freeSlot_same]
    exact ⟨rfl, rfl⟩
  · rw [State.item_freeSlot_other _ _ _ _ hk] at *
    exact h k hst hros

theorem NoneStaged.freeLeaving (h : NoneStaged s r) (q : Nat) : NoneStaged (freeLeaving s q) r :=
  List.foldlRecOn _ _ (motive := fun t : State => NoneStaged t r) h fun t ht k _ => by
    split
    · exact ht
    · exact ht.freeSlot k _

/-- An item with its staging applied (R194). -/
noncomputable def Item.applied (i : Item) : Item := { i with stagedArm := false, leaving := i.leaving || i.stagedCancel, stagedCancel := false }

theorem armed_item_mem (h : (s.item k).st = .armed) : (k, s.item k) ∈ s.tln.items := by
  rw [State.item, SMap.get] at h ⊢
  cases hf : s.tln.items.find k with
  | none =>
    rw [hf] at h
    cases h
  | some i => exact SMap.mem_of_find hf

theorem applyStaged_noneStaged (s : State) (r : Nat) : NoneStaged (applyStaged s r) r := by
  unfold applyStaged
  refine NoneStaged.freeLeaving (fun k => ?_) r
  have hother (t : State) (j : Nat) (hj : j ≠ k) : (t.setItem j (t.item j).applied).item k = t.item k := State.item_setItem_other _ _ _ _ hj.symm
  have hkeep (t : State) (j : Nat) : ((t.setItem j (t.item j).applied).item k).st = (t.item k).st ∧
      ((t.setItem j (t.item j).applied).item k).roster = (t.item k).roster := by
    by_cases hj : j = k
    · subst hj
      rw [State.item_setItem_same]
      exact ⟨rfl, rfl⟩
    · rw [hother t j hj]
      exact ⟨rfl, rfl⟩
  generalize hks : (s.tln.items.filter _).map (·.1) = ks
  have hst : ((ks.foldl (fun s k => s.setItem k (s.item k).applied) s).item k).st = (s.item k).st :=
    foldl_keeps (g := fun t : State => (t.item k).st) (P := fun _ => True) (fun _ _ _ _ => trivial) (fun t _ j _ => (hkeep t j).1) trivial
  have hros : ((ks.foldl (fun s k => s.setItem k (s.item k).applied) s).item k).roster = (s.item k).roster :=
    foldl_keeps (g := fun t : State => (t.item k).roster) (P := fun _ => True) (fun _ _ _ _ => trivial) (fun t _ j _ => (hkeep t j).2) trivial
  intro harmed hr
  have hmem : k ∈ ks := by
    rw [← hks]
    exact List.mem_map.2 ⟨(k, s.item k), List.mem_filter.2 ⟨armed_item_mem (hst.symm.trans harmed),
      decide_eq_true ⟨hst.symm.trans harmed, hros.symm.trans hr⟩⟩, rfl⟩
  constructor
  · refine foldl_settles_always (g := fun t : State => (t.item k).stagedArm) (fun t => ?_) (fun t j _ hj => ?_) hmem
    · rw [State.item_setItem_same]
    · exact congrArg _ (hother t j hj)
  · refine foldl_settles_always (g := fun t : State => (t.item k).stagedCancel) (fun t => ?_) (fun t j _ hj => ?_) hmem
    · rw [State.item_setItem_same]
    · exact congrArg _ (hother t j hj)

theorem NoneStaged.settleRoster (h : NoneStaged s r) : NoneStaged (settleRoster s r) r := by
  unfold Machine.settleRoster
  dsimp only
  split
  · exact applyStaged_noneStaged _ r
  · exact (h.congr (t := s.setRos r _) fun _ => rfl).freeLeaving r

/-! ## The start of a period -/

/-- What a period start leaves of the timeline. -/
structure PeriodStarted (s t : State) (r n : Nat) : Prop where
  shown : t.get (TLN_ROS_STATUS_period r) = n % 65536
  started : n < (t.ros r).startedTo
  next : n < (t.ros r).nextN
  axes : t.tln.axes = s.tln.axes
  staged : NoneStaged t r
  others : ∀ q, q ≠ r → t.ros q = s.ros q

theorem PeriodStarted.addDue (h : PeriodStarted s t r n) (ds : List Due) : PeriodStarted s (addDue t ds) r n :=
  ⟨h.shown, h.started, h.next, h.axes, h.staged, h.others⟩

theorem PeriodStarted.settle (h : PeriodStarted s t r n) : PeriodStarted s (settleRoster t r) r n := by
  obtain ⟨⟨ps, hr⟩, ho⟩ := settleRoster_ros t r
  refine ⟨?_, ?_, ?_, (settleRoster_axes t r).trans h.axes, h.staged.settleRoster, fun q hq => (ho q hq).trans (h.others q hq)⟩
  · rw [State.get, settleRoster_rd]
    exact h.shown
  · rw [hr]
    exact h.started
  · rw [hr]
    exact h.next

theorem startPeriod_started (s : State) (d : Due) (r n : Nat) : PeriodStarted s (startPeriod s d r n) r n := by
  unfold startPeriod
  extract_lets s1 src s2 ms x f passed now ros s3 s4 cyc s5 s6
  refine PeriodStarted.settle ?_
  have hslots : OnlySlots s s1 := applyStaged_onlySlots s r
  have hne : (TLN_ROS_STATUS_period r).r.addr ≠ (TLN_ROS_MEMBERS_count r).r.addr := by
    simp only [TLN_ROS_STATUS_period, TLN_ROS_STATUS, TLN_ROS_MEMBERS_count, TLN_ROS_MEMBERS]
    omega
  have h4 : PeriodStarted s s4 r n := by
    refine ⟨?_, ?_, ?_, hslots.axes, (applyStaged_noneStaged s r).congr fun _ => rfl, fun q hq => ?_⟩
    · rw [show s4 = (s3.put (TLN_ROS_STATUS_period r) n).put (TLN_ROS_MEMBERS_count r) ms.length from rfl, State.get_put_reg _ _ _ _ hne, State.get_put _ rfl]
      rfl
    · rw [show s4.ros r = s3.ros r from rfl, State.ros_setRos_same]
      exact Nat.lt_of_lt_of_le (Nat.lt_succ_self n) (Nat.le_max_right ..)
    · rw [show s4.ros r = s3.ros r from rfl, State.ros_setRos_same]
      exact Nat.lt_of_lt_of_le (Nat.lt_succ_self n) (Nat.le_max_right ..)
    · rw [show s4.ros q = s3.ros q from rfl, State.ros_setRos_other _ _ hq]
      exact hslots.ros q
  unfold s6
  split
  · exact (h4.addDue _).addDue _
  · exact h4.addDue _

/-! ## Enable and disable -/

theorem outDirty_only (s : State) : outDirty s = { s with regs := (outDirty s).regs } := by
  unfold outDirty
  split <;> rfl

theorem outDirty_get (s : State) {f : Fd} (h : f.r.addr ≠ SYS_OUT_STATUS.addr) : (outDirty s).get f = s.get f := by
  unfold outDirty
  split
  · exact State.get_put_reg _ _ _ _ h
  · rfl

theorem rosCfg_ne_outStatus (r : Nat) : (TLN_ROS_CFG r).addr ≠ SYS_OUT_STATUS.addr := by
  simp only [TLN_ROS_CFG, SYS_OUT_STATUS]
  omega

theorem outDirty_rosOn (s : State) (r : Nat) : rosOn (outDirty s) r = rosOn s r :=
  congrArg (· == 1) (outDirty_get s (rosCfg_ne_outStatus r))

theorem outDirty_rosAxis (s : State) (r : Nat) : rosAxis (outDirty s) r = rosAxis s r := outDirty_get s (rosCfg_ne_outStatus r)

theorem changing_congr (hs : t.get SYS_OUT_STATUS_state = s.get SYS_OUT_STATUS_state) (hc : t.get SYS_OUT_CFG_roster = s.get SYS_OUT_CFG_roster)
    (ho : t.out = s.out) (r : Nat) : changing t r = changing s r := by
  rw [changing, hs, hc, ho, changing]

theorem changing_outDirty (s : State) (r : Nat) : changing (outDirty s) r = changing s r := by
  refine changing_congr ?_ (outDirty_get s (by decide)) (by rw [outDirty_only]) r
  unfold outDirty
  split
  · exact State.get_put_apart _ _ _ rfl rfl rfl rfl
  · rfl

theorem changing_put_rosCfg (s : State) (r q : Nat) (f : Fd) (n : Nat) (h : f.r = TLN_ROS_CFG r) : changing (s.put f n) q = changing s q := by
  have hne : ∀ g : Fd, g.r.addr < 0x40001000 → (s.put f n).get g = s.get g := fun g hg =>
    s.get_put_reg f g n (by rw [h]; simp only [TLN_ROS_CFG]; omega)
  exact changing_congr (hne _ (by decide)) (hne _ (by decide)) rfl q

/-- Enabling a roster: its bit, its next period, and perhaps a start that is due. -/
theorem rosterEnableFrom_cases (s : State) (r x : Nat) : rosterEnableFrom s r x = s ∨ ∃ y : Roster,
    rosterEnableFrom s r x = (s.putB (TLN_ROS_CFG_en r) true).setRos r y ∨ ∃ ds, rosterEnableFrom s r x = addDue ((s.putB (TLN_ROS_CFG_en r) true).setRos r y) ds := by
  by_cases h : rosOn s r = true
  · exact .inl (if_pos h)
  · right
    rw [rosterEnableFrom, if_neg h]
    extract_lets t ros n v a
    refine ⟨{ ros with nextN := n }, ?_⟩
    split
    · exact .inr ⟨_, rfl⟩
    · exact .inl rfl

theorem State.setRos_slots (s : State) (r : Nat) (x : Roster) : (s.setRos r x).tln.items = s.tln.items ∧ (s.setRos r x).tln.axes = s.tln.axes := ⟨rfl, rfl⟩
theorem addDue_slots (s : State) (ds : List Due) : (addDue s ds).tln.items = s.tln.items ∧ (addDue s ds).tln.axes = s.tln.axes := ⟨rfl, rfl⟩

theorem rosterEnableFrom_slots (s : State) (r x : Nat) : (rosterEnableFrom s r x).tln.items = s.tln.items ∧
    (rosterEnableFrom s r x).tln.axes = s.tln.axes := by
  have hset (y : Roster) : ((s.putB (TLN_ROS_CFG_en r) true).setRos r y).tln.items = s.tln.items ∧ ((s.putB (TLN_ROS_CFG_en r) true).setRos r y).tln.axes = s.tln.axes := by
    rw [(State.setRos_slots ..).1, (State.setRos_slots ..).2, State.putB_tln]
    exact ⟨rfl, rfl⟩
  obtain h | ⟨y, h | ⟨ds, h⟩⟩ := rosterEnableFrom_cases s r x <;> rw [h]
  · exact ⟨rfl, rfl⟩
  · exact hset y
  · rw [(addDue_slots ..).1, (addDue_slots ..).2]
    exact hset y

theorem rosterEnableFrom_axis (s : State) (r x : Nat) : rosAxis (rosterEnableFrom s r x) r = rosAxis s r := by
  have hput := State.get_put_apart s (n := b2n true) (TLN_ROS_CFG_en r) (TLN_ROS_CFG_axis r) rfl rfl rfl rfl
  obtain h | ⟨y, h | ⟨ds, h⟩⟩ := rosterEnableFrom_cases s r x <;> rw [h]
  · exact hput
  · exact hput

/-- Whether an entry of the due queue stays when roster `r` is disabled (R195): all but its starts, and these where a change waits for one. -/
noncomputable def staysDue (s : State) (r : Nat) (d : Due) : Bool := match d.kind with | .period q _ => q ≠ r || changing s r | _ => true

theorem staysDue_outDirty (s : State) (r : Nat) : staysDue (outDirty s) r = staysDue s r :=
  funext fun d => by rw [staysDue, staysDue, changing_outDirty]

theorem rosterDisable_due (h : rosOn s r = true) : (rosterDisable s r).tln.due = s.tln.due.filter (staysDue s r) := by
  rw [rosterDisable, if_pos h]
  refine (settleRoster_due ..).trans (List.filter_congr fun d _ => ?_)
  unfold staysDue
  rw [← changing_put_rosCfg s r r (TLN_ROS_CFG_en r) 0 rfl]
  rfl

theorem rosterDisable_axes (s : State) (r : Nat) : (rosterDisable s r).tln.axes = s.tln.axes := by
  unfold rosterDisable
  split
  · exact settleRoster_axes ..
  · rfl

theorem dirtied_tln (s : State) (r n : Nat) : (if rosOn s r = true then outDirty s else (outDirty s).put (TLN_ROS_CFG_axis r) n).tln = s.tln := by
  have h : (outDirty s).tln = s.tln := by rw [outDirty_only]
  split
  · exact h
  · exact (State.put_tln ..).trans h

theorem leafOf_rosCfg : ∀ r < 64, leafOf (TLN_ROS_CFG r).addr = none := by decide

/-- A write of TLN_ROSr_CFG, granted (R195). -/
theorem rosterWrite_zero (hr : ctlReached s = true) (h0 : r ≠ 0) (hr64 : r < 64) (axis : Nat) (en : Bool) : rosterWrite s 0 r axis en =
    let u := if rosOn s r = true then outDirty s else (outDirty s).put (TLN_ROS_CFG_axis r) axis
    if en = true then rosterEnable u r else rosterDisable u r := by
  have hg := granted_zero (r := TLN_ROS_CFG r) (f := fun s =>
    if r = 0 then s
    else
      let s := outDirty s
      let s := if rosOn s r then s else s.put (TLN_ROS_CFG_axis r) axis
      if en then rosterEnable s r else rosterDisable s r) hr (leafOf_rosCfg r hr64)
  refine hg.trans ((if_neg h0).trans ?_)
  dsimp only
  rw [outDirty_rosOn]

end

/-! ## Wake items (R201) -/

section
variable {s : State} {k : Nat}

theorem leadReached_iff (n p : Nat) : leadReached s n p = true ↔
    ahead (s.axis n).pos p = false ∨ fwdDist (s.axis n).pos p ≤ max 1 (s.get TLN_WAKE_LEAD_ms) * 500000 := by
  rw [leadReached, leadCounts, Bool.or_eq_true, Bool.not_eq_true', decide_eq_true_iff]

theorem firePositions_single (h : (s.item k).roster = 0) : firePositions s k = [(s.item k).pos] := if_pos h

theorem wakesNow_iff : wakesNow s k = true ↔ wakeable s = true ∧ (s.item k).st = .armed ∧ (s.item k).wake = true ∧ (s.item k).axis < 2 ∧
    (s.item k).wakeDone = false ∧ (firePositions s k).any (leadReached s (s.item k).axis) = true := by
  simp only [wakesNow, Bool.and_eq_true, beq_iff_eq, decide_eq_true_iff, Bool.not_eq_true', and_assoc]

end

/-- Settles O20: a granted write of TLN_ROSr_CFG by `rosterWrite_zero`, a period by `startPeriod_started`, a wake item by `wakesNow_iff`. -/
theorem rostersStartAndStop : Obligations.RostersStartAndStop := by
  unfold Obligations.RostersStartAndStop
  intro s r h0
  have hne : r.val ≠ 0 := fun e => h0 (Fin.ext e)
  refine ⟨fun hr x => ⟨?enable, fun w hw => ?refused⟩, fun hr => ?disable, fun d ds n hrun hdue hkind hon hch => ?period, fun k => ?wake⟩
  case enable =>
    refine ⟨_, congrArg Host.Outcome.next (rosterWrite_zero hr hne r.isLt x.val true), ?_⟩
    dsimp only
    rw [if_pos rfl]
    obtain ⟨hi, ha⟩ := rosterEnableFrom_slots (if rosOn s r = true then outDirty s else (outDirty s).put (TLN_ROS_CFG_axis r) x) r
      ((if rosOn s r = true then outDirty s else (outDirty s).put (TLN_ROS_CFG_axis r) x).axis
        (rosAxis (if rosOn s r = true then outDirty s else (outDirty s).put (TLN_ROS_CFG_axis r) x) r)).pos
    have htln := dirtied_tln s r x.val
    refine ⟨rosterEnableFrom_en _, (rosterEnableFrom_axis ..).trans ?_, hi.trans (congrArg (·.items) htln), ha.trans (congrArg (·.axes) htln), fun hon => ?_⟩
    · split
      · exact outDirty_rosAxis s r
      · exact State.get_put_of_lt _ rfl x.isLt
    · rw [if_pos hon]
      exact if_pos ((outDirty_rosOn s r).trans hon)
  case refused => exact congrArg Host.Outcome.next (granted_other hr hw)
  case disable =>
    refine ⟨_, congrArg Host.Outcome.next (rosterWrite_zero hr hne r.isLt (rosAxis s r) false), ?_⟩
    dsimp only
    rw [if_neg Bool.false_ne_true]
    refine ⟨rosterDisable_en, (rosterDisable_axes ..).trans (congrArg (·.axes) (dirtied_tln s r _)), fun hon => ?_⟩
    · rw [if_pos hon, rosterDisable_due ((outDirty_rosOn s r).trans hon)]
      have hd : (outDirty s).tln.due = s.tln.due := by rw [outDirty_only]
      rw [hd]
      refine List.filter_congr fun d _ => ?_
      exact congrFun (staysDue_outDirty s r) d
  case period =>
    have hstart : fireStart (withDue s ds) d r n = startPeriod (withDue s ds) d r n := by
      have hch' : ¬ changing (withDue s ds) r = true := by
        rw [show changing (withDue s ds) r = changing s r from rfl, hch]
        decide
      rw [fireStart, if_neg hch']
      exact if_pos hon
    have h := startPeriod_started (withDue s ds) d r n
    exact ⟨_, (rosterPeriodStart_served hrun hdue hkind).trans (congrArg _ hstart), h.shown, h.started, h.next, h.axes, h.staged, h.others⟩
  case wake =>
    intro i lead near
    have hlead (hros : i.roster = 0) : (firePositions s k).any (leadReached s i.axis) = true ↔ near := by
      rw [firePositions_single hros, List.any_cons, List.any_nil, Bool.or_false, leadReached_iff]
    refine ⟨fun hw hst hwk hdone hax hros hnear => ?_, fun h => ?_⟩
    · exact congrArg Host.Outcome.next (if_pos (wakesNow_iff.2 ⟨hw, hst, hwk, hax, hdone, (hlead hros).2 hnear⟩))
    · refine congrArg Host.Outcome.next (if_neg fun hwakes => ?_)
      obtain ⟨hw, hst, hwk, hax, hdone, hany⟩ := wakesNow_iff.1 hwakes
      rcases h with h | h | h | h | h | ⟨hros, hfar⟩
      · exact Bool.false_ne_true (h.symm.trans hw)
      · exact Nat.not_lt.2 h hax
      · exact Bool.false_ne_true (h.symm.trans hwk)
      · exact Bool.false_ne_true (hdone.symm.trans h)
      · exact h hst
      · exact hfar ((hlead hros).1 hany)

end Sys2Proof.Machine
end

section
/-! ALIVE, the watchdog and SAFE_N (R474, R475, R481), and a forward step from a position out of its range (R173). -/
namespace Sys2Proof.Machine
open Sys2Proof Reg

section
variable {s : State}

theorem boxRuns_of_runs (h : clkRuns s = true) (f : State → State) : boxRuns s f = f s := if_pos h
theorem boxRuns_of_not (h : clkRuns s = false) (f : State → State) : boxRuns s f = s := if_neg (by rw [h]; decide)

theorem windowOver_iff : windowOver s = true ↔ perRuns s = false ∨ s.pwr.kickAt + 495000 * max 1 (s.get FLT_ALIVE_win) ≤ a1Now s := by
  rw [windowOver, Bool.or_eq_true, Bool.not_eq_true', decide_eq_true_iff]

theorem wakeRequest_of_not_wakeable (h : wakeable s = false) (code detail : Nat) (same : Bool) : wakeRequest s code detail same = s :=
  if_pos (by rw [h]; rfl)

end

/-- Settles O52: each input of the box by the branch it takes. -/
theorem aliveWatchdogAndSafeN : Obligations.AliveWatchdogAndSafeN := by
  unfold Obligations.AliveWatchdogAndSafeN
  intro s
  refine ⟨fun h => ?silent, fun ha hc => ?toggles, ⟨fun h => ?waits, fun hc hk he => ?expires⟩, fun hr => ?kick, fun hr w i hb => ?swraise,
    fun hw => ?low, ⟨_, rfl, ?high⟩, rfl⟩
  case silent =>
    refine congrArg Host.Outcome.next ?_
    cases hc : clkRuns s with
    | false => exact boxRuns_of_not hc _
    | true =>
      rw [boxRuns_of_runs hc]
      exact if_neg fun ha => h.elim (fun h => Bool.false_ne_true (h.symm.trans ha)) fun h => Bool.false_ne_true (h.symm.trans hc)
  case toggles => exact congrArg Host.Outcome.next ((boxRuns_of_runs hc _).trans (if_pos ha))
  case waits =>
    refine congrArg Host.Outcome.next ?_
    cases hc : clkRuns s with
    | false => exact boxRuns_of_not hc _
    | true =>
      rw [boxRuns_of_runs hc]
      refine if_neg fun hgo => ?_
      obtain ⟨hk, ho⟩ := Bool.and_eq_true_iff.1 hgo
      rcases h with h | h | h
      · exact Bool.false_ne_true (h.symm.trans hc)
      · exact Bool.false_ne_true (h.symm.trans hk)
      · exact h (windowOver_iff.1 ho)
  case expires =>
    have hgo : (s.bit FLT_ALIVE_kick && windowOver s) = true := Bool.and_eq_true_iff.2 ⟨hk, windowOver_iff.2 he⟩
    exact congrArg Host.Outcome.next ((boxRuns_of_runs hc _).trans (if_pos hgo))
  case kick => exact congrArg Host.Outcome.next ((granted_zero hr rfl).trans (if_pos rfl))
  case swraise =>
    have hgrant : swRaise s w i = s.raise (192 + i) := by
      unfold swRaise
      rw [hb]
      exact State.granted_ok s w FLT_SWRAISE _ hr (gatedOff_of_leafless rfl)
    have hstays : stays (192 + i.val) = false := by
      simp only [stays, Bool.or_eq_false_iff, beq_eq_false_iff_ne, Bool.and_eq_false_iff, decide_eq_false_iff_not]
      omega
    refine congrArg Host.Outcome.next (hgrant.trans ?_)
    rw [State.raise, hstays]
  case low =>
    exact congrArg Host.Outcome.next (wakeRequest_of_not_wakeable (s := (s.putB FLT_STATUS_safen true).raise 1) hw 9 0 false)
  case high =>
    have hne : FLT_STATUS_safen.r.addr ≠ (FLT_SRC_raised 1).r.addr := by decide
    refine ⟨(State.bit_put_reg hne).trans (State.bit_putB _ rfl), State.bit_putB _ rfl, rfl, ?_⟩
    exact (RegsBut.refl.putB List.mem_cons_self).putB (List.mem_cons_of_mem _ List.mem_cons_self)

/-! ## A forward step that is pending on an axis above its range -/

/-- A running engine at a boundary with a step pending, whose A0 stands at 2^62: no counter of 62 bits holds this, and no run reaches it. -/
noncomputable def beyondRange : State :=
  { State.reset with
    regs := [(TLN_A0_STATUS.addr, setBits 0 TLN_A0_STATUS_steppend.hi TLN_A0_STATUS_steppend.lo 1), (CLK_STATUS.addr, setBits 0 CLK_STATUS_pll1.hi CLK_STATUS_pll1.lo 1)]
    pwr := { PwrSt.init with phase := .run }
    tln := { TlnSt.init with atBound := true, off := 0, axes := [(0, { Axis.init with pos := 2 ^ 62 })] } }

/-- The offset holds no whole period, so the step leaves the axis where it is. -/
theorem beyondRange_stays : ((boundary beyondRange).axis 0).pos = 2 ^ 62 := by decide

/-- Refutes O22: a step by no period leaves the position as it is, which modulo 2^62 is another one where it is 2^62 or more. -/
theorem not_pulsesAndForwardSteps : ¬ Obligations.PulsesAndForwardSteps := by
  unfold Obligations.PulsesAndForwardSteps
  intro h
  obtain ⟨-, -, -, -, hstep⟩ := h beyondRange (by decide)
  obtain ⟨-, t, ht, hpos, -⟩ := hstep rfl (by decide)
  have hexec : exec .a0StepApply beyondRange = .next (boundary beyondRange) := congrArg Host.Outcome.next (if_pos (by decide))
  have hsame : t = boundary beyondRange := Host.Outcome.next.inj (ht.symm.trans hexec)
  rw [hsame, beyondRange_stays] at hpos
  exact absurd hpos (by decide)

end Sys2Proof.Machine
end

section
/-! The budget manager (R273 to R276). -/
namespace Sys2Proof.Machine
open Sys2Proof Reg

/-! ## What a cap that goes to its die leaves -/

/-- Nothing has changed but caps, the bits that show them, events and the die links. -/
structure CapLeaves (s t : State) : Prop where
  rest : t = { s with regs := t.regs, evq := t.evq, lnk := t.lnk, psw := { s.psw with chans := t.psw.chans } }
  rd : ∀ q : Rg, (∀ c, q.addr ≠ (PSW_CH_STATUS c).addr) → t.rd q = s.rd q
  chan : ∀ c, t.chan c = { s.chan c with cap := (t.chan c).cap }

section
variable {s t u : State} {c d e k : Nat} {up : Bool}

theorem CapLeaves.refl : CapLeaves s s := ⟨rfl, fun _ _ => rfl, fun _ => rfl⟩

theorem CapLeaves.trans (h : CapLeaves s t) (h' : CapLeaves t u) : CapLeaves s u where
  rest := h'.rest.trans (by rw [h.rest])
  rd q hq := (h'.rd q hq).trans (h.rd q hq)
  chan c := (h'.chan c).trans (by rw [h.chan c])

theorem CapLeaves.of_lnk (h : t = { s with lnk := t.lnk, evq := t.evq }) : CapLeaves s t where
  rest := by rw [h]
  rd q _ := by rw [h]; rfl
  chan c := by rw [h]; rfl

theorem CapLeaves.raiseQ (h : CapLeaves s t) : t.raiseQ = s.raiseQ := by rw [h.rest]
theorem CapLeaves.wm (h : CapLeaves s t) : t.wm = s.wm := by rw [h.rest]
theorem CapLeaves.pwr (h : CapLeaves s t) : t.pwr = s.pwr := by rw [h.rest]
theorem CapLeaves.upd (h : CapLeaves s t) : t.upd = s.upd := by rw [h.rest]
theorem CapLeaves.bist (h : CapLeaves s t) : t.bist = s.bist := by rw [h.rest]

theorem CapLeaves.dieReached (h : CapLeaves s t) (d : Nat) : dieReached t d = dieReached s d := by
  have hA : t.psw.dieA = s.psw.dieA := by rw [h.rest]
  have hB : t.psw.dieB = s.psw.dieB := by rw [h.rest]
  unfold Machine.dieReached State.die
  rw [hA, hB]

theorem not_chStatus {a : Nat} (h : a < 0x40100000) (c : Nat) : a ≠ (PSW_CH_STATUS c).addr := by
  simp only [PSW_CH_STATUS]
  omega

theorem CapLeaves.dieLinked (h : CapLeaves s t) (d : Nat) : dieLinked t d = dieLinked s d := by
  unfold Machine.dieLinked linkState
  rw [h.rd SYS_LINK_STATUS (not_chStatus (by decide))]

theorem CapLeaves.dieFed (h : CapLeaves s t) (d : Nat) : dieFed t d = dieFed s d := by
  unfold Machine.dieFed idleOnly
  rw [h.dieLinked, State.get_congr (h.rd FLT_STATUS (not_chStatus (by decide))), h.upd, h.bist]

theorem chan_setChan_same (s : State) (c : Nat) (x : Chan) : (s.setChan c x).chan c = x := SMap.get_set_same _ _ _ _
theorem chan_setChan_other (s : State) (x : Chan) (h : d ≠ c) : (s.setChan c x).chan d = s.chan d := SMap.get_set_other _ _ _ _ _ _ h

/-! ## A cap taken by its die -/

/-- The cap of a channel put in force. -/
noncomputable def capped (s : State) (c k : Nat) : State := s.modChan c fun x => { x with cap := k }

theorem capped_chan_same : (capped s c k).chan c = { s.chan c with cap := k } := chan_setChan_same ..
theorem capped_chan_other (h : d ≠ c) : (capped s c k).chan d = s.chan d := chan_setChan_other _ _ h

theorem capped_leaves : CapLeaves s (capped s c k) where
  rest := rfl
  rd _ _ := rfl
  chan d := by
    by_cases h : d = c
    · subst h
      rw [capped_chan_same]
    · rw [capped_chan_other h]

/-- The bit that shows a cap below the highest. -/
noncomputable def capShown (s : State) (c k : Nat) : State := if k < 16 then s.putB (PSW_CH_STATUS_s_cap c) true else s

theorem capShown_rest : capShown s c k = { s with regs := (capShown s c k).regs } := by
  unfold capShown
  split <;> rfl

theorem capShown_leaves : CapLeaves s (capShown s c k) where
  rest := by rw [capShown_rest]
  rd q hq := by
    unfold capShown
    split
    · exact State.rd_putB_other _ _ _ _ (hq c)
    · rfl
  chan d := by rw [capShown_rest]; rfl

theorem takeCap_eq : takeCap s c k = if (s.chan c).cap = k then s else chEvent (capShown (capped s c k) c k) c 7 k := rfl

theorem dieEvent_lnk (src pay : Nat) : dieEvent s d src pay = { s with lnk := (dieEvent s d src pay).lnk, evq := (dieEvent s d src pay).evq } := by
  unfold dieEvent
  rcases dieTells_cases (s := s) d (.event src pay) (fun s => s.event src pay) with h | h | h <;> rw [h]
  · rfl
  · rw [queueFrame_only]

theorem chEvent_lnk (code detail : Nat) : chEvent s c code detail = { s with lnk := (chEvent s c code detail).lnk, evq := (chEvent s c code detail).evq } := by
  unfold chEvent
  dsimp only
  split
  · exact dieEvent_lnk _ _
  · rfl

theorem chEvent_leaves (code detail : Nat) : CapLeaves s (chEvent s c code detail) := .of_lnk (chEvent_lnk code detail)
theorem chEvent_chan (code detail : Nat) : (chEvent s c code detail).chan d = s.chan d := by
  rw [chEvent_lnk]
  rfl

theorem takeCap_leaves : CapLeaves s (takeCap s c k) := by
  rw [takeCap_eq]
  split
  · exact .refl
  · exact (capped_leaves.trans capShown_leaves).trans (chEvent_leaves _ _)

theorem capShown_chan : (capShown s c k).chan d = s.chan d := by
  rw [capShown_rest]
  rfl

theorem takeCap_cap_same : ((takeCap s c k).chan c).cap = k := by
  rw [takeCap_eq]
  split
  next h => exact h
  next => rw [chEvent_chan, capShown_chan, capped_chan_same]

theorem takeCap_chan_other (h : d ≠ c) : (takeCap s c k).chan d = s.chan d := by
  rw [takeCap_eq]
  split
  · rfl
  · rw [chEvent_chan, capShown_chan, capped_chan_other h]

/-! ## A cap on its way -/

theorem exchange_leaves : CapLeaves s (exchange s d) := .of_lnk (by rw [exchange_only])
theorem queueFrame_leaves (b : FrameBody) : CapLeaves s (queueFrame s d up b) := .of_lnk (by rw [queueFrame_only])
theorem exchange_chan : (exchange s d).chan c = s.chan c := rfl
theorem queueFrame_chan (b : FrameBody) : (queueFrame s d up b).chan c = s.chan c := rfl

theorem setCap_cases : setCap s c k = s ∨
    (dieReached s (dieOf c) = true ∧ linkClear s (dieOf c) = true ∧ setCap s c k = exchange (takeCap s c k) (dieOf c)) ∨
    (linkClear s (dieOf c) = false ∧ setCap s c k = queueFrame s (dieOf c) false (.cap c k)) := by
  unfold setCap
  split
  · exact .inl rfl
  · rcases viaDie_cases (s := s) (dieOf c) (.cap c k) (fun s => takeCap s c k) with ⟨-, h⟩ | ⟨hr, hc, h⟩ | ⟨-, hc, h⟩
    · exact .inl h
    · exact .inr (.inl ⟨hr, hc, h⟩)
    · exact .inr (.inr ⟨hc, h⟩)

theorem setCap_leaves : CapLeaves s (setCap s c k) := by
  rcases setCap_cases (s := s) (c := c) (k := k) with h | ⟨-, -, h⟩ | ⟨-, h⟩ <;> rw [h]
  · exact .refl
  · exact takeCap_leaves.trans exchange_leaves
  · exact queueFrame_leaves _

theorem setCap_chan_other (hd : d ≠ c) : (setCap s c k).chan d = s.chan d := by
  rcases setCap_cases (s := s) (c := c) (k := k) with h | ⟨-, -, h⟩ | ⟨-, h⟩ <;> rw [h]
  · exact exchange_chan.trans (takeCap_chan_other hd)
  · exact queueFrame_chan _

theorem setCap_cap : ((setCap s c k).chan c).cap = (s.chan c).cap ∨ ((setCap s c k).chan c).cap = k := by
  rcases setCap_cases (s := s) (c := c) (k := k) with h | ⟨-, -, h⟩ | ⟨-, h⟩ <;> rw [h]
  · exact .inl rfl
  · exact .inr ((congrArg Chan.cap exchange_chan).trans takeCap_cap_same)
  · exact .inl (congrArg Chan.cap (queueFrame_chan _))

/-- A die that is off, or to which no frame with a body goes, keeps its caps. -/
theorem setCap_unfed (h : dieReached s (dieOf d) = false ∨ dieFed s (dieOf d) = false) : (setCap s c k).chan d = s.chan d := by
  by_cases hd : d = c
  · subst hd
    rcases setCap_cases (s := s) (c := d) (k := k) with e | ⟨hr, hc, e⟩ | ⟨-, e⟩
    · rw [e]
    · rcases h with h | h
      · exact absurd (h.symm.trans hr) (by decide)
      · rw [linkClear, h] at hc
        exact absurd hc (by simp)
    · rw [e]
      exact queueFrame_chan _
  · exact setCap_chan_other hd

/-! ## A die with nothing under way -/

/-- A power die that is reached, with nothing under way on its links. -/
structure Quiet (s : State) (d : Nat) : Prop where
  reached : dieReached s d = true
  clear : linkClear s d = true
  down : (s.dir d false).unacked = []
  up : (s.dir d true).unacked = []

theorem LinkDir.clear_iff {x : LinkDir} : x.clear = true ↔ x.room = true ∧ x.expect = x.next ∧ x.waiting = [] := by
  rw [LinkDir.clear, Bool.and_eq_true, Bool.and_eq_true, beq_iff_eq, List.isEmpty_iff, and_assoc]

theorem linkClear_iff : linkClear s d = true ↔ dieFed s d = true ∧ (s.dir d false).clear = true ∧ (s.dir d true).clear = true := by
  rw [linkClear, Bool.and_eq_true, Bool.and_eq_true, and_assoc]

theorem LinkDir.pass_clear {x : LinkDir} (h : x.clear = true) : x.pass.clear = true := by
  obtain ⟨hr, -, hw⟩ := LinkDir.clear_iff.1 h
  exact LinkDir.clear_iff.2 ⟨hr, rfl, hw⟩

/-- The die stays quiet where its directions stay. -/
theorem Quiet.congr (h : Quiet s d) (hl : CapLeaves s t) (hd : ∀ up, t.dir d up = s.dir d up) : Quiet t d := by
  obtain ⟨hf, h0, h1⟩ := linkClear_iff.1 h.clear
  refine ⟨(hl.dieReached d).trans h.reached, linkClear_iff.2 ⟨(hl.dieFed d).trans hf, ?_, ?_⟩, ?_, ?_⟩ <;> rw [hd]
  · exact h0
  · exact h1
  · exact h.down
  · exact h.up

theorem exchange_dir_same : (exchange s d).dir d up = (s.dir d up).pass := by
  unfold exchange
  cases up
  · rw [State.dir_setDir_other _ (.inr (by decide)), State.dir_setDir_same]
  · rw [State.dir_setDir_same, State.dir_setDir_other _ (.inr (by decide))]

theorem Quiet.exchange (h : Quiet s d) : Quiet (exchange s d) d := by
  obtain ⟨hf, h0, h1⟩ := linkClear_iff.1 h.clear
  refine ⟨(exchange_leaves.dieReached d).trans h.reached, linkClear_iff.2 ⟨(exchange_leaves.dieFed d).trans hf, ?_, ?_⟩, ?_, ?_⟩ <;> rw [exchange_dir_same]
  · exact LinkDir.pass_clear h0
  · exact LinkDir.pass_clear h1
  · exact h.down
  · exact h.up

theorem Quiet.settled (h : Quiet s d) : dieSettled s d true = true := by
  obtain ⟨hf, -, h1⟩ := linkClear_iff.1 h.clear
  obtain ⟨-, -, hw⟩ := LinkDir.clear_iff.1 h1
  have hl : dieLinked s d = true := (Bool.and_eq_true_iff.1 (Bool.and_eq_true_iff.1 hf).1).1
  rw [dieSettled, hl, hw, h.up]
  rfl

/-- The device runs, so that its dies tell what happens. -/
def Running (s : State) : Prop := s.pwr.phase = .run ∨ s.pwr.phase = .doze

theorem Running.congr (h : Running s) (hl : CapLeaves s t) : Running t := by
  unfold Running
  rw [hl.pwr]
  exact h

theorem dieTells_of_quiet (hp : Running s) (h : Quiet s d) (b : FrameBody) (f : State → State) : dieTells s d b f = f s := by
  have hgo : (dieReached s d && dieSettled s d true) = true := by rw [h.reached, h.settled]; rfl
  unfold dieTells
  rcases hp with hp | hp <;> rw [hp] <;> exact if_pos hgo

theorem chEvent_dir_of_quiet (hp : Running s) (h : Quiet s (dieOf c)) (code detail : Nat) : (chEvent s c code detail).dir d up = s.dir d up := by
  unfold chEvent
  dsimp only
  split
  · rw [dieEvent, dieTells_of_quiet hp h]
    rfl
  · rfl

theorem dieEvent_dir_other (h : d ≠ e) (src pay : Nat) : (dieEvent s e src pay).dir d up = s.dir d up := by
  unfold dieEvent
  rcases dieTells_cases (s := s) e (.event src pay) (fun s => s.event src pay) with h' | h' | h' <;> rw [h']
  · rfl
  · exact queueFrame_dir_other _ h

theorem chEvent_dir_other (h : d ≠ dieOf c) (code detail : Nat) : (chEvent s c code detail).dir d up = s.dir d up := by
  unfold chEvent
  dsimp only
  split
  · exact dieEvent_dir_other h _ _
  · rfl

theorem capShown_dir : (capShown s c k).dir d up = s.dir d up := by
  rw [capShown_rest]
  rfl

theorem Quiet.takeCap (hp : Running s) (h : Quiet s d) (c k : Nat) : Quiet (takeCap s c k) d := by
  rw [takeCap_eq]
  split
  · exact h
  · have hl : CapLeaves s (capShown (capped s c k) c k) := capped_leaves.trans capShown_leaves
    have hdir : ∀ up, (capShown (capped s c k) c k).dir d up = s.dir d up := fun _ => capShown_dir
    have hq : Quiet (capShown (capped s c k) c k) d := h.congr hl hdir
    refine hq.congr (chEvent_leaves _ _) fun up => ?_
    by_cases hd : d = dieOf c
    · subst hd
      exact chEvent_dir_of_quiet (hp.congr hl) hq _ _
    · exact chEvent_dir_other hd _ _

theorem Quiet.setCap (hp : Running s) (h : Quiet s d) (c k : Nat) : Quiet (setCap s c k) d := by
  rcases setCap_cases (s := s) (c := c) (k := k) with e | ⟨-, -, e⟩ | ⟨hc, e⟩ <;> rw [e]
  · exact h
  · by_cases hd : d = dieOf c
    · subst hd
      exact (h.takeCap hp c k).exchange
    · exact (h.takeCap hp c k).congr exchange_leaves fun _ => exchange_dir_other hd
  · have hd : d ≠ dieOf c := fun hd => by
      rw [← hd, h.clear] at hc
      cases hc
    exact h.congr (queueFrame_leaves _) fun _ => queueFrame_dir_other _ hd

/-- A quiet die has a new cap at once. -/
theorem setCap_of_quiet (h : Quiet s (dieOf c)) (k : Nat) : ((setCap s c k).chan c).cap = k := by
  obtain ⟨-, h0, -⟩ := linkClear_iff.1 h.clear
  obtain ⟨-, -, hw⟩ := LinkDir.clear_iff.1 h0
  have hsent : capSent s c = (s.chan c).cap := by
    rw [capSent, underWay, h.down, hw]
    rfl
  rw [Machine.setCap, hsent]
  split
  next e => exact e
  next =>
    rw [viaDie, if_neg (by rw [h.reached]; decide), if_pos h.clear]
    exact (congrArg Chan.cap exchange_chan).trans takeCap_cap_same

/-! ## The caps of all channels -/

/-- The caps handed to the channels in turn. -/
noncomputable def setCaps (f : Nat → Nat) (s : State) : State := (List.range 104).foldl (fun s c => setCap s c (f c)) s

variable {f : Nat → Nat}

theorem setCaps_leaves : CapLeaves s (setCaps f s) :=
  List.foldlRecOn _ _ (motive := CapLeaves s) .refl fun _ h _ _ => h.trans setCap_leaves

theorem setCaps_cap : ((setCaps f s).chan c).cap = (s.chan c).cap ∨ ((setCaps f s).chan c).cap = f c :=
  List.foldlRecOn _ _ (motive := fun t : State => (t.chan c).cap = (s.chan c).cap ∨ (t.chan c).cap = f c) (.inl rfl) fun t h x _ => by
    by_cases hx : c = x
    · subst hx
      rcases setCap_cap (s := t) (c := c) (k := f c) with e | e
      · rwa [e]
      · exact .inr e
    · rwa [setCap_chan_other hx]

theorem setCaps_of_quiet (hp : Running s) (hc : c < 104) (h : Quiet s (dieOf c)) : ((setCaps f s).chan c).cap = f c :=
  foldl_settles (g := fun t : State => (t.chan c).cap) (P := fun t => Running t ∧ Quiet t (dieOf c))
    (fun _ _ _ ht => ⟨ht.1.congr setCap_leaves, ht.2.setCap ht.1 _ _⟩) (fun _ ht => setCap_of_quiet ht.2 _)
    (fun _ _ _ _ hx => congrArg Chan.cap (setCap_chan_other hx.symm)) (List.mem_range.2 hc) ⟨hp, h⟩

theorem setCaps_unfed (h : dieReached s (dieOf c) = false ∨ dieFed s (dieOf c) = false) : (setCaps f s).chan c = s.chan c :=
  foldl_keeps (g := fun t : State => t.chan c) (P := fun t => dieReached t (dieOf c) = false ∨ dieFed t (dieOf c) = false)
    (fun _ _ _ ht => by rwa [setCap_leaves.dieReached, setCap_leaves.dieFed]) (fun _ ht _ _ => setCap_unfed ht) h

end

/-! ## The caps that a run reaches -/

section
variable {s : State} {caps : List Nat} {c lv k : Nat}

/-- A list of caps as R275 allows it: none for priority 3, and none below the lower of the floor and the former cap. -/
structure CapsAllowed (s : State) (caps : List Nat) : Prop where
  length : caps.length = 104
  top : ∀ c, c < 104 → s.get (PSW_BUD_prio c) = 3 → caps.getD c 16 = 16
  low : ∀ c, c < 104 → min (floorOf s c) (s.chan c).cap ≤ caps.getD c 16

/-- The caps of a list changed channel by channel stay allowed where each does. -/
theorem CapsAllowed.mapIdx (h : CapsAllowed s caps) {g : Nat × Nat → Nat}
    (hg : ∀ x c, (s.get (PSW_BUD_prio c) = 3 → x = 16 → g (x, c) = 16) ∧ (min (floorOf s c) (s.chan c).cap ≤ x → min (floorOf s c) (s.chan c).cap ≤ g (x, c))) :
    CapsAllowed s (caps.zipIdx.map g) := by
  have hget (c : Nat) (hc : c < 104) : (caps.zipIdx.map g).getD c 16 = g (caps.getD c 16, c) := by
    have hl : c < caps.length := h.length ▸ hc
    simp [List.getD_eq_getElem?_getD, hl]
  refine ⟨by simp [h.length], fun c hc hp => ?_, fun c hc => ?_⟩ <;> rw [hget c hc]
  · exact (hg _ c).1 hp (h.top c hc hp)
  · exact (hg _ c).2 (h.low c hc)

theorem CapsAllowed.levelCaps (h : CapsAllowed s caps) (cs : List Nat) (hlv : lv ≠ 3) : CapsAllowed s (levelCaps s cs lv k caps) := by
  refine h.mapIdx fun x c => ⟨fun hp hx => ?_, fun hx => ?_⟩
  · refine (if_neg ?_).trans hx
    simp [hp, hlv.symm]
  · dsimp only
    split
    · exact (Nat.min_le_left ..).trans (Nat.le_max_right ..)
    · exact hx

theorem CapsAllowed.reduceCaps (cs q : List Nat) (bound : ℚ) {ls : List Nat} (hls : ∀ l ∈ ls, l ≠ 3) (h : CapsAllowed s caps) :
    CapsAllowed s (reduceCaps s cs q bound ls caps).1 := by
  induction ls generalizing caps with
  | nil => exact h
  | cons lv ls ih =>
    unfold Machine.reduceCaps
    have hlv : lv ≠ 3 := hls lv List.mem_cons_self
    split
    · exact h
    · split
      · exact h.levelCaps cs hlv
      · exact ih (fun l hl => hls l (List.mem_cons_of_mem _ hl)) (h.levelCaps cs hlv)

theorem CapsAllowed.raiseCaps (h : CapsAllowed s caps) : CapsAllowed s (raiseCaps s caps) := by
  unfold Machine.raiseCaps
  split
  next lv _ =>
    refine h.mapIdx fun x c => ⟨fun hp hx => ?_, fun hx => ?_⟩ <;> dsimp only <;> split
    · rw [hx]
      rfl
    · exact hx
    · have hfloor : min (floorOf s c) (s.chan c).cap ≤ 16 := (Nat.min_le_left ..).trans (Nat.min_le_left ..)
      omega
    · exact hx
  next => exact h

theorem startCaps_allowed (s : State) : CapsAllowed s ((List.range 104).map fun c => if s.get (PSW_BUD_prio c) = 3 then 16 else (s.chan c).cap) := by
  have hget (c : Nat) (hc : c < 104) : ((List.range 104).map fun c => if s.get (PSW_BUD_prio c) = 3 then 16 else (s.chan c).cap).getD c 16 =
      if s.get (PSW_BUD_prio c) = 3 then 16 else (s.chan c).cap := by
    simp [List.getD_eq_getElem?_getD, hc]
  refine ⟨by simp, fun c hc hp => ?_, fun c hc => ?_⟩ <;> rw [hget c hc]
  · exact if_pos hp
  · split
    · exact (Nat.min_le_left ..).trans (Nat.min_le_left ..)
    · exact Nat.min_le_right ..

end

/-! ## The run -/

/-- Nothing has changed but what the budget manager shows. -/
structure Estimated (s u : State) : Prop where
  rest : u = { s with regs := u.regs }
  rd : ∀ q : Rg, q.addr < 0x40130000 → u.rd q = s.rd q
  prio : ∀ c, u.get (PSW_BUD_prio c) = s.get (PSW_BUD_prio c)
  floor : ∀ c, u.get (PSW_BUD_floor c) = s.get (PSW_BUD_floor c)

section
variable {s u v : State} {n : Nat} {caps : List Nat}

theorem Estimated.refl : Estimated s s := ⟨rfl, fun _ _ => rfl, fun _ => rfl, fun _ => rfl⟩

theorem Estimated.trans (h : Estimated s u) (h' : Estimated u v) : Estimated s v where
  rest := h'.rest.trans (by rw [h.rest])
  rd q hq := (h'.rd q hq).trans (h.rd q hq)
  prio c := (h'.prio c).trans (h.prio c)
  floor c := (h'.floor c).trans (h.floor c)

theorem budReg_inj {c d : Nat} (h : c ≠ d) : (PSW_BUD d).addr ≠ (PSW_BUD c).addr := by
  simp only [PSW_BUD]
  omega

theorem Estimated.est (c n : Nat) : Estimated s (s.put (PSW_BUD_est c) n) where
  rest := rfl
  rd q hq := State.rd_put_other _ _ _ _ (by simp only [PSW_BUD_est, PSW_BUD]; omega)
  prio d := by
    by_cases h : c = d
    · subst h
      exact State.get_put_apart _ _ _ rfl rfl rfl rfl
    · exact State.get_put_reg _ _ _ _ (budReg_inj h)
  floor d := by
    by_cases h : c = d
    · subst h
      exact State.get_put_apart _ _ _ rfl rfl rfl rfl
    · exact State.get_put_reg _ _ _ _ (budReg_inj h)

theorem Estimated.status {f : Fd} (hf : f.r = PSW_BUD_STATUS) (n : Nat) : Estimated s (s.put f n) := by
  have hne (c : Nat) : (PSW_BUD c).addr ≠ f.r.addr := by
    rw [hf]
    simp only [PSW_BUD, PSW_BUD_STATUS]
    omega
  refine ⟨rfl, fun q hq => State.rd_put_other _ _ _ _ ?_, fun c => State.get_put_reg _ _ _ _ (hne c), fun c => State.get_put_reg _ _ _ _ (hne c)⟩
  rw [hf]
  simp only [PSW_BUD_STATUS]
  omega

theorem Estimated.dieReached (h : Estimated s u) (d : Nat) : dieReached u d = dieReached s d := by
  rw [h.rest]
  rfl

theorem Estimated.dieFed (h : Estimated s u) (d : Nat) : dieFed u d = dieFed s d := by
  have hu : u.upd = s.upd := by rw [h.rest]
  have hb : u.bist = s.bist := by rw [h.rest]
  unfold Machine.dieFed dieLinked linkState idleOnly State.get FLT_STATUS_mode
  rw [h.rd SYS_LINK_STATUS (by decide), h.rd FLT_STATUS (by decide), hu, hb]

theorem Estimated.dir (h : Estimated s u) (d : Nat) (up : Bool) : u.dir d up = s.dir d up := by
  rw [h.rest]
  rfl

theorem Estimated.chan (h : Estimated s u) (c : Nat) : u.chan c = s.chan c := by
  rw [h.rest]
  rfl

theorem Estimated.quiet (h : Estimated s u) {d : Nat} (hq : Quiet s d) : Quiet u d := by
  obtain ⟨hf, h0, h1⟩ := linkClear_iff.1 hq.clear
  refine ⟨(h.dieReached d).trans hq.reached, linkClear_iff.2 ⟨(h.dieFed d).trans hf, ?_, ?_⟩, ?_, ?_⟩ <;> rw [h.dir]
  · exact h0
  · exact h1
  · exact hq.down
  · exact hq.up

theorem Estimated.running (h : Estimated s u) (hp : Running s) : Running u := by
  rw [h.rest]
  exact hp

theorem Estimated.floorOf (h : Estimated s u) (c : Nat) : floorOf u c = floorOf s c := by
  rw [Machine.floorOf, h.floor, Machine.floorOf]

/-- The outcome of a run shown. -/
noncomputable def budgetShown (ok : Bool) (s : State) : State :=
  let s := s.putB PSW_BUD_STATUS_exhausted (! ok)
  if ok then s else s.raise 70

/-- A run with the manager enabled: estimates shown, and then allowed caps handed to the channels. -/
theorem budgetRun_enabled (hp : Running s) (hen : s.bit PSW_BUD_CFG_en = true) (fixed : Nat) (ms : List ChanMeas) :
    ∃ u caps ok, Estimated s u ∧ CapsAllowed u caps ∧ budgetRun s fixed ms = budgetShown ok (setCaps (caps.getD · 16) u) := by
  have hgo : ¬ (! (s.pwr.phase == .run || s.pwr.phase == .doze)) = true := by
    rcases hp with h | h <;> rw [h] <;> decide
  rw [budgetRun, if_neg hgo, if_neg (by rw [hen]; decide)]
  extract_lets all ceil lim b est cur total u1 u caps0
  have hu1 : Estimated s u1 := List.foldlRecOn _ _ (motive := Estimated s) .refl fun _ h c _ => h.trans (.est c _)
  have hu : Estimated s u := (hu1.trans (.status rfl _)).trans (.status rfl _)
  have hlow : ∀ l ∈ [0, 1, 2], l ≠ 3 := by decide
  have h1 : CapsAllowed u (reduceCaps u all est (10 * b : ℚ) [0, 1, 2] caps0).1 := (startCaps_allowed u).reduceCaps _ _ _ hlow
  clear_value u caps0
  generalize reduceCaps u all est (10 * b : ℚ) [0, 1, 2] caps0 = q at h1 ⊢
  obtain ⟨caps1, ok1⟩ := q
  dsimp only
  generalize hfold : List.foldl _ (caps1, ok1) _ = q
  have h2 : CapsAllowed u q.1 := by
    rw [← hfold]
    exact List.foldlRecOn _ _ (motive := fun r : List Nat × Bool => CapsAllowed u r.1) h1 fun _ h _ _ => h.reduceCaps _ _ _ hlow
  refine ⟨u, _, q.2, hu, ?_, rfl⟩
  split
  · exact h2.raiseCaps
  · exact h2

theorem budgetRun_idle (h1 : s.pwr.phase ≠ .run) (h2 : s.pwr.phase ≠ .doze) (fixed : Nat) (ms : List ChanMeas) : budgetRun s fixed ms = s :=
  if_pos (by rw [beq_false_of_ne h1, beq_false_of_ne h2]; rfl)

theorem budgetRun_disabled (hp : Running s) (hen : s.bit PSW_BUD_CFG_en = false) (fixed : Nat) (ms : List ChanMeas) :
    budgetRun s fixed ms = setCaps (fun _ => 16) s := by
  have hgo : ¬ (! (s.pwr.phase == .run || s.pwr.phase == .doze)) = true := by
    rcases hp with h | h <;> rw [h] <;> decide
  rw [budgetRun, if_neg hgo, if_pos (by rw [hen]; rfl)]
  rfl

theorem budgetShown_chan (ok : Bool) (c : Nat) : (budgetShown ok s).chan c = s.chan c := by
  cases ok <;> rfl

theorem budgetShown_rd (ok : Bool) {q : Rg} (hq : q.addr < 0x40130000) : (budgetShown ok s).rd q = s.rd q := by
  have h : (s.putB PSW_BUD_STATUS_exhausted (! ok)).rd q = s.rd q := State.rd_putB_other _ _ _ _ (by
    simp only [PSW_BUD_STATUS_exhausted, PSW_BUD_STATUS]
    omega)
  cases ok <;> exact h

theorem budgetShown_raiseQ (ok : Bool) : (budgetShown ok s).raiseQ =
    s.raiseQ ++ (if (budgetShown ok s).bit PSW_BUD_STATUS_exhausted = true then [⟨70, false, false, 0⟩] else []) := by
  have h : (budgetShown ok s).bit PSW_BUD_STATUS_exhausted = ! ok := by
    have hput : (s.putB PSW_BUD_STATUS_exhausted (! ok)).bit PSW_BUD_STATUS_exhausted = ! ok := State.bit_putB _ rfl
    cases ok <;> exact hput
  rw [h]
  cases ok
  · rfl
  · exact (List.append_nil _).symm

theorem budgetShown_wm (ok : Bool) : (budgetShown ok s).wm = s.wm := by
  cases ok <;> rfl

end

/-- Settles O31: the caps of a run are allowed, and each goes to its channel alone. -/
theorem budgetRunsCapTheLowerLevels : Obligations.BudgetRunsCapTheLowerLevels := by
  unfold Obligations.BudgetRunsCapTheLowerLevels
  intro s fixed ms quiet
  have hquiet {d : Nat} (h : quiet d) : Quiet s d := ⟨h.1, h.2.1, h.2.2.1, h.2.2.2⟩
  refine ⟨fun h1 h2 => congrArg Host.Outcome.next (budgetRun_idle h1 h2 fixed ms), fun hp => ⟨fun hen => ?disabled, fun hen => ?enabled⟩⟩
  case disabled =>
    refine ⟨_, congrArg Host.Outcome.next (budgetRun_disabled hp hen fixed ms), fun c hq => ?_⟩
    exact setCaps_of_quiet (f := fun _ => 16) hp c.isLt (hquiet hq)
  case enabled =>
    obtain ⟨u, caps, ok, hu, hcaps, hrun⟩ := budgetRun_enabled hp hen fixed ms
    have hpu : Running u := hu.running hp
    have hleft : CapLeaves u (setCaps (caps.getD · 16) u) := setCaps_leaves
    refine ⟨_, congrArg Host.Outcome.next hrun, fun c => ⟨fun h3 hq => ?_, fun hoff => ?_, ?_, ?_, ?_, ?_⟩, ?_, ?_⟩
    · rw [budgetShown_chan, setCaps_of_quiet hpu c.isLt (hu.quiet (hquiet hq))]
      exact hcaps.top c c.isLt ((hu.prio c).trans h3)
    · rw [budgetShown_chan, setCaps_unfed (by rwa [hu.dieReached, hu.dieFed]), hu.chan]
    · have hlow := hcaps.low c c.isLt
      rw [hu.floorOf, hu.chan] at hlow
      rw [budgetShown_chan]
      rcases setCaps_cap (s := u) (c := c) (f := (caps.getD · 16)) with h | h <;> rw [h]
      · rw [hu.chan]
        exact Nat.min_le_right ..
      · exact hlow
    · have hr : (PSW_CH_STATE c).addr < 0x40130000 := by
        simp only [PSW_CH_STATE]
        omega
      rw [budgetShown_rd ok hr, hleft.rd _ fun x => by simp only [PSW_CH_STATE, PSW_CH_STATUS]; omega, hu.rd _ hr]
    · rw [budgetShown_chan, hleft.chan, hu.chan]
    · rw [budgetShown_chan, hleft.chan, hu.chan]
    · have hq : (setCaps (caps.getD · 16) u).raiseQ = s.raiseQ := hleft.raiseQ.trans (by rw [hu.rest])
      exact (budgetShown_raiseQ ok).trans (by rw [hq])
    · rw [budgetShown_wm, hleft.wm, hu.rest]

end Sys2Proof.Machine
end

section
/-! Position axes: how they count, lose their source and load (R172 to R178). -/
namespace Sys2Proof.Machine
open Sys2Proof Reg

section
variable {s t u : State} {n m r k : Nat}

@[simp] theorem State.axis_setAxis_same (s : State) (n : Nat) (x : Axis) : (s.setAxis n x).axis n = x := SMap.get_set_same _ _ _ _
theorem State.axis_setAxis_other (s : State) (x : Axis) (h : m ≠ n) : (s.setAxis n x).axis m = s.axis m := SMap.get_set_other _ _ _ _ _ _ h

theorem State.axis_congr (h : t.tln.axes = s.tln.axes) (n : Nat) : t.axis n = s.axis n := by rw [State.axis, h, State.axis]

/-! ## What rosters do to the timeline -/

/-- Nothing has changed but rosters, items, the due queue and the registers of the rosters. -/
structure OnlyRosters (s t : State) : Prop where
  rest : t = { s with regs := t.regs, tln := { s.tln with items := t.tln.items, freeQ := t.tln.freeQ, rosters := t.tln.rosters, due := t.tln.due } }
  rd : ∀ q : Rg, ¬ RosterReg q.addr → t.rd q = s.rd q

theorem OnlyRosters.refl : OnlyRosters s s := ⟨rfl, fun _ _ => rfl⟩

theorem OnlyRosters.trans (h : OnlyRosters s t) (h' : OnlyRosters t u) : OnlyRosters s u where
  rest := h'.rest.trans (by rw [h.rest])
  rd q hq := (h'.rd q hq).trans (h.rd q hq)

theorem OnlyRosters.setRos (x : Roster) : OnlyRosters s (s.setRos r x) := ⟨rfl, fun _ _ => rfl⟩
theorem OnlyRosters.addDue (ds : List Due) : OnlyRosters s (addDue s ds) := ⟨rfl, fun _ _ => rfl⟩

theorem OnlyRosters.skipPeriods (hr : r < 64) (k : Nat) : OnlyRosters s (skipPeriods s r k) where
  rest := rfl
  rd q hq := State.rd_put_other _ _ _ _ fun e => hq (by
    rw [e]
    simp only [RosterReg, TLN_ROS_STATUS_skipped, TLN_ROS_STATUS]
    omega)

theorem OnlySlots.onlyRosters (h : OnlySlots s t) : OnlyRosters s t where
  rest := by
    unfold OnlySlots at h
    rw [h]
  rd q _ := h.rd q

theorem OnlyRosters.settleRoster : OnlyRosters s (settleRoster s r) := by
  obtain ⟨ps, h⟩ := settleRoster_onlySlots s r
  exact (OnlyRosters.setRos _).trans h.onlyRosters

theorem OnlyRosters.axes (h : OnlyRosters s t) : t.tln.axes = s.tln.axes := by rw [h.rest]

theorem mem_rosOf (h : r ∈ rosOf s n) : r < 64 := by
  obtain ⟨j, hj, rfl⟩ := List.mem_map.1 (List.mem_filter.1 h).1
  have := List.mem_range.1 hj
  omega

/-- The rosters of an axis that has been loaded: periods dropped and skipped, and nothing new is due (R174). -/
theorem loadRosters_only (n : Nat) (fwd : Bool) : OnlyRosters s (loadRosters s n fwd) ∧ (loadRosters s n fwd).tln.due = s.tln.due := by
  unfold loadRosters
  refine List.foldlRecOn _ _ (motive := fun t : State => OnlyRosters s t ∧ t.tln.due = s.tln.due) ⟨.refl, rfl⟩ fun t ht r hr => ?_
  extract_lets ros passed done low nx u
  have hu : OnlyRosters t u := .setRos _
  refine ⟨((ht.1.trans hu).trans (.skipPeriods (mem_rosOf hr) _)).trans .settleRoster, (settleRoster_due ..).trans ?_⟩
  exact ht.2

/-! ## Counting -/

theorem State.get_withTln (s : State) (x : TlnSt) (f : Fd) : ({ s with tln := x } : State).get f = s.get f := rfl
theorem State.bit_withTln (s : State) (x : TlnSt) (f : Fd) : ({ s with tln := x } : State).bit f = s.bit f := rfl
theorem RegsBut.withTln {rs : List Rg} (h : RegsBut rs s t) (x : TlnSt) : RegsBut rs s { t with tln := x } := h

theorem State.rest_withTln (h : u = { s with regs := u.regs, tln := u.tln }) (x : TlnSt) : { u with tln := x } = { s with regs := u.regs, tln := x } := by
  rw [h]

theorem unpend_only (ds : List Due) : unpend s ds = { s with tln := { s.tln with rosters := (unpend s ds).tln.rosters } } := by
  refine List.foldlRecOn ds _ (motive := fun t : State => t = { s with tln := { s.tln with rosters := t.tln.rosters } }) rfl fun t ht d _ => ?_
  split
  · rw [ht]
    rfl
  · exact ht

theorem addDue_unpend (ds es : List Due) : addDue (unpend s ds) es =
    { s with tln := { s.tln with rosters := (unpend s ds).tln.rosters, due := (addDue (unpend s ds) es).tln.due } } := by
  rw [addDue, unpend_only]

/-- An axis at a new position, with the way it has come. -/
noncomputable def moved (s : State) (n pos m : Nat) : State := s.setAxis n { s.axis n with pos := pos % 2 ^ 62, travel := (s.axis n).travel + m }

theorem addDue_unpend_moved {v : State} (pos : Nat) (hv : v = { s with tln := { (moved s n pos m).tln with a0Before := v.tln.a0Before } }) (ds es : List Due) :
    ∃ x : TlnSt, addDue (unpend v ds) es = { s with tln := x } ∧ x.items = s.tln.items ∧ x.axes = (moved s n pos m).tln.axes := by
  refine ⟨{ v.tln with rosters := (unpend v ds).tln.rosters, due := (addDue (unpend v ds) es).tln.due }, ?_, ?_, ?_⟩
  · refine (addDue_unpend ..).trans ?_
    generalize (unpend v ds).tln.rosters = ro
    generalize (addDue (unpend v ds) es).tln.due = du
    rw [hv]
  · exact (congrArg (fun t : State => t.tln.items) hv).trans rfl
  · exact (congrArg (fun t : State => t.tln.axes) hv).trans rfl

theorem moved_ite (s : State) (n pos m a0 : Nat) (c : Prop) [Decidable c] :
    (if c then { moved s n pos m with tln := { (moved s n pos m).tln with a0Before := a0 } } else moved s n pos m) =
      { s with tln := { (moved s n pos m).tln with
        a0Before := (if c then { moved s n pos m with tln := { (moved s n pos m).tln with a0Before := a0 } } else moved s n pos m).tln.a0Before } } := by
  split <;> rfl

/-- An axis that moves takes its position; beside the axes, rosters, the due queue and A0's former position, nothing changes. -/
theorem moveAxis_only (n pos m : Nat) (fwd late starts : Bool) : ∃ x : TlnSt, moveAxis s n pos m fwd late starts = { s with tln := x } ∧
    x.items = s.tln.items ∧ x.axes = (moved s n pos m).tln.axes :=
  addDue_unpend_moved (s := s) (n := n) (m := m) pos (moved_ite ..) _ _

/-- The direction noted: the sign, the reversals, and that the axis has counted. -/
theorem noteDir_only (n : Nat) (back : Bool) : noteDir s n back =
    { s with regs := (noteDir s n back).regs, tln := (s.setAxis n { s.axis n with counted := true }).tln } := by
  unfold noteDir
  dsimp only
  split <;> rfl

theorem noteDir_tln (n : Nat) (back : Bool) : (noteDir s n back).tln = (s.setAxis n { s.axis n with counted := true }).tln :=
  (congrArg State.tln (noteDir_only (s := s) n back)).trans rfl

theorem noteDir_rest (n : Nat) (back : Bool) : noteDir s n back = { s with regs := (noteDir s n back).regs, tln := (noteDir s n back).tln } := by
  rw [noteDir_tln]
  exact noteDir_only n back

theorem noteDir_regs (n : Nat) (back : Bool) : RegsBut [TLN_AX_STATUS n] s (noteDir s n back) ∧ (noteDir s n back).bit (TLN_AX_STATUS_dir n) = back ∧
    (noteDir s n back).get (TLN_AX_STATUS_rev n) = (if (s.axis n).counted = true ∧ s.bit (TLN_AX_STATUS_dir n) ≠ back then
      min 255 (s.get (TLN_AX_STATUS_rev n) + 1) else s.get (TLN_AX_STATUS_rev n)) := by
  unfold noteDir
  extract_lets a v
  have hv : RegsBut [TLN_AX_STATUS n] s v ∧ v.get (TLN_AX_STATUS_rev n) = (if (s.axis n).counted = true ∧ s.bit (TLN_AX_STATUS_dir n) ≠ back then
      min 255 (s.get (TLN_AX_STATUS_rev n) + 1) else s.get (TLN_AX_STATUS_rev n)) := by
    unfold v
    by_cases h : (s.axis n).counted = true ∧ s.bit (TLN_AX_STATUS_dir n) ≠ back
    · rw [if_pos h, if_pos (by rw [Bool.and_eq_true, bne_iff_ne]; exact h)]
      exact ⟨RegsBut.refl.count List.mem_cons_self, State.get_count _ rfl⟩
    · rw [if_neg h, if_neg (by rw [Bool.and_eq_true, bne_iff_ne]; exact h)]
      exact ⟨RegsBut.refl, rfl⟩
  have hput : RegsBut [TLN_AX_STATUS n] s (v.putB (TLN_AX_STATUS_dir n) back) := hv.1.putB List.mem_cons_self
  exact ⟨hput, State.bit_putB v rfl, (State.get_put_apart v (TLN_AX_STATUS_dir n) (TLN_AX_STATUS_rev n) rfl rfl rfl rfl).trans hv.2⟩

/-- An axis that has counted one step. -/
structure Counted (s t : State) (n : Nat) (back : Bool) : Prop where
  pos : (t.axis n).pos = (if back then (s.axis n).pos + (2 ^ 62 - 1) else (s.axis n).pos + 1) % 2 ^ 62
  dir : t.bit (TLN_AX_STATUS_dir n) = back
  rev : t.get (TLN_AX_STATUS_rev n) = (if (s.axis n).counted = true ∧ s.bit (TLN_AX_STATUS_dir n) ≠ back then
    min 255 (s.get (TLN_AX_STATUS_rev n) + 1) else s.get (TLN_AX_STATUS_rev n))
  items : t.tln.items = s.tln.items
  rest : t = { s with regs := t.regs, tln := t.tln }
  regs : RegsBut [TLN_AX_STATUS n] s t

theorem countAxis_counted (n : Nat) (back : Bool) : Counted s (countAxis s n 1 back) n (back != s.bit (TLN_AX_CFG_inv n)) := by
  unfold countAxis
  dsimp only
  generalize (back != s.bit (TLN_AX_CFG_inv n)) = b
  obtain ⟨hregs, hdir, hrev⟩ := noteDir_regs (s := s) n b
  have hax : (noteDir s n b).axis n = { s.axis n with counted := true } :=
    (State.axis_congr (congrArg TlnSt.axes (noteDir_tln n b)) n).trans (s.axis_setAxis_same n _)
  have hitems : (noteDir s n b).tln.items = s.tln.items := (congrArg TlnSt.items (noteDir_tln (s := s) n b)).trans rfl
  have hrest := noteDir_rest (s := s) n b
  have hpos : ((noteDir s n b).axis n).pos = (s.axis n).pos := (congrArg Axis.pos hax).trans rfl
  rw [hpos]
  generalize noteDir s n b = u at *
  obtain ⟨x, hm, hi, ha⟩ := moveAxis_only (s := u) n (if b then (s.axis n).pos + 2 ^ 62 - 1 else (s.axis n).pos + 1) 1 (! b) false true
  rw [hm]
  refine ⟨?_, (State.bit_withTln ..).trans hdir, (State.get_withTln ..).trans hrev, hi.trans hitems, State.rest_withTln hrest _, hregs.withTln x⟩
  have hpos : ({ u with tln := x } : State).axis n = { u.axis n with
      pos := (if b then (s.axis n).pos + 2 ^ 62 - 1 else (s.axis n).pos + 1) % 2 ^ 62, travel := (u.axis n).travel + 1 } :=
    (State.axis_congr ha n).trans (State.axis_setAxis_same ..)
  rw [hpos]
  cases b with
  | true => rw [if_pos rfl, if_pos rfl, Nat.add_sub_assoc Nat.one_le_two_pow]
  | false => rw [if_neg Bool.false_ne_true, if_neg Bool.false_ne_true]

/-- Levels kept with a count leave it a count. -/
theorem Counted.keep {back : Bool} (h : Counted s t n back) {x : Axis} (hx : x.pos = (t.axis n).pos) : Counted s (t.setAxis n x) n back where
  pos := by rw [State.axis_setAxis_same, hx, h.pos]
  dir := h.dir
  rev := h.rev
  items := h.items
  rest := by rw [State.setAxis, h.rest]
  regs := h.regs

/-- A count of an axis whose source's levels have been noted is a count. -/
theorem Counted.of_setAxis {back : Bool} {x : Axis} (h : Counted (s.setAxis n x) t n back) (hp : x.pos = (s.axis n).pos) (hc : x.counted = (s.axis n).counted) :
    Counted s t n back := by
  have hpos := h.pos
  have hrev := h.rev
  rw [State.axis_setAxis_same, hp] at hpos
  rw [State.axis_setAxis_same, hc] at hrev
  refine ⟨hpos, h.dir, hrev, h.items, ?_, h.regs⟩
  rw [h.rest]
  rfl

end

/-! ## What a source shows -/

section
variable {s : State} {n : Nat}

/-- Whether a source may move an axis at all. -/
def Follows (s : State) (n : Nat) : Prop := 2 ≤ n ∧ (s.axis n).lost = false ∧ (s.axis n).qual ≠ 3

theorem Follows.goes (h : Follows s n) : ¬ (n < 2 ∨ (s.axis n).lost = true ∨ (s.axis n).qual = 3) := by
  obtain ⟨h2, hl, hq⟩ := h
  rw [hl]
  simp only [Bool.false_eq_true, false_or]
  omega

theorem exec_axisSourceUpdate {n : Fin 8} (hc : clkRuns s = true) : exec (.axisSourceUpdate n) s = .next (sourceUpdate s n) :=
  congrArg Host.Outcome.next (if_pos hc)

theorem sourceUpdate_lines (h : Follows s n) (h4 : axisSrc s n = 4) (hl : lineCount s n ≠ (s.axis n).lines) :
    Counted s (sourceUpdate s n) n (s.bit (TLN_AX_CFG_inv n)) := by
  rw [sourceUpdate, if_neg h.goes]
  simp only [h4]
  rw [if_neg hl]
  have h := (countAxis_counted (s := s.setAxis n { s.axis n with lines := (s.axis n).lines + 1 }) n false).of_setAxis rfl rfl
  rwa [Bool.false_bne] at h

/-- A rising step of a pulse input counts by the level of the other one. -/
theorem sourceUpdate_pulse (h : Follows s n) (h2 : axisSrc s n = 2) (hA : (s.axis n).lvlA = false) (ha : dinLevel s (s.get (TLN_AX_CFG_ina n)) = true) :
    Counted s (sourceUpdate s n) n ((! (s.axis n).lvlB) != s.bit (TLN_AX_CFG_inv n)) := by
  rw [sourceUpdate, if_neg h.goes]
  simp only [h2]
  rw [hA, ha]
  exact (countAxis_counted n _).keep rfl

theorem sourceUpdate_quad {k : Nat} (h : Follows s n) (h1 : axisSrc s n = 1)
    (hk : quadStep (s.axis n).lvlA (s.axis n).lvlB (dinLevel s (s.get (TLN_AX_CFG_ina n))) (dinLevel s (s.get (TLN_AX_CFG_inb n))) = k) :
    (k = 1 → Counted s (sourceUpdate s n) n (false != s.bit (TLN_AX_CFG_inv n))) ∧
    (k = 2 → Counted s (sourceUpdate s n) n (true != s.bit (TLN_AX_CFG_inv n))) ∧
    (k = 3 → ∃ x : Axis, x.pos = (s.axis n).pos ∧ sourceUpdate s n = (s.count (TLN_AX_STATUS_steperr n)).setAxis n x) := by
  rw [sourceUpdate, if_neg h.goes]
  simp only [h1, hk]
  refine ⟨fun e => ?_, fun e => ?_, fun e => ?_⟩ <;> subst e
  · exact (countAxis_counted n false).keep rfl
  · exact (countAxis_counted n true).keep rfl
  · exact ⟨{ s.axis n with lvlA := dinLevel s (s.get (TLN_AX_CFG_ina n)), lvlB := dinLevel s (s.get (TLN_AX_CFG_inb n)) }, rfl, rfl⟩

/-- Between two samples, where both inputs changed, the direction cannot be told. -/
theorem quadStep_both {a b c d : Bool} (h : c ≠ a) (h' : d ≠ b) : quadStep a b c d = 3 := by
  revert a b c d
  decide

theorem quadStep_first {a b c d : Bool} (h : a = b) (h' : c ≠ a) (h'' : d = b) : quadStep a b c d = 1 := by
  revert a b c d
  decide

theorem quadStep_second {a b c d : Bool} (h : a = b) (h' : c = a) (h'' : d ≠ b) : quadStep a b c d = 2 := by
  revert a b c d
  decide

theorem sourceUpdate_still (h : (s.axis n).lost = true ∨ (s.axis n).qual = 3 ∨ n < 2 ∨ (axisSrc s n = 4 ∧ lineCount s n = (s.axis n).lines) ∨
    (axisSrc s n = 5 ∧ s.mtr.grid = false)) : sourceUpdate s n = s := by
  unfold sourceUpdate
  dsimp only
  split
  · rfl
  next hgo =>
    rcases h with h | h | h | ⟨h4, hl⟩ | ⟨h5, hg⟩
    · exact absurd (.inr (.inl h)) hgo
    · exact absurd (.inr (.inr h)) hgo
    · exact absurd (.inl h) hgo
    · simp only [h4]
      exact if_pos hl
    · simp only [h5, hg]
      exact if_neg Bool.false_ne_true

/-! ## Loads -/

theorem leafOf_seth : ∀ {n : Nat}, n < 8 → leafOf (TLN_AX_SETH n).addr = none := by decide

/-- A load by context 0 (R174). -/
theorem exec_axisLoad {n : Fin 8} (hr : ctlReached s = true) (hi : BitVec 30) : exec (.axisLoad 0 n hi) s = .next (axisLoad s n hi.toNat) :=
  congrArg Host.Outcome.next ((granted_zero hr (leafOf_seth n.isLt)).trans (if_pos rfl))

theorem setl_lt (s : State) (n : Nat) : s.get (TLN_AX_SETL_val n) < 2 ^ 32 := getBits_lt ..

/-- An axis but A0 and A1 that is loaded stands at the value written. -/
theorem axisLoad_axis (h2 : 2 ≤ n) (hi : BitVec 30) : ∃ t, axisLoad s n hi.toNat = t ∧ t.tln.due = s.tln.due ∧ (∀ m, m ≠ n → t.axis m = s.axis m) ∧
    t = { s with regs := t.regs, tln := t.tln } ∧ (t.axis n).pos = (if axisSrc s n = 5 then
      (hi.toNat * 2 ^ 32 + s.get (TLN_AX_SETL_val n)) / 65536 * 65536 + (s.axis n).pos % 65536 else hi.toNat * 2 ^ 32 + s.get (TLN_AX_SETL_val n)) := by
  have hfits : (hi.toNat * 2 ^ 32 + s.get (TLN_AX_SETL_val n)) % 2 ^ 62 = hi.toNat * 2 ^ 32 + s.get (TLN_AX_SETL_val n) := by
    have hs := setl_lt s n
    have hh := hi.isLt
    exact Nat.mod_eq_of_lt (by omega)
  rw [axisLoad, hfits, if_neg (by omega), if_neg (by omega)]
  dsimp only
  generalize (if axisSrc s n = 5 then (hi.toNat * 2 ^ 32 + s.get (TLN_AX_SETL_val n)) / 65536 * 65536 + (s.axis n).pos % 65536
    else hi.toNat * 2 ^ 32 + s.get (TLN_AX_SETL_val n)) = v
  obtain ⟨honly, hdue⟩ := loadRosters_only (s := s.setAxis n { s.axis n with pos := v }) n (fwdDist (s.axis n).pos v < 2 ^ 47)
  refine ⟨_, rfl, hdue, fun m hm => ?_, ?_, ?_⟩
  · exact (State.axis_congr honly.axes m).trans (State.axis_setAxis_other _ _ hm)
  · rw [honly.rest]
    rfl
  · rw [State.axis_congr honly.axes n, State.axis_setAxis_same]

end

/-- Settles O18: a count by `countAxis_counted`, a load by `axisLoad_axis`. -/
theorem axesCountLoseAndLoad : Obligations.AxesCountLoseAndLoad := by
  unfold Obligations.AxesCountLoseAndLoad
  intro s n a inv A B CountedBy
  have hcount {t : State} {back : Bool} (h : Counted s t n back) : CountedBy t back := ⟨h.pos, h.dir, h.rev, h.items, h.rest, h.regs⟩
  refine ⟨fun hc h2 hl hq => ?counts, fun h => ?still, fun h2 hl h0 => ?lost, fun h => ?kept, fun hl hw => ?returns, fun hi hr => ⟨fun h2 h5 => ?phase, fun h2 h5 => ?load, fun h => ?ignored, fun w hw => ?refused⟩⟩
  case counts =>
    have hf : Follows s n := ⟨h2, hl, hq⟩
    refine ⟨fun h4 hlines => ?_, fun hs hA ha => ?_, fun hs he hA hB => ?_, fun hs he hA hB => ?_, fun hs hA hB => ?_⟩
    · exact ⟨_, exec_axisSourceUpdate hc, hcount (sourceUpdate_lines hf h4 hlines)⟩
    · exact ⟨_, exec_axisSourceUpdate hc, hcount (sourceUpdate_pulse hf hs hA ha)⟩
    · have h := (sourceUpdate_quad hf hs (quadStep_first he hA hB)).1 rfl
      rw [Bool.false_bne] at h
      exact ⟨_, exec_axisSourceUpdate hc, hcount h⟩
    · have h := (sourceUpdate_quad hf hs (quadStep_second he hA hB)).2.1 rfl
      rw [Bool.true_bne] at h
      exact ⟨_, exec_axisSourceUpdate hc, hcount h⟩
    · obtain ⟨x, hx, h⟩ := (sourceUpdate_quad hf hs (quadStep_both hA hB)).2.2 rfl
      refine ⟨_, exec_axisSourceUpdate hc, ?_⟩
      rw [h]
      refine ⟨?_, State.get_count _ rfl, rfl, RegsBut.refl.count List.mem_cons_self⟩
      rw [State.axis_setAxis_same, hx]
  case still =>
    refine congrArg Host.Outcome.next ?_
    split
    · exact sourceUpdate_still h
    · rfl
  case lost =>
    have hgo : ¬ (n.val < 2 ∨ (s.axis n).lost = true ∨ axisSrc s n = 0) := by
      rintro (h | h | h)
      · omega
      · exact Bool.false_ne_true (hl.symm.trans h)
      · exact h0 h
    refine ⟨_, congrArg Host.Outcome.next (if_neg hgo), ?_, ?_, ?_, rfl, rfl⟩
    · exact congrArg Axis.qual (State.axis_setAxis_same ..)
    · exact congrArg Axis.lost (State.axis_setAxis_same ..)
    · exact (congrArg Axis.pos (State.axis_setAxis_same ..)).trans rfl
  case kept =>
    refine congrArg Host.Outcome.next (if_neg fun hgo => ?_)
    obtain ⟨hl, hw⟩ := Bool.and_eq_true_iff.1 hgo
    exact h.elim (fun h => Bool.false_ne_true (h.symm.trans hl)) fun h => Bool.false_ne_true (h.symm.trans hw)
  case returns =>
    refine ⟨_, congrArg Host.Outcome.next (if_pos (Bool.and_eq_true_iff.2 ⟨hl, hw⟩)), ?_, ?_, ?_, rfl⟩
    · exact congrArg Axis.qual (State.axis_setAxis_same ..)
    · exact congrArg Axis.lost (State.axis_setAxis_same ..)
    · exact (congrArg Axis.pos (State.axis_setAxis_same ..)).trans rfl
  case phase =>
    obtain ⟨t, ht, hdue, hother, hrest, hpos⟩ := axisLoad_axis (s := s) h2 hi
    rw [if_pos h5] at hpos
    exact ⟨t, (exec_axisLoad hr hi).trans (congrArg _ ht), hpos, hdue, hother, hrest⟩
  case load =>
    obtain ⟨t, ht, hdue, hother, hrest, hpos⟩ := axisLoad_axis (s := s) h2 hi
    rw [if_neg h5] at hpos
    exact ⟨t, (exec_axisLoad hr hi).trans (congrArg _ ht), hpos, hdue, hother, hrest⟩
  case ignored =>
    refine (exec_axisLoad hr hi).trans (congrArg _ ?_)
    rcases h with rfl | ⟨rfl, hq⟩
    · rfl
    · exact if_neg hq
  case refused => exact congrArg Host.Outcome.next (granted_other hr hw)

end Sys2Proof.Machine
end

section
/-! Network time: Syncs, their quality, peer delays and steps (R198 to R205). -/
namespace Sys2Proof.Machine
open Sys2Proof Reg

section
variable {s t u : State} {p : Nat} {net : Nat} {rate : Int}

/-- Nothing has changed but the pulse. -/
theorem pulseCheck_only (s : State) : pulseCheck s =
    { s with tln := { s.tln with pulseHigh := (pulseCheck s).tln.pulseHigh, pulseCfg := (pulseCheck s).tln.pulseCfg } } := by
  unfold pulseCheck
  dsimp only
  split <;> split <;> rfl

theorem pulseCheck_axes (s : State) : (pulseCheck s).tln.axes = s.tln.axes := by rw [pulseCheck_only]
theorem pulseCheck_regs (s : State) : (pulseCheck s).regs = s.regs := by rw [pulseCheck_only]
theorem pulseCheck_raiseQ (s : State) : (pulseCheck s).raiseQ = s.raiseQ := by rw [pulseCheck_only]
theorem pulseCheck_holdRunning (s : State) : (pulseCheck s).tln.holdRunning = s.tln.holdRunning := by rw [pulseCheck_only]

/-- A0 with another quality, all else of it and the registers as before (R203). -/
theorem setQual0_axis (s : State) (q : Nat) : (setQual0 s q).axis 0 = { s.axis 0 with qual := q } :=
  (State.axis_congr (pulseCheck_axes _) 0).trans (State.axis_setAxis_same ..)

theorem setQual0_regs (s : State) (q : Nat) : (setQual0 s q).regs = s.regs := pulseCheck_regs _
theorem setQual0_raiseQ (s : State) (q : Nat) : (setQual0 s q).raiseQ = s.raiseQ := pulseCheck_raiseQ _

/-! ## A0 set from network time -/

/-- What was raised stays raised, and only the recorder, its registers and raises have changed. -/
structure OnlyRecords (s t : State) : Prop where
  rest : t = { s with regs := t.regs, raiseQ := t.raiseQ, evr := t.evr }
  rd : ∀ q : Rg, ¬ RecordReg q.addr → t.rd q = s.rd q
  raised : ∀ x ∈ s.raiseQ, x ∈ t.raiseQ

theorem OnlyRecords.refl : OnlyRecords s s := ⟨rfl, fun _ _ => rfl, fun _ h => h⟩

theorem OnlyRecords.trans (h : OnlyRecords s t) (h' : OnlyRecords t u) : OnlyRecords s u where
  rest := h'.rest.trans (by rw [h.rest])
  rd q hq := (h'.rd q hq).trans (h.rd q hq)
  raised x hx := h'.raised x (h.raised x hx)

theorem OnlyRecords.modEvr (f : EvrSt → EvrSt) : OnlyRecords s (s.modEvr f) := ⟨rfl, fun _ _ => rfl, fun _ h => h⟩

theorem OnlyRecords.wr {r : Rg} (hr : RecordReg r.addr) (v : Word) : OnlyRecords s (s.wr r v) :=
  ⟨rfl, fun q hq => s.rd_wr_other r q v fun e => hq (e ▸ hr), fun _ h => h⟩

theorem OnlyRecords.raise (src : Nat) (d : Word) : OnlyRecords s (s.raise src d) :=
  ⟨rfl, fun _ _ => rfl, fun _ h => List.mem_append_left _ h⟩

theorem putRec_records (offset code : Nat) (pay : List Byte) : OnlyRecords s (putRec s offset code pay) := by
  unfold putRec
  exact (OnlyRecords.wr (.inl rfl) _).trans (.modEvr _)

theorem putPage_records : OnlyRecords s (putPage s) := by
  unfold putPage
  exact ((OnlyRecords.wr (.inr (.inl rfl)) _).trans (.modEvr _)).trans (putRec_records _ _ _)

theorem placeRec_records (code : Nat) (pay : List Byte) : OnlyRecords s (placeRec s code pay) := by
  unfold placeRec
  dsimp only
  split
  · exact putPage_records.trans (putRec_records _ _ _)
  · exact putRec_records _ _ _

theorem startFlush_records (charged : Bool) : OnlyRecords s (startFlush s charged) := by
  unfold startFlush
  split
  · exact .modEvr _
  · split
    · exact .refl
    · exact .modEvr _

theorem flushFull_records : OnlyRecords s (flushFull s) := by
  unfold flushFull State.iff
  split
  · exact startFlush_records true
  · exact .refl

theorem refuseRec_records : OnlyRecords s (refuseRec s) := by
  have h : OnlyRecords s ((s.count EVR_LOST_count).modEvr fun e => { e with lost := e.lost + 1 }) :=
    (OnlyRecords.wr (.inr (.inr rfl)) _).trans (.modEvr _)
  unfold refuseRec State.iff
  dsimp only
  split
  · exact h.trans (.raise _ _)
  · exact h

theorem startPage_records : OnlyRecords s (startPage s) := by
  unfold startPage
  dsimp only
  split
  · exact .refl
  · split
    · refine OnlyRecords.trans ?_ flushFull_records
      split
      · exact (putPage_records.trans (placeRec_records _ _)).trans (.modEvr _)
      · exact ((placeRec_records _ _).trans (.modEvr _)).trans putPage_records
    · split
      · exact putPage_records.trans flushFull_records
      · exact refuseRec_records.trans (.modEvr _)

theorem calCheck_records : OnlyRecords s (calCheck s) := by
  unfold calCheck
  split
  · exact startPage_records
  · exact .refl

/-- A0 with a position of its own and the state of its disciplining cleared. -/
noncomputable def a0Taken (s : State) (v : Nat) : State :=
  { s.setAxis 0 { s.axis 0 with pos := v % 2 ^ 62, qual := 2 } with
    tln := { (s.setAxis 0 { s.axis 0 with pos := v % 2 ^ 62, qual := 2 }).tln with
      holdRunning := false, off := 0, inCnt := 0, outCnt := 0, atBound := false, parked0 := 0 } }

/-- The items and rosters of A0 after it has been set. -/
noncomputable def a0Settled (s : State) (v : Nat) : State :=
  loadRosters (((singlesInOrder s 0).filter fun k => ! isDue s k).foldl dueNow (a0Taken s v)) 0 true

theorem setA0_eq (s : State) (v : Nat) : setA0 s v = calCheck ((a0Settled s v).raise 59) := rfl

theorem a0Settled_only (s : State) (v : Nat) : OnlyRosters (a0Taken s v) (a0Settled s v) :=
  OnlyRosters.trans (List.foldlRecOn _ _ (motive := OnlyRosters (a0Taken s v)) .refl fun _ h _ _ => h.trans (.addDue _)) (loadRosters_only 0 true).1

/-- A0 set: its position, Free-run, no holdover, source 59 raised, and its registers as before. -/
theorem setA0_taken (s : State) (v : Nat) : ((setA0 s v).axis 0).pos = v % 2 ^ 62 ∧ ((setA0 s v).axis 0).qual = 2 ∧ (setA0 s v).tln.holdRunning = false ∧
    ⟨59, false, false, 0⟩ ∈ (setA0 s v).raiseQ ∧ ∀ f : Fd, ¬ RecordReg f.r.addr → ¬ RosterReg f.r.addr → (setA0 s v).get f = s.get f := by
  rw [setA0_eq]
  have hset := a0Settled_only s v
  have hrec : OnlyRecords ((a0Settled s v).raise 59) (calCheck ((a0Settled s v).raise 59)) := calCheck_records
  have hraise : ((a0Settled s v).raise 59).tln = (a0Settled s v).tln := rfl
  have htln : (calCheck ((a0Settled s v).raise 59)).tln = (a0Settled s v).tln := (congrArg State.tln hrec.rest).trans hraise
  have haxes : (a0Settled s v).axis 0 = { s.axis 0 with pos := v % 2 ^ 62, qual := 2 } :=
    (State.axis_congr hset.axes 0).trans (State.axis_setAxis_same s 0 _)
  have hhold : (a0Settled s v).tln.holdRunning = false := by rw [hset.rest]; rfl
  rw [State.axis_congr (congrArg TlnSt.axes htln) 0, htln, haxes]
  refine ⟨rfl, rfl, hhold, hrec.raised _ (List.mem_append_right _ List.mem_cons_self), fun f h1 h2 => ?_⟩
  exact State.get_congr ((hrec.rd _ h1).trans (hset.rd _ h2))

/-! ## A Sync -/

theorem exec_syncReceive {p : Fin 2} {slave : Bool} {sec : BitVec 48} {ns : BitVec 32} (hrun : tlnRuns s = true) (hup : s.get (ETH_P_STATUS_state p) = 2) :
    exec (.syncReceive p slave sec ns rate) s = .next (if syncTaken (syncNoted s p slave) p then syncUsed (syncNoted s p slave) p (netCount sec ns) rate
      else syncNoted s p slave) := by
  have hgo : ¬ (! tlnRuns s || ethState s p ≠ 2) = true := by
    rw [hrun, ethState, hup]
    decide
  exact congrArg Host.Outcome.next (if_neg hgo)

theorem syncNoted_only (s : State) (p : Nat) (slave : Bool) : syncNoted s p slave =
    { s with tln := { s.tln with sync0 := (syncNoted s p slave).tln.sync0, sync1 := (syncNoted s p slave).tln.sync1 } } := by
  unfold syncNoted
  dsimp only
  split <;> rfl

theorem engineCycle_noted (s : State) (p : Nat) (slave : Bool) : engineCycle (syncNoted s p slave) = engineCycle s := by
  rw [engineCycle, syncNoted_only, engineCycle]
  rfl

theorem portQualifies_noted_self (s : State) (p : Nat) (slave : Bool) : portQualifies (syncNoted s p slave) p = slave := by
  have hat : (if p = 0 then (syncNoted s p slave).tln.sync0 else (syncNoted s p slave).tln.sync1) = some (engineCycle s, slave) := by
    unfold syncNoted
    dsimp only
    by_cases h : p = 0
    · rw [if_pos h, if_pos h]
    · rw [if_neg h, if_neg h]
  have hpos : 0 < syncTimeout := by decide
  rw [portQualifies, hat]
  dsimp only
  rw [engineCycle_noted, decide_eq_true (Nat.lt_add_of_pos_right hpos), Bool.and_true]

theorem portQualifies_noted_other (s : State) (slave : Bool) : portQualifies (syncNoted s 1 slave) 0 = portQualifies s 0 := rfl

/-- A Sync is used that comes on a slave port which qualifies before the other (R199). -/
theorem syncTaken_noted {p : Fin 2} (slave : Bool) : syncTaken (syncNoted s p slave) p = true ↔ slave = true ∧ (p = 0 ∨ portQualifies s 0 = false) := by
  rw [syncTaken, portQualifies_noted_self s p, Bool.and_eq_true, Bool.or_eq_true]
  match p with
  | 0 => simp
  | 1 => simp [portQualifies_noted_other]


theorem syncNoted_axis (s : State) (p : Nat) (slave : Bool) : (syncNoted s p slave).axis 0 = s.axis 0 := by
  rw [syncNoted_only]
  rfl

theorem syncNoted_get (s : State) (p : Nat) (slave : Bool) (f : Fd) : (syncNoted s p slave).get f = s.get f := by
  rw [syncNoted_only]
  rfl

/-- The disciplining with a new offset, rate and counts of Syncs inside and outside the threshold. -/
noncomputable def TlnSt.judged (x : TlnSt) (off rate : Int) (i o : Nat) : TlnSt := { x with off := off, rate := rate, inCnt := i, outCnt := o }

theorem TlnSt.judged_axes (x : TlnSt) (off rate : Int) (i o : Nat) : (x.judged off rate i o).axes = x.axes := rfl
theorem TlnSt.judged_inCnt (x : TlnSt) (off rate : Int) (i o : Nat) : (x.judged off rate i o).inCnt = i := rfl
theorem TlnSt.judged_outCnt (x : TlnSt) (off rate : Int) (i o : Nat) : (x.judged off rate i o).outCnt = o := rfl

theorem State.withTln_raiseQ (s : State) (x : TlnSt) : ({ s with tln := x } : State).raiseQ = s.raiseQ := rfl
theorem State.withTln_rd (s : State) (x : TlnSt) (q : Rg) : ({ s with tln := x } : State).rd q = s.rd q := rfl
theorem State.withTln_axis (s : State) (x : TlnSt) (n : Nat) : ({ s with tln := x } : State).axis n = SMap.get Axis.init x.axes n := rfl

/-- The port of the Sync that is used. -/
noncomputable def heard (s : State) (p : Nat) : State := s.put TLN_A0_STATUS_port (p + 1)

theorem heard_port (s : State) (p : Fin 2) : (heard s p).get TLN_A0_STATUS_port = p + 1 := State.get_put_of_lt _ rfl (by
  have := p.isLt
  rw [show TLN_A0_STATUS_port.size = 4 from rfl]
  omega)

theorem syncUsed_unset (h : (s.axis 0).qual = 3) (net : Nat) (rate : Int) : syncUsed s p net rate =
    { pulseCheck (setA0 (heard s p) net) with tln := { (pulseCheck (setA0 (heard s p) net)).tln with rate := rate } } := if_pos h

/-- The first Sync used sets A0 (R200). -/
theorem syncUsed_sets {p : Fin 2} (h : (s.axis 0).qual = 3) (hnet : net < 2 ^ 62) (rate : Int) : ∃ t, syncUsed s p net rate = t ∧ (t.axis 0).pos = net ∧
    (t.axis 0).qual = 2 ∧ t.tln.holdRunning = false ∧ t.get TLN_A0_STATUS_port = p + 1 ∧ ⟨59, false, false, 0⟩ ∈ t.raiseQ := by
  obtain ⟨hpos, hqual, hhold, hraise, hget⟩ := setA0_taken (heard s p) net
  have haxis : (pulseCheck (setA0 (heard s p) net)).axis 0 = (setA0 (heard s p) net).axis 0 := State.axis_congr (pulseCheck_axes _) 0
  have hport : (setA0 (heard s p) net).get TLN_A0_STATUS_port = p + 1 :=
    (hget _ (by unfold RecordReg; decide) (by unfold RosterReg; decide)).trans (heard_port s p)
  rw [← haxis] at hpos hqual
  rw [← pulseCheck_holdRunning] at hhold
  rw [← pulseCheck_raiseQ] at hraise
  refine ⟨_, syncUsed_unset h net rate, hpos.trans (Nat.mod_eq_of_lt hnet), hqual, hhold, ?_, hraise⟩
  refine Eq.trans (State.get_withTln _ _ _) (Eq.trans ?_ hport)
  rw [State.get, State.rd, pulseCheck_regs]
  rfl

/-- The offset of a Sync from A0 shown (R200). -/
noncomputable def offsetShown (s : State) (p net : Nat) : State :=
  ((heard s p).wr TLN_A0_OFFSET (sat32 (2 * netOffset s net))).wr TLN_A0_OFFSET_US (sat32 ((2 * netOffset s net).tdiv 1000))

/-- A Sync compared with A0, and counted inside or outside the lock threshold (R203). -/
noncomputable def compared (s : State) (p net : Nat) (rate : Int) : State :=
  { offsetShown s p net with
    tln := s.tln.judged (2 * netOffset s net * 500000000) rate (if (2 * netOffset s net).natAbs ≤ lockNs s then s.tln.inCnt + 1 else 0)
      (if (2 * netOffset s net).natAbs ≤ lockNs s then 0 else s.tln.outCnt + 1) }

/-- A0 taken down to Holdover by the eighth Sync outside the threshold, or up to Locked by the eighth inside (R203). -/
noncomputable def relocked (s : State) : State :=
  if (s.axis 0).qual = 0 ∧ 8 ≤ s.tln.outCnt then
    { setQual0 s 1 with tln := { (setQual0 s 1).tln with holdRunning := true, outCnt := 0, inCnt := 0 } }.raise 58
  else if (s.axis 0).qual ≠ 0 ∧ 8 ≤ s.tln.inCnt then
    { setQual0 s 0 with tln := { (setQual0 s 0).tln with holdRunning := false, outCnt := 0, inCnt := 0 } }
  else s

theorem lockNs_congr (s t : State) (h : t.get TLN_A0_CFG_lockth = s.get TLN_A0_CFG_lockth) : lockNs t = lockNs s := by rw [lockNs, h, lockNs]

theorem heard_lockth (s : State) (p : Nat) : (heard s p).get TLN_A0_CFG_lockth = s.get TLN_A0_CFG_lockth := State.get_put_reg _ _ _ _ (by decide)

theorem offsetShown_lockth (s : State) (p net : Nat) : (offsetShown s p net).get TLN_A0_CFG_lockth = s.get TLN_A0_CFG_lockth := by
  rw [offsetShown, State.get_wr_other _ (by decide), State.get_wr_other _ (by decide), heard_lockth]

theorem offsetShown_lockNs (s : State) (p net : Nat) : lockNs (offsetShown s p net) = lockNs s := lockNs_congr _ _ (offsetShown_lockth s p net)

theorem offsetShown_tln (s : State) (p net : Nat) : (offsetShown s p net).tln = s.tln := by
  rw [offsetShown, State.wr_tln, State.wr_tln, heard, State.put_tln]

theorem syncUsed_set (h : (s.axis 0).qual ≠ 3) : syncUsed s p net rate = relocked (compared s p net rate) := by
  have htln : (heard s p).tln = s.tln := State.put_tln ..
  have hax : (heard s p).axis 0 = s.axis 0 := State.axis_congr (congrArg TlnSt.axes htln) 0
  have hoff : netOffset (heard s p) net = netOffset s net := by rw [netOffset, hax, netOffset]
  unfold syncUsed
  rw [← heard]
  dsimp only
  rw [hax, if_neg h, hoff, ← offsetShown, offsetShown_lockNs, offsetShown_tln]
  unfold compared
  generalize offsetShown s p net = w
  generalize 2 * netOffset s net * 500000000 = o
  generalize (if (2 * netOffset s net).natAbs ≤ lockNs s then s.tln.inCnt + 1 else 0) = i
  generalize (if (2 * netOffset s net).natAbs ≤ lockNs s then 0 else s.tln.outCnt + 1) = k
  rfl

theorem relocked_axis (s : State) : (relocked s).axis 0 = { s.axis 0 with qual :=
    if (s.axis 0).qual = 0 ∧ 8 ≤ s.tln.outCnt then 1 else if (s.axis 0).qual ≠ 0 ∧ 8 ≤ s.tln.inCnt then 0 else (s.axis 0).qual } := by
  unfold relocked
  split
  · exact setQual0_axis s 1
  · split
    · exact setQual0_axis s 0
    · rfl

theorem relocked_rd (s : State) (q : Rg) : (relocked s).rd q = s.rd q := by
  unfold relocked
  split
  · exact congrArg (fun m => SMap.get q.reset m q.addr) (setQual0_regs s 1)
  · split
    · exact congrArg (fun m => SMap.get q.reset m q.addr) (setQual0_regs s 0)
    · rfl

theorem relocked_down (h : (s.axis 0).qual = 0) (h8 : 8 ≤ s.tln.outCnt) : (relocked s).tln.holdRunning = true ∧
    (relocked s).raiseQ = s.raiseQ ++ [⟨58, false, false, 0⟩] := by
  rw [relocked, if_pos ⟨h, h8⟩]
  exact ⟨rfl, congrArg (· ++ [(⟨58, false, false, 0⟩ : Raise)]) (setQual0_raiseQ s 1)⟩

theorem relocked_up (h : (s.axis 0).qual ≠ 0) (h8 : 8 ≤ s.tln.inCnt) : (relocked s).tln.holdRunning = false ∧ (relocked s).raiseQ = s.raiseQ := by
  rw [relocked, if_neg fun e => h e.1, if_pos ⟨h, h8⟩]
  exact ⟨rfl, setQual0_raiseQ s 0⟩

theorem compared_axis (s : State) (p net : Nat) (rate : Int) : (compared s p net rate).axis 0 = s.axis 0 := by
  rw [compared, State.withTln_axis, TlnSt.judged_axes, State.axis]

theorem compared_raiseQ (s : State) (p net : Nat) (rate : Int) : (compared s p net rate).raiseQ = s.raiseQ := by
  rw [compared, State.withTln_raiseQ, offsetShown, heard, State.wr_raiseQ, State.wr_raiseQ, State.put_raiseQ]

theorem compared_rd (s : State) (p net : Nat) (rate : Int) (q : Rg) : (compared s p net rate).rd q = (offsetShown s p net).rd q := by
  rw [compared, State.withTln_rd]

theorem compared_offset (s : State) (p net : Nat) (rate : Int) : (compared s p net rate).rd TLN_A0_OFFSET = sat32 (2 * netOffset s net) := by
  rw [compared_rd, offsetShown, State.rd_wr_other _ _ _ _ (by decide), State.rd_wr_same]

theorem compared_port (s : State) (p : Fin 2) (net : Nat) (rate : Int) : (compared s p net rate).get TLN_A0_STATUS_port = p + 1 := by
  rw [State.get_congr (compared_rd s p net rate _), offsetShown, State.get_wr_other _ (by decide), State.get_wr_other _ (by decide), heard_port]

theorem compared_counts (s : State) (p net : Nat) (rate : Int) :
    (8 ≤ (compared s p net rate).tln.outCnt ↔ ¬ (2 * netOffset s net).natAbs ≤ lockNs s ∧ 7 ≤ s.tln.outCnt) ∧
    (8 ≤ (compared s p net rate).tln.inCnt ↔ (2 * netOffset s net).natAbs ≤ lockNs s ∧ 7 ≤ s.tln.inCnt) := by
  simp only [compared, TlnSt.judged_outCnt, TlnSt.judged_inCnt]
  by_cases h : (2 * netOffset s net).natAbs ≤ lockNs s
  · rw [if_pos h, if_pos h]
    simp [h]
  · rw [if_neg h, if_neg h]
    simp [h]

/-! ## A peer delay, and the ways down -/

theorem pdelayTaken_up {p : Fin 2} (h : s.get (ETH_P_STATUS_state p) = 2) (ns : Nat) : ∃ t, pdelayTaken s p ns = t ∧
    (if p = 0 then t.tln.pdelay0 else t.tln.pdelay1) = ns ∧ t.regs = s.regs ∧ t.tln.axes = s.tln.axes ∧
    t.net.ethSent = s.net.ethSent ++ [⟨p, 0x0180C200000E, macOf p, none, none, none, .ptp⟩] := by
  refine ⟨_, if_neg (not_not_intro h), ?_, rfl, ?_, rfl⟩
  · match p with
    | 0 => rfl
    | 1 => rfl
  · match p with
    | 0 => rfl
    | 1 => rfl

theorem a0Holdover_locked (h : (s.axis 0).qual = 0) : ∃ t, a0Holdover s = t ∧ (t.axis 0).qual = 1 ∧ t.tln.holdRunning = true ∧ t.tln.off = 0 ∧
    t.get TLN_A0_STATUS_port = 0 ∧ t.raiseQ = s.raiseQ ++ [⟨58, false, false, 0⟩] := by
  have hax := setQual0_axis (s.put TLN_A0_STATUS_port 0) 1
  have hregs := setQual0_regs (s.put TLN_A0_STATUS_port 0) 1
  have hq := setQual0_raiseQ (s.put TLN_A0_STATUS_port 0) 1
  refine ⟨_, if_pos h, congrArg Axis.qual hax, rfl, rfl, ?_, congrArg (· ++ [(⟨58, false, false, 0⟩ : Raise)]) hq⟩
  refine (State.get_congr ?_).trans (State.get_put_of_lt s (f := TLN_A0_STATUS_port) rfl (by decide))
  exact congrArg (fun m => SMap.get TLN_A0_STATUS.reset m TLN_A0_STATUS.addr) hregs

theorem a0FreeRun_held (h : (s.axis 0).qual = 1) (hh : s.tln.holdRunning = true) : ∃ t, a0FreeRun s = t ∧ (t.axis 0).qual = 2 ∧ t.tln.holdRunning = false ∧
    t.raiseQ = s.raiseQ ++ [⟨59, false, false, 0⟩] :=
  ⟨_, if_pos ⟨h, hh⟩, congrArg Axis.qual (setQual0_axis s 2), rfl, congrArg (· ++ [(⟨59, false, false, 0⟩ : Raise)]) (setQual0_raiseQ s 2)⟩

theorem ctlReached_of_clkRuns (h : clkRuns s = true) : ctlReached s = true := by
  unfold clkRuns at h
  unfold ctlReached
  split at h <;> simp_all

theorem a0Command_zero (hr : ctlReached s = true) (step cancel : Bool) : a0Command s 0 step cancel =
    let u := if step then a0Step s else s
    if cancel then a0StepCancel u else u := granted_zero hr rfl

end

/-- Settles O21: a Sync that sets A0 by `syncUsed_sets`, a later one by `relocked_axis` over `compared_counts`. -/
theorem networkTimeQuality : Obligations.NetworkTimeQuality := by
  unfold Obligations.NetworkTimeQuality
  intro s p sec ns rate hrun net q up Sync used off inside
  have hreach : ctlReached s = true := ctlReached_of_clkRuns (Bool.and_eq_true_iff.1 hrun).1
  have hused (hu : used) : exec Sync s = .next (syncUsed (syncNoted s p true) p net rate) :=
    (exec_syncReceive hrun hu.1).trans (congrArg _ (if_pos ((syncTaken_noted true).2 ⟨rfl, hu.2⟩)))
  have hoff : netOffset (syncNoted s p true) net = netOffset s net := by rw [netOffset, syncNoted_axis, netOffset]
  have hlock : lockNs (syncNoted s p true) = lockNs s := by rw [lockNs, syncNoted_get, lockNs]
  refine ⟨fun hdown slave => ?down, fun hup => ?other, fun hup hun => ?unused, fun h3 hu => ?first, fun h3 hu => ?later, fun h0 => ?holdover, fun h1 hh => ?freeRun,
    fun ns utc => ⟨fun hup => ⟨?delay, ?announce⟩, fun hdown => ⟨?noDelay, ?noAnnounce⟩⟩, fun hp hq ho => ?step, fun h => ?refused, fun hs => ?cancel, fun hs => ?nothing⟩
  case down => exact congrArg Host.Outcome.next (if_pos (by rw [Bool.or_eq_true, decide_eq_true_iff]; exact .inr hdown))
  case other =>
    refine (exec_syncReceive hrun hup).trans (congrArg _ (if_neg fun h => ?_))
    exact Bool.false_ne_true ((syncTaken_noted false).1 h).1
  case unused =>
    refine (exec_syncReceive hrun hup).trans (congrArg _ (if_neg fun h => hun ⟨hup, ?_⟩))
    exact ((syncTaken_noted true).1 h).2
  case first =>
    have hnet : net < 2 ^ 62 := Nat.mod_lt _ (Nat.two_pow_pos 62)
    obtain ⟨t, ht, hall⟩ := syncUsed_sets (s := syncNoted s p true) (p := p) ((congrArg Axis.qual (syncNoted_axis s p true)).trans h3) hnet rate
    exact ⟨t, (hused hu).trans (congrArg _ ht), hall⟩
  case later =>
    have hq : ((syncNoted s p true).axis 0).qual = q := congrArg Axis.qual (syncNoted_axis s p true)
    obtain ⟨hout, hin⟩ := compared_counts (syncNoted s p true) p net rate
    rw [hoff, hlock] at hout hin
    have hcnt : (syncNoted s p true).tln.outCnt = s.tln.outCnt ∧ (syncNoted s p true).tln.inCnt = s.tln.inCnt := by
      rw [syncNoted_only]
      exact ⟨rfl, rfl⟩
    rw [hcnt.1] at hout
    rw [hcnt.2] at hin
    have hax := relocked_axis (compared (syncNoted s p true) p net rate)
    rw [compared_axis, syncNoted_axis] at hax
    simp only [hout, hin] at hax
    have hraise : (compared (syncNoted s p true) p net rate).raiseQ = s.raiseQ := by
      rw [compared_raiseQ, syncNoted_only]
    have hcq : ((compared (syncNoted s p true) p net rate).axis 0).qual = q := by rw [compared_axis, syncNoted_axis]
    refine ⟨_, (hused hu).trans (congrArg _ (syncUsed_set (by rw [hq]; exact h3))), ?_, ?_, (congrArg Axis.pos hax).trans rfl, ?_, fun h0 ho h7 => ?_, fun h0 hi h7 => ?_⟩
    · rw [relocked_rd, compared_offset, hoff]
    · exact (State.get_congr (relocked_rd _ _)).trans (compared_port ..)
    · rw [hax]
      change (if q = 0 ∧ ¬ inside ∧ 7 ≤ s.tln.outCnt then 1 else if q ≠ 0 ∧ inside ∧ 7 ≤ s.tln.inCnt then 0 else q) ≠ q ↔ _
      split
      next h => exact iff_of_true (by omega) (.inl h)
      next h =>
        split
        next h' => exact iff_of_true (by omega) (.inr h')
        next h' => exact iff_of_false (fun e => e rfl) (fun e => e.elim h h')
    · obtain ⟨hhold, hr⟩ := relocked_down (hcq.trans h0) (hout.2 ⟨ho, h7⟩)
      refine ⟨?_, hhold, hr.trans (by rw [hraise])⟩
      rw [hax]
      exact if_pos ⟨h0, ho, h7⟩
    · obtain ⟨hhold, hr⟩ := relocked_up (fun e => h0 (hcq.symm.trans e)) (hin.2 ⟨hi, h7⟩)
      refine ⟨?_, hhold, hr.trans hraise⟩
      rw [hax]
      exact (if_neg fun e => h0 e.1).trans (if_pos ⟨h0, hi, h7⟩)
  case holdover =>
    obtain ⟨t, ht, hall⟩ := a0Holdover_locked h0
    exact ⟨t, congrArg Host.Outcome.next ht, hall⟩
  case freeRun =>
    obtain ⟨t, ht, hall⟩ := a0FreeRun_held h1 hh
    exact ⟨t, congrArg Host.Outcome.next ht, hall⟩
  case delay =>
    obtain ⟨t, ht, hall⟩ := pdelayTaken_up hup ns
    exact ⟨t, congrArg Host.Outcome.next ht, hall⟩
  case announce => exact congrArg Host.Outcome.next (if_pos hup)
  case noDelay => exact congrArg Host.Outcome.next (if_pos hdown)
  case noAnnounce => exact congrArg Host.Outcome.next (if_neg hdown)
  case step =>
    refine congrArg Host.Outcome.next ((a0Command_zero hreach true false).trans ?_)
    exact (if_pos ⟨hp, hq, ho⟩ : a0Step s = _)
  case refused =>
    refine congrArg Host.Outcome.next ((a0Command_zero hreach true false).trans (if_neg ?_ : a0Step s = _))
    rintro ⟨hp, hq, ho⟩
    rcases h with h | h | h
    · exact hp h
    · exact hq h
    · exact absurd ho (not_lt.2 h)
  case cancel => exact congrArg Host.Outcome.next ((a0Command_zero hreach false true).trans (if_pos hs : a0StepCancel s = _))
  case nothing => exact congrArg Host.Outcome.next ((a0Command_zero hreach false true).trans (if_neg (by rw [hs]; decide) : a0StepCancel s = _))

end Sys2Proof.Machine
end

section
/-! Requests of the command ledger: acceptance, answers and the judgement of a submission (R211 to R220). -/
namespace Sys2Proof.Machine
open Sys2Proof Reg

/-! ## Bytes of a message -/

section

theorem beBytes_two (v : Nat) : beBytes 2 v = [BitVec.ofNat 8 (v / 256), BitVec.ofNat 8 v] := by
  simp [beBytes, leBytes, List.range_succ]

theorem beVal_two (a b : Byte) : beVal [a, b] = (a ++ b : BitVec 16).toNat := by
  rw [toNat_append_eq, Nat.mul_comm]
  exact congrArg (256 * · + b.toNat) (Nat.zero_add _)

theorem beVal_four (a b c d : Byte) : beVal [a, b, c, d] = (a ++ b ++ c ++ d : Word).toNat := by
  rw [toNat_append_eq, toNat_append_eq, ← beVal_two, Nat.mul_comm, Nat.mul_comm (beVal [a, b])]
  rfl

theorem beVal_word (w : Word) : beVal (beWord w) = w.toNat := by
  rw [beWord, beVal_four]
  simp only [byteOf, BitVec.setWidth_ushiftRight_eq_extractLsb]
  rw [BitVec.extractLsb'_append_extractLsb'_eq_extractLsb' (start₁ := 16) (len₁ := 8) (by decide),
    BitVec.extractLsb'_append_extractLsb'_eq_extractLsb' (start₁ := 8) (len₁ := 8) (by decide),
    BitVec.extractLsb'_append_extractLsb'_eq_extractLsb' (start₁ := 0) (len₁ := 8) (by decide)]
  exact congrArg BitVec.toNat BitVec.extractLsb'_eq_self

theorem beVal_pair (v : BitVec 16) : beVal [BitVec.ofNat 8 (v.toNat / 256), BitVec.ofNat 8 v.toNat] = v.toNat := by
  have h : v.toNat / 256 < 256 := Nat.div_lt_of_lt_mul v.isLt
  rw [beVal_two, toNat_append_eq, BitVec.toNat_ofNat, BitVec.toNat_ofNat, Nat.mod_eq_of_lt h]
  exact Nat.div_add_mod' v.toNat 256

/-- One entry, with its padding, reads as that entry (R237). -/
theorem subEntries_one {a b m : Byte} {q : Word} {p pad : List Byte} (hm : m.toNat = p.length) (h : p.length ≤ 48)
    (hpad : (p.length + 3) / 4 * 4 = p.length + pad.length) :
    subEntries 1 (a :: b :: m :: 0 :: (beWord q ++ (p ++ pad))) = some [⟨BitVec.ofNat 16 (beVal [a, b]), BitVec.ofNat 32 (beVal (beWord q)), p⟩] := by
  have hfield : beField (a :: b :: m :: 0 :: (beWord q ++ (p ++ pad))) 2 1 = p.length := (Nat.zero_add _).trans hm
  have hlen : (a :: b :: m :: 0 :: (beWord q ++ (p ++ pad))).length = 8 + (p.length + pad.length) := by
    rw [← List.length_append]
    exact Nat.add_comm _ 8
  rw [subEntries, hfield, hpad, if_neg (not_or.2 ⟨Nat.not_lt.2 h, by rw [hlen]; exact Nat.lt_irrefl _⟩), List.drop_eq_nil_of_le hlen.le]
  exact congrArg (fun x => some [(⟨_, _, x⟩ : SubEntry)]) (List.take_left' rfl)

/-- The bytes of a submission of one entry, from its track on. -/
theorem submitOne_eq (e : SubEntry) : submitOne e = 1 :: 0 :: 0 :: 0 :: (BitVec.ofNat 8 (e.track.toNat / 256) :: BitVec.ofNat 8 e.track.toNat ::
    BitVec.ofNat 8 e.pay.length :: 0 :: (beWord e.seq ++ (e.pay ++ List.replicate ((4 - e.pay.length % 4) % 4) 0))) := by
  simp only [submitOne, beBytes_two, List.cons_append, List.nil_append, List.append_assoc]

/-- A submission of one entry reads as that entry (R212). -/
theorem subBody_submitOne (e : SubEntry) (h : e.pay.length ≤ 48) : subBody (submitOne e) = some [e] := by
  have hm : (BitVec.ofNat 8 e.pay.length).toNat = e.pay.length := Nat.mod_eq_of_lt (Nat.lt_of_le_of_lt h (by decide))
  have hpad : (e.pay.length + 3) / 4 * 4 = e.pay.length + (List.replicate ((4 - e.pay.length % 4) % 4) (0 : Byte)).length := by
    rw [List.length_replicate]
    omega
  have hn (l : List Byte) : beField ((1 : Byte) :: l) 0 1 = 1 := rfl
  rw [submitOne_eq, subBody, hn, if_neg (by simp)]
  refine (subEntries_one hm h hpad).trans ?_
  rw [beVal_pair, beVal_word, BitVec.ofNat_toNat, BitVec.ofNat_toNat, BitVec.setWidth_eq, BitVec.setWidth_eq]

end

/-! ## An answer given -/

section
variable {s t u : State} {h : ZHdr} {k : Nat} {b : ZBody}

/-- The state with the number of the next message of a session taken, and a session record asked for at the end of a block (R236). -/
noncomputable def numbered (u : State) (k : Nat) : State :=
  let w := u.setSess k { u.sess k with send := (u.sess k).send + 1 }
  if ((u.sess k).send + 1) % 2 ^ 24 = 0 then askRecord w k else w

/-- Nothing has changed but sessions, the session records asked for, and the number of the next request. -/
def OnlySessions (s t : State) : Prop := t = { s with ldg := { s.ldg with sessions := t.ldg.sessions, sessQ := t.ldg.sessQ, reqId := t.ldg.reqId } }

theorem setSess_onlySessions (x : Sess) : OnlySessions u (u.setSess k x) := rfl

theorem askRecord_onlySessions : OnlySessions u (askRecord u k) := by
  unfold askRecord
  split <;> rfl

theorem OnlySessions.trans (h : OnlySessions s t) (h' : OnlySessions t u) : OnlySessions s u := by
  unfold OnlySessions at h h' ⊢
  exact h'.trans (by rw [h])

theorem numbered_onlySessions : OnlySessions u (numbered u k) := by
  unfold numbered
  dsimp only
  split
  · exact (setSess_onlySessions _).trans askRecord_onlySessions
  · exact setSess_onlySessions _

theorem sess_setSess_same (u : State) (k : Nat) (x : Sess) : (u.setSess k x).sess k = x := SMap.get_set_same _ _ _ _

theorem askRecord_sess (u : State) (k j : Nat) : (askRecord u k).sess j = u.sess j := by
  unfold askRecord
  split <;> rfl

theorem numbered_send : ((numbered u k).sess k).send = (u.sess k).send + 1 := by
  unfold numbered
  dsimp only
  split
  · rw [askRecord_sess, sess_setSess_same]
  · rw [sess_setSess_same]

theorem sendAns_numbered (hblk : (u.sess k).send / 2 ^ 24 = (u.sess k).blk) : sendAns u h.link h.src k b =
    match h.link with
    | .spi => spiSettled ((numbered u k).modLdg fun l => { l with spiQ := l.spiQ ++ [ansOf u h k b] })
    | _ => ethAnswerAt (numbered u k) h.src none (ansOf u h k b) := by
  unfold sendAns sendAt
  dsimp only
  rw [if_neg (not_not_intro hblk)]
  rfl

/-- What a request leaves of the ledger, and what it leaves of the answers and the network. -/
structure AnswersLike (s u : State) : Prop where
  sess : ∀ k, (u.sess k).send = (s.sess k).send ∧ (u.sess k).blk = (s.sess k).blk
  rest : u = { s with regs := u.regs, ldg := { s.ldg with sessions := u.ldg.sessions, sessQ := u.ldg.sessQ, reqId := u.ldg.reqId } }
  rd : ∀ q : Rg, q.addr ≠ LDG_COUNT_REFUSE.addr → u.rd q = s.rd q

/-- The registers that an answer is formed from. -/
noncomputable def answerRegs (h : ZHdr) (k : Nat) : List Rg :=
  [LDG_SESS_ID k, LDG_CTRL, ETH_P_CTRL h.link.port, ETH_IP4, ETH_IP6 0, ETH_IP6 1, ETH_IP6 2, ETH_IP6 3]

/-- What an answer is depends on little of the state that gives it. -/
theorem Answered.of_same (hsend : (u.sess k).send = (s.sess k).send) (hrd : ∀ q ∈ answerRegs h k, u.rd q = s.rd q)
    (hrest : u.upd = s.upd ∧ u.net = s.net ∧ u.ldg.sent = s.ldg.sent ∧ u.ldg.spiQ = s.ldg.spiQ) (ha : Answered u t h k b) : Answered s t h k b := by
  obtain ⟨hupd, hnet, hsent, hspi⟩ := hrest
  simp only [answerRegs, List.forall_mem_cons] at hrd
  obtain ⟨hid, hctrl, hpcp, h4, h60, h61, h62, h63, -⟩ := hrd
  have hkey : keySlot u k = keySlot s k := by rw [keySlot, hupd, keySlot]
  have hans : ansOf u h k b = ansOf s h k b := by rw [ansOf, hid, hkey, hsend, ansOf]
  have hframe (m : EthMsg) : ethFrameTo u h.link.port h.src.mac h.src.vid (some h.src.ip) (some (u.get LDG_CTRL_port, h.src.port.toNat)) m =
      ethFrameTo s h.link.port h.src.mac h.src.vid (some h.src.ip) (some (s.get LDG_CTRL_port, h.src.port.toNat)) m := by
    rw [ethFrameTo, State.get_congr (f := ETH_P_CTRL_pcp h.link.port) hpcp, State.get_congr (f := LDG_CTRL_port) hctrl, h4, ethIp6, h60, h61, h62, h63, ← ethIp6,
      ethFrameTo]
  obtain ⟨hs, hout⟩ := ha
  rw [hsend] at hs
  rw [hans, hsent, hspi, hframe, hnet, show (spiSettled u).net = (spiSettled s).net by rw [spiSettled, spiSettled, hnet]] at hout
  exact ⟨hs, hout⟩

theorem Answered.of_like (hu : AnswersLike s u) (ha : Answered u t h k b) : Answered s t h k b := by
  refine ha.of_same (hu.sess k).1 (fun q hq => hu.rd q ?_) ?_
  · simp only [answerRegs, List.mem_cons, List.not_mem_nil, or_false] at hq
    rcases hq with rfl | rfl | rfl | rfl | rfl | rfl | rfl | rfl <;>
      simp only [LDG_SESS_ID, LDG_CTRL, ETH_P_CTRL, ETH_IP4, ETH_IP6, LDG_COUNT_REFUSE] <;> omega
  · rw [hu.rest]
    exact ⟨rfl, rfl, rfl, rfl⟩

theorem LedgerKept.of_like (hu : AnswersLike s u) (hk : LedgerKept u t) : LedgerKept s t := by
  obtain ⟨h1, h2, h3, h4, h5⟩ := hk
  have hexp (n : Nat) : u.expected n = s.expected n := hu.rd _ (by simp only [LDG_TRK_NEXT, LDG_COUNT_REFUSE]; omega)
  have hs : u.ldg.tickets = s.ldg.tickets ∧ u.ldg.queues = s.ldg.queues ∧ u.cpu = s.cpu ∧ u.wm = s.wm := by
    rw [hu.rest]
    exact ⟨rfl, rfl, rfl, rfl⟩
  obtain ⟨g1, g2, g3, g4⟩ := hs
  exact ⟨h1.trans g1, h2.trans g2, fun n => (h3 n).trans (hexp n), h4.trans g3, h5.trans g4⟩

/-- The answer `a` handed over to its link, of which the number has been taken before. -/
structure Given (u v t : State) (a : ZAns) : Prop where
  sess : ∀ k, t.sess k = v.sess k
  regs : t.regs = u.regs
  kept : t.ldg.tickets = u.ldg.tickets ∧ t.ldg.queues = u.ldg.queues ∧ t.cpu = u.cpu ∧ t.wm = u.wm
  spi : a.link = .spi → t.ldg.spiQ = u.ldg.spiQ ++ [a] ∧ t.ldg.sent = u.ldg.sent ∧ t.net = (spiSettled u).net
  eth : a.link ≠ .spi → t.ldg.sent = u.ldg.sent ++ [a] ∧ t.ldg.spiQ = u.ldg.spiQ

theorem spiSettled_given {a : ZAns} {v : State} (hv : OnlySessions u v) (ha : a.link = .spi) :
    Given u v (spiSettled (v.modLdg fun l => { l with spiQ := l.spiQ ++ [a] })) a := by
  unfold OnlySessions at hv
  refine ⟨fun _ => rfl, ?_, ?_, fun _ => ?_, fun h => absurd ha h⟩ <;> rw [hv]
  · rfl
  · exact ⟨rfl, rfl, rfl, rfl⟩
  · exact ⟨rfl, rfl, rfl⟩

/-- An answer to a port that is Up goes behind its frames. -/
theorem ethAnswerAt_up {a : ZAns} {v : State} {src : ZSrc} (hv : OnlySessions u v) (hup : u.get (ETH_P_STATUS_state a.link.port) = 2) :
    ethAnswerAt v src none a = ethQueue (v.modLdg fun l => { l with sent := l.sent ++ [a] }) (zlpFrame u a.link src (.zlp a)) := by
  have hget (f : Fd) : v.get f = u.get f := by
    unfold OnlySessions at hv
    rw [hv]
    rfl
  have hrd (q : Rg) : v.rd q = u.rd q := by
    unfold OnlySessions at hv
    rw [hv]
    rfl
  have hframe : zlpFrame v a.link src (.zlp a) = zlpFrame u a.link src (.zlp a) := by
    rw [zlpFrame, hget, ethFrameTo, ethIp6, hrd, hrd, hrd, hrd, hrd, hget, ← ethIp6, zlpFrame, ethFrameTo]
  unfold ethAnswerAt
  dsimp only
  rw [if_pos ((hget _).trans hup), hframe]

theorem ethAnswerAt_given {a : ZAns} {v : State} {src : ZSrc} (hv : OnlySessions u v) (ha : a.link ≠ .spi) (hup : u.get (ETH_P_STATUS_state a.link.port) = 2) :
    Given u v (ethAnswerAt v src none a) a ∧ (ethAnswerAt v src none a).net = { u.net with ethQ := u.net.ethQ ++ [zlpFrame u a.link src (.zlp a)] } := by
  rw [ethAnswerAt_up hv hup]
  unfold OnlySessions at hv
  refine ⟨⟨fun _ => rfl, ?_, ?_, fun h => absurd h ha, fun _ => ?_⟩, ?_⟩
  · have hregs := congrArg State.regs hv
    exact hregs
  · rw [hv]
    exact ⟨rfl, rfl, rfl, rfl⟩
  · rw [hv]
    exact ⟨rfl, rfl⟩
  · rw [hv]
    rfl

theorem Given.ledgerKept {a : ZAns} {v : State} (h : Given u v t a) : LedgerKept u t := by
  obtain ⟨h1, h2, h3, h4⟩ := h.kept
  exact ⟨h1, h2, fun n => by rw [State.expected, State.rd, h.regs, State.expected, State.rd], h3, h4⟩

/-- An answer of a session whose block is recorded is given at once (R236). -/
theorem sendAns_answered (hblk : (u.sess k).send / 2 ^ 24 = (u.sess k).blk) (hup : h.link ≠ .spi → u.get (ETH_P_STATUS_state h.link.port) = 2) :
    Answered u (sendAns u h.link h.src k b) h k b ∧ LedgerKept u (sendAns u h.link h.src k b) ∧ (sendAns u h.link h.src k b).regs = u.regs := by
  have hv : OnlySessions u (numbered u k) := numbered_onlySessions
  have hn : ((numbered u k).sess k).send = (u.sess k).send + 1 := numbered_send
  rw [sendAns_numbered hblk]
  cases hl : h.link with
  | spi =>
    have hg : Given u (numbered u k) _ (ansOf u h k b) := spiSettled_given hv hl
    refine ⟨⟨(congrArg Sess.send (hg.sess k)).trans hn, ?_⟩, hg.ledgerKept, hg.regs⟩
    rw [if_pos hl]
    exact hg.spi hl
  | bb0 =>
    have hne : h.link ≠ .spi := by rw [hl]; decide
    obtain ⟨hg, hnet⟩ := ethAnswerAt_given (src := h.src) hv (a := ansOf u h k b) hne (hup hne)
    refine ⟨⟨(congrArg Sess.send (hg.sess k)).trans hn, ?_⟩, hg.ledgerKept, hg.regs⟩
    rw [if_neg hne]
    exact ⟨(hg.eth hne).1, (hg.eth hne).2, hnet⟩
  | bb1 =>
    have hne : h.link ≠ .spi := by rw [hl]; decide
    obtain ⟨hg, hnet⟩ := ethAnswerAt_given (src := h.src) hv (a := ansOf u h k b) hne (hup hne)
    refine ⟨⟨(congrArg Sess.send (hg.sess k)).trans hn, ?_⟩, hg.ledgerKept, hg.regs⟩
    rw [if_neg hne]
    exact ⟨(hg.eth hne).1, (hg.eth hne).2, hnet⟩

/-! ## A request accepted -/

theorem ctrTake_send (x : Sess) (c : Nat) : (ctrTake x c).send = x.send ∧ (ctrTake x c).blk = x.blk := by
  unfold ctrTake
  split
  · exact ⟨rfl, rfl⟩
  · split <;> exact ⟨rfl, rfl⟩

/-- The state in which a request is served: its counter value has been taken (R235). -/
noncomputable def countedIn (s : State) (h : ZHdr) (k : Nat) : State := s.setSess k (ctrTake (s.sess k) h.ctr.toNat)

theorem zServe_served (hs : Served s h k) (f : Nat → State → State) : zServe s h f = f k (countedIn s h k) := by
  obtain ⟨hr, hen, hl, hk, hver, hlen, hmsb, htag, hready, hfresh, hscan, hrom, -⟩ := hs
  have hgo : ¬ (! ctlReached s || ! linkServes s h.link) = true := by
    rw [hr, hl]
    decide
  have hgood : ¬ (h.ver ≠ 1 ∨ ¬ h.lenOk = true ∨ h.ctr.msb = true ∨ ¬ h.tagOk = true ∨ ¬ sessionsReady s = true ∨ ¬ ctrFresh (s.sess k) h.ctr.toNat = true) := by
    rw [hver, hlen, hmsb, htag, hready, hfresh]
    decide
  have hscan' : (countedIn s h k).bit LDG_STATUS_scanning = false := hscan
  have hrom' : (countedIn s h k).upd.rom = false := hrom
  rw [zServe, zAccept, if_neg hgo, if_neg (by rw [hen]; decide), hk]
  dsimp only
  rw [if_neg hgood, ← countedIn, if_neg (by rw [hscan']; decide), if_neg (by rw [hrom']; decide)]

theorem sess_setSess_other (x : Sess) {j : Nat} (hj : j ≠ k) : (s.setSess k x).sess j = s.sess j := SMap.get_set_other _ _ _ _ _ _ hj

theorem countedIn_like (s : State) (h : ZHdr) (k : Nat) : AnswersLike s (countedIn s h k) where
  sess j := by
    by_cases hj : j = k
    · subst hj
      rw [countedIn, sess_setSess_same]
      exact ctrTake_send ..
    · rw [countedIn, sess_setSess_other _ hj]
      exact ⟨rfl, rfl⟩
  rest := rfl
  rd _ _ := rfl

theorem AnswersLike.trans (h : AnswersLike s t) (h' : AnswersLike t u) : AnswersLike s u where
  sess k := ⟨(h'.sess k).1.trans (h.sess k).1, (h'.sess k).2.trans (h.sess k).2⟩
  rest := h'.rest.trans (by rw [h.rest])
  rd q hq := (h'.rd q hq).trans (h.rd q hq)

theorem newReq_like (s : State) : AnswersLike s (newReq s).2 := ⟨fun _ => ⟨rfl, rfl⟩, rfl, fun _ _ => rfl⟩

theorem count_like {f : Fd} (hf : f.r = LDG_COUNT_REFUSE) : AnswersLike s (s.count f) :=
  ⟨fun _ => ⟨rfl, rfl⟩, rfl, fun q hq => State.rd_put_other _ _ _ _ (by rw [hf]; exact hq)⟩

/-- An answer in a state like the one in which the request came. -/
theorem sendAns_like (hs : Served s h k) (hu : AnswersLike s u) : Answered s (sendAns u h.link h.src k b) h k b ∧ LedgerKept s (sendAns u h.link h.src k b) ∧
    (sendAns u h.link h.src k b).regs = u.regs := by
  obtain ⟨-, -, hl, -, -, -, -, -, -, -, -, -, hblk⟩ := hs
  have hup : h.link ≠ .spi → u.get (ETH_P_STATUS_state h.link.port) = 2 := fun hne => by
    rw [State.get_congr (hu.rd _ (by simp only [ETH_P_STATUS_state, ETH_P_STATUS, LDG_COUNT_REFUSE]; omega))]
    cases hlk : h.link with
    | spi => exact absurd hlk hne
    | bb0 =>
      rw [hlk] at hl
      exact beq_iff_eq.1 hl
    | bb1 =>
      rw [hlk] at hl
      exact beq_iff_eq.1 hl
  obtain ⟨ha, hk, hr⟩ := sendAns_answered (b := b) (by rw [(hu.sess k).1, (hu.sess k).2]; exact hblk) hup
  exact ⟨ha.of_like hu, hk.of_like hu, hr⟩

end

end Sys2Proof.Machine
end

section
/-! A submission is judged in order (R215). -/
namespace Sys2Proof.Machine
open Sys2Proof Reg

section
variable {s t u : State} {h : ZHdr} {k r x n : Nat} {e : SubEntry} {i : Instr} {body : List Byte}

/-! ## Requests that bring a body -/

/-- A request is served by its type and its body alone (R226). -/
theorem exec_of_brings {ty : Nat} (hi : Brings i h ty body) : (ty = 0x01 → exec i s = .next (submit s h body)) ∧ (ty = 0x02 → exec i s = .next (poll s h body)) ∧
    (ty = 0x03 → exec i s = .next (query s h body)) := by
  unfold Brings at hi
  split at hi
  case h_11 => exact hi.elim
  all_goals obtain ⟨rfl, rfl, rfl⟩ := hi
  case h_1 => exact ⟨fun _ => rfl, nofun, nofun⟩
  case h_2 => exact ⟨nofun, fun _ => rfl, nofun⟩
  case h_3 => exact ⟨nofun, nofun, fun _ => rfl⟩
  all_goals exact ⟨nofun, nofun, nofun⟩

theorem exec_of_brings_submit (hi : Brings i h 0x01 body) : exec i s = .next (submit s h body) := (exec_of_brings hi).1 rfl

/-! ## The judgement (R215) -/

theorem refuse_like (v : Nat) (d : Word) : ∃ u', refuse u e v d = (u', some ⟨e.track.toNat, v, 4, e.seq, d⟩) ∧ AnswersLike u u' := by
  unfold refuse
  split
  · exact ⟨_, rfl, count_like rfl⟩
  · exact ⟨_, rfl, count_like rfl⟩

/-- Judged with the verdict `v`, the ticket state `st` and the detail `d`, with nothing consumed. -/
def JudgedAs (u : State) (k r x : Nat) (e : SubEntry) (v st : Nat) (d : Word) : Prop :=
  ∃ u', judgeSub u k r x e = (u', some ⟨e.track.toNat, v, st, e.seq, d⟩) ∧ AnswersLike u u'

theorem judgedAs_of_refuse {v : Nat} {d : Word} (hj : judgeSub u k r x e = refuse u e v d) : JudgedAs u k r x e v 4 d := by
  unfold JudgedAs
  rw [hj]
  exact refuse_like v d

/-- No ticket of the track and no queued submission has the sequence of the entry. -/
def Fresh (u : State) (e : SubEntry) : Prop :=
  (∀ i ∈ heldOf u e.track.toNat, ∀ y, u.ticket i = some y → y.seq ≠ e.seq) ∧ ∀ q ∈ queueOf u e.track.toNat, q.seq ≠ e.seq

/-- The judgement of an entry of an owned track that is neither a duplicate nor queued, from the test for an earlier sequence on. -/
noncomputable def judgeFresh (u : State) (r x : Nat) (e : SubEntry) : State × Option SubVerdict :=
  let n := e.track.toNat
  let q := queueOf u n
  let free := freeTickets u - queuedAll u
  if seqEarlier e.seq (u.expected n) then (u, some ⟨n, 0x03, 6, e.seq, 0⟩)
  else if decide (u.get FLT_STATUS_mode = 2) || u.isFenced n then refuse u e 0x14 0
  else if ! u.bit (LDG_TRK_CFG_open n) then refuse u e 0x13 0
  else if e.seq ≠ judging u n then refuse u e 0x10 (judging u n)
  else if creditOf u n ≤ (heldOf u n).length + q.length then refuse u e 0x11 1
  else if free = 0 ∨ (free ≤ u.get LDG_CTRL_reserve ∧ ¬ u.bit (LDG_TRK_CFG_safety n)) then refuse u e 0x11 2
  else if 8 ≤ q.length ∨ 64 ≤ queuedAll u then refuse u e 0x11 3
  else if u.ldg.pfw then refuse u e 0x11 4
  else (setQueue u n (q ++ [⟨e.seq, e.pay, [(r, x)]⟩]), none)

theorem judgeSub_unknown (hn : 512 ≤ e.track.toNat) : judgeSub u k r x e = refuse u e (if u.get FLT_STATUS_mode = 2 then 0x14 else 0x15) 0 := by
  unfold judgeSub
  dsimp only
  rw [if_pos hn]

theorem judgeSub_unowned (hn : e.track.toNat < 512) (ho : owns u k e.track.toNat = false) :
    judgeSub u k r x e = refuse u e (if u.get FLT_STATUS_mode = 2 then 0x14 else 0x12) 0 := by
  unfold judgeSub
  dsimp only
  rw [if_neg (Nat.not_le.2 hn), if_pos (by rw [ho]; rfl)]

/-- The ticket of the track that has the sequence of the entry. -/
noncomputable def sameTicket (u : State) (e : SubEntry) : Option Ticket :=
  (heldOf u e.track.toNat).findSome? fun i => (u.ticket i).bind fun y => if y.seq = e.seq then some y else none

theorem sameTicket_some {y : Ticket} (hy : sameTicket u e = some y) : ∃ i ∈ heldOf u e.track.toNat, u.ticket i = some y ∧ y.seq = e.seq := by
  obtain ⟨i, hi, hiy⟩ := List.exists_of_findSome?_eq_some hy
  obtain ⟨z, hz, hzy⟩ := Option.bind_eq_some_iff.1 hiy
  split at hzy
  next he =>
    cases hzy
    exact ⟨i, hi, hz, he⟩
  next => cases hzy

theorem sameTicket_none (hy : sameTicket u e = none) : ∀ i ∈ heldOf u e.track.toNat, ∀ y, u.ticket i = some y → y.seq ≠ e.seq := fun i hi y hiy he => by
  have hnone := List.findSome?_eq_none_iff.1 hy i hi
  rw [hiy, Option.bind_some, if_pos he] at hnone
  cases hnone

theorem sameTicket_of_fresh (hf : Fresh u e) : sameTicket u e = none := by
  cases hy : sameTicket u e with
  | none => rfl
  | some y =>
    obtain ⟨i, hi, hiy, hs⟩ := sameTicket_some hy
    exact absurd hs (hf.1 i hi y hiy)

theorem judgeSub_duplicate {y : Ticket} (hn : e.track.toNat < 512) (ho : owns u k e.track.toNat = true) (hy : sameTicket u e = some y) :
    judgeSub u k r x e = (u, some ⟨e.track.toNat, 0x02, y.st.code, e.seq, if y.st = .done ∨ y.st = .abandoned then BitVec.ofNat 32 y.result else 0⟩) := by
  unfold judgeSub
  dsimp only
  rw [if_neg (Nat.not_le.2 hn), if_neg (by rw [ho]; decide), ← sameTicket, hy]

theorem judgeSub_fresh (hn : e.track.toNat < 512) (ho : owns u k e.track.toNat = true) (hf : Fresh u e) : judgeSub u k r x e = judgeFresh u r x e := by
  have hq : ¬ ((queueOf u e.track.toNat).any fun q => decide (q.seq = e.seq)) = true := by
    rw [List.any_eq_true]
    rintro ⟨q, hq, hs⟩
    exact hf.2 q hq (of_decide_eq_true hs)
  unfold judgeSub
  dsimp only
  rw [if_neg (Nat.not_le.2 hn), if_neg (by rw [ho]; decide), ← sameTicket, sameTicket_of_fresh hf]
  dsimp only
  rw [if_neg hq]
  rfl

/-! ## The verdict of a submission of one entry -/

/-- The state with other sessions and another number for the next request. -/
noncomputable def withReq (s : State) (ss : SMap Sess) (i : Nat) : State := { s with ldg := { s.ldg with sessions := ss, reqId := i } }

theorem submit_served (hs : Served s h k) (hb : subBody body = some [e]) : ∃ ss, AnswersLike s (withReq s ss (s.ldg.reqId + 1)) ∧ submit s h body =
    match judgeSub (withReq s ss (s.ldg.reqId + 1)) k s.ldg.reqId 0 e with
    | (v, some y) => sendAns v h.link h.src k (.submit [y])
    | (v, none) => answerReady (takePlace v h.link h.src s.ldg.reqId) ⟨s.ldg.reqId, h.link, h.src, k, [none]⟩ := by
  have hlike : AnswersLike s (newReq (countedIn s h k)).2 := (countedIn_like s h k).trans (newReq_like _)
  refine ⟨(countedIn s h k).ldg.sessions, hlike, ?_⟩
  have hstate : (countedIn s h k).modLdg (fun l => { l with reqId := l.reqId + 1 }) = withReq s (countedIn s h k).ldg.sessions (s.ldg.reqId + 1) := rfl
  have hid : (countedIn s h k).ldg.reqId = s.ldg.reqId := rfl
  unfold submit
  rw [zServe_served hs, hb]
  simp only [newReq, hstate, hid, judgeAll]
  generalize judgeSub (withReq s (countedIn s h k).ldg.sessions (s.ldg.reqId + 1)) k s.ldg.reqId 0 e = q
  obtain ⟨v, y | y⟩ := q
  · rfl
  · rfl

/-- A judgement that consumes nothing is answered at once. -/
theorem verdict_of_judged {v st : Nat} {d : Word} (hs : Served s h k) (hlen : e.pay.length ≤ 48) (hj : ∀ ss i, JudgedAs (withReq s ss i) k s.ldg.reqId 0 e v st d)
    (i : Instr) (hi : Brings i h 0x01 (submitOne e)) : Completes i s fun t => Answered s t h k (.submit [⟨e.track.toNat, v, st, e.seq, d⟩]) ∧ LedgerKept s t := by
  obtain ⟨ss, hlike, hsub⟩ := submit_served hs (subBody_submitOne e hlen)
  obtain ⟨u', hu', hl'⟩ := hj ss (s.ldg.reqId + 1)
  rw [hu'] at hsub
  obtain ⟨ha, hk, -⟩ := sendAns_like (b := .submit [⟨e.track.toNat, v, st, e.seq, d⟩]) hs (hlike.trans hl')
  exact ⟨_, (exec_of_brings_submit hi).trans (congrArg _ hsub), ha, hk⟩

/-! ## The tests from the sequence on -/

theorem judgeFresh_earlier (h1 : seqEarlier e.seq (u.expected e.track.toNat) = true) :
    judgeFresh u r x e = (u, some ⟨e.track.toNat, 0x03, 6, e.seq, 0⟩) := if_pos h1

/-- The tests past the one for an earlier sequence, on a track that takes submissions. -/
theorem judgeFresh_fenced (h1 : seqEarlier e.seq (u.expected e.track.toNat) = false) (h2 : u.isFenced e.track.toNat = true ∨ u.get FLT_STATUS_mode = 2) :
    judgeFresh u r x e = refuse u e 0x14 0 := by
  unfold judgeFresh
  dsimp only
  rw [if_neg (by rw [h1]; decide), if_pos]
  rw [Bool.or_eq_true, decide_eq_true_iff]
  exact h2.symm

theorem judgeFresh_served (h1 : seqEarlier e.seq (u.expected e.track.toNat) = false) (h2 : u.isFenced e.track.toNat = false) (h3 : ¬ u.get FLT_STATUS_mode = 2) :
    judgeFresh u r x e =
      let n := e.track.toNat
      let q := queueOf u n
      let free := freeTickets u - queuedAll u
      if ! u.bit (LDG_TRK_CFG_open n) then refuse u e 0x13 0
      else if e.seq ≠ judging u n then refuse u e 0x10 (judging u n)
      else if creditOf u n ≤ (heldOf u n).length + q.length then refuse u e 0x11 1
      else if free = 0 ∨ (free ≤ u.get LDG_CTRL_reserve ∧ ¬ u.bit (LDG_TRK_CFG_safety n)) then refuse u e 0x11 2
      else if 8 ≤ q.length ∨ 64 ≤ queuedAll u then refuse u e 0x11 3
      else if u.ldg.pfw then refuse u e 0x11 4
      else (setQueue u n (q ++ [⟨e.seq, e.pay, [(r, x)]⟩]), none) := by
  unfold judgeFresh
  dsimp only
  rw [if_neg (by rw [h1]; decide), if_neg]
  rw [h2, decide_eq_false h3]
  decide

/-! ## A submission queued -/

theorem takePlace_only (u : State) (h : ZHdr) (r : Nat) : takePlace u h.link h.src r = { u with net := (takePlace u h.link h.src r).net } := by
  unfold takePlace
  split <;> rfl

theorem zlpFrame_congr (hr : u.regs = s.regs) (l : ZLink) (src : ZSrc) (m : EthMsg) : zlpFrame u l src m = zlpFrame s l src m := by
  have hrd (q : Rg) : u.rd q = s.rd q := by rw [State.rd, hr, State.rd]
  have hget (f : Fd) : u.get f = s.get f := State.get_congr (hrd f.r)
  rw [zlpFrame, hget, ethFrameTo, ethIp6, hrd, hrd, hrd, hrd, hrd, hget, ← ethIp6, zlpFrame, ethFrameTo]

theorem takePlace_placeTaken (hn : u.net = s.net) (hr : u.regs = s.regs) (ht : t.net = (takePlace u h.link h.src s.ldg.reqId).net) : PlaceTaken s t h := by
  have hframe := zlpFrame_congr hr h.link h.src (.later s.ldg.reqId)
  unfold PlaceTaken
  rw [ht]
  unfold takePlace
  cases hl : h.link with
  | spi =>
    rw [if_pos rfl]
    exact hn
  | bb0 =>
    rw [if_neg (by decide)]
    rw [hl] at hframe
    simp only [ethQueue, hframe, hn]
    rfl
  | bb1 =>
    rw [if_neg (by decide)]
    rw [hl] at hframe
    simp only [ethQueue, hframe, hn]
    rfl

/-- A submission that joins the queue of its track, with its place among the answers. -/
noncomputable def queuedSub (s : State) (ss : SMap Sess) (h : ZHdr) (k : Nat) (e : SubEntry) : State :=
  (takePlace (setQueue (withReq s ss (s.ldg.reqId + 1)) e.track.toNat (queueOf s e.track.toNat ++ [⟨e.seq, e.pay, [(s.ldg.reqId, 0)]⟩]))
    h.link h.src s.ldg.reqId).modLdg fun l => { l with reqs := l.reqs ++ [⟨s.ldg.reqId, h.link, h.src, k, [none]⟩] }

theorem queuedSub_only (s : State) (ss : SMap Sess) (h : ZHdr) (k : Nat) (e : SubEntry) : ∃ w rq, queuedSub s ss h k e =
    { s with
      net := w
      ldg := { s.ldg with
        sessions := ss
        reqId := s.ldg.reqId + 1
        reqs := rq
        queues := SMap.set [] s.ldg.queues e.track.toNat (queueOf s e.track.toNat ++ [⟨e.seq, e.pay, [(s.ldg.reqId, 0)]⟩]) } } := by
  rw [queuedSub, takePlace_only]
  exact ⟨_, _, rfl⟩

theorem queuedSub_placed (s : State) (ss : SMap Sess) (h : ZHdr) (k : Nat) (e : SubEntry) : PlaceTaken s (queuedSub s ss h k e) h :=
  takePlace_placeTaken (u := setQueue (withReq s ss (s.ldg.reqId + 1)) e.track.toNat (queueOf s e.track.toNat ++ [⟨e.seq, e.pay, [(s.ldg.reqId, 0)]⟩])) rfl rfl rfl

theorem queuedSub_queue (s : State) (ss : SMap Sess) (h : ZHdr) (k : Nat) (e : SubEntry) :
    queueOf (queuedSub s ss h k e) e.track.toNat = queueOf s e.track.toNat ++ [⟨e.seq, e.pay, [(s.ldg.reqId, 0)]⟩] ∧
    ∀ m, m ≠ e.track.toNat → queueOf (queuedSub s ss h k e) m = queueOf s m := by
  obtain ⟨w, rq, hq⟩ := queuedSub_only s ss h k e
  rw [hq]
  exact ⟨SMap.get_set_same .., fun m hm => SMap.get_set_other _ _ _ _ _ _ hm⟩

theorem answerReady_waits (u : State) (q : SubReq) (hq : q.verdicts = [none]) : answerReady u q = u.modLdg fun l => { l with reqs := l.reqs ++ [q] } := by
  unfold answerReady
  rw [if_neg]
  rw [hq]
  decide

end

/-- Settles O23: the entry that is brought is judged once (`submit_served`), test by test. -/
theorem submissionsAreJudgedInOrder : Obligations.SubmissionsAreJudgedInOrder := by
  unfold Obligations.SubmissionsAreJudgedInOrder
  intro s h k e hs hlen n q held free Verdict fresh open_ ready stop
  have hrefused {v : Nat} {d : Word} (hj : ∀ ss i, judgeSub (withReq s ss i) k s.ldg.reqId 0 e = refuse (withReq s ss i) e v d) : Verdict v 4 d :=
    verdict_of_judged hs hlen fun ss i => judgedAs_of_refuse (hj ss i)
  have hserved (ho : open_) (hst : ¬ stop) (ss : SMap Sess) (i : Nat) : judgeSub (withReq s ss i) k s.ldg.reqId 0 e = _ :=
    (judgeSub_fresh (u := withReq s ss i) ho.1 ho.2.1 ho.2.2.1).trans (judgeFresh_served ho.2.2.2.1 ho.2.2.2.2 hst)
  refine ⟨fun hn => ⟨fun hst => ?_, fun hst => ?_⟩, fun hn ho => ⟨fun hst => ?_, fun hst => ?_⟩, fun hn ho hd => ?_, fun hn ho hf he => ?_, fun hn ho hf he hst => ?_,
    fun hst ho hopen => ?_, fun hst ho hopen hseq => ?_, fun hst hready => ?_, fun body i hb hi => ?_⟩
  · exact hrefused fun ss i => (judgeSub_unknown (u := withReq s ss i) hn).trans (congrArg (refuse _ e · 0) (if_neg hst))
  · exact hrefused fun ss i => (judgeSub_unknown (u := withReq s ss i) hn).trans (congrArg (refuse _ e · 0) (if_pos hst))
  · exact hrefused fun ss i => (judgeSub_unowned (u := withReq s ss i) hn ho).trans (congrArg (refuse _ e · 0) (if_neg hst))
  · exact hrefused fun ss i => (judgeSub_unowned (u := withReq s ss i) hn ho).trans (congrArg (refuse _ e · 0) (if_pos hst))
  · cases hy : sameTicket s e with
    | none =>
      obtain ⟨i, hi, y, hiy, hsy⟩ := hd
      exact absurd hsy (sameTicket_none hy i hi y hiy)
    | some y =>
      obtain ⟨i, hi, hiy, hsy⟩ := sameTicket_some hy
      refine ⟨i, hi, y, hiy, hsy, verdict_of_judged hs hlen fun ss i => ⟨_, judgeSub_duplicate hn ho hy, ?_⟩⟩
      exact ⟨fun _ => ⟨rfl, rfl⟩, rfl, fun _ _ => rfl⟩
  · refine verdict_of_judged hs hlen fun ss i => ⟨_, (judgeSub_fresh (u := withReq s ss i) hn ho hf).trans (judgeFresh_earlier he), ?_⟩
    exact ⟨fun _ => ⟨rfl, rfl⟩, rfl, fun _ _ => rfl⟩
  · exact hrefused fun ss i => (judgeSub_fresh (u := withReq s ss i) hn ho hf).trans (judgeFresh_fenced he hst)
  · exact hrefused fun ss i => (hserved ho hst ss i).trans (if_pos (by rw [Bool.not_eq_true']; exact hopen))
  · exact hrefused fun ss i => (hserved ho hst ss i).trans ((if_neg (by rw [Bool.not_eq_true', Bool.not_eq_false]; exact hopen)).trans (if_pos hseq))
  · intro full
    obtain ⟨ho, hopen, hseq⟩ := hready
    have hcredit (ss : SMap Sess) (i : Nat) := (hserved ho hst ss i).trans ((if_neg (by rw [Bool.not_eq_true', Bool.not_eq_false]; exact hopen)).trans
      (if_neg (not_not_intro hseq)))
    have hfull : full ↔ free = 0 ∨ (free ≤ s.get LDG_CTRL_reserve ∧ ¬ s.bit (LDG_TRK_CFG_safety n) = true) := by
      rw [Bool.not_eq_true]
    refine ⟨fun hc => ?_, fun hc hf => ?_, fun hc hf hq => ?_, fun hc hf hq hall => ⟨fun hp => ?_, fun hp i hi => ?_⟩⟩
    · exact hrefused fun ss i => (hcredit ss i).trans (if_pos hc)
    · exact hrefused fun ss i => (hcredit ss i).trans ((if_neg (Nat.not_le.2 hc)).trans (if_pos (hfull.1 hf)))
    · exact hrefused fun ss i => (hcredit ss i).trans ((if_neg (Nat.not_le.2 hc)).trans ((if_neg fun hx => hf (hfull.2 hx)).trans (if_pos hq)))
    · exact hrefused fun ss i => (hcredit ss i).trans ((if_neg (Nat.not_le.2 hc)).trans ((if_neg fun hx => hf (hfull.2 hx)).trans
        ((if_neg fun hx => hx.elim (Nat.not_le.2 hq) (Nat.not_le.2 hall)).trans (if_pos hp))))
    · obtain ⟨ss, hlike, hsub⟩ := submit_served hs (subBody_submitOne e hlen)
      have hj := (hcredit ss (s.ldg.reqId + 1)).trans ((if_neg (Nat.not_le.2 hc)).trans ((if_neg fun hx => hf (hfull.2 hx)).trans
        ((if_neg fun hx => hx.elim (Nat.not_le.2 hq) (Nat.not_le.2 hall)).trans (if_neg (by rw [show (withReq s ss (s.ldg.reqId + 1)).ldg.pfw = s.ldg.pfw from rfl, hp]; decide)))))
      rw [hj] at hsub
      dsimp only at hsub
      rw [answerReady_waits _ _ rfl] at hsub
      obtain ⟨w, rq, hq'⟩ := queuedSub_only s ss h k e
      have hrest : (queuedSub s ss h k e).ldg.tickets = s.ldg.tickets ∧ (queuedSub s ss h k e).ldg.sent = s.ldg.sent ∧
          (queuedSub s ss h k e).ldg.spiQ = s.ldg.spiQ ∧ (queuedSub s ss h k e).regs = s.regs := by
        rw [hq']
        exact ⟨rfl, rfl, rfl, rfl⟩
      obtain ⟨htk, hsent, hspi, hregs⟩ := hrest
      obtain ⟨hself, hothers⟩ := queuedSub_queue s ss h k e
      exact ⟨queuedSub s ss h k e, (exec_of_brings_submit hi).trans (congrArg _ hsub), hself, hothers, htk, hsent, hspi, hregs, queuedSub_placed ..⟩
  · have hsub : submit s h body = sendAns (countedIn s h k) h.link h.src k (.error 2) := by
      rw [submit, zServe_served hs, hb]
    obtain ⟨ha, hk, -⟩ := sendAns_like (b := .error 2) hs (countedIn_like s h k)
    exact ⟨_, (exec_of_brings_submit hi).trans (congrArg _ hsub), ha, hk⟩

end Sys2Proof.Machine
end

section
/-! Tickets presented, and POLL, QUERY and the other requests (R217, R222 to R226, R235). -/
namespace Sys2Proof.Machine
open Sys2Proof Reg

/-! ## A ticket presented -/

section
variable {s t u : State} {c d i p n h : Nat} {e : Ev}

/-- Nothing has changed but the contexts, their memories and what is raised. -/
def OnlyCores (s t : State) : Prop := t = { s with raiseQ := t.raiseQ, cpu := t.cpu }

theorem OnlyCores.trans (h : OnlyCores s t) (h' : OnlyCores t u) : OnlyCores s u := by
  unfold OnlyCores at h h' ⊢
  exact h'.trans (by rw [h])

theorem OnlyData.onlyCores (h : OnlyData s t) : OnlyCores s t := by
  unfold OnlyData at h
  rw [h]
  rfl

theorem retire_onlyCores (s : State) (c : Nat) : OnlyCores s (retire s c) := by
  unfold retire
  dsimp only
  split <;> rfl

theorem closePacket_onlyCores (s : State) (c : Nat) : OnlyCores s (closePacket s c) := by
  unfold closePacket
  dsimp only
  split
  · rfl
  · split
    · rfl
    · split <;> rfl

theorem commitFrame_onlyCores (s : State) (c : Nat) : OnlyCores s (commitFrame s c) := by
  obtain ⟨b, fs, hw⟩ := writeFrame_ctx (landNext s c) c (0, s.frame c 0x1E, 0)
  have hland : OnlyCores s (landNext s c) := OnlyCores.trans (t := s.setCtx c _) rfl (foldl_enterStore_onlyData _ c _).onlyCores
  rw [commitFrame, hw]
  exact hland.trans rfl

theorem leftLane_onlyCores (s : State) (c : Nat) : OnlyCores s (leftLane s c) := by
  have hleave : OnlyCores s (leaving s c) := by
    unfold leaving
    split
    · exact (closePacket_onlyCores s c).trans (retire_onlyCores ..)
    · exact closePacket_onlyCores s c
  unfold leftLane
  split
  · exact hleave
  · exact hleave.trans (commitFrame_onlyCores ..)

theorem modCtx_onlyCores (s : State) (c : Nat) (f : Ctx → Ctx) : OnlyCores s (s.modCtx c f) := rfl

theorem toResident_onlyCores (s : State) (c p lane : Nat) : OnlyCores s (toResident s c p lane) := rfl

theorem swapOut_onlyCores (s : State) (c : Nat) (m : CtxMode) : OnlyCores s (swapOut s c m) := by
  obtain ⟨f, -, hf⟩ := swapOut_eq s c m
  rw [hf]
  exact (leftLane_onlyCores s c).trans (modCtx_onlyCores _ c f)

theorem laneFree_onlyCores (s : State) (p : Nat) : OnlyCores s (laneFree s p) := by
  unfold laneFree
  split <;> rfl

theorem evict_onlyCores (s : State) (v c p : Nat) : OnlyCores s (evict s v c p) := by
  have hin := (swapOut_onlyCores s v .ready).trans (toResident_onlyCores _ c p (s.ctx v).lane)
  unfold evict
  dsimp only
  split
  · exact hin.trans (laneFree_onlyCores ..)
  · exact hin

theorem arrive_onlyCores (s : State) (c p : Nat) : OnlyCores s (arrive s c p) := by
  unfold arrive
  split
  · rfl
  · split
    · exact evict_onlyCores ..
    · rfl

theorem toResident_inp (s : State) (c p lane d i : Nat) : ((toResident s c p lane).ctx d).inp i = (s.ctx d).inp i := by
  by_cases hd : d = c
  · subst hd
    rw [toResident, State.ctx_modCtx_same, countCommit, State.ctx_modCtx_same]
    rfl
  · rw [toResident_ctx_other s hd]

theorem laneFree_inp (s : State) (p d i : Nat) : ((laneFree s p).ctx d).inp i = (s.ctx d).inp i := by
  unfold laneFree
  split
  · exact toResident_inp ..
  · rfl

theorem prio_of_victim {v k : Nat} (h : victim s p k = some v) : s.prio v < k :=
  (of_decide_eq_true (List.mem_filter.1 (best_mem h)).2).2

/-- A context that arrives keeps its inputs: the one that makes room for it is another, of a lower priority. -/
theorem arrive_inp (s : State) (c p i : Nat) : ((arrive s c p).ctx c).inp i = (s.ctx c).inp i := by
  unfold arrive
  split
  · exact toResident_inp ..
  · split
    · next v hv =>
      have hvc : c ≠ v := by
        rintro rfl
        split at hv
        · exact absurd (prio_of_victim hv) (by omega)
        · cases hv
      obtain ⟨f, -, hf⟩ := swapOut_eq s v .ready
      have hin : ((toResident (swapOut s v .ready) c p (s.ctx v).lane).ctx c).inp i = (s.ctx c).inp i := by
        rw [toResident_inp, hf, State.ctx_modCtx_other _ _ _ _ hvc, leftLane_ctx_other hvc]
      unfold evict
      dsimp only
      split
      · rw [laneFree_inp, hin]
      · exact hin
    · rw [State.ctx_modCtx_same]
      rfl

/-- An event that its queue input has room for is the last there, whatever the context's mode; one that is not Waiting keeps the others as they are. -/
theorem deliver_queued (h1 : (s.ctx c).mode ≠ .empty) (h2 : latest s c i = false) (h3 : ((s.ctx c).inp i).q.length < 8) :
    OnlyCores s (deliver s c i e) ∧ (((deliver s c i e).ctx c).inp i).q = ((s.ctx c).inp i).q ++ [e] ∧
      ((s.ctx c).mode ≠ .waiting → ∀ d, d ≠ c → (deliver s c i e).ctx d = s.ctx d) := by
  have hq (t : State) : (((t.setCtx c ((s.ctx c).setInp i { (s.ctx c).inp i with q := ((s.ctx c).inp i).q ++ [e] })).ctx c).inp i).q = ((s.ctx c).inp i).q ++ [e] := by
    rw [State.ctx_setCtx_same, Ctx.inp_setInp_same]
  by_cases hw : (s.ctx c).mode = .waiting
  · unfold deliver
    dsimp only
    rw [if_neg h1, if_neg (by rw [h2]; decide), if_pos h3, if_pos hw]
    refine ⟨OnlyCores.trans (t := State.stamped _) rfl (arrive_onlyCores ..), ?_, fun h => absurd hw h⟩
    rw [arrive_inp, State.ctx_stamped, hq]
  · rw [deliver_eq h1 hw h2, if_pos h3]
    exact ⟨rfl, hq s, fun _ d hd => State.ctx_setCtx_other _ _ _ _ hd⟩

end

section
variable {s t u : State} {n : Fin 512} {h : Nat} {x : Ticket}

theorem unfence_keeps (s : State) (n : Nat) : (unfence s n).cpu = s.cpu ∧ (unfence s n).ldg.tickets = s.ldg.tickets := by
  unfold unfence checkRecovered
  split <;> exact ⟨rfl, rfl⟩

theorem dozeLeave_keeps (s : State) : (dozeLeave s).cpu = s.cpu ∧ (dozeLeave s).ldg = s.ldg := by
  unfold dozeLeave
  dsimp only
  unfold seqTo
  split
  · exact ⟨rfl, rfl⟩
  · split <;> exact ⟨rfl, rfl⟩

theorem presentable_none (h : s.bit (TSK_ROUTE_valid n) = false ∨ (s.ctx (s.get (TSK_ROUTE_ctx n))).mode = .empty ∨ s.bit LDG_STATUS_awaitreplay = true) :
    presentable s n = none := by
  unfold presentable
  refine if_neg fun hc => ?_
  simp only [Bool.and_eq_true, Bool.not_eq_true', decide_eq_true_eq] at hc
  obtain ⟨⟨⟨⟨⟨⟨hv, hm⟩, -⟩, -⟩, ha⟩, -⟩, -⟩ := hc
  rcases h with h | h | h
  · exact absurd (hv.symm.trans h) (by decide)
  · exact hm h
  · exact absurd (ha.symm.trans h) (by decide)

theorem ticketPresent_none (hp : presentable s n = none) : exec (.ticketPresent n) s = .next s := by
  have h : present s n = s := by rw [present, hp]
  refine congrArg Host.Outcome.next ?_
  rw [hp, h]
  exact ite_self s

/-- A ticket is presented where its route, its input and its track allow it (R222, R223). -/
theorem presentable_some (hv : s.bit (TSK_ROUTE_valid n) = true) (hm : (s.ctx (s.get (TSK_ROUTE_ctx n))).mode ≠ .empty)
    (hi : latest s (s.get (TSK_ROUTE_ctx n)) (s.get (TSK_ROUTE_input n)) = false)
    (hq : ((s.ctx (s.get (TSK_ROUTE_ctx n))).inp (s.get (TSK_ROUTE_input n))).q.length < 8)
    (hd : (((s.ctx (s.get (TSK_ROUTE_ctx n))).inp (s.get (TSK_ROUTE_input n))).q.filter fun e => e.src = n.val).length < depthOf s n)
    (ha : s.bit LDG_STATUS_awaitreplay = false) (hb : s.bit LDG_STATUS_badrec = false) (hc : s.bit LDG_STATUS_scanning = false)
    (ho : oldestAccepted s n = some h) (hx : s.ticket h = some x) : presentable s n = some (h, x) := by
  unfold presentable inputFree
  dsimp only
  rw [hi, if_neg Bool.false_ne_true, hv, ha, hb, hc, ho, decide_eq_true hm, decide_eq_true hq, decide_eq_true hd]
  exact congrArg (Option.map _) hx

/-- What a presented ticket leaves: the event delivered, the ticket Dispatched, and the fence of its track lifted where it was the last (R246). -/
theorem present_dispatches (hp : presentable s n = some (h, x)) :
    (present s n).cpu = (deliver s (s.get (TSK_ROUTE_ctx n)) (s.get (TSK_ROUTE_input n)) ⟨n, h⟩).cpu ∧
      (present s n).ldg.tickets = (deliver s (s.get (TSK_ROUTE_ctx n)) (s.get (TSK_ROUTE_input n)) ⟨n, h⟩).ldg.tickets.ins h
        { x with st := .dispatched, ctx := s.get (TSK_ROUTE_ctx n) } := by
  rw [present, hp]
  dsimp only
  split
  · exact unfence_keeps ..
  · exact ⟨rfl, rfl⟩

/-- The outcome of a presentation: as `present` leaves it, in Run where it ends Doze. -/
theorem ticketPresent_served (hr : clkRuns s = true) (hp : (presentable s n).isSome = true) : ∃ t, exec (.ticketPresent n) s = .next t ∧
    t.cpu = (present s n).cpu ∧ t.ldg.tickets = (present s n).ldg.tickets ∧
      (endsDoze s (s.get (TSK_ROUTE_ctx n)) = true → t.pwr.phase = .run ∧ t.get PWR_STATUS_state = 0) := by
  have hexec : exec (.ticketPresent n) s =
      .next (if endsDoze s (s.get (TSK_ROUTE_ctx n)) = true then dozeLeave (present s n) else present s n) := by
    refine congrArg Host.Outcome.next ?_
    rw [if_neg (by rw [hr]; decide), hp, Bool.true_and]
  refine ⟨_, hexec, ?_⟩
  split
  · exact ⟨(dozeLeave_keeps _).1, congrArg (·.tickets) (dozeLeave_keeps _).2, fun _ => dozeLeave_run _⟩
  · next hd => exact ⟨rfl, rfl, fun h => absurd h hd⟩

end

section
variable {s t u : State} {h : ZHdr} {k j : Nat} {x : Ticket} {m cls : Byte}

/-! ## The bodies of POLL and QUERY -/

theorem pollBody_fields (n : BitVec 16) (v : Bool) (m : Byte) (ack first : Word) :
    (pollBody n v m ack first).length = 12 ∧ beField (pollBody n v m ack first) 0 2 = n.toNat ∧
      bitOf (BitVec.ofNat 32 (beField (pollBody n v m ack first) 2 1)) 0 = v ∧ BitVec.ofNat 32 (beField (pollBody n v m ack first) 4 4) = ack := by
  have hb : pollBody n v m ack first = BitVec.ofNat 8 (n.toNat / 256) :: BitVec.ofNat 8 n.toNat :: (if v then 1 else 0) :: m :: (beWord ack ++ beWord first) := by
    rw [pollBody, beBytes_two]
    rfl
  rw [hb]
  refine ⟨rfl, beVal_pair n, ?_, ?_⟩
  · have hf (b : Byte) (l : List Byte) : beField (BitVec.ofNat 8 (n.toNat / 256) :: BitVec.ofNat 8 n.toNat :: b :: l) 2 1 = b.toNat := Nat.zero_add _
    rw [hf]
    cases v <;> decide
  · have hw : beField (BitVec.ofNat 8 (n.toNat / 256) :: BitVec.ofNat 8 n.toNat :: (if v then 1 else 0) :: m :: (beWord ack ++ beWord first)) 4 4 = ack.toNat := beVal_word ack
    rw [hw, BitVec.ofNat_toNat, BitVec.setWidth_eq]

theorem queryBody_fields (cls : Byte) (cursor : Word) (m : BitVec 16) :
    (queryBody cls cursor m).length = 12 ∧ beField (queryBody cls cursor m) 0 1 = cls.toNat ∧ beField (queryBody cls cursor m) 8 2 = m.toNat := by
  refine ⟨?_, ?_, ?_⟩
  · rw [queryBody, beBytes_two]
    rfl
  · exact Nat.zero_add _
  · rw [queryBody, beBytes_two]
    exact beVal_pair m

/-! ## The tickets that an acknowledgement releases (R225) -/

theorem releases_find (l : List Nat) (s : State) (j : Nat) : (l.foldl releaseTicket s).ticket j = if j ∈ l then none else s.ticket j := by
  induction l generalizing s with
  | nil => rfl
  | cons a l ih =>
    rw [List.foldl_cons, ih]
    by_cases hj : j = a
    · subst hj
      rw [if_pos List.mem_cons_self]
      split
      · rfl
      · exact SMap.find_erase_same _ _
    · simp only [List.mem_cons, hj, false_or]
      rw [show (releaseTicket s a).ticket j = s.ticket j from SMap.find_erase_other _ _ _ hj]

/-- The first handle range of a track's tickets (R213). -/
theorem mem_heldOf (hx : s.ticket j = some x) : j ∈ heldOf s x.track :=
  List.mem_map.2 ⟨(j, x), List.mem_filter.2 ⟨SMap.mem_of_find hx, decide_eq_true rfl⟩, rfl⟩

/-- What an acknowledgement takes away: the finished tickets of its track that are recorded and not later (R225). -/
noncomputable def releasedBy (s : State) (n : Nat) (a : Word) : List Nat :=
  (heldOf s n).filter fun j => match s.ticket j with
    | some t => (t.st = .done || t.st = .abandoned) && t.recorded && ! seqLater t.seq a
    | none => false

theorem mem_releasedBy (hx : s.ticket j = some x) (n : Nat) (a : Word) : j ∈ releasedBy s n a ↔
    j ∈ heldOf s n ∧ (x.st = .done ∨ x.st = .abandoned) ∧ x.recorded = true ∧ seqLater x.seq a = false := by
  rw [releasedBy, List.mem_filter, hx]
  simp only [Bool.and_eq_true, Bool.or_eq_true, decide_eq_true_eq, Bool.not_eq_true', and_assoc]

/-- The acknowledgement as it counts: none at or beyond the expected sequence (R225). -/
noncomputable def ackBound (s : State) (n : Nat) (ack : Word) : Word := if seqEarlier ack (s.expected n) = true then ack else s.expected n - 1

theorem applyAck_eq (s : State) (n : Nat) (ack : Word) : applyAck s n ack =
    let w := (releasedBy s n (ackBound s n ack)).foldl releaseTicket s
    if seqLater (ackBound s n ack) (w.rd (LDG_TRK_FLOOR n)) then w.wr (LDG_TRK_FLOOR n) (ackBound s n ack) else w := rfl

/-- A request's change of the state that leaves the sessions and every register but the floors of tracks alone. -/
structure Acknowledged (s u : State) (n : Nat) (a : Word) : Prop where
  sessions : u.ldg.sessions = s.ldg.sessions
  rest : u.upd = s.upd ∧ u.net = s.net ∧ u.ldg.sent = s.ldg.sent ∧ u.ldg.spiQ = s.ldg.spiQ ∧ u.wm = s.wm
  regs : RegsBut [LDG_TRK_FLOOR n] s u
  floor : u.rd (LDG_TRK_FLOOR n) = if seqLater a (s.rd (LDG_TRK_FLOOR n)) = true then a else s.rd (LDG_TRK_FLOOR n)
  tickets : ∀ j, u.ticket j = if j ∈ releasedBy s n a then none else s.ticket j

theorem releases_only (l : List Nat) (s : State) : l.foldl releaseTicket s =
    { s with ldg := { s.ldg with tickets := (l.foldl releaseTicket s).ldg.tickets, freeQ := (l.foldl releaseTicket s).ldg.freeQ } } := by
  induction l generalizing s with
  | nil => rfl
  | cons a l ih => rw [List.foldl_cons, ih]; rfl

theorem applyAck_acknowledged (s : State) (n : Nat) (ack : Word) : Acknowledged s (applyAck s n ack) n (ackBound s n ack) := by
  rw [applyAck_eq]
  generalize ackBound s n ack = a
  have hrel := releases_only (releasedBy s n a) s
  have hfind := releases_find (releasedBy s n a) s
  generalize (releasedBy s n a).foldl releaseTicket s = w at hrel hfind
  have hregs : w.regs = s.regs := by rw [hrel]
  have hsess : w.ldg.sessions = s.ldg.sessions := by rw [hrel]
  have hrest : w.upd = s.upd ∧ w.net = s.net ∧ w.ldg.sent = s.ldg.sent ∧ w.ldg.spiQ = s.ldg.spiQ ∧ w.wm = s.wm := by
    rw [hrel]
    exact ⟨rfl, rfl, rfl, rfl, rfl⟩
  have hrd : w.rd (LDG_TRK_FLOOR n) = s.rd (LDG_TRK_FLOOR n) := by rw [State.rd, hregs, State.rd]
  dsimp only
  rw [hrd]
  by_cases hlater : seqLater a (s.rd (LDG_TRK_FLOOR n)) = true
  · rw [if_pos hlater]
    exact ⟨hsess, hrest, (RegsBut.of_regs hregs).trans (RegsBut.refl.wr List.mem_cons_self), by rw [if_pos hlater, State.rd_wr_same], hfind⟩
  · rw [if_neg hlater]
    exact ⟨hsess, hrest, .of_regs hregs, by rw [if_neg hlater, hrd], hfind⟩

theorem up_of_linkServes {l : ZLink} (hl : linkServes s l = true) (hne : l ≠ .spi) : s.get (ETH_P_STATUS_state l.port) = 2 := by
  cases l with
  | spi => exact absurd rfl hne
  | bb0 => exact beq_iff_eq.1 hl
  | bb1 => exact beq_iff_eq.1 hl

theorem session_lt (hs : sessionOf s h = some k) : k < 16 := List.mem_range.1 (List.mem_of_find?_eq_some hs)

/-- An answer in a state whose tickets an acknowledgement has changed. -/
theorem answerRegs_addr (hk : k < 16) : ∀ q ∈ answerRegs h k, q.addr < 0x40070180 ∨ 0x40380000 ≤ q.addr := by
  simp only [answerRegs, List.forall_mem_cons]
  refine ⟨.inl ?_, .inl (by decide), .inr ?_, .inr (by decide), .inr (by decide), .inr (by decide), .inr (by decide), .inr (by decide), nofun⟩
  · simp only [LDG_SESS_ID]
    omega
  · exact Nat.le_trans (by decide : 0x40380000 ≤ 0x40380100) (Nat.le_add_right _ _)

theorem sendAns_acknowledged {n : Nat} {a : Word} {b : ZBody} (hs : Served s h k) (hn : n < 512) (hu : Acknowledged (countedIn s h k) u n a) :
    Answered s (sendAns u h.link h.src k b) h k b ∧ LedgerKept u (sendAns u h.link h.src k b) ∧ (sendAns u h.link h.src k b).regs = u.regs := by
  obtain ⟨-, -, hl, hsess, -, -, -, -, -, -, -, -, hblk⟩ := hs
  have hk : k < 16 := session_lt hsess
  have hrd (q : Rg) (hq : q.addr ≠ (LDG_TRK_FLOOR n).addr) : u.rd q = s.rd q := hu.regs q (by simpa using hq)
  have hsame (j : Nat) : (u.sess j) = (countedIn s h k).sess j := by rw [State.sess, hu.sessions, State.sess]
  obtain ⟨hupd, hnet, hsent, hspi, -⟩ := hu.rest
  have hlike := (countedIn_like s h k).sess k
  have hup : h.link ≠ .spi → u.get (ETH_P_STATUS_state h.link.port) = 2 := fun hne => by
    have haddr : (ETH_P_STATUS h.link.port).addr ≠ (LDG_TRK_FLOOR n).addr := by
      simp only [ETH_P_STATUS, LDG_TRK_FLOOR]
      omega
    exact (State.get_congr (hrd (ETH_P_STATUS h.link.port) haddr)).trans (up_of_linkServes hl hne)
  obtain ⟨ha, hkept, hregs⟩ := sendAns_answered (b := b) (by rw [hsame, hlike.1, hlike.2]; exact hblk) hup
  refine ⟨ha.of_same (by rw [hsame, hlike.1]) (fun q hq => hrd q ?_) ?_, hkept, hregs⟩
  · have haddr := answerRegs_addr hk q hq
    simp only [LDG_TRK_FLOOR]
    omega
  · exact ⟨hupd, hnet, hsent, hspi⟩

/-! ## POLL and QUERY served -/

theorem poll_error (hs : Served s h k) {body : List Byte} {e : Nat} (he : (body.length ≠ 12 ∧ e = 2) ∨ (body.length = 12 ∧ e = 4 ∧
    (512 ≤ beField body 0 2 ∨ owns s k (beField body 0 2) = false))) : poll s h body = sendAns (countedIn s h k) h.link h.src k (.error e) := by
  rw [poll, zServe_served hs]
  dsimp only
  rcases he with ⟨hl, rfl⟩ | ⟨hl, rfl, ho⟩
  · exact if_pos hl
  · refine (if_neg (not_not_intro hl)).trans (if_pos ?_)
    rw [Bool.or_eq_true, Bool.not_eq_true', decide_eq_true_eq]
    exact ho

theorem poll_owned (hs : Served s h k) (n : BitVec 16) (v : Bool) (m : Byte) (ack first : Word) (hn : n.toNat < 512) (ho : owns s k n.toNat = true) :
    let u := if v = true then applyAck (countedIn s h k) n.toNat ack else countedIn s h k
    ∃ fl cr es, poll s h (pollBody n v m ack first) = sendAns u h.link h.src k (.poll n.toNat fl (u.expected n.toNat) (u.rd (LDG_TRK_FLOOR n.toNat)) cr es) := by
  obtain ⟨hl, ht, hv, ha⟩ := pollBody_fields n v m ack first
  rw [poll, zServe_served hs]
  dsimp only
  rw [if_neg (not_not_intro hl), ht, hv, ha, if_neg]
  · exact ⟨_, _, _, rfl⟩
  · rw [Bool.or_eq_true, Bool.not_eq_true', decide_eq_true_eq]
    rintro (h | h)
    · omega
    · exact absurd (ho.symm.trans h) (by decide)

theorem query_error (hs : Served s h k) {body : List Byte} {e : Nat} (he : (body.length ≠ 12 ∧ e = 2) ∨ (body.length = 12 ∧ e = 3 ∧ beField body 0 1 = 1 ∧
    (s.get (LDG_SESS_CFG_query k)).testBit 0 = false)) : query s h body = sendAns (countedIn s h k) h.link h.src k (.error e) := by
  rw [query, zServe_served hs]
  dsimp only
  rcases he with ⟨hl, rfl⟩ | ⟨hl, rfl, hc, hb⟩
  · exact if_pos hl
  · refine (if_neg (not_not_intro hl)).trans (if_pos (.inr ?_))
    rw [hc]
    exact ne_true_of_eq_false hb

theorem query_identity (hs : Served s h k) (mx : BitVec 16) (hb : (s.get (LDG_SESS_CFG_query k)).testBit 0 = true) :
    query s h (queryBody 1 0 mx) = sendAns (countedIn s h k) h.link h.src k
      (.query 1 0 (BitVec.ofNat 32 (beField (queryBody 1 0 mx) 4 4)) ((identityData (countedIn s h k)).take (min 1000 mx.toNat / 4 * 4))) := by
  obtain ⟨hl, hc, hm⟩ := queryBody_fields 1 0 mx
  have hc' : beField (queryBody 1 0 mx) 0 1 = 1 := hc
  rw [query, zServe_served hs]
  dsimp only
  rw [if_neg (not_not_intro hl), hc', hm, if_neg]
  · rfl
  · rintro (h | h)
    · exact h ⟨le_refl 1, by decide⟩
    · exact h hb

/-- A request that is not served is dropped, and counted where the ledger is on (R235). -/
theorem zServe_dropped (h : ZHdr) (f : Nat → State → State) :
    (ctlReached s = false ∨ linkServes s h.link = false → zServe s h f = s) ∧
      (ctlReached s = true → linkServes s h.link = true →
        (s.bit LDG_CTRL_en = false → zServe s h f = taken s h) ∧
        (s.bit LDG_CTRL_en = true →
          sessionOf s h = none ∨ (sessionOf s h = some k ∧ (h.ver ≠ 1 ∨ h.lenOk = false ∨ h.ctr.msb = true ∨ h.tagOk = false ∨ sessionsReady s = false ∨
            ctrFresh (s.sess k) h.ctr.toNat = false)) → zServe s h f = (taken s h).count LDG_COUNT_DROP_frames)) := by
  have hgone : (match h.link with | .spi => spiSettled s | _ => s) = taken s h := by
    unfold taken
    cases h.link <;> rfl
  refine ⟨fun hno => if_pos ?_, fun hr hl => ?_⟩
  · rw [Bool.or_eq_true, Bool.not_eq_true', Bool.not_eq_true']
    exact hno
  have hgo : ¬ (! ctlReached s || ! linkServes s h.link) = true := by
    rw [hr, hl]
    decide
  rw [zServe, zAccept, if_neg hgo]
  refine ⟨fun he => ?_, fun he hno => ?_⟩
  · exact (if_pos (by rw [he]; rfl)).trans hgone
  · rw [if_neg (by rw [he]; decide)]
    cases hj : sessionOf s h with
    | none => exact congrArg (·.count LDG_COUNT_DROP_frames) hgone
    | some j =>
      rcases hno with hno | ⟨hk, hbad⟩
      · exact absurd (hno.symm.trans hj) nofun
      · obtain rfl : k = j := Option.some.inj (hk.symm.trans hj)
        refine (if_pos ?_).trans (congrArg (·.count LDG_COUNT_DROP_frames) hgone)
        simpa only [Bool.not_eq_true] using hbad

end

/-- Settles O24: a ticket goes to an input as an event does, an acknowledgement releases what is finished and recorded, and what is not served changes nothing else. -/
theorem presentationAndPolls : Obligations.PresentationAndPolls := by
  unfold Obligations.PresentationAndPolls
  refine ⟨fun s n => ⟨fun hno => ?_, fun h x hv hm hi hq hd ha hb hc ho hx hr => ?_⟩, fun s h k n m ack first hs => ?_, fun s h k => ?_⟩
  · rcases hno with hv | hm | ha | hr
    · exact ticketPresent_none (presentable_none (.inl hv))
    · exact ticketPresent_none (presentable_none (.inr (.inl hm)))
    · exact ticketPresent_none (presentable_none (.inr (.inr ha)))
    · exact congrArg Host.Outcome.next (if_pos (by rw [hr]; rfl))
  · have hp := presentable_some hv hm hi hq hd ha hb hc ho hx
    obtain ⟨t, ht, hcpu, htk, hdoze⟩ := ticketPresent_served hr (by rw [hp]; rfl)
    obtain ⟨hpc, hpt⟩ := present_dispatches hp
    obtain ⟨hcores, hlast, hothers⟩ := deliver_queued (e := ⟨n, h⟩) hm hi hq
    have hctx (d : Nat) : t.ctx d = (deliver s (s.get (TSK_ROUTE_ctx n)) (s.get (TSK_ROUTE_input n)) ⟨n, h⟩).ctx d := by
      rw [State.ctx, hcpu, hpc, State.ctx]
    have htickets : t.ldg.tickets = s.ldg.tickets.ins h { x with st := .dispatched, ctx := s.get (TSK_ROUTE_ctx n) } := by
      unfold OnlyCores at hcores
      rw [htk, hpt, hcores]
    refine ⟨t, ht, fun hdz hprio => hdoze ?_, ?_, fun j hj => ?_, by rw [hctx]; exact hlast, fun hw d hdne => by rw [hctx]; exact hothers hw d hdne⟩
    · rw [endsDoze, hdz, decide_eq_true hprio, (bne_iff_ne).2 hm]
      rfl
    · rw [State.ticket, htickets, SMap.find_ins_same]
    · rw [State.ticket, htickets, SMap.find_ins_other _ _ _ _ hj, State.ticket]
  · have hlike := countedIn_like s h k
    have hanswer {i : Instr} {b : ZBody} (he : exec i s = .next (sendAns (countedIn s h k) h.link h.src k b)) :
        Completes i s fun t => Answered s t h k b ∧ LedgerKept s t :=
      ⟨_, he, (sendAns_like hs hlike).1, (sendAns_like hs hlike).2.1⟩
    obtain ⟨hlen, htrack, -, -⟩ := pollBody_fields n true m ack first
    refine ⟨hanswer (congrArg Host.Outcome.next (zServe_served hs _)), fun body i hl hi => ?_, fun ho i hi => ?_, fun hn ho => ⟨fun i hi => ?_, fun i hi => ?_⟩,
      fun mx => ⟨fun hq i hi => ?_, fun hq hmx i hi => ?_⟩⟩
    · rcases hi with hi | hi
      · exact hanswer (((exec_of_brings hi).2.1 rfl).trans (congrArg _ (poll_error hs (.inl ⟨hl, rfl⟩))))
      · exact hanswer (((exec_of_brings hi).2.2 rfl).trans (congrArg _ (query_error hs (.inl ⟨hl, rfl⟩))))
    · exact hanswer (((exec_of_brings hi).2.1 rfl).trans (congrArg _ (poll_error hs (.inr ⟨hlen, rfl, by rw [htrack]; exact ho⟩))))
    · obtain ⟨fl, cr, es, hp⟩ := poll_owned hs n true m ack first hn ho
      have hu : Acknowledged (countedIn s h k) (applyAck (countedIn s h k) n.toNat ack) n.toNat (ackBound s n.toNat ack) := applyAck_acknowledged ..
      rw [if_pos rfl] at hp
      generalize applyAck (countedIn s h k) n.toNat ack = u at hp hu
      obtain ⟨ha, ⟨htk, -, hexp, -, hwm⟩, hregs⟩ := sendAns_acknowledged (b := .poll n.toNat fl (u.expected n.toNat) (u.rd (LDG_TRK_FLOOR n.toNat)) cr es) hs hn hu
      have hnext : u.expected n.toNat = s.expected n.toNat := hu.regs (LDG_TRK_NEXT n.toNat) (by simp [LDG_TRK_NEXT, LDG_TRK_FLOOR])
      have hfloor (t : State) (ht : t.regs = u.regs) : t.rd (LDG_TRK_FLOOR n.toNat) = u.rd (LDG_TRK_FLOOR n.toNat) := by rw [State.rd, ht, State.rd]
      refine ⟨_, ((exec_of_brings hi).2.1 rfl).trans (congrArg _ hp), (hfloor _ hregs).trans hu.floor, (hexp _).trans hnext, hwm.trans hu.rest.2.2.2.2,
        ⟨fl, cr, es, by rw [hfloor _ hregs, ← hnext]; exact ha⟩, fun j x hx htr => ?_⟩
      have hfind : (sendAns u h.link h.src k (.poll n.toNat fl (u.expected n.toNat) (u.rd (LDG_TRK_FLOOR n.toNat)) cr es)).ticket j =
          if j ∈ releasedBy (countedIn s h k) n.toNat (ackBound s n.toNat ack) then none else some x := by
        rw [State.ticket, htk, ← State.ticket, hu.tickets, show (countedIn s h k).ticket j = some x from hx]
      have hx' : (countedIn s h k).ticket j = some x := hx
      have hheld : j ∈ heldOf (countedIn s h k) n.toNat := htr ▸ mem_heldOf hx'
      rw [hfind]
      refine ⟨fun hst hrec hseq => if_pos ((mem_releasedBy hx' ..).2 ⟨hheld, hst, hrec, hseq⟩), fun hstay => if_neg fun hmem => ?_⟩
      obtain ⟨-, hst, hrec, hseq⟩ := (mem_releasedBy hx' ..).1 hmem
      rcases hstay with h1 | h1 | h1 | h1
      · rcases hst with h2 | h2 <;> exact absurd (h1.symm.trans h2) (by decide)
      · rcases hst with h2 | h2 <;> exact absurd (h1.symm.trans h2) (by decide)
      · exact absurd (hrec.symm.trans h1) (by decide)
      · exact absurd (h1.symm.trans hseq) (by decide)
    · obtain ⟨fl, cr, es, hp⟩ := poll_owned hs n false m ack first hn ho
      obtain ⟨-, hk, hr⟩ := sendAns_like (b := .poll n.toNat fl ((countedIn s h k).expected n.toNat) ((countedIn s h k).rd (LDG_TRK_FLOOR n.toNat)) cr es) hs hlike
      exact ⟨_, ((exec_of_brings hi).2.1 rfl).trans (congrArg _ hp), hk, hr⟩
    · obtain ⟨hl, hc, -⟩ := queryBody_fields 1 0 mx
      exact hanswer (((exec_of_brings hi).2.2 rfl).trans (congrArg _ (query_error hs (.inr ⟨hl, rfl, hc, hq⟩))))
    · obtain ⟨ha, hk, -⟩ := sendAns_like (b := .query 1 0 (BitVec.ofNat 32 (beField (queryBody 1 0 mx) 4 4))
        ((identityData (countedIn s h k)).take (min 1000 mx.toNat / 4 * 4))) hs hlike
      have htake : (identityData (countedIn s h k)).take (min 1000 mx.toNat / 4 * 4) = identityData (countedIn s h k) := by
        refine List.take_of_length_le ?_
        have hlen : (identityData (countedIn s h k)).length = 32 := rfl
        omega
      refine ⟨_, ((exec_of_brings hi).2.2 rfl).trans (congrArg _ (query_identity hs mx hq)), hk, _, _, ha, ?_, ?_⟩ <;> rw [htake] <;> rfl
  · obtain ⟨h1, h2⟩ := zServe_dropped (s := s) (k := k) h fun k s => sendAns s h.link h.src k (.error 1)
    exact ⟨fun hno => congrArg Host.Outcome.next (h1 hno), fun hr hl => ⟨fun he => congrArg Host.Outcome.next ((h2 hr hl).1 he),
      fun he hno => congrArg Host.Outcome.next ((h2 hr hl).2 he hno)⟩⟩

end Sys2Proof.Machine
end

section
/-! The commands of LDG_CMD (R229, R225, R246, R249, R545). -/
namespace Sys2Proof.Machine
open Sys2Proof Reg

section
variable {s t u : State} {op track stage d k : Nat} {p : State × Nat}

/-! ## A command begins and ends -/

/-- The state in which the effect of a command is found: no ticket has been abandoned by it yet. -/
noncomputable def unmarked (s : State) : State := s.modLdg fun l => { l with abandoned := [] }

/-- A command under way, after its effect `p`: busy, with the code that it ends with. -/
noncomputable def underWayWith (p : State × Nat) : State := (p.1.putB LDG_CMD_RESULT_busy true).modLdg fun l => { l with code := p.2 }

theorem ldgCommand_served (hr : ctlReached s = true) (hb : s.bit LDG_CMD_RESULT_busy = false) :
    ldgCommand s 0 op track stage = underWayWith (ldgEffect (unmarked s) op track stage) := by
  rw [ldgCommand, hr, hb]
  rfl

theorem ldgCommand_busy (hr : ctlReached s = true) (hb : s.bit LDG_CMD_RESULT_busy = true) : ldgCommand s 0 op track stage = s := by
  rw [ldgCommand, hr, hb]
  rfl

theorem ldgCommand_other (hr : ctlReached s = true) {w : CtxId} (hw : w ≠ 0) :
    ldgCommand s w op track stage = s.violate w 3 (BitVec.ofNat 32 LDG_CMD.addr) := by
  have hv : ¬ w.val = 0 := fun h => hw (Fin.ext h)
  rw [ldgCommand, hr, if_neg (by decide), if_pos hv]

theorem underWayWith_busy (p : State × Nat) : (underWayWith p).bit LDG_CMD_RESULT_busy = true := State.bit_putB (s := p.1) (f := LDG_CMD_RESULT_busy) rfl

theorem underWayWith_regs {rs : List Rg} (h : RegsBut rs s p.1) : RegsBut (LDG_CMD_RESULT :: rs) s (underWayWith p) := fun q hq => by
  have hq' : q.addr ≠ LDG_CMD_RESULT.addr ∧ q.addr ∉ rs.map Rg.addr := by simpa [not_or] using hq
  exact (State.rd_put_other _ _ _ _ hq'.1).trans (h q hq'.2)

theorem mem_underWay_bind : marksUnderWay s = true ↔ ∃ d < 2, ∃ j m, FrameBody.bind j m ∈ underWay s d := by
  simp only [marksUnderWay, List.any_eq_true]
  constructor
  · rintro ⟨d, hd, b, hb, hm⟩
    have hd2 : d < 2 := by
      simp only [List.mem_cons, List.not_mem_nil, or_false] at hd
      omega
    cases b with
    | bind j m => exact ⟨d, hd2, j, m, hb⟩
    | _ => exact (Bool.false_ne_true hm).elim
  · rintro ⟨d, hd, j, m, hb⟩
    refine ⟨d, ?_, _, hb, rfl⟩
    simp only [List.mem_cons, List.not_mem_nil, or_false]
    omega

/-- Whether a ticket that the command abandoned waits for its completion record. -/
noncomputable def waitsRecord (s : State) : Bool :=
  s.ldg.abandoned.any fun h => match s.ticket h with | some x => x.st = .abandoned && ! x.recorded | none => false

theorem waitsRecord_iff : waitsRecord s = true ↔ ∃ h ∈ s.ldg.abandoned, ∃ x, s.ticket h = some x ∧ x.st = .abandoned ∧ x.recorded = false := by
  rw [waitsRecord, List.any_eq_true]
  refine exists_congr fun h => and_congr_right fun _ => ?_
  cases s.ticket h with
  | none => exact ⟨nofun, nofun⟩
  | some x =>
    simp only [Bool.and_eq_true, decide_eq_true_eq, Bool.not_eq_true']
    exact ⟨fun hx => ⟨x, rfl, hx⟩, fun ⟨_, hy, hx⟩ => Option.some.inj hy ▸ hx⟩

theorem ldgComplete_ends (hb : s.bit LDG_CMD_RESULT_busy = true) (hw : ¬ waitsRecord s = true) (hm : ¬ marksUnderWay s = true) :
    ldgComplete s = ((s.putB LDG_CMD_RESULT_busy false).wrap LDG_CMD_RESULT_seq).put LDG_CMD_RESULT_code s.ldg.code := by
  refine if_pos ?_
  rw [hb, Bool.true_and, Bool.and_eq_true, Bool.not_eq_true', Bool.not_eq_true']
  exact ⟨Bool.not_eq_true _ ▸ hw, Bool.not_eq_true _ ▸ hm⟩

theorem ldgComplete_waits (h : s.bit LDG_CMD_RESULT_busy = false ∨ waitsRecord s = true ∨ marksUnderWay s = true) : ldgComplete s = s := by
  refine if_neg fun hc => ?_
  simp only [Bool.and_eq_true, Bool.not_eq_true'] at hc
  obtain ⟨⟨hb, hw⟩, hm⟩ := hc
  rcases h with h | h | h
  · exact absurd (hb.symm.trans h) (by decide)
  · exact absurd (h.symm.trans hw) (by decide)
  · exact absurd (h.symm.trans hm) (by decide)

/-! ## Watermarks given and taken (R229) -/

theorem takeMark_marks (s : State) (k : Nat) (m : Option (Nat × Word)) :
    (takeMark s k m).wm.marks.find k = m ∧ (∀ j, j ≠ k → (takeMark s k m).wm.marks.find j = s.wm.marks.find j) ∧ (takeMark s k m).regs = s.regs := by
  cases m with
  | none => exact ⟨SMap.find_erase_same _ _, fun j hj => SMap.find_erase_other _ _ _ hj, rfl⟩
  | some m =>
    unfold takeMark State.setStoreValid
    dsimp only
    split <;> exact ⟨SMap.find_ins_same _ _ _, fun j hj => SMap.find_ins_other _ _ _ _ hj, rfl⟩

theorem takeMark_valid (s : State) (k : Nat) (m : Nat × Word) : (takeMark s k (some m)).storeValid (stageOnDie k) = true := by
  unfold takeMark
  generalize stageOnDie k = d
  rcases d with _ | _ | d <;> rfl

theorem storeValid_congr (h : t.wm = u.wm) (d : Nat) : t.storeValid d = u.storeValid d := by
  unfold State.storeValid
  rw [h]

theorem dieReached_of_stage (h : stageReached s k = true) (hd : stageOnDie k ≠ 2) : dieReached s (stageOnDie k) = true := by
  rw [stageReached, (beq_eq_false_iff_ne).2 hd] at h
  exact h

/-- A watermark that its stage takes at once. -/
theorem sendMark_taken (hr : stageReached s k = true) (hc : stageOnDie k = 2 ∨ linkClear s (stageOnDie k) = true) (m : Option (Nat × Word)) :
    (sendMark s k m).wm = (takeMark s k m).wm ∧ (sendMark s k m).regs = s.regs := by
  have hregs := (takeMark_marks s k m).2.2
  rw [sendMark, hr, if_neg (by decide)]
  split
  · exact ⟨rfl, hregs⟩
  · next hd =>
    rw [viaDie, dieReached_of_stage hr hd, if_neg (by decide), if_pos (hc.resolve_left hd)]
    exact ⟨rfl, hregs⟩

theorem sendMark_queued (hr : stageReached s k = true) (hd : stageOnDie k ≠ 2) (hc : linkClear s (stageOnDie k) = false) (m : Option (Nat × Word)) :
    sendMark s k m = queueFrame s (stageOnDie k) false (.bind k m) := by
  rw [sendMark, hr, if_neg (by decide), if_neg hd, viaDie, dieReached_of_stage hr hd, if_neg (by decide), hc, if_neg Bool.false_ne_true]

theorem queueFrame_unmarked (s : State) (d : Nat) (b : FrameBody) :
    (queueFrame (unmarked s) d false b).lnk = (queueFrame s d false b).lnk ∧ (queueFrame (unmarked s) d false b).wm = s.wm ∧
      (queueFrame (unmarked s) d false b).regs = s.regs := ⟨rfl, rfl, rfl⟩

theorem sendMark_unreached (hr : stageReached s k = false) (m : Option (Nat × Word)) : sendMark s k m = s := if_pos (by rw [hr]; rfl)

end

section
variable {s t u : State} {n h j reason : Nat} {x : Ticket}

/-! ## Tickets abandoned, and tracks unfenced (R225, R246) -/

/-- A ticket that has been abandoned. -/
noncomputable def Ticket.abandoned (x : Ticket) (reason : Nat) : Ticket := { x with st := .abandoned, result := reason, recorded := false }

theorem abandonTicket_keeps (s : State) (h reason : Nat) : (abandonTicket s h reason).regs = s.regs ∧ (abandonTicket s h reason).ldg.fenced = s.ldg.fenced ∧
    ∃ l, (abandonTicket s h reason).ldg.compQ = s.ldg.compQ ++ l := by
  unfold abandonTicket
  split
  · exact ⟨rfl, rfl, [], (List.append_nil _).symm⟩
  · exact ⟨rfl, rfl, _, rfl⟩

theorem abandonTicket_self (hx : s.ticket h = some x) : (abandonTicket s h reason).ticket h = some (x.abandoned reason) ∧ h ∈ (abandonTicket s h reason).ldg.compQ := by
  unfold abandonTicket
  rw [hx]
  exact ⟨SMap.find_ins_same _ _ _, List.mem_append_right _ (List.mem_singleton_self h)⟩

theorem abandonTicket_other (hj : j ≠ h) : (abandonTicket s h reason).ticket j = s.ticket j := by
  unfold abandonTicket
  split
  · rfl
  · exact SMap.find_ins_other _ _ _ _ hj

noncomputable def abandonAll (s : State) (l : List Nat) (reason : Nat) : State := l.foldl (fun s h => abandonTicket s h reason) s

theorem abandonAll_keeps (l : List Nat) (s : State) (reason : Nat) : (abandonAll s l reason).regs = s.regs ∧ (abandonAll s l reason).ldg.fenced = s.ldg.fenced ∧
    ∃ q, (abandonAll s l reason).ldg.compQ = s.ldg.compQ ++ q := by
  induction l generalizing s with
  | nil => exact ⟨rfl, rfl, [], (List.append_nil _).symm⟩
  | cons a l ih =>
    obtain ⟨h1, h2, q, hq⟩ := ih (abandonTicket s a reason)
    obtain ⟨g1, g2, r, hr⟩ := abandonTicket_keeps s a reason
    exact ⟨h1.trans g1, h2.trans g2, r ++ q, hq.trans (by rw [hr, List.append_assoc])⟩

theorem abandonAll_other (l : List Nat) (s : State) (hj : j ∉ l) : (abandonAll s l reason).ticket j = s.ticket j := by
  induction l generalizing s with
  | nil => rfl
  | cons a l ih =>
    obtain ⟨hja, hjl⟩ := not_or.1 (mt List.mem_cons.2 hj)
    exact (ih (abandonTicket s a reason) hjl).trans (abandonTicket_other hja)

/-- A ticket among those abandoned is Abandoned, and waits for its completion record. -/
theorem abandonAll_self (l : List Nat) (s : State) (hx : s.ticket j = some x) (hj : j ∈ l) :
    (abandonAll s l reason).ticket j = some (x.abandoned reason) ∧ j ∈ (abandonAll s l reason).ldg.compQ := by
  induction l generalizing s x with
  | nil => cases hj
  | cons a l ih =>
    by_cases hja : j = a
    · subst hja
      obtain ⟨h1, h2⟩ := abandonTicket_self (reason := reason) hx
      by_cases hl : j ∈ l
      · have h := ih (abandonTicket s j reason) h1 hl
        exact h
      · obtain ⟨-, -, q, hq⟩ := abandonAll_keeps l (abandonTicket s j reason) reason
        refine ⟨(abandonAll_other l (abandonTicket s j reason) hl).trans h1, ?_⟩
        have hmem : j ∈ (abandonAll (abandonTicket s j reason) l reason).ldg.compQ := hq ▸ List.mem_append_left _ h2
        exact hmem
    · exact ih (abandonTicket s a reason) ((abandonTicket_other hja).trans hx) ((List.mem_cons.1 hj).resolve_left hja)

theorem unfences_fenced (l : List Nat) (s : State) (j : Nat) :
    (l.foldl (fun s n => s.modLdg fun x => { x with fenced := SMap.set true x.fenced n false }) s).isFenced j = if j ∈ l then false else s.isFenced j := by
  induction l generalizing s with
  | nil => rfl
  | cons a l ih =>
    rw [List.foldl_cons, ih]
    by_cases hj : j = a
    · subst hj
      rw [if_pos List.mem_cons_self]
      split
      · rfl
      · exact SMap.get_set_same true s.ldg.fenced j false
    · simp only [List.mem_cons, hj, false_or]
      rw [State.isFenced, State.modLdg, SMap.get_set_other true true s.ldg.fenced a j false hj, State.isFenced]

theorem unfences_keeps (l : List Nat) (s : State) :
    (l.foldl (fun s n => s.modLdg fun x => { x with fenced := SMap.set true x.fenced n false }) s).regs = s.regs ∧
      (l.foldl (fun s n => s.modLdg fun x => { x with fenced := SMap.set true x.fenced n false }) s).ldg.tickets = s.ldg.tickets := by
  induction l generalizing s with
  | nil => exact ⟨rfl, rfl⟩
  | cons a l ih => exact ih (s.modLdg fun x => { x with fenced := SMap.set true x.fenced a false })

theorem checkRecovered_keeps (s : State) : (checkRecovered s).ldg = s.ldg ∧ RegsBut [LDG_STATUS] s (checkRecovered s) ∧
    ∀ f : Fd, f.r = LDG_STATUS → f.ok = true → LDG_STATUS_recovering.apart f = true → (checkRecovered s).bit f = s.bit f := by
  unfold checkRecovered
  split
  · exact ⟨rfl, RegsBut.refl.putB List.mem_cons_self, fun f hf ho ha => State.bit_put_apart _ LDG_STATUS_recovering f hf rfl ho ha⟩
  · exact ⟨rfl, .refl, fun _ _ _ _ => rfl⟩

/-- The tracks that nothing waits on lose their fence, and nothing else is changed but the sign of recovery. -/
theorem unfenceIdle_spec (s : State) (w : State → Nat → Bool) : (unfenceIdle s w).ldg.tickets = s.ldg.tickets ∧ RegsBut [LDG_STATUS] s (unfenceIdle s w) ∧
    (∀ f : Fd, f.r = LDG_STATUS → f.ok = true → LDG_STATUS_recovering.apart f = true → (unfenceIdle s w).bit f = s.bit f) ∧
      ∀ m : Fin 512, (unfenceIdle s w).isFenced m = (s.isFenced m && w s m) := by
  have hk := unfences_keeps ((List.range 512).filter fun n => s.isFenced n && ! w s n) s
  have hf := unfences_fenced ((List.range 512).filter fun n => s.isFenced n && ! w s n) s
  unfold unfenceIdle
  generalize (((List.range 512).filter fun n => s.isFenced n && ! w s n).foldl _ s) = u at hk hf
  obtain ⟨hl, hr, hb⟩ := checkRecovered_keeps u
  refine ⟨(congrArg (·.tickets) hl).trans hk.2, (RegsBut.of_regs hk.1).trans hr, fun f h1 h2 h3 => (hb f h1 h2 h3).trans (State.bit_congr (by rw [State.rd, hk.1, State.rd])),
    fun m => ?_⟩
  rw [State.isFenced, hl, ← State.isFenced, hf]
  simp only [List.mem_filter, List.mem_range, m.isLt, true_and, Bool.and_eq_true, Bool.not_eq_true']
  cases s.isFenced m <;> cases w s m <;> rfl

end

section
variable {s t : State} {i : Instr} {op track n k code : Nat} {m : Option (Nat × Word)} {p : State × Nat}

/-! ## BIND and UNBIND -/

/-- A command under way that has changed no register but its own. -/
def BusyWith (s t : State) (code : Nat) : Prop := t.bit LDG_CMD_RESULT_busy = true ∧ t.ldg.code = code ∧ RegsBut [LDG_CMD_RESULT] s t

theorem busyWith_of_regs (h : p.1.regs = s.regs) : BusyWith s (underWayWith p) p.2 :=
  ⟨underWayWith_busy p, rfl, underWayWith_regs (rs := []) (.of_regs h)⟩

/-- What a command that gives a stage the watermark `m` does (R229): refused for a stage beyond the last or one in use, lost where the store is not reached, in a
frame where its links are not clear, and else taken at once. -/
structure Marks (i : Instr) (s : State) (k : Nat) (m : Option (Nat × Word)) : Prop where
  beyond : 124 ≤ k → Completes i s fun t => BusyWith s t 1 ∧ t.wm = s.wm
  inUse : k < 124 → stageBusy s k = true → Completes i s fun t => BusyWith s t 2 ∧ t.wm = s.wm
  lost : k < 124 → stageBusy s k = false → stageReached s k = false → Completes i s fun t => BusyWith s t 0 ∧ t.wm = s.wm
  queued : k < 124 → stageBusy s k = false → stageReached s k = true → stageOnDie k ≠ 2 → linkClear s (stageOnDie k) = false →
    Completes i s fun t => BusyWith s t 0 ∧ t.wm = s.wm ∧ t.lnk = (queueFrame s (stageOnDie k) false (.bind k m)).lnk
  taken : k < 124 → stageBusy s k = false → stageReached s k = true → stageOnDie k = 2 ∨ linkClear s (stageOnDie k) = true →
    Completes i s fun t => BusyWith s t 0 ∧ t.wm = (takeMark (unmarked s) k m).wm

theorem marks_of_effect (hi : exec i s = .next (underWayWith (ldgEffect (unmarked s) op track k)))
    (he : ldgEffect (unmarked s) op track k =
      if 124 ≤ k then (unmarked s, 1) else if stageBusy (unmarked s) k = true then (unmarked s, 2) else (sendMark (unmarked s) k m, 0)) : Marks i s k m := by
  have hsent (hk : k < 124) (hb : stageBusy s k = false) : exec i s = .next (underWayWith (sendMark (unmarked s) k m, 0)) := by
    have hb' : stageBusy (unmarked s) k = false := hb
    rw [hi, he, if_neg (by omega), if_neg (ne_true_of_eq_false hb')]
  refine ⟨fun hk => ?_, fun hk hb => ?_, fun hk hb hr => ?_, fun hk hb hr hd hc => ?_, fun hk hb hr hc => ?_⟩
  · exact ⟨underWayWith (unmarked s, 1), by rw [hi, he, if_pos hk], busyWith_of_regs rfl, rfl⟩
  · refine ⟨underWayWith (unmarked s, 2), ?_, busyWith_of_regs rfl, rfl⟩
    have hb' : stageBusy (unmarked s) k = true := hb
    rw [hi, he, if_neg (by omega), if_pos hb']
  · have hu : sendMark (unmarked s) k m = unmarked s := sendMark_unreached (s := unmarked s) hr m
    exact ⟨_, hsent hk hb, busyWith_of_regs (by rw [hu]; rfl), by rw [hu]; rfl⟩
  · have hq : sendMark (unmarked s) k m = queueFrame (unmarked s) (stageOnDie k) false (.bind k m) := sendMark_queued (s := unmarked s) hr hd hc m
    obtain ⟨hlnk, hwm, hregs⟩ := queueFrame_unmarked s (stageOnDie k) (.bind k m)
    exact ⟨_, hsent hk hb, busyWith_of_regs (by rw [hq]; exact hregs), by rw [hq]; exact hwm, by rw [hq]; exact hlnk⟩
  · obtain ⟨hwm, hregs⟩ := sendMark_taken (s := unmarked s) hr hc m
    exact ⟨_, hsent hk hb, busyWith_of_regs hregs, hwm⟩

/-- The sequence that a watermark given to a stage lets pass: one before the oldest unfinished ticket, or the expected one (R229). -/
noncomputable def markOf (s : State) (n : Nat) : Word := (match oldestUnfinished s n with | some x => x.seq | none => s.expected n) - 1

theorem bind_marks (hr : ctlReached s = true) (hb : s.bit LDG_CMD_RESULT_busy = false) (n : Fin 512) (k : Fin 128) :
    Marks (.bind 0 n k) s k (some (n.val, markOf s n)) :=
  marks_of_effect (congrArg Host.Outcome.next (ldgCommand_served hr hb)) rfl

theorem unbind_marks (hr : ctlReached s = true) (hb : s.bit LDG_CMD_RESULT_busy = false) (k : Fin 128) : Marks (.unbind 0 k) s k none :=
  marks_of_effect (congrArg Host.Outcome.next (ldgCommand_served hr hb)) rfl

/-! ## REPLAY, UNFENCE and ABANDON -/

theorem ledgerKept_of_quiet {u : State} (h : u.regs = s.regs) (hl : u.ldg.tickets = s.ldg.tickets ∧ u.ldg.queues = s.ldg.queues ∧ u.cpu = s.cpu ∧ u.wm = s.wm) :
    LedgerKept s (underWayWith (u, code)) := by
  obtain ⟨h1, h2, h3, h4⟩ := hl
  refine ⟨h1, h2, fun n => ?_, h3, h4⟩
  have hrd : u.rd (LDG_TRK_NEXT n) = s.rd (LDG_TRK_NEXT n) := by rw [State.rd, h, State.rd]
  exact (State.rd_put_other _ _ _ _ (by simp only [LDG_TRK_NEXT, LDG_CMD_RESULT_busy, LDG_CMD_RESULT]; omega)).trans hrd

/-- A command refused in the state it stands in (R246). -/
theorem refused_of_effect (hi : exec i s = .next (underWayWith (ldgEffect (unmarked s) op track k))) (he : ldgEffect (unmarked s) op track k = (unmarked s, 3)) :
    Completes i s fun t => BusyWith s t 3 ∧ LedgerKept s t :=
  ⟨underWayWith (unmarked s, 3), hi.trans (by rw [he]), busyWith_of_regs rfl, ledgerKept_of_quiet rfl ⟨rfl, rfl, rfl, rfl⟩⟩

theorem underWayWith_bit {f : Fd} (hf : f.r.addr ≠ LDG_CMD_RESULT.addr) (p : State × Nat) : (underWayWith p).bit f = p.1.bit f :=
  State.bit_congr (State.rd_put_other _ _ _ _ hf)

/-- What a command under way has of the state its effect left. -/
theorem underWayWith_ticket (p : State × Nat) : (underWayWith p).ldg.tickets = p.1.ldg.tickets ∧ ∀ m : Fin 512, (underWayWith p).isFenced m = p.1.isFenced m :=
  ⟨rfl, fun _ => rfl⟩

theorem unmarked_ticket (s : State) (f : Fd) : ((unmarked s).putB f false).ldg.tickets = s.ldg.tickets ∧ ((unmarked s).putB f false).ldg.fenced = s.ldg.fenced :=
  ⟨rfl, rfl⟩

theorem replay_unfences (hi : exec i s = .next (underWayWith (ldgEffect (unmarked s) 3 0 0))) (ha : s.bit LDG_STATUS_awaitreplay = true) :
    Completes i s fun t => t.bit LDG_CMD_RESULT_busy = true ∧ t.ldg.code = 0 ∧ t.bit LDG_STATUS_awaitreplay = false ∧
      RegsBut [LDG_CMD_RESULT, LDG_STATUS] s t ∧ t.ldg.tickets = s.ldg.tickets ∧
      ∀ m : Fin 512, t.isFenced m = (s.isFenced m && (oldestAccepted s m).isSome) := by
  have he : ldgEffect (unmarked s) 3 0 0 =
      (unfenceIdle ((unmarked s).putB LDG_STATUS_awaitreplay false) fun s n => (oldestAccepted s n).isSome, 0) := if_pos ha
  obtain ⟨htk, hregs, hbit, hfence⟩ := unfenceIdle_spec ((unmarked s).putB LDG_STATUS_awaitreplay false) fun s n => (oldestAccepted s n).isSome
  have hw := unmarked_ticket s LDG_STATUS_awaitreplay
  have hput : RegsBut [LDG_STATUS] s ((unmarked s).putB LDG_STATUS_awaitreplay false) := RegsBut.putB (.of_regs rfl) List.mem_cons_self
  have hclear : ((unmarked s).putB LDG_STATUS_awaitreplay false).bit LDG_STATUS_awaitreplay = false := State.bit_putB _ rfl
  have hidle (m : Fin 512) : (((unmarked s).putB LDG_STATUS_awaitreplay false).isFenced m && (oldestAccepted ((unmarked s).putB LDG_STATUS_awaitreplay false) m).isSome) =
      (s.isFenced m && (oldestAccepted s m).isSome) := rfl
  rw [he] at hi
  generalize (unmarked s).putB LDG_STATUS_awaitreplay false = v at hi htk hregs hbit hfence hw hput hclear hidle
  generalize unfenceIdle v _ = w at hi htk hregs hbit hfence
  refine ⟨_, hi, underWayWith_busy _, rfl, ?_, underWayWith_regs (hput.trans hregs), htk.trans hw.1, fun m => ?_⟩
  · rw [underWayWith_bit (by decide)]
    exact (hbit _ rfl rfl rfl).trans hclear
  · exact ((underWayWith_ticket (w, 0)).2 m).trans ((hfence m).trans (hidle m))

theorem unfence_awaits (hi : exec i s = .next (underWayWith (ldgEffect (unmarked s) 4 0 0))) (hb : s.bit LDG_STATUS_badrec = true) (hs : s.ldg.storesOk = true) :
    Completes i s fun t => t.bit LDG_CMD_RESULT_busy = true ∧ t.ldg.code = 0 ∧ t.bit LDG_STATUS_badrec = false ∧ t.bit LDG_STATUS_awaitreplay = true ∧
      RegsBut [LDG_CMD_RESULT, LDG_STATUS] s t ∧ LedgerKept s t := by
  have he : ldgEffect (unmarked s) 4 0 0 = (((unmarked s).putB LDG_STATUS_badrec false).putB LDG_STATUS_awaitreplay true, 0) := by
    refine (if_pos hb).trans (congrArg (·, 0) ?_)
    exact if_pos hs
  rw [he] at hi
  have hregs : RegsBut [LDG_STATUS] s (((unmarked s).putB LDG_STATUS_badrec false).putB LDG_STATUS_awaitreplay true) :=
    RegsBut.putB (RegsBut.putB (.of_regs rfl) List.mem_cons_self) List.mem_cons_self
  refine ⟨_, hi, underWayWith_busy _, rfl, ?_, ?_, underWayWith_regs hregs, rfl, rfl, fun n => ?_, rfl, rfl⟩
  · rw [underWayWith_bit (by decide)]
    exact (State.bit_put_apart _ LDG_STATUS_awaitreplay LDG_STATUS_badrec rfl rfl rfl rfl).trans (State.bit_putB _ rfl)
  · rw [underWayWith_bit (by decide)]
    exact State.bit_putB _ rfl
  · refine underWayWith_regs hregs (LDG_TRK_NEXT n) ?_
    simp only [List.map_cons, List.map_nil, List.mem_cons, List.not_mem_nil, or_false, LDG_TRK_NEXT, LDG_CMD_RESULT, LDG_STATUS]
    omega

/-- The tickets that are unfinished (R246). -/
noncomputable def unfinished (s : State) : List Nat := (s.ldg.tickets.filter fun e => e.2.st = .accepted ∨ e.2.st = .dispatched).map (·.1)

theorem mem_unfinished (hs : SMap.sorted s.ldg.tickets = true) {j : Nat} {x : Ticket} (hx : s.ticket j = some x) :
    j ∈ unfinished s ↔ x.st = .accepted ∨ x.st = .dispatched := by
  simp only [unfinished, List.mem_map, List.mem_filter, decide_eq_true_eq]
  constructor
  · rintro ⟨⟨k, y⟩, ⟨hmem, hst⟩, rfl⟩
    have hy : s.ticket k = some y := SMap.find_of_mem hs hmem
    exact Option.some.inj (hx.symm.trans hy) ▸ hst
  · exact fun hst => ⟨(j, x), ⟨SMap.mem_of_find hx, hst⟩, rfl⟩

theorem unfence_abandons (hi : exec i s = .next (underWayWith (ldgEffect (unmarked s) 4 0 0))) (hb : s.bit LDG_STATUS_badrec = true) (hs : s.ldg.storesOk = false)
    (hsort : SMap.sorted s.ldg.tickets = true) :
    Completes i s fun t => t.bit LDG_CMD_RESULT_busy = true ∧ t.ldg.code = 0 ∧ t.bit LDG_STATUS_badrec = false ∧ RegsBut [LDG_CMD_RESULT, LDG_STATUS] s t ∧
      (∀ i x, s.ticket i = some x → t.ticket i = some (if x.st = .accepted ∨ x.st = .dispatched then
        { x with st := .abandoned, result := 1, recorded := false } else x)) ∧
      ∀ m : Fin 512, t.isFenced m = (s.isFenced m && (oldestUnfinished s m).isSome) := by
  have he : ldgEffect (unmarked s) 4 0 0 = (unfenceIdle (abandonAll ((unmarked s).putB LDG_STATUS_badrec false) (unfinished s) 1)
      fun _ n => (oldestUnfinished s n).isSome, 0) := by
    refine (if_pos hb).trans (congrArg (·, 0) ?_)
    exact if_neg (ne_true_of_eq_false hs)
  have hw := unmarked_ticket s LDG_STATUS_badrec
  have hput : RegsBut [LDG_STATUS] s ((unmarked s).putB LDG_STATUS_badrec false) := RegsBut.putB (.of_regs rfl) List.mem_cons_self
  have hclear : ((unmarked s).putB LDG_STATUS_badrec false).bit LDG_STATUS_badrec = false := State.bit_putB _ rfl
  obtain ⟨hkr, hkf, -⟩ := abandonAll_keeps (unfinished s) ((unmarked s).putB LDG_STATUS_badrec false) 1
  have hother {j : Nat} := abandonAll_other (j := j) (reason := 1) (unfinished s) ((unmarked s).putB LDG_STATUS_badrec false)
  have hself {j : Nat} {x : Ticket} := abandonAll_self (x := x) (j := j) (reason := 1) (unfinished s) ((unmarked s).putB LDG_STATUS_badrec false)
  rw [he] at hi
  generalize (unmarked s).putB LDG_STATUS_badrec false = u at hi hkr hkf hother hself hw hput hclear
  generalize abandonAll u (unfinished s) 1 = v at hi hkr hkf hother hself
  obtain ⟨htk, hregs, hbit, hfence⟩ := unfenceIdle_spec v fun _ n => (oldestUnfinished s n).isSome
  generalize unfenceIdle v _ = w at hi htk hregs hbit hfence
  refine ⟨_, hi, underWayWith_busy _, rfl, ?_, underWayWith_regs ((hput.trans (.of_regs hkr)).trans hregs), fun j x hx => ?_, fun m => ?_⟩
  · rw [underWayWith_bit (by decide), hbit _ rfl rfl rfl, State.bit_congr (f := LDG_STATUS_badrec) (s := u) (by rw [State.rd, hkr, State.rd])]
    exact hclear
  · have hfind : (underWayWith (w, 0)).ticket j = v.ticket j := by rw [State.ticket, State.ticket, (underWayWith_ticket (w, 0)).1, htk]
    have hxu : u.ticket j = some x := by rw [State.ticket, hw.1, ← State.ticket, hx]
    rw [hfind]
    by_cases hst : x.st = .accepted ∨ x.st = .dispatched
    · rw [if_pos hst]
      exact (hself hxu ((mem_unfinished hsort hx).2 hst)).1
    · rw [if_neg hst]
      exact (hother fun hm => hst ((mem_unfinished hsort hx).1 hm)).trans hxu
  · rw [(underWayWith_ticket (w, 0)).2 m, hfence m, State.isFenced, hkf, hw.2, ← State.isFenced]

/-- The Accepted tickets of a track (R225). -/
noncomputable def accepted (s : State) (n : Nat) : List Nat :=
  (heldOf s n).filter fun h => match s.ticket h with | some t => t.st = .accepted | none => false

theorem mem_accepted {j : Nat} {x : Ticket} (hx : s.ticket j = some x) : j ∈ accepted s n ↔ j ∈ heldOf s n ∧ x.st = .accepted := by
  rw [accepted, List.mem_filter, hx, decide_eq_true_eq]

theorem heldOf_sorted (hs : SMap.sorted s.ldg.tickets = true) {j : Nat} {x : Ticket} (hx : s.ticket j = some x) (hj : j ∈ heldOf s n) : x.track = n := by
  obtain ⟨⟨k, y⟩, hy, rfl⟩ := List.mem_map.1 hj
  obtain ⟨hmem, ht⟩ := List.mem_filter.1 hy
  have hy' : s.ticket k = some y := SMap.find_of_mem hs hmem
  exact Option.some.inj (hx.symm.trans hy') ▸ of_decide_eq_true ht

theorem abandon_abandons (hi : exec i s = .next (underWayWith (ldgEffect (unmarked s) 5 n 0))) :
    Completes i s fun t => BusyWith s t 0 ∧ ∀ i x, s.ticket i = some x →
      (x.track = n → x.st = .accepted → t.ticket i = some { x with st := .abandoned, result := 3, recorded := false } ∧ i ∈ t.ldg.compQ) ∧
      (x.track = n → x.st ≠ .accepted → t.ticket i = some x) ∧
      (SMap.sorted s.ldg.tickets = true → x.track ≠ n → t.ticket i = some x) := by
  have he : ldgEffect (unmarked s) 5 n 0 = ((abandonAll (unmarked s) (accepted s n) 3).modLdg fun l => { l with abandoned := accepted s n }, 0) := rfl
  obtain ⟨hkr, -, -⟩ := abandonAll_keeps (accepted s n) (unmarked s) 3
  have hother {j : Nat} := abandonAll_other (j := j) (reason := 3) (accepted s n) (unmarked s)
  have hself {j : Nat} {x : Ticket} := abandonAll_self (x := x) (j := j) (reason := 3) (accepted s n) (unmarked s)
  rw [he] at hi
  generalize abandonAll (unmarked s) (accepted s n) 3 = v at hi hkr hother hself
  refine ⟨_, hi, busyWith_of_regs hkr, fun j x hx => ⟨fun ht ha => ?_, fun ht ha => ?_, fun hs ht => ?_⟩⟩
  · exact hself hx ((mem_accepted hx).2 ⟨ht ▸ mem_heldOf hx, ha⟩)
  · exact (hother fun hm => ha ((mem_accepted hx).1 hm).2).trans hx
  · exact (hother fun hm => ht (heldOf_sorted hs hx ((mem_accepted hx).1 hm).1)).trans hx

end

/-- Settles O25: each command by its effect, with the marks of BIND and UNBIND told once for both. -/
theorem ledgerCommands : Obligations.LedgerCommands := by
  unfold Obligations.LedgerCommands
  intro s n k hr
  refine ⟨fun w hw => ⟨congrArg Host.Outcome.next (ldgCommand_other hr hw), congrArg Host.Outcome.next (ldgCommand_other hr hw)⟩, fun hb => ?_, fun hb => ?_⟩
  · have hbusy {op track stage : Nat} : ldgCommand s 0 op track stage = s := ldgCommand_busy hr hb
    refine ⟨congrArg Host.Outcome.next hbusy, congrArg Host.Outcome.next hbusy, congrArg Host.Outcome.next hbusy, congrArg Host.Outcome.next hbusy,
      congrArg Host.Outcome.next hbusy, fun hm hw => ?_, fun j hj x hx hst hrec => ?_, fun d hd j m hm => ?_⟩
    · refine congrArg Host.Outcome.next (ldgComplete_ends hb (fun h => ?_) fun h => ?_)
      · obtain ⟨j, hj, x, hx, hst, hrec⟩ := waitsRecord_iff.1 h
        exact absurd (hrec.symm.trans (hw j hj x hx hst)) (by decide)
      · obtain ⟨d, hd, j, m, hb⟩ := mem_underWay_bind.1 h
        exact hm d hd _ hb j m rfl
    · exact congrArg Host.Outcome.next (ldgComplete_waits (.inr (.inl (waitsRecord_iff.2 ⟨j, hj, x, hx, hst, hrec⟩))))
    · exact congrArg Host.Outcome.next (ldgComplete_waits (.inr (.inr (mem_underWay_bind.2 ⟨d, hd, j, m, hm⟩))))
  · have hi {op track stage : Nat} : (.next (ldgCommand s 0 op track stage) : Out) = .next (underWayWith (ldgEffect (unmarked s) op track stage)) :=
      congrArg Host.Outcome.next (ldgCommand_served hr hb)
    have h1 := bind_marks hr hb n k
    have h2 := unbind_marks hr hb k
    have hmarks (m : Option (Nat × Word)) := takeMark_marks (unmarked s) k m
    refine ⟨congrArg Host.Outcome.next (ldgComplete_waits (.inl hb)), fun hk => ⟨h1.beyond hk, h2.beyond hk⟩, fun hk hu => ⟨h1.inUse hk hu, h2.inUse hk hu⟩,
      fun hk hu hl => ⟨h1.lost hk hu hl, h2.lost hk hu hl⟩, fun hk hu hl hd hc => ⟨h1.queued hk hu hl hd hc, h2.queued hk hu hl hd hc⟩,
      fun hk hu hl hc => ⟨?_, ?_⟩, replay_unfences hi, unfence_awaits hi, unfence_abandons hi,
      fun h => refused_of_effect hi (if_neg (ne_true_of_eq_false h)), fun h => refused_of_effect hi (if_neg (ne_true_of_eq_false h)), abandon_abandons hi⟩
    · obtain ⟨t, ht, hbw, hwm⟩ := h1.taken hk hu hl hc
      refine ⟨t, ht, hbw, ?_, ?_, fun j hj => ?_⟩
      · exact (storeValid_congr hwm _).trans (takeMark_valid ..)
      · rw [hwm]
        exact (hmarks _).1
      · rw [hwm]
        exact (hmarks _).2.1 j hj
    · obtain ⟨t, ht, hbw, hwm⟩ := h2.taken hk hu hl hc
      refine ⟨t, ht, hbw, ?_, fun j hj => ?_⟩
      · rw [hwm]
        exact (hmarks _).1
      · rw [hwm]
        exact (hmarks _).2.1 j hj

end Sys2Proof.Machine
end

section
/-! Frames on the die links (R16 to R18). -/
namespace Sys2Proof.Machine
open Sys2Proof Reg

section
variable {s t u : State} {d e k num : Nat} {up : Bool} {x : LinkDir} {may : FrameBody → Bool}

/-! ## What enters frames -/

theorem pushAll_keeps (l : List FrameBody) (x : LinkDir) : (l.foldl LinkDir.push x).expect = x.expect ∧ ∃ sent, (l.foldl LinkDir.push x).unacked = x.unacked ++ sent := by
  induction l generalizing x with
  | nil => exact ⟨rfl, [], (List.append_nil _).symm⟩
  | cons b l ih =>
    obtain ⟨he, sent, hs⟩ := ih (x.push b)
    exact ⟨he, (x.next, b) :: sent, hs.trans (by rw [LinkDir.push, List.append_assoc, List.singleton_append])⟩

/-- What waits enters frames behind those that are unacknowledged; the receiver expects what it did. -/
theorem LinkDir.filled_keeps (x : LinkDir) (may : FrameBody → Bool) : (x.filled may).expect = x.expect ∧ ∃ sent, (x.filled may).unacked = x.unacked ++ sent :=
  pushAll_keeps _ { x with waiting := _ }

theorem LinkDir.filled_unacked_of_idle (h : x.waiting = []) : (x.filled may).unacked = x.unacked := by rw [LinkDir.filled, h, departs]; rfl

/-! ## A frame arrives -/

/-- Nothing is changed but the die links. -/
def OnlyLinks (s t : State) : Prop := t = { s with lnk := t.lnk }

theorem OnlyLinks.trans (h : OnlyLinks s t) (h' : OnlyLinks t u) : OnlyLinks s u := Eq.trans h' (congrArg (fun v : State => { v with lnk := u.lnk }) h)

theorem onlyLinks_setDir (d : Nat) (up : Bool) (x : LinkDir) : OnlyLinks s (s.setDir d up x) := (rfl)

theorem landLevel_lnk (i : Nat) (b : Bool) : (landLevel s i b false).lnk = s.lnk := by
  have hmirror {s : State} {r : Nat → Rg} : (setMirror s r i b).lnk = s.lnk := rfl
  have haxis {s : State} : (axisLevel s i b).lnk = s.lnk := by
    refine foldl_keeps (P := fun _ => True) (g := State.lnk) (fun _ _ _ _ => trivial) (fun v _ n _ => ?_) trivial
    dsimp only
    split
    · rfl
    · split
      · rfl
      · split <;> rfl
  unfold landLevel
  dsimp only
  rw [if_neg Bool.false_ne_true]
  split_ifs <;> simp only [haxis, hmirror]

theorem landFault_lnk (i : Nat) (b : Bool) : (landFault s i b).lnk = s.lnk := by
  unfold landFault
  split <;> rfl

/-- What a power die is heard to say for the first time refreshes the mirrors, and touches no link. -/
theorem dieHeard_lnk : (dieHeard s d).lnk = s.lnk := by
  have hset {v : State} {x : DieSt} : (v.setDie d x).lnk = v.lnk := by
    unfold State.setDie
    split <;> rfl
  unfold dieHeard mirrorRefresh
  split
  · rfl
  · dsimp only
    split
    · refine Eq.trans (foldl_keeps (P := fun _ => True) (g := State.lnk) (fun _ _ _ _ => trivial) (fun v _ j _ => ?_) trivial) hset
      exact (landFault_lnk _ _).trans (landLevel_lnk _ _)
    · exact hset

theorem dieHeard_fresh (hm : s.bit (mirrorFlag d) = true) (ha : (s.die d).away = false) : dieHeard s d = s := by
  have hset : s.setDie d { s.die d with away := false } = s := by
    rw [← ha]
    unfold State.setDie State.die
    split <;> rfl
  unfold dieHeard
  split
  · rfl
  · rw [hset, hm, ha]
    exact if_neg Bool.false_ne_true

/-- A frame that is not the expected one, or an idle one, does no more than move the number expected. -/
theorem frameTaken_idle (h : (∀ b, (num, b) ∈ (s.dir d up).unacked → b = .idle) ∨ num ≠ (s.dir d up).expect) :
    ((frameTaken s d up num).dir d up).expect =
        (if num = (s.dir d up).expect ∧ num ∈ (s.dir d up).unacked.map (·.1) then num + 1 else (s.dir d up).expect) ∧
      (frameTaken s d up num).dir d (! up) = s.dir d (! up) ∧ OnlyLinks s (frameTaken s d up num) := by
  unfold frameTaken
  dsimp only
  by_cases hn : num = (s.dir d up).expect
  · rw [if_pos hn]
    cases hf : (s.dir d up).unacked.find? (fun e => e.1 == num) with
    | none =>
      have hnot : num ∉ (s.dir d up).unacked.map (·.1) := fun hm => by
        obtain ⟨e, he, hen⟩ := List.mem_map.1 hm
        exact List.find?_eq_none.1 hf e he (beq_iff_eq.2 hen)
      rw [if_neg fun hc => hnot hc.2]
      exact ⟨rfl, rfl, rfl⟩
    | some e =>
      have he : e ∈ (s.dir d up).unacked := List.mem_of_find?_eq_some hf
      have hen : e.1 = num := beq_iff_eq.1 (List.find?_some hf :)
      have hidle : e.2 = .idle := h.resolve_right (fun hne => hne hn) e.2 (hen ▸ he)
      rw [if_pos ⟨hn, List.mem_map.2 ⟨e, he, hen⟩⟩]
      dsimp only
      rw [hidle]
      refine ⟨congrArg LinkDir.expect (State.dir_setDir_same _), State.dir_setDir_other _ (.inr ?_), onlyLinks_setDir ..⟩
      cases up <;> decide
  · rw [if_neg hn, if_neg fun hc => hn hc.1]
    exact ⟨rfl, rfl, rfl⟩

/-- An acknowledgement frees its frame of the other direction, and what waits there may enter frames. -/
theorem frameAcked_spec : ((frameAcked s d (! up) num).dir d up) = s.dir d up ∧ OnlyLinks s (frameAcked s d (! up) num) ∧
    ∃ sent, ((frameAcked s d (! up) num).dir d (! up)).unacked = ((s.dir d (! up)).unacked.filter fun e => e.1 ≠ num) ++ sent ∧
      ((s.dir d (! up)).waiting = [] → sent = []) := by
  have hup : up ≠ ! up := by cases up <;> decide
  unfold frameAcked
  dsimp only
  rw [fillDir_eq, State.dir_setDir_same, State.dir_setDir_same, State.dir_setDir_other _ (.inr hup), State.dir_setDir_other _ (.inr hup)]
  refine ⟨rfl, (onlyLinks_setDir ..).trans (onlyLinks_setDir ..), ?_⟩
  by_cases hw : (s.dir d (! up)).waiting = []
  · exact ⟨[], by rw [LinkDir.filled_unacked_of_idle (by exact hw), List.append_nil], fun _ => rfl⟩
  · obtain ⟨-, sent, hs⟩ := LinkDir.filled_keeps { s.dir d (! up) with unacked := (s.dir d (! up)).unacked.filter fun e => e.1 ≠ num } (mayGo (s.setDir d (! up)
      { s.dir d (! up) with unacked := (s.dir d (! up)).unacked.filter fun e => e.1 ≠ num }) d (! up))
    exact ⟨sent, hs, fun h => absurd h hw⟩

/-- The state in which a frame with a good CRC is taken: its link has no failures in a row, and its die has been heard. -/
noncomputable def framePassed (s : State) (k : Nat) (up : Bool) : State :=
  let t := s.modLnk fun l => { l with runs := SMap.set 0 l.runs (2 * k + b2n up) 0 }
  if up then dieHeard t (linkDie k) else t

theorem framePassed_dir (e : Nat) (up' : Bool) : (framePassed s k up).dir e up' = s.dir e up' := by
  unfold framePassed
  cases up with
  | false => rfl
  | true =>
    rw [if_pos rfl, State.dir, dieHeard_lnk]
    rfl

theorem framePassed_only (h : up = true → s.bit (mirrorFlag (linkDie k)) = true ∧ (s.die (linkDie k)).away = false) : OnlyLinks s (framePassed s k up) := by
  unfold framePassed
  cases up with
  | false => exact rfl
  | true =>
    obtain ⟨hm, ha⟩ := h rfl
    dsimp only
    rw [if_pos rfl, dieHeard_fresh (by exact hm) (by exact ha)]
    exact rfl

theorem frameReceive_good (hl : linkState s k = 0) (hon : (s.die (linkDie k)).on = true) (ack : Option Nat) : frameReceive s k up num true ack =
    match ack with
    | some n => frameAcked (frameTaken (framePassed s k up) (linkDie k) up num) (linkDie k) (! up) n
    | none => frameTaken (framePassed s k up) (linkDie k) up num := by
  unfold frameReceive
  dsimp only
  rw [hl, hon]
  rfl

theorem frameReceive_bad (hl : linkState s k = 0) (hon : (s.die (linkDie k)).on = true) (ack : Option Nat) : frameReceive s k up num false ack =
    if SMap.get 0 s.lnk.runs (2 * k + b2n up) = 15 then crcFault s k up
    else s.modLnk fun l => { l with runs := SMap.set 0 l.runs (2 * k + b2n up) (SMap.get 0 s.lnk.runs (2 * k + b2n up) + 1) } := by
  unfold frameReceive crcBad
  dsimp only
  rw [hl, hon]
  rfl

theorem crcFault_raises (k : Fin 4) : (crcFault s k up).raiseQ = s.raiseQ ++ [⟨24 + k.val, false, false, 0⟩] ∧
    crcFault s k up = { s with lnk := (crcFault s k up).lnk, raiseQ := (crcFault s k up).raiseQ } := by
  have hs : stays (24 + k.val) = false := by
    revert k
    decide
  refine ⟨?_, rfl⟩
  have h : (crcFault s k up).raiseQ = s.raiseQ ++ [⟨24 + k.val, false, stays (24 + k.val), 0⟩] := rfl
  rw [h, hs]

end

/-- Settles O3: a frame sent, sent again, and arriving, each by its rule. -/
theorem dieLinkFramesAndFaults : Obligations.DieLinkFramesAndFaults := by
  unfold Obligations.DieLinkFramesAndFaults
  refine ⟨fun s d up hl => ⟨fun hr => ?_, fun hr => ?_, fun num _ => ?_⟩, fun s k up num ack hl hon => ⟨fun h => ?_, ?_, fun hr => ?_, fun hr => ?_⟩,
    fun s k up num ok ack h => ?_, fun s k => rfl⟩
  · have hroom : (s.dir d up).room = true := decide_eq_true hr
    exact congrArg Host.Outcome.next (if_neg (by rw [hl, hroom]; decide))
  · have hroom : (s.dir d up).room = false := decide_eq_false (Nat.not_lt.2 hr)
    exact congrArg Host.Outcome.next (if_pos (by rw [hl, hroom]; decide))
  · refine ⟨_, congrArg Host.Outcome.next (if_pos hl), rfl, ?_⟩
    rw [State.dir_setDir_same]
    refine ⟨rfl, rfl, fun e => ?_⟩
    simp only [List.mem_append, List.mem_filter, decide_eq_true_eq]
    tauto
  · refine ⟨_, congrArg Host.Outcome.next (frameReceive_good hl hon ack), ?_⟩
    have hd := framePassed_dir (s := s) (k := k) (up := up) (linkDie k)
    have hp := framePassed_only (s := s) (k := k) (up := up)
    generalize framePassed s k up = v at hd hp
    rw [← hd up] at h
    obtain ⟨hx, ho, hon⟩ := frameTaken_idle h
    rw [hd] at hx ho
    cases ack with
    | none => exact ⟨hx, ⟨[], (congrArg LinkDir.unacked ho).trans (List.append_nil _).symm, fun _ => rfl⟩, fun hm => (hp hm).trans hon⟩
    | some n =>
      obtain ⟨hsame, honly, sent, hs, hw⟩ := frameAcked_spec (s := frameTaken v (linkDie k) up num) (d := linkDie k) (up := up) (num := n)
      rw [ho] at hs hw
      exact ⟨(congrArg LinkDir.expect hsame).trans hx, ⟨sent, hs, fun hc => hw (hc.resolve_right nofun)⟩, fun hm => ((hp hm).trans hon).trans honly⟩
  · intro c cmd val tkt item0 slot hf
    refine ⟨(framePassed s k false).setDir (linkDie k) false { s.dir (linkDie k) false with expect := (s.dir (linkDie k) false).expect + 1 }, rfl, ?_⟩
    refine congrArg Host.Outcome.next ((frameReceive_good hl hon none).trans ?_)
    rw [frameTaken, framePassed_dir]
    dsimp only
    rw [if_pos rfl, hf]
    exact rfl
  · refine ⟨_, congrArg Host.Outcome.next ((frameReceive_bad hl hon ack).trans (if_neg hr)), ?_, rfl⟩
    exact SMap.get_set_same 0 s.lnk.runs (2 * k.val + b2n up) (SMap.get 0 s.lnk.runs (2 * k.val + b2n up) + 1)
  · exact ⟨⟨_, congrArg Host.Outcome.next ((frameReceive_bad hl hon ack).trans (if_pos hr)), crcFault_raises k⟩,
      ⟨_, congrArg Host.Outcome.next (if_pos ⟨hl, hr⟩), crcFault_raises k⟩⟩
  · refine congrArg Host.Outcome.next (if_pos (h.imp_right fun hoff => ?_))
    rw [hoff]
    rfl

end Sys2Proof.Machine
end

section
/-! What the operations of a power channel leave as it was: fields, channels, and all but these (R250 to R278). -/
namespace Sys2Proof.Machine
open Sys2Proof Reg

/-! ## Fields that stay -/

/-- A field that a write of `f` leaves. -/
def Fd.sep (f g : Fd) : Prop := f.r.addr ≠ g.r.addr ∨ (g.r = f.r ∧ f.apart g = true)

/-- A field of the same register whose bits are among those of `f`. -/
def Fd.covers (f g : Fd) : Prop := g.r = f.r ∧ f.lo ≤ g.lo ∧ g.hi ≤ f.hi

/-- A register as one field. -/
noncomputable def Rg.whole (r : Rg) : Fd := ⟨r, 31, 0⟩

/-- Every field that is apart from those listed reads as before. -/
def FieldsBut (fs : List Fd) (s t : State) : Prop := ∀ g : Fd, g.ok = true → (∀ f ∈ fs, f.sep g) → t.get g = s.get g

section
variable {fs fs' : List Fd} {s t u : State} {f g : Fd} {r : Rg} {n : Nat} {b : Bool}

theorem Fd.covers_refl (f : Fd) : f.covers f := ⟨rfl, Nat.le_refl _, Nat.le_refl _⟩

theorem Fd.sep_of_covers (h : f.sep g) {f' : Fd} (hc : f.covers f') : f'.sep g := by
  obtain ⟨hr, hlo, hhi⟩ := hc
  refine h.imp (fun ha => by rw [hr]; exact ha) fun ⟨hg, ha⟩ => ⟨hg.trans hr.symm, ?_⟩
  simp only [Fd.apart, Bool.or_eq_true, decide_eq_true_eq] at ha ⊢
  omega

theorem FieldsBut.refl : FieldsBut fs s s := fun _ _ _ => rfl
theorem FieldsBut.trans (h : FieldsBut fs s t) (h' : FieldsBut fs t u) : FieldsBut fs s u := fun g hg hs => (h' g hg hs).trans (h g hg hs)
theorem FieldsBut.of_regs (h : t.regs = s.regs) : FieldsBut fs s t := fun g _ _ => State.get_congr (by rw [State.rd, h, State.rd])

theorem FieldsBut.mono (h : FieldsBut fs s t) (hsub : ∀ f ∈ fs, ∃ f' ∈ fs', f'.covers f) : FieldsBut fs' s t := fun g hg hs => h g hg fun f hf => by
  obtain ⟨f', hf', hc⟩ := hsub f hf
  exact Fd.sep_of_covers (hs f' hf') hc

theorem get_put_sep (hf : f.ok = true) (hg : g.ok = true) (h : f.sep g) : (s.put f n).get g = s.get g := by
  rcases h with ha | ⟨hr, ha⟩
  · exact State.get_congr (State.rd_put_other _ _ _ _ fun e => ha e.symm)
  · exact State.get_put_apart s f g hr hf hg ha

theorem FieldsBut.put (hf : f.ok = true) (hm : f ∈ fs) : FieldsBut fs s (s.put f n) := fun _ hg hs => get_put_sep hf hg (hs f hm)

theorem FieldsBut.bit (h : FieldsBut fs s t) (hg : g.ok = true) (hs : ∀ f ∈ fs, f.sep g) : t.bit g = s.bit g := by rw [State.bit, h g hg hs, State.bit]

/-- A register none of whose fields is listed reads as before. -/
theorem FieldsBut.rd (h : FieldsBut fs s t) (hs : ∀ f ∈ fs, f.r.addr ≠ r.addr) : t.rd r = s.rd r := by
  have hw : t.get r.whole = s.get r.whole := h r.whole rfl fun f hf => .inl (hs f hf)
  have hword (v : Word) : getBits v 31 0 = v.toNat := by
    have hmask : BitVec.allOnes 32 >>> (31 - (31 - 0)) = BitVec.allOnes 32 := by decide
    refine congrArg BitVec.toNat (?_ : v >>> 0 &&& BitVec.allOnes 32 >>> (31 - (31 - 0)) = v)
    rw [hmask, BitVec.and_allOnes, BitVec.ushiftRight_zero]
  exact BitVec.eq_of_toNat_eq ((hword _).symm.trans (hw.trans (hword _)))

end

/-! ## Steps of channels -/

/-- Nothing is changed but the fields `fs` and the channels `cs`, and beside these events, the die links and the free values drawn. -/
structure ChanStep (fs : List Fd) (cs : List Nat) (s t : State) : Prop where
  fields : FieldsBut fs s t
  chan : ∀ k, k ∉ cs → t.chan k = s.chan k
  rest : t = { s with regs := t.regs, psw := { s.psw with chans := t.psw.chans }, evq := t.evq, freeCtr := t.freeCtr, lnk := t.lnk }

section
variable {fs fs' : List Fd} {cs cs' : List Nat} {s t u : State} {c d k n : Nat} {f : Fd} {b : Bool} {o : OutCmd}

theorem ChanStep.refl : ChanStep fs cs s s := ⟨.refl, fun _ _ => rfl, rfl⟩

theorem ChanStep.trans (h : ChanStep fs cs s t) (h' : ChanStep fs cs t u) : ChanStep fs cs s u where
  fields := h.fields.trans h'.fields
  chan k hk := (h'.chan k hk).trans (h.chan k hk)
  rest := h'.rest.trans (by rw [h.rest])

theorem ChanStep.mono (h : ChanStep fs cs s t) (hf : ∀ f ∈ fs, ∃ f' ∈ fs', f'.covers f) (hc : ∀ c ∈ cs, c ∈ cs') : ChanStep fs' cs' s t :=
  ⟨h.fields.mono hf, fun k hk => h.chan k fun hm => hk (hc k hm), h.rest⟩

theorem ChanStep.sub (h : ChanStep fs cs s t) (hf : ∀ f ∈ fs, f ∈ fs') (hc : ∀ c ∈ cs, c ∈ cs') : ChanStep fs' cs' s t :=
  h.mono (fun f hm => ⟨f, hf f hm, f.covers_refl⟩) hc

theorem ChanStep.put (hf : f.ok = true) (hm : f ∈ fs) (n : Nat) : ChanStep fs cs s (s.put f n) := ⟨.put hf hm, fun _ _ => rfl, rfl⟩
theorem ChanStep.modChan (hc : c ∈ cs) (f : Chan → Chan) : ChanStep fs cs s (s.modChan c f) :=
  ⟨fun _ _ _ => rfl, fun _ hk => chan_setChan_other _ _ fun e => hk (e ▸ hc), rfl⟩
theorem ChanStep.of_lnk (h : t = { s with lnk := t.lnk, evq := t.evq }) : ChanStep fs cs s t :=
  ⟨.of_regs (by rw [h]), fun k _ => by rw [h]; rfl, by rw [h]⟩
theorem ChanStep.event (c code detail : Nat) : ChanStep fs cs s (chEvent s c code detail) := .of_lnk (chEvent_lnk code detail)

theorem ChanStep.fold {l : List Nat} {g : State → Nat → State} (h : ∀ u, ∀ m ∈ l, ChanStep fs cs u (g u m)) (s : State) : ChanStep fs cs s (l.foldl g s) := by
  induction l generalizing s with
  | nil => exact .refl
  | cons a l ih =>
    have htail : ∀ u, ∀ m ∈ l, ChanStep fs cs u (g u m) := fun u m hm => h u m (List.mem_cons_of_mem _ hm)
    exact (h s a List.mem_cons_self).trans (ih htail (g s a))

theorem ChanStep.get (h : ChanStep fs cs s t) (hf : f.ok = true) (hs : ∀ g ∈ fs, g.sep f) : t.get f = s.get f := h.fields f hf hs
theorem ChanStep.bit (h : ChanStep fs cs s t) (hf : f.ok = true) (hs : ∀ g ∈ fs, g.sep f) : t.bit f = s.bit f := h.fields.bit hf hs
theorem ChanStep.wm (h : ChanStep fs cs s t) : t.wm = s.wm := by rw [h.rest]
theorem ChanStep.raiseQ (h : ChanStep fs cs s t) : t.raiseQ = s.raiseQ := by rw [h.rest]
theorem ChanStep.die (h : ChanStep fs cs s t) (d : Nat) : t.die d = s.die d := by
  have hA : t.psw.dieA = s.psw.dieA := by rw [h.rest]
  have hB : t.psw.dieB = s.psw.dieB := by rw [h.rest]
  rw [State.die, State.die, hA, hB]

/-! ## Groups (R266) -/

/-- A field of a channel's registers: no field of PSW_DIEd_PAR is among these. -/
def Fd.ofChan (f : Fd) : Prop := ∀ d, f.r.addr ≠ (PSW_DIE_PAR d).addr

theorem membersOf_congr (h : t.rd (PSW_DIE_PAR (dieOf c)) = s.rd (PSW_DIE_PAR (dieOf c))) : membersOf t c = membersOf s c := by
  unfold membersOf parOf
  rw [h]

theorem ChanStep.members (h : ChanStep fs cs s t) (hf : ∀ f ∈ fs, f.ofChan) (c : Nat) : membersOf t c = membersOf s c :=
  membersOf_congr (h.fields.rd fun f hm => hf f hm _)

theorem ChanStep.lead (h : ChanStep fs cs s t) (hf : ∀ f ∈ fs, f.ofChan) (c : Nat) : leadOf t c = leadOf s c := by
  rw [leadOf, h.members hf, leadOf]

theorem mem_membersOf (s : State) (c : Nat) : c ∈ membersOf s c := by
  unfold membersOf
  split
  · have h := Nat.div_add_mod c 2
    have hlt : c % 2 < 2 := Nat.mod_lt _ (by decide)
    generalize c / 2 = q, c % 2 = k at h hlt
    subst h
    match k with
    | 0 => exact List.mem_cons_self
    | 1 => exact List.mem_cons_of_mem _ List.mem_cons_self
  · have h := Nat.div_add_mod c 4
    have hlt : c % 4 < 4 := Nat.mod_lt _ (by decide)
    generalize c / 4 = q, c % 4 = k at h hlt
    subst h
    match k with
    | 0 => exact List.mem_cons_self
    | 1 => exact List.mem_cons_of_mem _ List.mem_cons_self
    | 2 => exact List.mem_cons_of_mem _ (List.mem_cons_of_mem _ List.mem_cons_self)
    | 3 => exact List.mem_cons_of_mem _ (List.mem_cons_of_mem _ (List.mem_cons_of_mem _ List.mem_cons_self))
  · exact List.mem_singleton_self c

theorem pair_quad : ∀ c < 104, ∀ m ∈ [2 * (c / 2), 2 * (c / 2) + 1], m < 104 ∧ m / 4 = c / 4 := by decide

theorem quad_quad : ∀ c < 104, ∀ m ∈ [4 * (c / 4), 4 * (c / 4) + 1, 4 * (c / 4) + 2, 4 * (c / 4) + 3], m < 104 ∧ m / 4 = c / 4 := by decide

theorem membersOf_lt (h : c < 104) : ∀ m ∈ membersOf s c, m < 104 ∧ m / 4 = c / 4 := by
  unfold membersOf
  split
  · exact pair_quad c h
  · exact quad_quad c h
  · intro m hm
    rw [List.mem_singleton.1 hm]
    exact ⟨h, rfl⟩

theorem dieOf_quad : ∀ c < 104, dieOf (4 * (c / 4)) = dieOf c ∧ groupOf (4 * (c / 4)) = groupOf c := by decide

theorem dieOf_of_quad {k : Nat} (hk : k < 104) (hc : c < 104) (h : k / 4 = c / 4) : dieOf k = dieOf c ∧ groupOf k = groupOf c := by
  obtain ⟨hd, hg⟩ := dieOf_quad k hk
  rw [h] at hd hg
  exact ⟨hd.symm.trans (dieOf_quad c hc).1, hg.symm.trans (dieOf_quad c hc).2⟩

theorem leadOf_mem (s : State) (c : Nat) : leadOf s c ∈ membersOf s c := by
  unfold leadOf membersOf
  split <;> exact List.mem_cons_self

theorem ChanStep.onMembers {g : State → Nat → State} (h : ∀ u, ∀ m ∈ membersOf s c, ChanStep fs cs u (g u m)) : ChanStep fs cs s (onMembers s c g) := .fold h s

/-- The fields of a channel's own registers, and of the status of the members of its group, that its operations write. -/
noncomputable def outFields (c : Nat) (ms : List Nat) : List Fd := PSW_CH_STATE_eff c :: ms.map PSW_CH_STATUS_ilim

theorem outFields_ofChan (ms : List Nat) : ∀ f ∈ outFields c ms, f.ofChan := by
  intro f hf d
  rcases List.mem_cons.1 hf with rfl | hf
  · simp only [PSW_CH_STATE_eff, PSW_CH_STATE, PSW_DIE_PAR]
    omega
  · obtain ⟨m, -, rfl⟩ := List.mem_map.1 hf
    simp only [PSW_CH_STATUS_ilim, PSW_CH_STATUS, PSW_DIE_PAR]
    omega

/-! ## The output -/

theorem settleOut_step (s : State) (c : Nat) : ChanStep (outFields c (membersOf s c)) [] s (settleOut s c) := by
  have h1 : ChanStep (outFields c (membersOf s c)) [] s (s.put (PSW_CH_STATE_eff c) (effective (s.chan c))) := .put rfl List.mem_cons_self _
  have hm := h1.members (outFields_ofChan _) c
  unfold settleOut
  generalize s.put (PSW_CH_STATE_eff c) (effective (s.chan c)) = v at h1 hm
  dsimp only
  split
  · exact h1.trans (.onMembers fun u m hmem => .put rfl (List.mem_cons_of_mem _ (List.mem_map_of_mem (hm ▸ hmem))) _)
  · exact h1

theorem settleOut_eff (s : State) (c : Nat) : (settleOut s c).get (PSW_CH_STATE_eff c) = effective (s.chan c) % 8192 := by
  have h1 : (s.put (PSW_CH_STATE_eff c) (effective (s.chan c))).get (PSW_CH_STATE_eff c) = effective (s.chan c) % 8192 := State.get_put _ rfl
  have hsep (m : Nat) : (PSW_CH_STATUS_ilim m).sep (PSW_CH_STATE_eff c) := .inl (by simp only [PSW_CH_STATUS_ilim, PSW_CH_STATUS, PSW_CH_STATE_eff, PSW_CH_STATE]; omega)
  unfold settleOut
  generalize s.put (PSW_CH_STATE_eff c) (effective (s.chan c)) = v at h1
  dsimp only
  split
  · refine Eq.trans (ChanStep.get (fs := (membersOf v c).map PSW_CH_STATUS_ilim) (cs := [])
      (.onMembers fun u m hmem => .put rfl (List.mem_map_of_mem hmem) _) rfl fun g hg => ?_) h1
    obtain ⟨m, -, rfl⟩ := List.mem_map.1 hg
    exact hsep m
  · exact h1

theorem settleOut_chan (s : State) (c k : Nat) : (settleOut s c).chan k = s.chan k := (settleOut_step s c).chan k List.not_mem_nil

theorem setOut_step (s : State) (c : Nat) (o : OutCmd) : ChanStep (outFields c (membersOf s c)) [c] s (setOut s c o) := by
  have h1 : ChanStep (outFields c (membersOf s c)) [c] s (s.modChan c fun x => { x with out := o }) := .modChan List.mem_cons_self _
  exact h1.trans ((settleOut_step _ c).sub (fun _ hf => hf) (fun _ h => (List.not_mem_nil h).elim))

theorem setOut_out (s : State) (c : Nat) (o : OutCmd) : ((setOut s c o).chan c) = { s.chan c with out := o } := (settleOut_chan _ c c).trans (chan_setChan_same ..)

theorem takeOut_step (s : State) (c : Nat) (o : OutCmd) : ChanStep (outFields c (membersOf s c)) [c] s (takeOut s c o) := setOut_step s c _

theorem takeLimp_step (s : State) (c : Nat) : ChanStep (outFields c (membersOf s c)) [c] s (takeLimp s c) := by
  unfold takeLimp
  split
  · exact .refl
  · have h1 : ChanStep (outFields c (membersOf s c)) [c] s (s.modChan c fun x => { x with limp := some (limpState s c) }) := .modChan List.mem_cons_self _
    have hm := h1.members (outFields_ofChan _) c
    generalize s.modChan c (fun x => { x with limp := some (limpState s c) }) = v at h1 hm
    exact h1.trans (hm ▸ takeOut_step v c _)

/-- An output whose leader follows OFF is open (R266). -/
theorem levelOf_off (h : (s.chan (leadOf s c)).out.cmd = 0) : levelOf s c = .opened := by
  rw [levelOf, h]
  split <;> rfl

theorem levelOf_blocked (h : blocked s (leadOf s c) = true) : levelOf s c = .opened := if_pos h

end

end Sys2Proof.Machine
end

section
/-! Actions of a power channel, its siding and its way back (R251 to R256, R269 to R273). -/
namespace Sys2Proof.Machine
open Sys2Proof Reg

section
variable {fs : List Fd} {cs : List Nat} {s t u v : State} {c k cmd d val n outcome : Nat} {f : Fd} {bad : Bool} {tkt : Option (Nat × Word)} {i : Instr} {w : CtxId}

/-! ## A command performed -/

/-- The fields that a command writes after it has been recorded. -/
noncomputable def actFields (c : Nat) (ms : List Nat) : List Fd :=
  PSW_CH_STATUS_restarts c :: PSW_CH_DIAG_result c :: PSW_CH_STATE_eff c :: (ms.map PSW_CH_STATUS_tsdwait ++ ms.map PSW_CH_STATUS_ilim)

noncomputable def cmdFields (c : Nat) (ms : List Nat) : List Fd := PSW_CH_STATE_cmd c :: PSW_CH_STATE_value c :: actFields c ms

theorem forall_actFields {ms : List Nat} {p : Fd → Prop} (h1 : p (PSW_CH_STATUS_restarts c)) (h2 : p (PSW_CH_DIAG_result c)) (h3 : p (PSW_CH_STATE_eff c))
    (h4 : ∀ m ∈ ms, p (PSW_CH_STATUS_tsdwait m)) (h5 : ∀ m ∈ ms, p (PSW_CH_STATUS_ilim m)) : ∀ f ∈ actFields c ms, p f := by
  simp only [actFields, List.forall_mem_cons, List.forall_mem_append, List.forall_mem_map]
  exact ⟨h1, h2, h3, h4, h5⟩

theorem outFields_sub (ms : List Nat) : ∀ f ∈ outFields c ms, f ∈ actFields c ms := by
  intro f hf
  rcases List.mem_cons.1 hf with rfl | hf
  · exact List.mem_cons_of_mem _ (List.mem_cons_of_mem _ List.mem_cons_self)
  · exact List.mem_cons_of_mem _ (List.mem_cons_of_mem _ (List.mem_cons_of_mem _ (List.mem_append_right _ hf)))

theorem actFields_ofChan (ms : List Nat) : ∀ f ∈ actFields c ms, f.ofChan := by
  refine forall_actFields (fun d => ?_) (fun d => ?_) (fun d => ?_) (fun m _ d => ?_) fun m _ d => ?_
  · simp only [PSW_CH_STATUS_restarts, PSW_CH_STATUS, PSW_DIE_PAR]
    omega
  · simp only [PSW_CH_DIAG_result, PSW_CH_DIAG, PSW_DIE_PAR]
    omega
  · simp only [PSW_CH_STATE_eff, PSW_CH_STATE, PSW_DIE_PAR]
    omega
  · simp only [PSW_CH_STATUS_tsdwait, PSW_CH_STATUS, PSW_DIE_PAR]
    omega
  · simp only [PSW_CH_STATUS_ilim, PSW_CH_STATUS, PSW_DIE_PAR]
    omega

theorem FieldsBut.wr {r : Rg} {x : Word} (hm : r.whole ∈ fs) : FieldsBut fs s (s.wr r x) := fun g hg hs => by
  rcases hs _ hm with h | ⟨-, ha⟩
  · exact State.get_congr (State.rd_wr_other _ _ _ _ fun e => h e.symm)
  · obtain ⟨hhi, hlo⟩ := Fd.ok_iff.1 hg
    rw [Fd.apart, Bool.or_eq_true, decide_eq_true_iff, decide_eq_true_iff] at ha
    have h0 : r.whole.lo = 0 ∧ r.whole.hi = 31 := ⟨rfl, rfl⟩
    omega

theorem ChanStep.wr {r : Rg} (hm : r.whole ∈ fs) (x : Word) : ChanStep fs cs s (s.wr r x) := ⟨.wr hm, fun _ _ => rfl, rfl⟩

theorem chan_modChan_same (s : State) (c : Nat) (g : Chan → Chan) : (s.modChan c g).chan c = g (s.chan c) := chan_setChan_same ..

theorem ChanStep.drawn (s : State) : ChanStep fs cs s s.drawn := ⟨.of_regs rfl, fun _ _ => rfl, rfl⟩

theorem drawn_get (s : State) (f : Fd) : s.drawn.get f = s.get f := rfl

theorem recordCmd_step (s : State) (c cmd d : Nat) : ChanStep [PSW_CH_STATE_cmd c, PSW_CH_STATE_value c] [] s (recordCmd s c cmd d) := by
  have h1 : ChanStep [PSW_CH_STATE_cmd c, PSW_CH_STATE_value c] [] s (s.put (PSW_CH_STATE_cmd c) cmd) := .put rfl List.mem_cons_self _
  unfold recordCmd
  generalize s.put (PSW_CH_STATE_cmd c) cmd = v at h1
  dsimp only
  split
  · exact h1.trans (.put rfl (List.mem_cons_of_mem _ List.mem_cons_self) _)
  · have h2 : ChanStep [PSW_CH_STATE_cmd c, PSW_CH_STATE_value c] [] v (v.put (PSW_CH_STATE_value c) v.freeW.toNat) := .put rfl (List.mem_cons_of_mem _ List.mem_cons_self) _
    exact (h1.trans h2).trans (.drawn _)

theorem recordCmd_cmd (hcmd : cmd < 16) : (recordCmd s c cmd d).get (PSW_CH_STATE_cmd c) = cmd := by
  have h1 : (s.put (PSW_CH_STATE_cmd c) cmd).get (PSW_CH_STATE_cmd c) = cmd := State.get_put_of_lt _ rfl hcmd
  unfold recordCmd
  generalize s.put (PSW_CH_STATE_cmd c) cmd = v at h1
  dsimp only
  split
  · exact (State.get_put_apart v (PSW_CH_STATE_value c) (PSW_CH_STATE_cmd c) rfl rfl rfl rfl).trans h1
  · exact (drawn_get _ _).trans ((State.get_put_apart v (PSW_CH_STATE_value c) (PSW_CH_STATE_cmd c) rfl rfl rfl rfl).trans h1)

theorem recordCmd_value (h : cmd = 2 ∨ cmd = 3) (hd : d < 8192) : (recordCmd s c cmd d).get (PSW_CH_STATE_value c) = d := by
  unfold recordCmd
  dsimp only
  rw [if_pos h]
  exact State.get_put_of_lt _ rfl hd

theorem testResult_step (s : State) (c r : Nat) : ChanStep [PSW_CH_DIAG_result c] [c] s (testResult s c r) := by
  have h1 : ChanStep [PSW_CH_DIAG_result c] [c] s (s.put (PSW_CH_DIAG_result c) r) := .put rfl List.mem_cons_self _
  unfold testResult
  generalize s.put (PSW_CH_DIAG_result c) r = v at h1
  dsimp only
  have h2 : ChanStep [PSW_CH_DIAG_result c] [c] s (v.modChan c fun x => { x with test := 0 }) := h1.trans (.modChan List.mem_cons_self _)
  split
  · exact h2
  · exact h2.trans (.event ..)

theorem testResult_chan (s : State) (c r : Nat) : (testResult s c r).chan c = { s.chan c with test := 0 } := by
  have h1 : (s.put (PSW_CH_DIAG_result c) r).chan c = s.chan c := rfl
  unfold testResult
  generalize s.put (PSW_CH_DIAG_result c) r = v at h1
  have h2 : (v.modChan c fun x => { x with test := 0 }).chan c = { v.chan c with test := 0 } := chan_setChan_same ..
  rw [h1] at h2
  dsimp only
  split
  · exact h2
  · exact (chEvent_chan ..).trans h2

/-- What a command does once it has been recorded. -/
noncomputable def afterCmd (s : State) (c cmd d : Nat) : State :=
  let s := s.modChan c fun x => { x with limp := none }
  let s := if cmd = 0 then onMembers (s.put (PSW_CH_STATUS_restarts c) 0) c fun s m => s.putB (PSW_CH_STATUS_tsdwait m) false else s
  let s := if (s.chan c).test ≠ 0 ∧ (cmd = 1 ∨ cmd = 4 ∨ (2 ≤ cmd ∧ (0 < d ∨ isHB c))) then testResult s c 0 else s
  if cmd = 2 ∨ cmd = 3 then settleOut s c else setOut s c ⟨cmd, 0⟩

theorem performCmd_eq : performCmd s c cmd val = afterCmd (recordCmd s c cmd (min 4096 (val % 8192))) c cmd (min 4096 (val % 8192)) := rfl

/-- OFF lets the group's restarts begin anew. -/
noncomputable def restartsCleared (s : State) (c cmd : Nat) : State :=
  if cmd = 0 then onMembers (s.put (PSW_CH_STATUS_restarts c) 0) c fun s m => s.putB (PSW_CH_STATUS_tsdwait m) false else s

/-- A command ends a test that it does not let run. -/
noncomputable def testEnded (s : State) (c cmd d : Nat) : State :=
  if (s.chan c).test ≠ 0 ∧ (cmd = 1 ∨ cmd = 4 ∨ (2 ≤ cmd ∧ (0 < d ∨ isHB c))) then testResult s c 0 else s

theorem afterCmd_eq (s : State) (c cmd d : Nat) : afterCmd s c cmd d =
    if cmd = 2 ∨ cmd = 3 then settleOut (testEnded (restartsCleared (s.modChan c fun x => { x with limp := none }) c cmd) c cmd d) c
    else setOut (testEnded (restartsCleared (s.modChan c fun x => { x with limp := none }) c cmd) c cmd d) c ⟨cmd, 0⟩ := rfl

theorem restartsCleared_step (s : State) (c cmd : Nat) : ChanStep (actFields c (membersOf s c)) [] s (restartsCleared s c cmd) := by
  unfold restartsCleared
  split
  · have h1 : ChanStep (actFields c (membersOf s c)) [] s (s.put (PSW_CH_STATUS_restarts c) 0) := .put rfl List.mem_cons_self _
    have hm := h1.members (actFields_ofChan _) c
    generalize s.put (PSW_CH_STATUS_restarts c) 0 = v at h1 hm
    refine h1.trans (.onMembers fun u m hmem => .put rfl ?_ _)
    exact List.mem_cons_of_mem _ (List.mem_cons_of_mem _ (List.mem_cons_of_mem _ (List.mem_append_left _ (List.mem_map_of_mem (hm ▸ hmem)))))
  · exact .refl

theorem testEnded_step (s : State) (c cmd d : Nat) (ms : List Nat) : ChanStep (actFields c ms) [c] s (testEnded s c cmd d) := by
  unfold testEnded
  split
  · refine (testResult_step s c 0).sub (fun f hf => ?_) fun _ h => h
    rw [List.mem_singleton.1 hf]
    exact List.mem_cons_of_mem _ List.mem_cons_self
  · exact .refl

theorem testEnded_out (s : State) (c cmd d : Nat) : ((testEnded s c cmd d).chan c).out = (s.chan c).out := by
  unfold testEnded
  split
  · rw [testResult_chan]
  · rfl

/-- What a recorded command changes, and the output it leaves: a duty waits for the next period, any other command is followed at once. -/
theorem afterCmd_spec (s : State) (c cmd d : Nat) : ChanStep (actFields c (membersOf s c)) [c] s (afterCmd s c cmd d) ∧
    ((afterCmd s c cmd d).chan c).out = if cmd = 2 ∨ cmd = 3 then (s.chan c).out else ⟨cmd, 0⟩ := by
  have h1 : ChanStep (actFields c (membersOf s c)) [c] s (s.modChan c fun x => { x with limp := none }) := .modChan List.mem_cons_self _
  have ho : ((s.modChan c fun x => { x with limp := none }).chan c).out = (s.chan c).out := by rw [chan_modChan_same]
  rw [afterCmd_eq]
  generalize s.modChan c (fun x => { x with limp := none }) = v at h1 ho
  have hm := h1.members (actFields_ofChan _) c
  have h2 := restartsCleared_step v c cmd
  have ho2 := congrArg Chan.out (h2.chan c List.not_mem_nil)
  rw [hm] at h2
  generalize restartsCleared v c cmd = x at h2 ho2
  have h3 := testEnded_step x c cmd d (membersOf s c)
  have ho3 := testEnded_out x c cmd d
  generalize testEnded x c cmd d = y at h3 ho3
  have h4 : ChanStep (actFields c (membersOf s c)) [c] s y := (h1.trans (h2.sub (fun _ h => h) fun _ h => (List.not_mem_nil h).elim)).trans h3
  have hy := h4.members (actFields_ofChan _) c
  have ho4 : (y.chan c).out = (s.chan c).out := ho3.trans (ho2.trans ho)
  split
  · exact ⟨h4.trans ((hy ▸ settleOut_step y c).sub (outFields_sub _) fun _ h => (List.not_mem_nil h).elim), (congrArg Chan.out (settleOut_chan y c c)).trans ho4⟩
  · exact ⟨h4.trans ((hy ▸ setOut_step y c ⟨cmd, 0⟩).sub (outFields_sub _) fun _ h => h), congrArg Chan.out (setOut_out y c ⟨cmd, 0⟩)⟩

/-- A performed command: its record, its output, and all it changes. -/
theorem performCmd_spec (hcmd : cmd < 16) : ChanStep (cmdFields c (membersOf s c)) [c] s (performCmd s c cmd val) ∧
    (performCmd s c cmd val).get (PSW_CH_STATE_cmd c) = cmd ∧
    ((performCmd s c cmd val).chan c).out = (if cmd = 2 ∨ cmd = 3 then (s.chan c).out else ⟨cmd, 0⟩) ∧
    (cmd = 2 ∨ cmd = 3 → (performCmd s c cmd val).get (PSW_CH_STATE_value c) = min 4096 (val % 8192)) := by
  rw [performCmd_eq]
  have h1 := recordCmd_step s c cmd (min 4096 (val % 8192))
  have hc : (recordCmd s c cmd (min 4096 (val % 8192))).get (PSW_CH_STATE_cmd c) = cmd := recordCmd_cmd hcmd
  have hv (h : cmd = 2 ∨ cmd = 3) : (recordCmd s c cmd (min 4096 (val % 8192))).get (PSW_CH_STATE_value c) = min 4096 (val % 8192) := recordCmd_value h (by omega)
  generalize recordCmd s c cmd (min 4096 (val % 8192)) = x at h1 hc hv
  have hm : membersOf x c = membersOf s c := h1.members (by
    simp only [List.forall_mem_cons, List.not_mem_nil, false_imp_iff, implies_true, and_true]
    constructor <;> intro d <;> simp only [PSW_CH_STATE_cmd, PSW_CH_STATE_value, PSW_CH_STATE, PSW_DIE_PAR] <;> omega) c
  obtain ⟨h2, ho⟩ := afterCmd_spec x c cmd (min 4096 (val % 8192))
  rw [hm] at h2
  have hsep {g : Fd} (hg : g.r = PSW_CH_STATE c) (ha : (PSW_CH_STATE_eff c).apart g = true) : ∀ f ∈ actFields c (membersOf s c), f.sep g := by
    have hstatus (m : Nat) {f : Fd} (hf : f.r = PSW_CH_STATUS m) : f.sep g := .inl (by
      rw [hf, hg]
      simp only [PSW_CH_STATUS, PSW_CH_STATE]
      omega)
    refine forall_actFields (hstatus c rfl) (.inl ?_) (.inr ⟨hg, ha⟩) (fun m _ => hstatus m rfl) fun m _ => hstatus m rfl
    rw [hg]
    simp only [PSW_CH_DIAG_result, PSW_CH_DIAG, PSW_CH_STATE]
    omega
  refine ⟨(h1.sub (fun f hf => ?_) fun _ h => (List.not_mem_nil h).elim).trans (h2.sub (fun f hf => List.mem_cons_of_mem _ (List.mem_cons_of_mem _ hf)) fun _ h => h),
    (h2.get rfl (hsep rfl rfl)).trans hc, ho.trans ?_, fun h => (h2.get rfl (hsep rfl rfl)).trans (hv h)⟩
  · rcases List.mem_cons.1 hf with rfl | hf
    · exact List.mem_cons_self
    · rw [List.mem_singleton.1 hf]
      exact List.mem_cons_of_mem _ List.mem_cons_self
  · rw [h1.chan c List.not_mem_nil]

/-! ## The answer (R256) -/

theorem ackRegs_step (s : State) (c outcome : Nat) (bad : Bool) (tkt : Option (Nat × Word)) :
    ChanStep [(PSW_CH_ACK c).whole, (PSW_CH_ACKSEQ c).whole] [] s (ackRegs s c outcome bad tkt) := by
  have hput {u : State} {f : Fd} {n : Nat} (hf : f.ok = true) (hr : f.r = PSW_CH_ACK c) : ChanStep [(PSW_CH_ACK c).whole, (PSW_CH_ACKSEQ c).whole] [] u (u.put f n) :=
    (ChanStep.put (fs := [f]) hf (List.mem_singleton_self f) n).mono (fun g hg => ⟨(PSW_CH_ACK c).whole, List.mem_cons_self, by
      rw [List.mem_singleton.1 hg]
      obtain ⟨h1, -⟩ := Fd.ok_iff.1 hf
      exact ⟨hr, Nat.zero_le _, Nat.le_of_lt_succ h1⟩⟩) fun _ h => h
  have h3 : ChanStep [(PSW_CH_ACK c).whole, (PSW_CH_ACKSEQ c).whole] [] s
      ((((s.put (PSW_CH_ACK_outcome c) outcome).putB (PSW_CH_ACK_badcmd c) bad).putB (PSW_CH_ACK_ticketed c) tkt.isSome).wrap (PSW_CH_ACK_count c)) :=
    ((hput rfl rfl).trans (hput rfl rfl)).trans ((hput rfl rfl).trans (hput rfl rfl))
  unfold ackRegs
  generalize ((((s.put (PSW_CH_ACK_outcome c) outcome).putB (PSW_CH_ACK_badcmd c) bad).putB (PSW_CH_ACK_ticketed c) tkt.isSome).wrap (PSW_CH_ACK_count c)) = v at h3
  cases tkt with
  | none => exact h3
  | some x =>
    exact h3.trans ((hput rfl rfl).trans (.wr (List.mem_cons_of_mem _ List.mem_cons_self) _))

/-- ACK and ACKSEQ after an action; the counter goes on from where it stood. -/
theorem ackRegs_acked (hcnt : v.get (PSW_CH_ACK_count c) = s.get (PSW_CH_ACK_count c)) (ho : outcome < 4) : Acked s (ackRegs v c outcome bad tkt) c outcome bad tkt := by
  let a := v.put (PSW_CH_ACK_outcome c) outcome
  let b := a.putB (PSW_CH_ACK_badcmd c) bad
  let d := b.putB (PSW_CH_ACK_ticketed c) tkt.isSome
  have hfields : (d.wrap (PSW_CH_ACK_count c)).get (PSW_CH_ACK_outcome c) = outcome ∧ (d.wrap (PSW_CH_ACK_count c)).bit (PSW_CH_ACK_badcmd c) = bad ∧
      (d.wrap (PSW_CH_ACK_count c)).bit (PSW_CH_ACK_ticketed c) = tkt.isSome ∧
      (d.wrap (PSW_CH_ACK_count c)).get (PSW_CH_ACK_count c) = (s.get (PSW_CH_ACK_count c) + 1) % 65536 := by
    have hoa : a.get (PSW_CH_ACK_outcome c) = outcome := State.get_put_of_lt _ rfl ho
    have hca : a.get (PSW_CH_ACK_count c) = s.get (PSW_CH_ACK_count c) := (State.get_put_apart v (PSW_CH_ACK_outcome c) (PSW_CH_ACK_count c) rfl rfl rfl rfl).trans hcnt
    have hbb : b.bit (PSW_CH_ACK_badcmd c) = bad := State.bit_putB _ rfl
    have hob : b.get (PSW_CH_ACK_outcome c) = outcome := (State.get_put_apart a (PSW_CH_ACK_badcmd c) (PSW_CH_ACK_outcome c) rfl rfl rfl rfl).trans hoa
    have hcb : b.get (PSW_CH_ACK_count c) = s.get (PSW_CH_ACK_count c) := (State.get_put_apart a (PSW_CH_ACK_badcmd c) (PSW_CH_ACK_count c) rfl rfl rfl rfl).trans hca
    have hod : d.get (PSW_CH_ACK_outcome c) = outcome := (State.get_put_apart b (PSW_CH_ACK_ticketed c) (PSW_CH_ACK_outcome c) rfl rfl rfl rfl).trans hob
    have hbd : d.bit (PSW_CH_ACK_badcmd c) = bad := (State.bit_put_apart b (PSW_CH_ACK_ticketed c) (PSW_CH_ACK_badcmd c) rfl rfl rfl rfl).trans hbb
    have htd : d.bit (PSW_CH_ACK_ticketed c) = tkt.isSome := State.bit_putB _ rfl
    have hcd : d.get (PSW_CH_ACK_count c) = s.get (PSW_CH_ACK_count c) := (State.get_put_apart b (PSW_CH_ACK_ticketed c) (PSW_CH_ACK_count c) rfl rfl rfl rfl).trans hcb
    exact ⟨(State.get_put_apart d (PSW_CH_ACK_count c) (PSW_CH_ACK_outcome c) rfl rfl rfl rfl).trans hod,
      (State.bit_put_apart d (PSW_CH_ACK_count c) (PSW_CH_ACK_badcmd c) rfl rfl rfl rfl).trans hbd,
      (State.bit_put_apart d (PSW_CH_ACK_count c) (PSW_CH_ACK_ticketed c) rfl rfl rfl rfl).trans htd,
      hcd ▸ State.get_put d (f := PSW_CH_ACK_count c) rfl⟩
  obtain ⟨h1, h2, h3, h4⟩ := hfields
  cases tkt with
  | none => exact ⟨h1, h2, h3, h4, nofun⟩
  | some x =>
    obtain ⟨n, q⟩ := x
    have hother : (PSW_CH_ACK c).addr ≠ (PSW_CH_ACKSEQ c).addr := by
      simp only [PSW_CH_ACK, PSW_CH_ACKSEQ]
      omega
    have hseq {u : State} {f : Fd} (hf : f.r = PSW_CH_ACK c) : (u.wr (PSW_CH_ACKSEQ c) q).get f = u.get f := State.get_wr_other u (hf ▸ hother)
    have hseqb {u : State} {f : Fd} (hf : f.r = PSW_CH_ACK c) : (u.wr (PSW_CH_ACKSEQ c) q).bit f = u.bit f := State.bit_wr_other u (hf ▸ hother)
    generalize hw : d.wrap (PSW_CH_ACK_count c) = y at h1 h2 h3 h4
    have he : ackRegs v c outcome bad (some (n, q)) = (y.put (PSW_CH_ACK_track c) n).wr (PSW_CH_ACKSEQ c) q := by rw [← hw]; rfl
    rw [he]
    refine ⟨(hseq rfl).trans ?_, (hseqb rfl).trans ?_, (hseqb rfl).trans ?_, (hseq rfl).trans ?_, fun m p hp => ?_⟩
    · exact (State.get_put_apart y (PSW_CH_ACK_track c) (PSW_CH_ACK_outcome c) rfl rfl rfl rfl).trans h1
    · exact (State.bit_put_apart y (PSW_CH_ACK_track c) (PSW_CH_ACK_badcmd c) rfl rfl rfl rfl).trans h2
    · exact (State.bit_put_apart y (PSW_CH_ACK_track c) (PSW_CH_ACK_ticketed c) rfl rfl rfl rfl).trans h3
    · exact (State.get_put_apart y (PSW_CH_ACK_track c) (PSW_CH_ACK_count c) rfl rfl rfl rfl).trans h4
    · cases hp
      exact State.rd_wr_same _ (PSW_CH_ACKSEQ c) q

theorem Acked.of_regs (h : Acked s u c outcome bad tkt) (hr : t.regs = u.regs) : Acked s t c outcome bad tkt := by
  obtain ⟨h1, h2, h3, h4, h5⟩ := h
  have hrd (r : Rg) : t.rd r = u.rd r := by rw [State.rd, hr, State.rd]
  exact ⟨(State.get_congr (hrd _)).trans h1, (State.bit_congr (hrd _)).trans h2, (State.bit_congr (hrd _)).trans h3, (State.get_congr (hrd _)).trans h4,
    fun n q hq => (hrd _).trans (h5 n q hq)⟩

/-- The fields of the answer. -/
noncomputable def ackFields (c : Nat) : List Fd := [(PSW_CH_ACK c).whole, (PSW_CH_ACKSEQ c).whole]

theorem chEvent_regs (code detail : Nat) : (chEvent s c code detail).regs = s.regs := by rw [chEvent_lnk]

theorem ackAction_step (s : State) (c outcome : Nat) (bad : Bool) (tkt : Option (Nat × Word)) : ChanStep (ackFields c) [] s (ackAction s c outcome bad tkt) :=
  (ackRegs_step s c outcome bad tkt).trans (.event ..)

theorem ackAction_acked (hcnt : v.get (PSW_CH_ACK_count c) = s.get (PSW_CH_ACK_count c)) (ho : outcome < 4) :
    Acked s (ackAction v c outcome bad tkt) c outcome bad tkt := (ackRegs_acked hcnt ho).of_regs (chEvent_regs ..)

/-! ## What is changed, and what is kept -/

/-- A field of the registers of one of the channels listed. -/
def Fd.inChans (f : Fd) (cs : List Nat) : Prop := ∃ m ∈ cs, (PSW_CH_CMD m).addr ≤ f.r.addr ∧ f.r.addr < (PSW_CH_CMD m).addr + 0x100

theorem channelFrame_refl : ChannelFrame s s c cs := ⟨fun _ _ _ => rfl, fun _ _ => ⟨rfl, rfl⟩, rfl⟩

theorem ChanStep.frame (h : ChanStep fs [c] u t) (hf : ∀ f ∈ fs, f.inChans cs) (hu : ChannelFrame s u c cs) : ChannelFrame s t c cs := by
  obtain ⟨hr, hc, hu⟩ := hu
  refine ⟨fun r hd hr' => (h.fields.rd fun f hm e => ?_).trans (hr r hd hr'), fun k hk => ⟨(h.chan k fun hm => hk (List.mem_singleton.1 hm)).trans (hc k hk).1, ?_⟩, ?_⟩
  · obtain ⟨m, hmc, hlo, hhi⟩ := hf f hm
    exact hr' m hmc (by rw [← e]; exact ⟨hlo, hhi⟩)
  · rw [h.wm, (hc k hk).2]
  · refine h.rest.trans ?_
    have hraise := h.raiseQ
    have hwm := h.wm
    rw [hraise, hwm]
    generalize t.regs = a, t.psw.chans = b, t.evq = e, t.freeCtr = g, t.lnk = l
    rw [hu]

theorem ackFields_inChans : ∀ f ∈ ackFields c, f.inChans [c] := by
  simp only [ackFields, List.forall_mem_cons, List.not_mem_nil, false_imp_iff, implies_true, and_true]
  constructor <;> refine ⟨c, List.mem_singleton_self c, ?_, ?_⟩ <;> simp only [Rg.whole, PSW_CH_ACK, PSW_CH_ACKSEQ, PSW_CH_CMD] <;> omega

theorem Fd.inChans.mono {cs' : List Nat} (h : f.inChans cs) (hsub : ∀ m ∈ cs, m ∈ cs') : f.inChans cs' := by
  obtain ⟨m, hm, hr⟩ := h
  exact ⟨m, hsub m hm, hr⟩

theorem cmdFields_inChans (hc : c ∈ cs) : ∀ f ∈ cmdFields c cs, f.inChans cs := by
  simp only [cmdFields, List.forall_mem_cons]
  refine ⟨⟨c, hc, ?_, ?_⟩, ⟨c, hc, ?_, ?_⟩, forall_actFields ⟨c, hc, ?_, ?_⟩ ⟨c, hc, ?_, ?_⟩ ⟨c, hc, ?_, ?_⟩ (fun m hm => ⟨m, hm, ?_, ?_⟩) fun m hm => ⟨m, hm, ?_, ?_⟩⟩
  all_goals
    simp only [PSW_CH_STATE_cmd, PSW_CH_STATE_value, PSW_CH_STATE_eff, PSW_CH_STATE, PSW_CH_STATUS_restarts, PSW_CH_STATUS_tsdwait, PSW_CH_STATUS_ilim, PSW_CH_STATUS,
      PSW_CH_DIAG_result, PSW_CH_DIAG, PSW_CH_CMD]
    omega

/-- No field of the answer is among those that a command writes. -/
theorem cmdFields_sep_ack (ms : List Nat) {g : Fd} (hg : g.r = PSW_CH_ACK c) : ∀ f ∈ cmdFields c ms, f.sep g := by
  simp only [cmdFields, List.forall_mem_cons]
  refine ⟨.inl ?_, .inl ?_, forall_actFields (.inl ?_) (.inl ?_) (.inl ?_) (fun m _ => .inl ?_) fun m _ => .inl ?_⟩
  all_goals
    rw [hg]
    simp only [PSW_CH_STATE_cmd, PSW_CH_STATE_value, PSW_CH_STATE_eff, PSW_CH_STATE, PSW_CH_STATUS_restarts, PSW_CH_STATUS_tsdwait, PSW_CH_STATUS_ilim, PSW_CH_STATUS,
      PSW_CH_DIAG_result, PSW_CH_DIAG, PSW_CH_ACK]
    omega

theorem ackFields_sep {g : Fd} (hg : g.r = PSW_CH_STATE c) : ∀ f ∈ ackFields c, f.sep g := by
  simp only [ackFields, List.forall_mem_cons, List.not_mem_nil, false_imp_iff, implies_true, and_true]
  constructor <;> refine .inl ?_ <;> rw [hg] <;> simp only [Rg.whole, PSW_CH_ACK, PSW_CH_ACKSEQ, PSW_CH_STATE] <;> omega

/-! ## An action on its die (R254, R266, R269) -/

theorem cmdDefined_cmd (hcmd : cmd ≤ 4) : cmdDefined c cmd val false = ! decide (cmd = 4 ∧ isHB c = false) := by
  have h15 : cmd ≠ 15 := by omega
  rw [cmdDefined, if_neg h15]
  by_cases h4 : cmd = 4
  · subst h4
    cases isHB c <;> rfl
  · have h3 : cmd ≤ 3 := by omega
    simp [h3, h4]

theorem cmdDefined_of (hcmd : cmd ≤ 4) (h : cmd ≠ 4 ∨ isHB c = true) : cmdDefined c cmd val false = true := by
  rw [cmdDefined_cmd hcmd, decide_eq_false fun hn => h.elim (fun h4 => h4 hn.1) fun hb => absurd (hn.2.symm.trans hb) (by decide)]
  rfl

theorem chAction_line (h : isLine s c = true) (item0 : Bool) : chAction s c cmd val tkt item0 = (ackAction s c 3 (! cmdDefined c cmd val item0) tkt, 3) := if_pos h

theorem chAction_follower (hl : isLine s c = false) (hf : isFollower s c = true) (item0 : Bool) : chAction s c cmd val tkt item0 = followerAction s c tkt := by
  rw [chAction, hl, hf]
  rfl

/-- A refused action: in siding, or on a die that is not Served. -/
theorem chAction_refused (hl : isLine s c = false) (hf : isFollower s c = false) (hcmd : cmd ≤ 4)
    (h : dieState s (dieOf c) ≠ 0 ∨ s.bit (PSW_CH_STATUS_siding c) = true) :
    chAction s c cmd val tkt false = (ackAction s c 3 (! cmdDefined c cmd val false) tkt, 3) := by
  have h15 : cmd ≠ 15 := by omega
  rw [chAction, hl, hf]
  dsimp only
  rw [if_neg Bool.false_ne_true, if_neg Bool.false_ne_true, beq_eq_false_iff_ne.2 h15, Bool.and_false, if_neg Bool.false_ne_true, if_neg h15]
  by_cases hd : dieState s (dieOf c) = 0
  · rw [if_neg (not_not.2 hd), h.resolve_left (not_not.2 hd)]
    cases cmdDefined c cmd val false <;> rfl
  · rw [if_pos hd]

/-- An action judged against the watermark, with what it does where that lets it pass. -/
theorem chAction_judged (hl : isLine s c = false) (hf : isFollower s c = false) (hcmd : cmd ≤ 4) (hd : dieState s (dieOf c) = 0)
    (hs : s.bit (PSW_CH_STATUS_siding c) = false) : chAction s c cmd val tkt false =
      if cmdDefined c cmd val false then
        (ackAction (stageAct s c tkt fun s => performCmd s c cmd val).1 c (stageAct s c tkt fun s => performCmd s c cmd val).2 false tkt, (stageAct s c tkt fun s => performCmd s c cmd val).2)
      else (ackAction (stageAct s c tkt id).1 c (stageAct s c tkt id).2 true tkt, (stageAct s c tkt id).2) := by
  have h15 : cmd ≠ 15 := by omega
  rw [chAction, hl, hf]
  dsimp only
  rw [if_neg Bool.false_ne_true, if_neg Bool.false_ne_true, beq_eq_false_iff_ne.2 h15, Bool.and_false, if_neg Bool.false_ne_true, if_neg h15, if_neg (not_not.2 hd), hs]
  cases cmdDefined c cmd val false <;> rfl

theorem stageAct_plain {p : State → State} : stageAct s k none p = (p s, 1) := rfl

theorem stageAct_advance {q m : Word} {p : State → State} (hm : s.wm.marks.find k = some (n, m)) (hq : seqLater q m = true) :
    stageAct s k (some (n, q)) p = (p { s with wm := { s.wm with marks := s.wm.marks.ins k (n, q) } }, 1) := by
  have hj : judge s k (some (n, q)) = .advance q := by
    rw [judge, hm]
    dsimp only
    rw [if_neg (not_not.2 rfl), if_pos hq]
  rw [stageAct, hj]
  rfl

theorem stageAct_already {q m : Word} {p : State → State} (hm : s.wm.marks.find k = some (n, m)) (hq : seqLater q m = false) : stageAct s k (some (n, q)) p = (s, 2) := by
  have hj : judge s k (some (n, q)) = .already := by
    rw [judge, hm]
    dsimp only
    rw [if_neg (not_not.2 rfl), hq]
    rfl
  rw [stageAct, hj]

theorem stageAct_unbound {q : Word} {p : State → State} (hm : s.wm.marks.find k = none) :
    stageAct s k (some (n, q)) p = (p ((s.count LDG_COUNT_DROP_mismatch).raise 61 (BitVec.ofNat 32 k)), 1) := by
  have hj : judge s k (some (n, q)) = .plain true := by rw [judge, hm]
  rw [stageAct, hj]
  rfl

/-- The command performed from `u`, answered and sent on: all that O27 says of it. -/
structure Performed (s u : State) (c cmd val : Nat) (tkt : Option (Nat × Word)) (t : State) : Prop where
  recorded : t.get (PSW_CH_STATE_cmd c) = cmd
  acked : Acked s t c 1 false tkt
  frame : ChannelFrame s t c (membersOf s c)
  out : (t.chan c).out = if cmd = 2 ∨ cmd = 3 then (s.chan c).out else ⟨cmd, 0⟩
  value : cmd = 2 ∨ cmd = 3 → t.get (PSW_CH_STATE_value c) = min 4096 (val % 8192)
  wm : t.wm = u.wm
  raiseQ : t.raiseQ = u.raiseQ
  step : ChanStep (cmdFields c (membersOf s c) ++ ackFields c) [c] u t
  drop : t.rd LDG_COUNT_DROP = u.rd LDG_COUNT_DROP

theorem exchange_step (s : State) (d : Nat) : ChanStep fs cs s (exchange s d) := .of_lnk (by rw [exchange_only])

theorem performed_of (hc : c < 104) (hcmd : cmd < 16) (hu : ChannelFrame s u c (membersOf s c)) (hm : membersOf u c = membersOf s c) (hchan : u.chan c = s.chan c)
    (hcnt : u.get (PSW_CH_ACK_count c) = s.get (PSW_CH_ACK_count c)) (d : Nat) :
    Performed s u c cmd val tkt (exchange (ackAction (performCmd u c cmd val) c 1 false tkt) d) := by
  obtain ⟨h1, hcm, hout, hval⟩ := performCmd_spec (s := u) (c := c) (val := val) hcmd
  rw [hm] at h1
  have h2 := ackAction_step (performCmd u c cmd val) c 1 false tkt
  have hack : Acked s (ackAction (performCmd u c cmd val) c 1 false tkt) c 1 false tkt :=
    ackAction_acked ((h1.get rfl (cmdFields_sep_ack _ rfl)).trans hcnt) (by decide)
  generalize performCmd u c cmd val = x at h1 hcm hout hval h2 hack
  generalize ackAction x c 1 false tkt = y at h2 hack
  have hsame : (exchange y d).regs = y.regs := by rw [exchange_only]
  have hsep {g : Fd} (hr : g.r = PSW_CH_STATE c) (hg : g.ok = true) : (exchange y d).get g = x.get g :=
    (State.get_congr (by rw [State.rd, hsame, State.rd])).trans (h2.get hg (ackFields_sep hr))
  have h3 : ChanStep (ackFields c) [] x (exchange y d) := h2.trans (exchange_step y d)
  have hin := cmdFields_inChans (mem_membersOf s c)
  have hlt := membersOf_lt (s := s) hc
  have hfield {f : Fd} (hf : f.inChans (membersOf s c)) : f.r.addr ≠ LDG_COUNT_DROP.addr := by
    obtain ⟨m, hmem, hlo, -⟩ := hf
    simp only [PSW_CH_CMD] at hlo
    simp only [LDG_COUNT_DROP]
    omega
  have hack' : ∀ f ∈ ackFields c, f.inChans (membersOf s c) := fun f hf => (ackFields_inChans f hf).mono fun m hm => List.mem_singleton.1 hm ▸ mem_membersOf s c
  refine ⟨(hsep rfl rfl).trans hcm, hack.of_regs hsame, ?_, ?_, fun h => (hsep rfl rfl).trans (hval h), h3.wm.trans h1.wm, h3.raiseQ.trans h1.raiseQ,
    (h1.sub (fun _ h => List.mem_append_left _ h) fun _ h => h).trans (h3.sub (fun _ h => List.mem_append_right _ h) fun _ h => (List.not_mem_nil h).elim), ?_⟩
  · exact (h3.sub (fun _ h => h) fun _ h => (List.not_mem_nil h).elim).frame hack' (h1.frame hin hu)
  · rw [h3.chan c List.not_mem_nil, hout, hchan]
  · exact (h3.fields.rd fun f hf => hfield (hack' f hf)).trans (h1.fields.rd fun f hf => hfield (hin f hf))

/-- An action that is answered and does nothing else. -/
theorem kept_of_answer (h2 : ChanStep (ackFields c) [] s u) (hack : Acked s u c outcome bad tkt) (d : Nat) : Acked s (exchange u d) c outcome bad tkt ∧
    OutputKept s (exchange u d) c ∧ (exchange u d).wm = s.wm ∧ ChannelFrame s (exchange u d) c [c] := by
  have h3 : ChanStep (ackFields c) [] s (exchange u d) := h2.trans (exchange_step u d)
  refine ⟨hack.of_regs (by rw [exchange_only]), ⟨h3.fields.rd ?_, h3.chan c List.not_mem_nil⟩, h3.wm,
    (h3.sub (fun _ h => h) fun _ h => (List.not_mem_nil h).elim).frame ackFields_inChans channelFrame_refl⟩
  simp only [ackFields, List.forall_mem_cons, List.not_mem_nil, false_imp_iff, implies_true, and_true]
  constructor <;> simp only [Rg.whole, PSW_CH_ACK, PSW_CH_ACKSEQ, PSW_CH_STATE] <;> omega

theorem answered_kept (ho : outcome < 4) (d : Nat) : Acked s (exchange (ackAction s c outcome bad tkt) d) c outcome bad tkt ∧
    OutputKept s (exchange (ackAction s c outcome bad tkt) d) c ∧ (exchange (ackAction s c outcome bad tkt) d).wm = s.wm ∧
    ChannelFrame s (exchange (ackAction s c outcome bad tkt) d) c [c] := kept_of_answer (ackAction_step s c outcome bad tkt) (ackAction_acked rfl ho) d

/-! ## A write of PSW_CHc_CMD -/

theorem chCmd_block : ∀ {c : Nat}, c < 104 → leafOf (PSW_CH_CMD c).addr = none := by decide

theorem chWrite_granted (hr : ctlReached s = true) (hc : c < 104) (hg : (s.blockOk w 10 && s.chanOk w c) = true) :
    chWrite s w c cmd val = (sendAction s c cmd val (s.boundTkt w) false none).1 := by
  rw [chWrite, hg, State.granted_ok s w _ _ hr (gatedOff_of_leafless (chCmd_block hc))]

theorem sendAction_sent (hr : dieReached s (dieOf c) = true) (hl : linkClear s (dieOf c) = true) (item0 : Bool) (slot : Option (Nat × Nat)) :
    (sendAction s c cmd val tkt item0 slot).1 = exchange (chAction s c cmd val tkt item0).1 (dieOf c) := by
  rw [sendAction, hr, hl]
  rfl

theorem sendAction_queued (hr : dieReached s (dieOf c) = true) (hl : linkClear s (dieOf c) = false) (item0 : Bool) (slot : Option (Nat × Nat)) :
    (sendAction s c cmd val tkt item0 slot).1 = queueFrame s (dieOf c) false (.action c cmd val tkt item0 slot) := by
  rw [sendAction, hr, hl]
  rfl

theorem sendAction_off (hr : dieReached s (dieOf c) = false) (item0 : Bool) (slot : Option (Nat × Nat)) : (sendAction s c cmd val tkt item0 slot).1 = s := by
  rw [sendAction, hr]
  rfl

end

section
variable {s : State} {c : Fin 104} {cmd val n : Nat} {tkt : Option (Nat × Word)}

/-- A command that the watermark lets pass, from the state `u` in which it is performed. -/
theorem performed_from {u : State} (hl : isLine s c = false) (hf : isFollower s c = false) (hd : dieState s (dieOf c) = 0)
    (hs : s.bit (PSW_CH_STATUS_siding c) = false) (hcmd : cmd ≤ 4) (hdef : cmd ≠ 4 ∨ isHB c = true)
    (hj : stageAct s c tkt (fun s => performCmd s c cmd val) = (performCmd u c cmd val, 1)) (hu : ChannelFrame s u c (membersOf s c))
    (hm : membersOf u c = membersOf s c) (hchan : u.chan c = s.chan c) (hcnt : u.get (PSW_CH_ACK_count c) = s.get (PSW_CH_ACK_count c)) :
    Performed s u c cmd val tkt (exchange (chAction s c cmd val tkt false).1 (dieOf c)) := by
  have hok : cmdDefined c cmd val false = true := cmdDefined_of hcmd hdef
  rw [chAction_judged hl hf hcmd hd hs, if_pos hok, hj]
  exact performed_of c.isLt (by omega) hu hm hchan hcnt (dieOf c)

theorem performed_plain (hl : isLine s c = false) (hf : isFollower s c = false) (hd : dieState s (dieOf c) = 0) (hs : s.bit (PSW_CH_STATUS_siding c) = false)
    (hcmd : cmd ≤ 4) (hdef : cmd ≠ 4 ∨ isHB c = true) : Performed s s c cmd val none (exchange (chAction s c cmd val none false).1 (dieOf c)) :=
  performed_from hl hf hd hs hcmd hdef rfl channelFrame_refl rfl rfl rfl

theorem performed_later {q m : Word} (hl : isLine s c = false) (hf : isFollower s c = false) (hd : dieState s (dieOf c) = 0)
    (hs : s.bit (PSW_CH_STATUS_siding c) = false) (hcmd : cmd ≤ 4) (hdef : cmd ≠ 4 ∨ isHB c = true) (hm : s.wm.marks.find c = some (n, m)) (hq : seqLater q m = true) :
    Performed s { s with wm := { s.wm with marks := s.wm.marks.ins c (n, q) } } c cmd val (some (n, q)) (exchange (chAction s c cmd val (some (n, q)) false).1 (dieOf c)) :=
  performed_from hl hf hd hs hcmd hdef (stageAct_advance hm hq) ⟨fun _ _ _ => rfl, fun _ hk => ⟨rfl, SMap.find_ins_other _ _ _ _ hk⟩, rfl⟩ rfl rfl rfl

theorem performed_unbound {q : Word} (hl : isLine s c = false) (hf : isFollower s c = false) (hd : dieState s (dieOf c) = 0)
    (hs : s.bit (PSW_CH_STATUS_siding c) = false) (hcmd : cmd ≤ 4) (hdef : cmd ≠ 4 ∨ isHB c = true) (hm : s.wm.marks.find c = none) :
    Performed s ((s.count LDG_COUNT_DROP_mismatch).raise 61 (BitVec.ofNat 32 c)) c cmd val (some (n, q)) (exchange (chAction s c cmd val (some (n, q)) false).1 (dieOf c)) := by
  have hrd (r : Rg) (hr : r.addr ≠ LDG_COUNT_DROP.addr) : ((s.count LDG_COUNT_DROP_mismatch).raise 61 (BitVec.ofNat 32 c)).rd r = s.rd r := State.rd_put_other _ _ _ _ hr
  refine performed_from hl hf hd hs hcmd hdef (stageAct_unbound hm) ⟨fun r hr _ => hrd r hr, fun _ _ => ⟨rfl, rfl⟩, rfl⟩ (membersOf_congr (hrd _ ?_)) rfl
    (State.get_congr (hrd _ ?_))
  · simp only [PSW_DIE_PAR, LDG_COUNT_DROP]
    omega
  · simp only [PSW_CH_ACK_count, PSW_CH_ACK, LDG_COUNT_DROP]
    omega

/-- What the clauses of O27 ask of a command performed. -/
theorem Performed.states {u t : State} (h : Performed s u c cmd val tkt t) :
    t.get (PSW_CH_STATE_cmd c) = cmd ∧ Acked s t c 1 false tkt ∧ ChannelFrame s t c (membersOf s c) ∧ (cmd ≠ 2 → cmd ≠ 3 → (t.chan c).out = ⟨cmd, 0⟩) ∧
      (cmd = 2 ∨ cmd = 3 → t.get (PSW_CH_STATE_value c) = min 4096 (val % 8192) ∧ (t.chan c).out = (s.chan c).out) :=
  ⟨h.recorded, h.acked, h.frame, fun h2 h3 => h.out.trans (if_neg (not_or.2 ⟨h2, h3⟩)), fun hv => ⟨h.value hv, h.out.trans (if_pos hv)⟩⟩

end

/-- Settles O27: the five commands are one write, whose action is refused, judged or performed. -/
theorem channelActions : Obligations.ChannelActions := by
  unfold Obligations.ChannelActions
  intro s w c v hr p hp
  have hi : exec p.2 s = .next (chWrite s w c p.1 v.toNat) ∧ p.1 ≤ 4 := by
    simp only [List.mem_cons, List.not_mem_nil, or_false] at hp
    rcases hp with rfl | rfl | rfl | rfl | rfl <;> exact ⟨rfl, Nat.le_of_ble_eq_true rfl⟩
  obtain ⟨cmd, i⟩ := p
  obtain ⟨hi, hcmd⟩ := hi
  dsimp only at hi hcmd ⊢
  have hsent (hg : (s.blockOk w 10 && s.chanOk w c) = true) (hd : dieReached s (dieOf c) = true) (hl : linkClear s (dieOf c) = true) :
      exec i s = .next (exchange (chAction s c cmd v.toNat (s.boundTkt w) false).1 (dieOf c)) := by
    rw [hi, chWrite_granted hr c.isLt hg, sendAction_sent hd hl]
  have hqueued (hg : (s.blockOk w 10 && s.chanOk w c) = true) (hd : dieReached s (dieOf c) = true) (hl : linkClear s (dieOf c) = false) :
      exec i s = .next (queueFrame s (dieOf c) false (.action c cmd v.toNat (s.boundTkt w) false none)) := by
    rw [hi, chWrite_granted hr c.isLt hg, sendAction_queued hd hl]
  generalize s.boundTkt w = tkt at hsent hqueued ⊢
  refine ⟨fun hg => ?_, fun hg hd => ?_, fun hg hd hl => ?_, fun hg hd hl hline => ?_, fun hg hd hl hline hf => ?_, fun hg hd hl hf => ?_⟩
  · rw [hi, chWrite, hg, State.granted_refused _ _ _ _ hr]
  · rw [hi, chWrite_granted hr c.isLt hg, sendAction_off hd]
  · exact hqueued hg hd hl
  · rw [chAction_line hline, cmdDefined_cmd hcmd, Bool.not_not] at hsent
    exact ⟨_, hsent hg hd hl, answered_kept (by decide) _⟩
  · rw [chAction_follower hline hf] at hsent
    cases tkt with
    | none => exact ⟨fun _ => hsent hg hd hl, nofun⟩
    | some x => exact ⟨nofun, fun _ => ⟨_, hsent hg hd hl, kept_of_answer (ackRegs_step s c 1 false (some x)) (ackRegs_acked rfl (by decide)) _⟩⟩
  · refine ⟨fun hs0 hline hs hdef => ⟨fun ht => ?_, fun n q m ht hm => ⟨fun hq => ?_, fun hq => ?_⟩, fun n q ht hm => ?_⟩, fun hs0 hline hs h4 hb ht => ?_, fun h hline => ?_⟩
    · subst ht
      have hp := performed_plain (val := v.toNat) hline hf hs0 hs hcmd hdef
      exact ⟨_, hsent hg hd hl, hp.states, hp.wm, hp.raiseQ⟩
    · subst ht
      have hp := performed_later (val := v.toNat) hline hf hs0 hs hcmd hdef hm hq
      refine ⟨_, hsent hg hd hl, hp.states, ?_, hp.raiseQ⟩
      rw [hp.wm]
      exact SMap.find_ins_same _ _ _
    · subst ht
      have hok : cmdDefined c cmd v.toNat false = true := cmdDefined_of hcmd hdef
      rw [chAction_judged hline hf hcmd hs0 hs, if_pos hok, stageAct_already hm hq] at hsent
      obtain ⟨hack, hkept, hwm, -⟩ := answered_kept (s := s) (c := c) (outcome := 2) (bad := false) (tkt := some (n, q)) (by decide) (dieOf c)
      exact ⟨_, hsent hg hd hl, hack, hkept, hwm⟩
    · subst ht
      have hp := performed_unbound (val := v.toNat) (n := n) (q := q) hline hf hs0 hs hcmd hdef hm
      refine ⟨_, hsent hg hd hl, hp.states, hp.wm, (State.get_congr hp.drop).trans ?_, hp.raiseQ⟩
      exact State.get_count s (f := LDG_COUNT_DROP_mismatch) rfl
    · subst ht
      have hbad : ¬ cmdDefined c cmd v.toNat false = true := by
        rw [cmdDefined_cmd hcmd, decide_eq_true ⟨h4, hb⟩]
        decide
      rw [chAction_judged hline hf hcmd hs0 hs, if_neg hbad, stageAct_plain] at hsent
      exact ⟨_, hsent hg hd hl, answered_kept (outcome := 1) (by decide) _⟩
    · rw [chAction_refused hline hf hcmd h, cmdDefined_cmd hcmd, Bool.not_not] at hsent
      exact ⟨_, hsent hg hd hl, answered_kept (by decide) _⟩

section
variable {s t u : State} {c k d val : Nat} {f : Fd} {why : SideBy} {tkt : Option (Nat × Word)}

/-! ## Siding (R271) -/

/-- A member of a group that enters siding. -/
noncomputable def sidedMember (why : SideBy) (s : State) (m : Nat) : State :=
  let s := (s.putB (PSW_CH_STATUS_siding m) true).putB (PSW_CH_STATUS_tsdwait m) false
  match why with
  | .junction => s.putB (PSW_CH_STATUS_latch m) true
  | .wire => s.putB (PSW_CH_STATUS_wire m) true
  | .command => s

/-- The bits of a member's status that siding and its end write. -/
noncomputable def sideBits (m : Nat) : List Fd := [PSW_CH_STATUS_siding m, PSW_CH_STATUS_tsdwait m, PSW_CH_STATUS_latch m, PSW_CH_STATUS_wire m]

theorem sideBits_r : ∀ f ∈ sideBits k, f.r = PSW_CH_STATUS k ∧ f.ok = true := by
  simp only [sideBits, List.forall_mem_cons, List.not_mem_nil, false_imp_iff, implies_true, and_true]
  exact ⟨⟨rfl, rfl⟩, ⟨rfl, rfl⟩, ⟨rfl, rfl⟩, ⟨rfl, rfl⟩⟩

theorem sidedMember_step (why : SideBy) (s : State) (m : Nat) : ChanStep (sideBits m) [] s (sidedMember why s m) := by
  have h1 : ChanStep (sideBits m) [] s (s.putB (PSW_CH_STATUS_siding m) true) := .put rfl List.mem_cons_self _
  have h2 : ChanStep (sideBits m) [] s ((s.putB (PSW_CH_STATUS_siding m) true).putB (PSW_CH_STATUS_tsdwait m) false) :=
    h1.trans (.put rfl (List.mem_cons_of_mem _ List.mem_cons_self) _)
  cases why with
  | junction => exact h2.trans (.put rfl (List.mem_cons_of_mem _ (List.mem_cons_of_mem _ List.mem_cons_self)) _)
  | wire => exact h2.trans (.put rfl (List.mem_cons_of_mem _ (List.mem_cons_of_mem _ (List.mem_cons_of_mem _ List.mem_cons_self))) _)
  | command => exact h2

/-- The bit that tells by what a channel has been latched off. -/
noncomputable def whyBit (why : SideBy) (m : Nat) : Fd :=
  match why with
  | .junction => PSW_CH_STATUS_latch m
  | .wire => PSW_CH_STATUS_wire m
  | .command => PSW_CH_STATUS_siding m

theorem sidedMember_bits (why : SideBy) (s : State) (m : Nat) :
    (sidedMember why s m).bit (PSW_CH_STATUS_siding m) = true ∧ (sidedMember why s m).bit (whyBit why m) = true := by
  have h1 : ((s.putB (PSW_CH_STATUS_siding m) true).putB (PSW_CH_STATUS_tsdwait m) false).bit (PSW_CH_STATUS_siding m) = true :=
    (State.bit_put_apart _ (PSW_CH_STATUS_tsdwait m) (PSW_CH_STATUS_siding m) rfl rfl rfl rfl).trans (State.bit_putB s rfl)
  unfold sidedMember
  generalize (s.putB (PSW_CH_STATUS_siding m) true).putB (PSW_CH_STATUS_tsdwait m) false = v at h1
  cases why with
  | junction => exact ⟨(State.bit_put_apart v (PSW_CH_STATUS_latch m) (PSW_CH_STATUS_siding m) rfl rfl rfl rfl).trans h1, State.bit_putB v rfl⟩
  | wire => exact ⟨(State.bit_put_apart v (PSW_CH_STATUS_wire m) (PSW_CH_STATUS_siding m) rfl rfl rfl rfl).trans h1, State.bit_putB v rfl⟩
  | command => exact ⟨h1, h1⟩

/-- What a run over the members of a group settles in the status of one of them. -/
theorem onMembers_status {g : State → Nat → State} {m : Nat} {P : State → Prop} (hstep : ∀ u k, ChanStep (sideBits k) [] u (g u k)) (hset : ∀ u, P (g u m))
    (hP : ∀ u v : State, v.rd (PSW_CH_STATUS m) = u.rd (PSW_CH_STATUS m) → P u → P v) {l : List Nat} (hm : m ∈ l) : P (l.foldl g s) := by
  induction l generalizing s with
  | nil => exact absurd hm List.not_mem_nil
  | cons a l ih =>
    by_cases hl : m ∈ l
    · exact ih (s := g s a) hl
    · have ha : m = a := (List.mem_cons.1 hm).resolve_right hl
      subst ha
      have hkeep : ∀ u, (l.foldl g u).rd (PSW_CH_STATUS m) = u.rd (PSW_CH_STATUS m) := fun u =>
        foldl_keeps (P := fun _ => True) (g := fun v => v.rd (PSW_CH_STATUS m)) (fun _ _ _ _ => trivial) (fun v _ y hy => (hstep v y).fields.rd fun f hf => by
          rw [(sideBits_r f hf).1]
          simp only [PSW_CH_STATUS]
          have hne : y ≠ m := fun e => hl (e ▸ hy)
          omega) trivial
      exact hP _ _ (hkeep _) (hset s)

/-- The fields that siding and its end write in a group. -/
noncomputable def sideFields (ms : List Nat) : List Fd := ms.flatMap sideBits

theorem forall_sideFields {ms : List Nat} {p : Fd → Prop} (h : ∀ m ∈ ms, ∀ f : Fd, f ∈ sideBits m → p f) : ∀ f ∈ sideFields ms, p f := fun f hf => by
  obtain ⟨m, hm, hfm⟩ := List.mem_flatMap.1 hf
  exact h m hm f hfm

theorem onMembers_sided {g : State → Nat → State} (hstep : ∀ u k, ChanStep (sideBits k) [] u (g u k)) (s : State) (c : Nat) :
    ChanStep (sideFields (membersOf s c)) [] s (onMembers s c g) :=
  .onMembers fun u m hm => (hstep u m).sub (fun _ hf => List.mem_flatMap.2 ⟨m, hm, hf⟩) fun _ h => h

theorem sideFields_ofChan (ms : List Nat) : ∀ f ∈ sideFields ms, f.ofChan :=
  forall_sideFields fun m _ f hf d => by
    rw [(sideBits_r f hf).1]
    simp only [PSW_CH_STATUS, PSW_DIE_PAR]
    omega

theorem sideFields_inChans (ms : List Nat) : ∀ f ∈ sideFields ms, f.inChans ms :=
  forall_sideFields fun m hm f hf => ⟨m, hm, by
    rw [(sideBits_r f hf).1]
    simp only [PSW_CH_STATUS, PSW_CH_CMD]
    omega⟩

theorem outFields_inChans {cs : List Nat} (hc : c ∈ cs) : ∀ f ∈ outFields c cs, f.inChans cs := fun f hf =>
  cmdFields_inChans hc f (List.mem_cons_of_mem _ (List.mem_cons_of_mem _ (outFields_sub cs f hf)))

/-- The bits of siding are apart from what an output that settles writes. -/
theorem outFields_sep_side {ms : List Nat} {m : Nat} {f : Fd} (hr : f.r = PSW_CH_STATUS m) (ha : (PSW_CH_STATUS_ilim m).apart f = true) : ∀ g ∈ outFields c ms, g.sep f := by
  intro g hg
  rcases List.mem_cons.1 hg with rfl | hg
  · refine .inl ?_
    rw [hr]
    simp only [PSW_CH_STATE_eff, PSW_CH_STATE, PSW_CH_STATUS]
    omega
  · obtain ⟨k, -, rfl⟩ := List.mem_map.1 hg
    by_cases hk : k = m
    · subst hk
      exact .inr ⟨hr, ha⟩
    · refine .inl ?_
      rw [hr]
      simp only [PSW_CH_STATUS_ilim, PSW_CH_STATUS]
      omega

theorem chSiding_eq (s : State) (c : Nat) (why : SideBy) : chSiding s c why =
    if why = .command ∧ s.bit (PSW_CH_STATUS_siding (leadOf s c)) then s
    else if why = .command ∧ (onMembers s (leadOf s c) (sidedMember why)).bit (PSW_CH_SAFE_sidelimp (leadOf s c)) then
      takeLimp (onMembers s (leadOf s c) (sidedMember why)) (leadOf s c)
    else setOut ((onMembers s (leadOf s c) (sidedMember why)).modChan (leadOf s c) fun x => { x with limp := none }) (leadOf s c) ⟨0, 0⟩ := rfl

/-- A group enters siding: its bits, its output, and all that is changed. -/
theorem chSiding_spec (h : ¬ (why = .command ∧ s.bit (PSW_CH_STATUS_siding (leadOf s c)) = true)) (hm : membersOf s (leadOf s c) = membersOf s c) :
    ChanStep (sideFields (membersOf s c) ++ outFields (leadOf s c) (membersOf s c)) [leadOf s c] s (chSiding s c why) ∧
      (∀ m ∈ membersOf s c, (chSiding s c why).bit (PSW_CH_STATUS_siding m) = true ∧ (chSiding s c why).bit (whyBit why m) = true) ∧
      (why ≠ .command ∨ s.bit (PSW_CH_SAFE_sidelimp (leadOf s c)) = false → levelOf (chSiding s c why) c = .opened) := by
  rw [chSiding_eq, if_neg h]
  have h1 := onMembers_sided (sidedMember_step why) s (leadOf s c)
  have hbits : ∀ m ∈ membersOf s c, (onMembers s (leadOf s c) (sidedMember why)).bit (PSW_CH_STATUS_siding m) = true ∧
      (onMembers s (leadOf s c) (sidedMember why)).bit (whyBit why m) = true := fun m hmem => by
    refine onMembers_status (P := fun v => v.bit (PSW_CH_STATUS_siding m) = true ∧ v.bit (whyBit why m) = true) (sidedMember_step why) (fun u => sidedMember_bits why u m)
      (fun u v hr hu => ⟨(State.bit_congr hr).trans hu.1, (State.bit_congr ?_).trans hu.2⟩) (hm ▸ hmem)
    cases why <;> exact hr
  rw [hm] at h1
  have hl := h1.lead (sideFields_ofChan _) c
  have hmm := h1.members (sideFields_ofChan _) (leadOf s c)
  have hlimp : (onMembers s (leadOf s c) (sidedMember why)).bit (PSW_CH_SAFE_sidelimp (leadOf s c)) = s.bit (PSW_CH_SAFE_sidelimp (leadOf s c)) :=
    h1.bit rfl (forall_sideFields fun m _ f hf => .inl (by
      rw [(sideBits_r f hf).1]
      simp only [PSW_CH_STATUS, PSW_CH_SAFE_sidelimp, PSW_CH_SAFE]
      omega))
  generalize onMembers s (leadOf s c) (sidedMember why) = v at h1 hbits hl hmm hlimp
  have hkeep {t : State} (ht : ChanStep (outFields (leadOf s c) (membersOf s c)) [leadOf s c] v t) :
      ChanStep (sideFields (membersOf s c) ++ outFields (leadOf s c) (membersOf s c)) [leadOf s c] s t ∧
      ∀ m ∈ membersOf s c, t.bit (PSW_CH_STATUS_siding m) = true ∧ t.bit (whyBit why m) = true := by
    refine ⟨(h1.sub (fun _ hf => List.mem_append_left _ hf) fun _ h => (List.not_mem_nil h).elim).trans (ht.sub (fun _ hf => List.mem_append_right _ hf) fun _ h => h),
      fun m hmem => ⟨(ht.bit rfl (outFields_sep_side rfl rfl)).trans (hbits m hmem).1, ?_⟩⟩
    cases why <;> exact (ht.bit rfl (outFields_sep_side rfl rfl)).trans (hbits m hmem).2
  split
  next hs =>
    obtain ⟨h2, h3⟩ := hkeep ((hmm.trans hm) ▸ takeLimp_step v (leadOf s c))
    exact ⟨h2, h3, fun hn => (hn.elim (fun hw => hw hs.1) fun hb => absurd ((hlimp.trans hb).symm.trans hs.2) (by decide)).elim⟩
  next =>
    have hmod : ChanStep (outFields (leadOf s c) (membersOf s c)) [leadOf s c] v (v.modChan (leadOf s c) fun x => { x with limp := none }) := .modChan List.mem_cons_self _
    have hmods := hmod.members (outFields_ofChan _) (leadOf s c)
    generalize v.modChan (leadOf s c) (fun x => { x with limp := none }) = x at hmod hmods
    have hout := setOut_step x (leadOf s c) ⟨0, 0⟩
    rw [hmods, hmm, hm] at hout
    obtain ⟨h2, h3⟩ := hkeep (hmod.trans hout)
    have hlead : leadOf (setOut x (leadOf s c) ⟨0, 0⟩) c = leadOf s c := ((hmod.trans hout).lead (outFields_ofChan _) c).trans hl
    refine ⟨h2, h3, fun _ => levelOf_off ?_⟩
    rw [hlead, setOut_out]

theorem membersOf_lead (hc : c < 104) (s : State) : membersOf s (leadOf s c) = membersOf s c := by
  obtain ⟨hlt, hq⟩ := membersOf_lt hc _ (leadOf_mem s c)
  have hpar : parOf s (leadOf s c) = parOf s c := by rw [parOf, parOf, (dieOf_of_quad hlt hc hq).1, hq]
  have h2 : 2 * (c / 2) / 2 = c / 2 := Nat.mul_div_cancel_left _ (by decide)
  have h4 : 4 * (c / 4) / 4 = c / 4 := Nat.mul_div_cancel_left _ (by decide)
  unfold leadOf membersOf at hpar ⊢
  rw [hpar]
  split
  · change [2 * (2 * (c / 2) / 2), 2 * (2 * (c / 2) / 2) + 1] = _
    rw [h2]
  · change [4 * (4 * (c / 4) / 4), 4 * (4 * (c / 4) / 4) + 1, 4 * (4 * (c / 4) / 4) + 2, 4 * (4 * (c / 4) / 4) + 3] = _
    rw [h4]
  · next _ h1 h2 =>
    split
    · next h => exact (h1 h).elim
    · next h => exact (h2 h).elim
    · rfl

theorem leadOf_of_not_follower (h : isFollower s c = false) : leadOf s c = c := by
  simpa [isFollower] using h

/-! ## The way back (R272) -/

/-- A member of a group that leaves siding. -/
noncomputable def rejoinedMember (s : State) (m : Nat) : State :=
  ((s.putB (PSW_CH_STATUS_siding m) false).putB (PSW_CH_STATUS_latch m) false).putB (PSW_CH_STATUS_wire m) false

theorem rejoinedMember_step (s : State) (m : Nat) : ChanStep (sideBits m) [] s (rejoinedMember s m) :=
  ((ChanStep.put rfl List.mem_cons_self _).trans (.put rfl (List.mem_cons_of_mem _ (List.mem_cons_of_mem _ List.mem_cons_self)) _)).trans
    (.put rfl (List.mem_cons_of_mem _ (List.mem_cons_of_mem _ (List.mem_cons_of_mem _ List.mem_cons_self))) _)

/-- A member outside siding, with none of the bits that tell of it. -/
def NotSided (s : State) (m : Nat) : Prop :=
  s.bit (PSW_CH_STATUS_siding m) = false ∧ s.bit (PSW_CH_STATUS_latch m) = false ∧ s.bit (PSW_CH_STATUS_wire m) = false

theorem rejoinedMember_bits (s : State) (m : Nat) : NotSided (rejoinedMember s m) m := by
  have h1 : (s.putB (PSW_CH_STATUS_siding m) false).bit (PSW_CH_STATUS_siding m) = false := State.bit_putB s rfl
  unfold rejoinedMember NotSided
  generalize s.putB (PSW_CH_STATUS_siding m) false = a at h1
  have h2 : (a.putB (PSW_CH_STATUS_latch m) false).bit (PSW_CH_STATUS_siding m) = false :=
    (State.bit_put_apart a (PSW_CH_STATUS_latch m) (PSW_CH_STATUS_siding m) rfl rfl rfl rfl).trans h1
  have h3 : (a.putB (PSW_CH_STATUS_latch m) false).bit (PSW_CH_STATUS_latch m) = false := State.bit_putB a rfl
  generalize a.putB (PSW_CH_STATUS_latch m) false = b at h2 h3
  exact ⟨(State.bit_put_apart b (PSW_CH_STATUS_wire m) (PSW_CH_STATUS_siding m) rfl rfl rfl rfl).trans h2,
    (State.bit_put_apart b (PSW_CH_STATUS_wire m) (PSW_CH_STATUS_latch m) rfl rfl rfl rfl).trans h3, State.bit_putB b rfl⟩

/-- The state from which a channel that leaves siding takes its target. -/
noncomputable def rejoined (s : State) (c : Nat) : State := chEvent ((onMembers s c rejoinedMember).put (PSW_CH_STATUS_restarts c) 0) c 9 0

theorem rejoin_eq (s : State) (c val : Nat) : rejoin s c val = performCmd (rejoined s c) c (val / 4096) (val % 4096) := rfl

/-- No field that a command writes is among the bits of siding. -/
theorem cmdFields_sep_status {ms : List Nat} {m : Nat} (hr : f.r = PSW_CH_STATUS m) (h1 : (PSW_CH_STATUS_restarts m).apart f = true)
    (h2 : (PSW_CH_STATUS_tsdwait m).apart f = true) (h3 : (PSW_CH_STATUS_ilim m).apart f = true) : ∀ g ∈ cmdFields c ms ++ ackFields c, g.sep f := by
  have hother {r : Rg} (h : r = PSW_CH_STATE c ∨ r = PSW_CH_DIAG c ∨ r = PSW_CH_ACK c ∨ r = PSW_CH_ACKSEQ c) : r.addr ≠ f.r.addr := by
    rw [hr]
    rcases h with rfl | rfl | rfl | rfl <;> simp only [PSW_CH_STATE, PSW_CH_DIAG, PSW_CH_ACK, PSW_CH_ACKSEQ, PSW_CH_STATUS] <;> omega
  have hsame {F : Nat → Fd} (hF : ∀ k, (F k).r = PSW_CH_STATUS k) (ha : (F m).apart f = true) (k : Nat) : (F k).sep f := by
    by_cases hk : k = m
    · subst hk
      exact .inr ⟨hr.trans (hF k).symm, ha⟩
    · refine .inl ?_
      rw [hF, hr]
      simp only [PSW_CH_STATUS]
      omega
  simp only [cmdFields, ackFields, List.forall_mem_append, List.forall_mem_cons, List.not_mem_nil, false_imp_iff, implies_true, and_true]
  exact ⟨⟨.inl (hother (.inl rfl)), .inl (hother (.inl rfl)), forall_actFields (hsame (fun _ => rfl) h1 c) (.inl (hother (.inr (.inl rfl)))) (.inl (hother (.inl rfl)))
    (fun k _ => hsame (fun _ => rfl) h2 k) fun k _ => hsame (fun _ => rfl) h3 k⟩, .inl (hother (.inr (.inr (.inl rfl)))), .inl (hother (.inr (.inr (.inr rfl))))⟩

theorem ChanStep.notSided {ms : List Nat} {m : Nat} (h : ChanStep (cmdFields c ms ++ ackFields c) [c] s t) (hs : NotSided s m) : NotSided t m :=
  ⟨(h.bit rfl (cmdFields_sep_status rfl rfl rfl rfl)).trans hs.1, (h.bit rfl (cmdFields_sep_status rfl rfl rfl rfl)).trans hs.2.1,
    (h.bit rfl (cmdFields_sep_status rfl rfl rfl rfl)).trans hs.2.2⟩

theorem rejoined_spec (s : State) (c : Nat) : ChanStep (PSW_CH_STATUS_restarts c :: sideFields (membersOf s c)) [] s (rejoined s c) ∧
    (∀ m ∈ membersOf s c, NotSided (rejoined s c) m) ∧ (rejoined s c).get (PSW_CH_STATUS_restarts c) = 0 := by
  have h1 := onMembers_sided rejoinedMember_step s c
  have hbits : ∀ m ∈ membersOf s c, NotSided (onMembers s c rejoinedMember) m := fun m hm =>
    onMembers_status (P := fun v => NotSided v m) rejoinedMember_step (fun u => rejoinedMember_bits u m)
      (fun u v hr hu => ⟨(State.bit_congr hr).trans hu.1, (State.bit_congr hr).trans hu.2.1, (State.bit_congr hr).trans hu.2.2⟩) hm
  unfold rejoined
  generalize onMembers s c rejoinedMember = v at h1 hbits
  have h2 : ChanStep [PSW_CH_STATUS_restarts c] [] v (v.put (PSW_CH_STATUS_restarts c) 0) := .put rfl List.mem_cons_self _
  have hz : (v.put (PSW_CH_STATUS_restarts c) 0).get (PSW_CH_STATUS_restarts c) = 0 := State.get_put_of_lt v rfl (Nat.two_pow_pos _)
  generalize v.put (PSW_CH_STATUS_restarts c) 0 = x at h2 hz
  have h3 : ChanStep [PSW_CH_STATUS_restarts c] [] v (chEvent x c 9 0) := h2.trans (.event ..)
  have hsep {m : Nat} {f : Fd} (hr : f.r = PSW_CH_STATUS m) (ha : (PSW_CH_STATUS_restarts m).apart f = true) : ∀ g ∈ [PSW_CH_STATUS_restarts c], g.sep f := by
    intro g hg
    rw [List.mem_singleton.1 hg]
    by_cases hk : c = m
    · subst hk
      exact .inr ⟨hr, ha⟩
    · refine .inl ?_
      rw [hr]
      simp only [PSW_CH_STATUS_restarts, PSW_CH_STATUS]
      omega
  refine ⟨(h1.sub (fun _ hf => List.mem_cons_of_mem _ hf) fun _ h => h).trans (h3.sub (fun _ hf => List.mem_singleton.1 hf ▸ List.mem_cons_self) fun _ h => h), fun m hm => ?_,
    (State.get_congr (by rw [State.rd, chEvent_regs, State.rd])).trans hz⟩
  obtain ⟨ha, hb, hc⟩ := hbits m hm
  exact ⟨(h3.bit rfl (hsep rfl rfl)).trans ha, (h3.bit rfl (hsep rfl rfl)).trans hb, (h3.bit rfl (hsep rfl rfl)).trans hc⟩

theorem restartsCleared_zero {cmd : Nat} (h : s.get (PSW_CH_STATUS_restarts c) = 0) : (restartsCleared s c cmd).get (PSW_CH_STATUS_restarts c) = 0 := by
  unfold restartsCleared
  split
  · have h1 : (s.put (PSW_CH_STATUS_restarts c) 0).get (PSW_CH_STATUS_restarts c) = 0 := State.get_put_of_lt s rfl (Nat.two_pow_pos _)
    generalize s.put (PSW_CH_STATUS_restarts c) 0 = v at h1
    refine (ChanStep.get (fs := (membersOf v c).map PSW_CH_STATUS_tsdwait) (cs := []) (.onMembers fun u m hm => .put rfl (List.mem_map_of_mem hm) _) rfl ?_).trans h1
    simp only [List.forall_mem_map]
    intro m _
    by_cases hm : m = c
    · subst hm
      exact .inr ⟨rfl, rfl⟩
    · refine .inl ?_
      simp only [PSW_CH_STATUS_tsdwait, PSW_CH_STATUS_restarts, PSW_CH_STATUS]
      omega
  · exact h

/-- A command does not let the restarts counted rise. -/
theorem performCmd_restarts {cmd : Nat} (h : s.get (PSW_CH_STATUS_restarts c) = 0) : (performCmd s c cmd val).get (PSW_CH_STATUS_restarts c) = 0 := by
  have hother {r : Rg} (hr : r = PSW_CH_STATE c ∨ r = PSW_CH_DIAG c) : r.addr ≠ (PSW_CH_STATUS c).addr := by
    rcases hr with rfl | rfl <;> simp only [PSW_CH_STATE, PSW_CH_DIAG, PSW_CH_STATUS] <;> omega
  rw [performCmd_eq, afterCmd_eq]
  have h1 := (recordCmd_step s c cmd (min 4096 (val % 8192))).get (f := PSW_CH_STATUS_restarts c) rfl (by
    simp only [List.forall_mem_cons, List.not_mem_nil, false_imp_iff, implies_true, and_true]
    exact ⟨.inl (hother (.inl rfl)), .inl (hother (.inl rfl))⟩)
  generalize recordCmd s c cmd (min 4096 (val % 8192)) = v at h1
  have h2 : (v.modChan c fun x => { x with limp := none }).get (PSW_CH_STATUS_restarts c) = 0 := h1.trans h
  generalize v.modChan c (fun x => { x with limp := none }) = x at h2
  have h3 := restartsCleared_zero (cmd := cmd) h2
  generalize restartsCleared x c cmd = y at h3
  have h4 : (testEnded y c cmd (min 4096 (val % 8192))).get (PSW_CH_STATUS_restarts c) = 0 := by
    unfold testEnded
    split
    · refine ((testResult_step y c 0).get rfl fun g hg => ?_).trans h3
      rw [List.mem_singleton.1 hg]
      exact .inl (hother (.inr rfl))
    · exact h3
  generalize testEnded y c cmd (min 4096 (val % 8192)) = z at h4
  split
  · exact ((settleOut_step z c).get rfl (outFields_sep_side rfl rfl)).trans h4
  · exact ((setOut_step z c ⟨cmd, 0⟩).get rfl (outFields_sep_side rfl rfl)).trans h4

/-! ## SIDING and REJOIN as they reach the die -/

theorem cmdDefined_rejoin : cmdDefined c 15 val true = decide (val / 4096 ≤ 3 ∨ (val / 4096 = 4 ∧ isHB c = true)) := by
  rw [cmdDefined, if_pos rfl, Bool.true_and, Bool.decide_or, Bool.decide_and, Bool.decide_eq_true]
  rfl

/-- A REJOIN of a channel that is no line and no follower (R272). -/
theorem chAction_rejoin (hl : isLine s c = false) (hf : isFollower s c = false) : chAction s c 15 val tkt true =
    if cmdDefined c 15 val true then
      if dieState s (dieOf c) ≠ 0 then (ackAction s c 3 false tkt, 3)
      else if s.bit (PSW_CH_STATUS_siding c) then
        if cooled s c && decide (wireCode s c ≤ 256) then
          (ackAction (stageAct s c tkt fun s => rejoin s c val).1 c (stageAct s c tkt fun s => rejoin s c val).2 false tkt, (stageAct s c tkt fun s => rejoin s c val).2)
        else (ackAction s c 3 false tkt, 3)
      else (ackAction (stageAct s c tkt fun s => performCmd s c (val / 4096) (val % 4096)).1 c
        (stageAct s c tkt fun s => performCmd s c (val / 4096) (val % 4096)).2 false tkt, (stageAct s c tkt fun s => performCmd s c (val / 4096) (val % 4096)).2)
    else (ackAction (stageAct s c tkt id).1 c (stageAct s c tkt id).2 true tkt, (stageAct s c tkt id).2) := by
  rw [chAction, hl, hf]
  dsimp only
  rw [if_neg Bool.false_ne_true, if_neg Bool.false_ne_true]
  cases cmdDefined c 15 val true with
  | false => rfl
  | true =>
    rw [Bool.not_true, Bool.false_and, if_neg Bool.false_ne_true, if_neg Bool.false_ne_true, if_pos rfl, if_pos rfl]
    split_ifs <;> rfl

/-- A write of PSW_DIEd_CMD by context 0 whose die is reached. -/
theorem dieCmdWrite_zero {op ch : Nat} (hd : d < 2) (hr : ctlReached s = true) (hre : dieReached s d = true) : dieCmdWrite s 0 d op ch =
    if linkClear s d then exchange (dieCommand s d op ch) d else queueFrame s d false (.write 0 (PSW_DIE_CMD d).addr (BitVec.ofNat 32 (2 ^ 28 * op + ch))) := by
  have hleaf : leafOf (PSW_DIE_CMD d).addr = none := (by decide : ∀ d < 2, leafOf (PSW_DIE_CMD d).addr = none) d hd
  rw [dieCmdWrite]
  refine (granted_zero hr hleaf).trans ?_
  rw [viaDie, hre]
  rfl

end

/-- Settles O28: SIDING of a group, and each way a REJOIN may go. -/
theorem sidingAndRejoin : Obligations.SidingAndRejoin := by
  unfold Obligations.SidingAndRejoin
  intro s c v hre
  have hi (tkt : Option (Fin 512 × Word)) : exec (.chRejoin c v tkt) s = .next (sendAction s c 15 v.toNat (tkt.map fun x => (x.1.val, x.2)) true none).1 := rfl
  have hv : v.toNat / 4096 < 16 := by
    have hlt := v.isLt
    omega
  have hsent (hl : linkClear s (dieOf c) = true) (tkt : Option (Fin 512 × Word)) : exec (.chRejoin c v tkt) s =
      .next (exchange (chAction s c 15 v.toNat (tkt.map fun x => (x.1.val, x.2)) true).1 (dieOf c)) := by rw [hi, sendAction_sent hre hl]
  have hch (d : Fin 2) : exec (.chSiding 0 d c.val) s = .next (dieCmdWrite s 0 d 2 c) := by
    have hc : ((c.val : BitVec 7)).toNat = c := Nat.mod_eq_of_lt (by omega)
    exact congrArg (fun n => Host.Outcome.next (dieCmdWrite s 0 d 2 n)) hc
  refine ⟨fun hl tkt => ?_, fun hr d => ⟨fun hd hl hf hs => ?_, fun hl hrd h => ?_, fun hl hrd => ?_, fun w hw => ?_⟩, fun hl hline tkt => ?_, fun hl hf => ?_⟩
  · rw [hi, sendAction_queued hre hl]
  · have hlead := leadOf_of_not_follower hf
    obtain ⟨h1, hbits, hopen⟩ := chSiding_spec (s := s) (c := c) (why := .command) (by rw [hlead, hs]; decide) (membersOf_lead c.isLt s)
    have hcmd : dieCommand s d 2 c = chSiding s c .command := if_pos ⟨c.isLt, hd.symm⟩
    have he := dieCmdWrite_zero (op := 2) (ch := c) d.isLt hr (hd ▸ hre)
    rw [if_pos hl, hcmd] at he
    rw [hlead] at h1 hopen
    generalize chSiding s c .command = t at h1 hbits hopen he
    refine ⟨_, (hch d).trans (congrArg Host.Outcome.next he), fun m hm => (hbits m hm).1, h1.wm, ?_, fun hn => hopen (.inr hn)⟩
    have hin : ∀ f ∈ sideFields (membersOf s c) ++ outFields c (membersOf s c), f.inChans (membersOf s c) :=
      List.forall_mem_append.2 ⟨sideFields_inChans _, outFields_inChans (mem_membersOf s c)⟩
    exact (h1.trans (exchange_step t d)).frame hin channelFrame_refl
  · rw [hch, dieCmdWrite_zero d.isLt hr hrd, if_pos hl]
    refine congrArg (fun x => Host.Outcome.next (exchange x d)) ?_
    unfold dieCommand
    by_cases hd : d.val = dieOf c
    · obtain ⟨hf, hs⟩ := h.resolve_left (not_not.2 hd)
      rw [if_pos ⟨c.isLt, hd.symm⟩, chSiding_eq, leadOf_of_not_follower hf]
      exact if_pos ⟨rfl, hs⟩
    · exact if_neg fun hc => hd hc.2.symm
  · rw [hch, dieCmdWrite_zero d.isLt hr hrd, hl]
    rfl
  · exact congrArg Host.Outcome.next (granted_other hr hw)
  · refine ⟨_, hsent hl tkt, ?_⟩
    rw [chAction_line hline, cmdDefined_rejoin, ← decide_not]
    exact answered_kept (by decide) _
  · refine ⟨fun hline hdef => ?_, fun hdef h tkt => ?_, fun hd0 hline => ⟨fun hs hdef hc hw => ?_, fun hs hdef => ?_⟩⟩
    · have he := hsent hl none
      rw [Option.map_none, chAction_rejoin hline hf, cmdDefined_rejoin, decide_eq_false hdef, if_neg Bool.false_ne_true, stageAct_plain] at he
      obtain ⟨hack, hkept, hwm, -⟩ := answered_kept (s := s) (c := c) (outcome := 1) (bad := true) (tkt := none) (by decide) (dieOf c)
      refine ⟨_, he, hack, hkept, hwm, ((ackAction_step s c 1 true none).trans (exchange_step _ (dieOf c))).bit rfl ?_⟩
      simp only [ackFields, List.forall_mem_cons, List.not_mem_nil, false_imp_iff, implies_true, and_true]
      constructor <;> refine .inl ?_ <;> simp only [Rg.whole, PSW_CH_ACK, PSW_CH_ACKSEQ, PSW_CH_STATUS_siding, PSW_CH_STATUS] <;> omega
    · have he : (chAction s c 15 v.toNat (tkt.map fun x => (x.1.val, x.2)) true).1 = ackAction s c 3 false (tkt.map fun x => (x.1.val, x.2)) := by
        by_cases hline : isLine s c = true
        · rw [chAction_line hline, cmdDefined_rejoin, decide_eq_true hdef]
          rfl
        · rw [chAction_rejoin (Bool.not_eq_true _ ▸ hline) hf, cmdDefined_rejoin, decide_eq_true hdef, if_pos rfl]
          by_cases hd0 : dieState s (dieOf c) = 0
          · obtain ⟨hs, hcool⟩ := (h.resolve_left (not_not.2 hd0)).resolve_left hline
            have hnot : (cooled s c && decide (wireCode s c ≤ 256)) = false := by
              rw [Bool.and_eq_false_iff]
              exact hcool.imp_right fun hw => decide_eq_false (Nat.not_le.2 hw)
            rw [if_neg (not_not.2 hd0), if_pos hs, hnot]
            rfl
          · rw [if_pos hd0]
      exact ⟨_, hsent hl tkt, he ▸ answered_kept (by decide) _⟩
    · have he := hsent hl none
      have hcool : (cooled s c && decide (wireCode s c ≤ 256)) = true := by rw [hc, decide_eq_true hw]; rfl
      rw [Option.map_none, chAction_rejoin hline hf, cmdDefined_rejoin, decide_eq_true hdef, if_pos rfl, if_neg (not_not.2 hd0), if_pos hs, hcool, if_pos rfl,
        stageAct_plain, rejoin_eq] at he
      obtain ⟨h1, hbits, hz⟩ := rejoined_spec s c
      have hzero := performCmd_restarts (cmd := v.toNat / 4096) (val := v.toNat % 4096) hz
      generalize rejoined s c = u at he h1 hbits hz hzero
      have hstatus {p : Fd → Prop} (hp : ∀ (m : Nat) (f : Fd), m ∈ membersOf s c → f.r = PSW_CH_STATUS m → p f) :
          ∀ f ∈ PSW_CH_STATUS_restarts c :: sideFields (membersOf s c), p f := fun f hf => by
        rcases List.mem_cons.1 hf with rfl | hf
        · exact hp c _ (mem_membersOf s c) rfl
        · exact forall_sideFields (fun m hm f hf => hp m f hm (sideBits_r f hf).1) f hf
      have hm : membersOf u c = membersOf s c := h1.members (hstatus fun m f _ hr d => by
        rw [hr]
        simp only [PSW_CH_STATUS, PSW_DIE_PAR]
        omega) c
      have hframe : ChannelFrame s u c (membersOf s c) := (h1.sub (fun _ h => h) fun _ h => (List.not_mem_nil h).elim).frame (hstatus fun m f hm hr => ⟨m, hm, by
        rw [hr]
        simp only [PSW_CH_STATUS, PSW_CH_CMD]
        omega⟩) channelFrame_refl
      have hcnt : u.get (PSW_CH_ACK_count c) = s.get (PSW_CH_ACK_count c) := h1.get rfl (hstatus fun m f _ hr => .inl (by
        rw [hr]
        simp only [PSW_CH_STATUS, PSW_CH_ACK_count, PSW_CH_ACK]
        omega))
      have hp := performed_of (val := v.toNat % 4096) (tkt := none) c.isLt hv hframe hm (h1.chan c List.not_mem_nil) hcnt (dieOf c)
      have hend := ((ackAction_step (performCmd u c (v.toNat / 4096) (v.toNat % 4096)) c 1 false none).trans (exchange_step _ (dieOf c))).get (f := PSW_CH_STATUS_restarts c) rfl (by
        simp only [ackFields, List.forall_mem_cons, List.not_mem_nil, false_imp_iff, implies_true, and_true]
        constructor <;> refine .inl ?_ <;> simp only [Rg.whole, PSW_CH_ACK, PSW_CH_ACKSEQ, PSW_CH_STATUS_restarts, PSW_CH_STATUS] <;> omega)
      refine ⟨_, he, fun m hmem => hp.step.notSided (hbits m hmem), hend.trans hzero, hp.recorded, hp.acked, hp.wm.trans h1.wm, fun h2 h3 => ?_⟩
      exact hp.out.trans (if_neg (not_or.2 ⟨h2, h3⟩))
    · have he := hsent hl none
      rw [Option.map_none, chAction_rejoin hline hf, cmdDefined_rejoin, decide_eq_true hdef, if_pos rfl, if_neg (not_not.2 hd0), hs, if_neg Bool.false_ne_true,
        stageAct_plain] at he
      have hp := performed_of (s := s) (u := s) (val := v.toNat % 4096) (tkt := none) c.isLt hv channelFrame_refl rfl rfl rfl (dieOf c)
      exact ⟨_, he, hp.recorded, hp.acked, hp.wm⟩

end Sys2Proof.Machine
end

section
/-! PWM periods, feed groups and open-load tests of the channels (R257, R258, R264, R265). -/
namespace Sys2Proof.Machine
open Sys2Proof Reg

section
variable {fs : List Fd} {cs : List Nat} {s t u : State} {c k d g n r : Nat} {f : Fd}

theorem FieldsBut.regsBut {rs : List Rg} (h : FieldsBut fs s t) (hf : ∀ f ∈ fs, f.r.addr ∈ rs.map Rg.addr) : RegsBut rs s t :=
  fun _ hr => h.rd fun f hm e => hr (e ▸ hf f hm)

/-! ## A period starts (R258) -/

/-- The channel as a period leaves it. -/
noncomputable def periodChan (s : State) (c uv span : Nat) : Chan :=
  let x := s.chan c
  let reg := s.rd (PSW_CH_PWM c)
  let o := followed s c
  let out : OutCmd := if o.cmd = 3 then ⟨3, compensated s c o.d uv⟩ else o
  let sp := if x.pwm ≠ reg then some (min span (max (getBits reg 15 0 * 1000) (minPeriod c))) else none
  { x with pwm := reg, span := sp, capIn := x.cap, out := if isLine s c then x.out else out }

theorem pwmStart_eq (s : State) (c uv span : Nat) : pwmStart s c uv span = settleOut (s.setChan c (periodChan s c uv span)) c := rfl

theorem outFields_sep_state {ms : List Nat} (hr : f.r = PSW_CH_STATE k) (ha : (PSW_CH_STATE_eff k).apart f = true) : ∀ g ∈ outFields c ms, g.sep f := by
  intro g hg
  rcases List.mem_cons.1 hg with rfl | hg
  · by_cases hk : c = k
    · subst hk
      exact .inr ⟨hr, ha⟩
    · refine .inl ?_
      rw [hr]
      simp only [PSW_CH_STATE_eff, PSW_CH_STATE]
      omega
  · obtain ⟨m, -, rfl⟩ := List.mem_map.1 hg
    refine .inl ?_
    rw [hr]
    simp only [PSW_CH_STATUS_ilim, PSW_CH_STATUS, PSW_CH_STATE]
    omega

theorem pwmStart_spec (s : State) (c uv span : Nat) : (pwmStart s c uv span).chan c = periodChan s c uv span ∧
    (pwmStart s c uv span).get (PSW_CH_STATE_eff c) = effective ((pwmStart s c uv span).chan c) % 8192 ∧
    ChanStep (outFields c (membersOf s c)) [c] s (pwmStart s c uv span) := by
  have h1 : ChanStep (outFields c (membersOf s c)) [c] s (s.setChan c (periodChan s c uv span)) :=
    .modChan List.mem_cons_self fun _ => periodChan s c uv span
  have hchan : (s.setChan c (periodChan s c uv span)).chan c = periodChan s c uv span := chan_setChan_same ..
  rw [pwmStart_eq]
  have hm := h1.members (outFields_ofChan _) c
  generalize s.setChan c (periodChan s c uv span) = v at h1 hchan hm
  exact ⟨(settleOut_chan v c c).trans hchan, (settleOut_eff v c).trans (by rw [settleOut_chan]),
    h1.trans ((hm ▸ settleOut_step v c).sub (fun _ hf => hf) fun _ h => (List.not_mem_nil h).elim)⟩

/-! ## Feed groups (R264) -/

/-- The fields that the loss and the return of a feed group write. -/
noncomputable def feedFields : List Fd := (List.range 104).flatMap fun c => [PSW_CH_STATE_eff c, PSW_CH_STATUS_ilim c, PSW_CH_STATUS_s_nosup c]

theorem mem_feedFields (hc : c < 104) : PSW_CH_STATE_eff c ∈ feedFields ∧ PSW_CH_STATUS_ilim c ∈ feedFields ∧ PSW_CH_STATUS_s_nosup c ∈ feedFields := by
  have h {f : Fd} (hf : f ∈ [PSW_CH_STATE_eff c, PSW_CH_STATUS_ilim c, PSW_CH_STATUS_s_nosup c]) : f ∈ feedFields :=
    List.mem_flatMap.2 ⟨c, List.mem_range.2 hc, hf⟩
  exact ⟨h List.mem_cons_self, h (List.mem_cons_of_mem _ List.mem_cons_self), h (List.mem_cons_of_mem _ (List.mem_cons_of_mem _ List.mem_cons_self))⟩

theorem forall_feedFields {p : Fd → Prop} (h : ∀ c < 104, p (PSW_CH_STATE_eff c) ∧ p (PSW_CH_STATUS_ilim c) ∧ p (PSW_CH_STATUS_s_nosup c)) : ∀ f ∈ feedFields, p f := fun f hf => by
  obtain ⟨c, hc, hf⟩ := List.mem_flatMap.1 hf
  obtain ⟨h1, h2, h3⟩ := h c (List.mem_range.1 hc)
  simp only [List.mem_cons, List.not_mem_nil, or_false] at hf
  rcases hf with rfl | rfl | rfl
  · exact h1
  · exact h2
  · exact h3

theorem settleOut_feed (hc : c < 104) : ChanStep feedFields [] s (settleOut s c) :=
  (settleOut_step s c).sub (fun f hf => by
    rcases List.mem_cons.1 hf with rfl | hf
    · exact (mem_feedFields hc).1
    · obtain ⟨m, hm, rfl⟩ := List.mem_map.1 hf
      exact (mem_feedFields (membersOf_lt hc m hm).1).2.1) fun _ h => h

theorem dieOf_lead (hc : c < 104) (s : State) : dieOf (leadOf s c) = dieOf c ∧ groupOf (leadOf s c) = groupOf c ∧ leadOf s c < 104 := by
  obtain ⟨hlt, hq⟩ := membersOf_lt hc _ (leadOf_mem s c)
  exact ⟨(dieOf_of_quad hlt hc hq).1, (dieOf_of_quad hlt hc hq).2, hlt⟩

/-- A channel of a lost group: it shows the loss, and its output settles. -/
noncomputable def chanLost (s : State) (c : Nat) : State :=
  let s := settleOut (s.putB (PSW_CH_STATUS_s_nosup c) true) (leadOf s c)
  if isFollower s c then s else chEvent s c 5 0

noncomputable def chanReturned (s : State) (c : Nat) : State := if isFollower s c then s else chEvent (settleOut s c) c 6 0

theorem mem_groupChans : c ∈ groupChans d g ↔ c < 104 ∧ dieOf c = d ∧ groupOf c = g := by
  simp only [groupChans, dieChans, List.mem_filter, List.mem_range, beq_iff_eq, and_assoc]

theorem chanLost_step (hc : c < 104) : ChanStep feedFields [] s (chanLost s c) ∧ (chanLost s c).bit (PSW_CH_STATUS_s_nosup c) = true := by
  have h1 : ChanStep feedFields [] s (s.putB (PSW_CH_STATUS_s_nosup c) true) := .put rfl (mem_feedFields hc).2.2 _
  have hb : (s.putB (PSW_CH_STATUS_s_nosup c) true).bit (PSW_CH_STATUS_s_nosup c) = true := State.bit_putB s rfl
  have hl := (dieOf_lead hc s).2.2
  unfold chanLost
  generalize s.putB (PSW_CH_STATUS_s_nosup c) true = v at h1 hb
  have h2 := h1.trans (settleOut_feed (s := v) hl)
  have hb2 : (settleOut v (leadOf s c)).bit (PSW_CH_STATUS_s_nosup c) = true := ((settleOut_step v (leadOf s c)).bit rfl (outFields_sep_side rfl rfl)).trans hb
  generalize settleOut v (leadOf s c) = x at h2 hb2
  dsimp only
  split
  · exact ⟨h2, hb2⟩
  · exact ⟨h2.trans (.event ..), (State.bit_congr (by rw [State.rd, chEvent_regs, State.rd])).trans hb2⟩

theorem chanReturned_step (hc : c < 104) : ChanStep feedFields [] s (chanReturned s c) := by
  unfold chanReturned
  split
  · exact .refl
  · exact (settleOut_feed hc).trans (.event ..)

/-- The loss of a group shows in each of its channels. -/
theorem chansLost_shown {l : List Nat} (hl : ∀ m ∈ l, m < 104) (s : State) (hc : c ∈ l) : (l.foldl chanLost s).bit (PSW_CH_STATUS_s_nosup c) = true := by
  refine foldl_settles (P := fun _ => True) (g := fun v => v.bit (PSW_CH_STATUS_s_nosup c)) (fun _ _ _ _ => trivial) (fun v _ => (chanLost_step (hl c hc)).2)
    (fun v _ y hy hne => ?_) hc trivial
  have h1 : ChanStep [PSW_CH_STATUS_s_nosup y] [] v (v.putB (PSW_CH_STATUS_s_nosup y) true) := .put rfl List.mem_cons_self _
  have hb : (v.putB (PSW_CH_STATUS_s_nosup y) true).bit (PSW_CH_STATUS_s_nosup c) = v.bit (PSW_CH_STATUS_s_nosup c) := h1.bit rfl fun f hf => by
    rw [List.mem_singleton.1 hf]
    refine .inl ?_
    simp only [PSW_CH_STATUS_s_nosup, PSW_CH_STATUS]
    omega
  unfold chanLost
  generalize v.putB (PSW_CH_STATUS_s_nosup y) true = x at hb
  have hb2 := ((settleOut_step x (leadOf v y)).bit (f := PSW_CH_STATUS_s_nosup c) rfl (outFields_sep_side rfl rfl)).trans hb
  generalize settleOut x (leadOf v y) = z at hb2
  dsimp only
  split
  · exact hb2
  · exact (State.bit_congr (by rw [State.rd, chEvent_regs, State.rd])).trans hb2

/-- The commanded states and the outputs that a loss or a return of feed leaves. -/
structure FeedKeeps (s t : State) : Prop where
  cmd : ∀ c : Fin 104, t.get (PSW_CH_STATE_cmd c) = s.get (PSW_CH_STATE_cmd c) ∧ (t.chan c).out = (s.chan c).out
  wm : t.wm = s.wm
  raiseQ : t.raiseQ = s.raiseQ
  die : ∀ d, t.die d = s.die d

theorem ChanStep.feedKeeps (h : ChanStep feedFields [] s t) : FeedKeeps s t where
  cmd c := ⟨h.get rfl (forall_feedFields fun m _ => by
    refine ⟨?_, .inl ?_, .inl ?_⟩
    · by_cases hm : m = c
      · subst hm
        exact .inr ⟨rfl, rfl⟩
      · refine .inl ?_
        simp only [PSW_CH_STATE_eff, PSW_CH_STATE_cmd, PSW_CH_STATE]
        omega
    · simp only [PSW_CH_STATUS_ilim, PSW_CH_STATUS, PSW_CH_STATE_cmd, PSW_CH_STATE]
      omega
    · simp only [PSW_CH_STATUS_s_nosup, PSW_CH_STATUS, PSW_CH_STATE_cmd, PSW_CH_STATE]
      omega), congrArg Chan.out (h.chan c List.not_mem_nil)⟩
  wm := h.wm
  raiseQ := h.raiseQ
  die := h.die

theorem setLost_spec (s : State) {d : Nat} (hd : d < 2) (g : Nat) (b : Bool) :
    (setLost s d g b).die d = (if g = 1 then { s.die d with lost1 := b } else { s.die d with lost2 := b }) ∧ (setLost s d g b).regs = s.regs ∧
      (setLost s d g b).psw.chans = s.psw.chans ∧ (setLost s d g b).wm = s.wm ∧ (setLost s d g b).raiseQ = s.raiseQ := by
  unfold setLost State.setDie State.die
  by_cases h : d = 0
  · subst h
    exact ⟨rfl, rfl, rfl, rfl, rfl⟩
  · simp only [if_neg h]
    exact ⟨trivial, trivial, trivial, trivial, trivial⟩

theorem groupLost_of {x : DieSt} (hx : t.die (dieOf c) = x) (hg : groupOf c = 1 ∨ groupOf c = 2) : groupLost t c = if groupOf c = 1 then x.lost1 else x.lost2 := by
  unfold groupLost
  rw [hx]
  rcases hg with h | h <;> rw [h] <;> rfl

theorem FeedKeeps.of_setLost {v : State} (h : FeedKeeps v t) (hv : v.regs = s.regs ∧ v.psw.chans = s.psw.chans) :
    ∀ c : Fin 104, t.get (PSW_CH_STATE_cmd c) = s.get (PSW_CH_STATE_cmd c) ∧ (t.chan c).out = (s.chan c).out := fun c => by
  obtain ⟨h1, h2⟩ := h.cmd c
  exact ⟨h1.trans (State.get_congr (by rw [State.rd, hv.1, State.rd])), h2.trans (by rw [State.chan, hv.2, State.chan])⟩

theorem groupLoss_eq (hon : (s.die d).on = true) (hl : (if g = 1 then (s.die d).lost1 else (s.die d).lost2) = false) :
    groupLoss s d g = ((groupChans d g).foldl chanLost (setLost s d g true)).raise (66 + d) := if_pos (by rw [hon, hl]; rfl)

theorem groupLoss_lost (hl : (if g = 1 then (s.die d).lost1 else (s.die d).lost2) = true) : groupLoss s d g = s := if_neg (by rw [hl]; simp)

theorem groupReturn_eq (hon : (s.die d).on = true) (hl : (if g = 1 then (s.die d).lost1 else (s.die d).lost2) = true) :
    groupReturn s d g = (groupChans d g).foldl chanReturned (setLost s d g false) := if_pos (by rw [hon, hl]; rfl)

theorem stays_feed (d : Fin 2) : stays (66 + d.val) = false := by
  revert d
  decide

theorem lost_index (x : DieSt) (g : Fin 2) : (if g.val + 1 = 1 then x.lost1 else x.lost2) = if g = 0 then x.lost1 else x.lost2 :=
  if_congr (by rw [Fin.ext_iff]; simp) rfl rfl

/-- In a group that its die shows as lost, every output is open (R264). -/
theorem opened_of_lost (hc : c < 104) (hd : dieOf c = d) (hg : groupOf c = 1 ∨ groupOf c = 2)
    (hl : (if groupOf c = 1 then (t.die d).lost1 else (t.die d).lost2) = true) : groupLost t c = true ∧ levelOf t c = .opened := by
  obtain ⟨hdl, hgl, -⟩ := dieOf_lead hc t
  refine ⟨(groupLost_of rfl hg).trans (hd ▸ hl), levelOf_blocked ?_⟩
  have hlead : groupLost t (leadOf t c) = true := (groupLost_of rfl (hgl ▸ hg)).trans (by rw [hdl, hgl, hd, hl])
  unfold blocked
  rw [hlead]
  simp

/-! ## Open-load tests (R265) -/

/-- A settle time that ends in a phase of the test: 3 stands for the band below 6 V. -/
noncomputable def settled (s : State) (c : Nat) (above : Bool) (phase : Nat) : State :=
  match phase with
  | 3 => testResult s c 0
  | 1 => if above then testResult s c 3 else s.modChan c fun x => { x with test := 2 }
  | 2 => testResult s c (if above then 2 else 1)
  | _ => s

theorem openLoadSettle_eq (c : Fin 104) (above : Bool) (hon : (s.die (dieOf c)).on = true) : exec (.openLoadSettle c above) s =
    .next (settled s c above (if (s.chan c).test ≠ 0 ∧ s.get (PSW_DIE_VBAT_v3 (dieOf c)) < 120 then 3 else (s.chan c).test)) := by
  have h : exec (.openLoadSettle c above) s = .next (settled s c above
      (if (s.die (dieOf c)).on then (if (s.chan c).test ≠ 0 ∧ lowBand s (dieOf c) then 3 else (s.chan c).test) else 0)) := rfl
  rw [h, if_pos hon, lowBand]
  simp only [decide_eq_true_eq]

theorem testResult_spec (s : State) (c : Nat) (hr : r < 16) : (testResult s c r).get (PSW_CH_DIAG_result c) = r ∧ ((testResult s c r).chan c).test = 0 ∧
    (testResult s c r).wm = s.wm ∧ RegsBut [PSW_CH_DIAG c] s (testResult s c r) := by
  have h := testResult_step s c r
  refine ⟨?_, by rw [testResult_chan], h.wm, h.fields.regsBut fun f hf => List.mem_singleton.1 hf ▸ List.mem_cons_self⟩
  have h1 : (s.put (PSW_CH_DIAG_result c) r).get (PSW_CH_DIAG_result c) = r := State.get_put_of_lt s rfl hr
  unfold testResult
  generalize s.put (PSW_CH_DIAG_result c) r = v at h1
  have h2 : (v.modChan c fun x => { x with test := 0 }).get (PSW_CH_DIAG_result c) = r := h1
  dsimp only
  split
  · exact h2
  · exact (State.get_congr (by rw [State.rd, chEvent_regs, State.rd])).trans h2

end

/-- Settles O30: a period, a feed group and a test, each by what its model says of it. -/
theorem periodsGroupsAndTests : Obligations.PeriodsGroupsAndTests := by
  unfold Obligations.PeriodsGroupsAndTests
  intro s
  refine ⟨fun c uv span hon => ⟨fun hf => ?_, fun hf => ?_⟩, fun d g hon => ⟨fun hl => ?_, fun hl => ⟨?_, ?_⟩⟩, fun c hon => ?_⟩
  · exact congrArg Host.Outcome.next (if_neg (by rw [hon, hf]; decide))
  · obtain ⟨hchan, heff, hstep⟩ := pwmStart_spec s c uv span
    have he : exec (.pwmPeriodStart c uv span) s = .next (pwmStart s c uv span) := congrArg Host.Outcome.next (if_pos (by rw [hon, hf]; decide))
    generalize pwmStart s c uv span = t at hchan heff hstep he
    refine ⟨t, he, by rw [hchan]; rfl, by rw [hchan]; rfl, by rw [hchan]; rfl, heff, hstep.get rfl (outFields_sep_state rfl rfl),
      hstep.frame (outFields_inChans (mem_membersOf s c)) channelFrame_refl⟩
  · have hl' := (lost_index (s.die d) g).trans hl
    obtain ⟨hdie, hregs, hchans, hwm, hq⟩ := setLost_spec s d.isLt (g.val + 1) true
    have he := groupLoss_eq hon hl'
    have hlt : ∀ m ∈ groupChans d (g.val + 1), m < 104 := fun m hm => (mem_groupChans.1 hm).1
    have hstep : ChanStep feedFields [] (setLost s d (g.val + 1) true) ((groupChans d (g.val + 1)).foldl chanLost (setLost s d (g.val + 1) true)) :=
      .fold (fun u m hm => (chanLost_step (hlt m hm)).1) _
    have hshown : ∀ c ∈ groupChans d (g.val + 1), ((groupChans d (g.val + 1)).foldl chanLost (setLost s d (g.val + 1) true)).bit (PSW_CH_STATUS_s_nosup c) = true :=
      fun c hc => chansLost_shown hlt _ hc
    generalize setLost s d (g.val + 1) true = v at hdie hregs hchans hwm hq he hstep hshown
    generalize (groupChans d (g.val + 1)).foldl chanLost v = w at he hstep hshown
    have hk := hstep.feedKeeps
    refine ⟨w.raise (66 + d.val), congrArg Host.Outcome.next he, hk.of_setLost ⟨hregs, hchans⟩, hk.wm.trans hwm, ?_, fun c hc => ?_⟩
    · rw [State.raise, stays_feed, hk.raiseQ, hq]
    · obtain ⟨hc104, hd, hg⟩ := mem_groupChans.1 hc
      have hopen := opened_of_lost (t := w.raise (66 + d.val)) hc104 hd (by omega) (by
        have hwd : (w.raise (66 + d.val)).die d = w.die d := rfl
        rw [hwd, hk.die, hdie, hg]
        split <;> rfl)
      exact ⟨hopen.1, hopen.2, hshown c hc⟩
  · exact congrArg Host.Outcome.next (groupLoss_lost ((lost_index (s.die d) g).trans hl))
  · obtain ⟨hdie, hregs, hchans, hwm, hq⟩ := setLost_spec s d.isLt (g.val + 1) false
    have he := groupReturn_eq hon ((lost_index (s.die d) g).trans hl)
    have hstep : ChanStep feedFields [] (setLost s d (g.val + 1) false) ((groupChans d (g.val + 1)).foldl chanReturned (setLost s d (g.val + 1) false)) :=
      .fold (fun u m hm => chanReturned_step (mem_groupChans.1 hm).1) _
    generalize setLost s d (g.val + 1) false = v at hdie hregs hchans hwm hq he hstep
    generalize (groupChans d (g.val + 1)).foldl chanReturned v = w at he hstep
    have hk := hstep.feedKeeps
    refine ⟨w, congrArg Host.Outcome.next he, hk.of_setLost ⟨hregs, hchans⟩, hk.wm.trans hwm, hk.raiseQ.trans hq, fun c hc => ?_⟩
    obtain ⟨-, hd, hg⟩ := mem_groupChans.1 hc
    rw [groupLost_of (t := w) rfl (by omega), hd, hk.die, hdie, hg]
    split <;> rfl
  · have hstart (hf : isFollower s c = false) (ht : (s.chan c).test = 0) (hv : 120 ≤ s.get (PSW_DIE_VBAT_v3 (dieOf c))) : testStart s c =
        if s.get (PSW_CH_STATE_cmd c) = 0 ∧ ¬ s.bit (PSW_CH_STATUS_siding c) ∧ (s.chan c).out.cmd = 0 ∧ ¬ inPark s then s.modChan c fun x => { x with test := 1 }
        else testResult s c 0 := by
      rw [testStart, hon, hf, ht, if_neg (by decide), if_neg (Nat.not_lt.2 hv)]
    have hlow (hv : s.get (PSW_DIE_VBAT_v3 (dieOf c)) < 120) : testStart s c = s := by
      rw [testStart, if_pos hv, ite_self]
    have hgo (w : CtxId) (hr : ctlReached s = true) (hb : s.blockOk w 10 = true) (hch : s.chanOk w c = true) (haway : (s.die (dieOf c)).away = false) :
        exec (.openLoadTestStart c (some w)) s = .next (if linkClear s (dieOf c) = true then exchange (testStart s c) (dieOf c)
          else queueFrame s (dieOf c) false (.write w (PSW_CH_DIAG c).addr (s.rd (PSW_CH_DIAG c) ||| 0x80000000#32))) := by
      have hreached : dieReached s (dieOf c) = true := by rw [dieReached, hon, haway]; rfl
      have hleaf : leafOf (PSW_CH_DIAG c).addr = none := (by decide : ∀ c < 104, leafOf (PSW_CH_DIAG c).addr = none) c c.isLt
      refine congrArg Host.Outcome.next ?_
      dsimp only
      rw [hb, hch, Bool.and_self, State.granted_ok s w _ _ hr (gatedOff_of_leafless hleaf), viaDie, hreached]
      rfl
    refine ⟨fun ⟨hf, ht, hv, hc, hs, ho, hp⟩ hper => ?_, fun w hr hb hch haway => ⟨fun hl => ?_, fun hl => ⟨fun ⟨hf, ht, hv, hc, hs, ho, hp⟩ => ?_, fun hv => ?_, fun hv hf ht hc => ?_⟩⟩,
      fun hv ht above => ?_, fun hv => ⟨fun ht => ⟨?_, ?_⟩, fun ht => ⟨?_, ?_⟩⟩, fun ht above => ?_⟩
    · refine congrArg Host.Outcome.next ((if_pos ⟨hper, ne_true_of_eq_false hp⟩).trans ((hstart hf ht hv).trans (if_pos ?_)))
      exact ⟨hc, ne_true_of_eq_false hs, ho, ne_true_of_eq_false hp⟩
    · rw [hgo w hr hb hch haway, if_neg (ne_true_of_eq_false hl)]
    · rw [hgo w hr hb hch haway, if_pos hl, hstart hf ht hv, if_pos ⟨hc, ne_true_of_eq_false hs, ho, ne_true_of_eq_false hp⟩]
    · rw [hgo w hr hb hch haway, if_pos hl, hlow hv]
    · have he := hgo w hr hb hch haway
      rw [if_pos hl, hstart hf ht hv, if_neg fun h => hc h.1] at he
      obtain ⟨h1, h2, h3, h4⟩ := testResult_spec s c (r := 0) (by decide)
      generalize testResult s c 0 = u at he h1 h2 h3 h4
      have hregs : (exchange u (dieOf c)).regs = u.regs := by rw [exchange_only]
      exact ⟨_, he, (State.get_congr (by rw [State.rd, hregs, State.rd])).trans h1, h2, h3, h4.trans (.of_regs hregs)⟩
    · have he := openLoadSettle_eq c above hon
      rw [if_pos ⟨ht, hv⟩] at he
      exact ⟨_, he, testResult_spec s c (by decide)⟩
    · have he := openLoadSettle_eq c true hon
      rw [if_neg fun h => Nat.not_lt.2 hv h.2, ht] at he
      exact ⟨_, he, testResult_spec s c (by decide)⟩
    · rw [openLoadSettle_eq c false hon, if_neg fun h => Nat.not_lt.2 hv h.2, ht]
      rfl
    · have he := openLoadSettle_eq c true hon
      rw [if_neg fun h => Nat.not_lt.2 hv h.2, ht] at he
      exact ⟨_, he, testResult_spec s c (by decide)⟩
    · have he := openLoadSettle_eq c false hon
      rw [if_neg fun h => Nat.not_lt.2 hv h.2, ht] at he
      exact ⟨_, he, testResult_spec s c (by decide)⟩
    · rw [openLoadSettle_eq c above hon, if_neg fun h => h.1 ht, ht]
      rfl

end Sys2Proof.Machine
end

section
/-! Switch inputs (R306 to R321): line faults and analogue readings, samples, debounce and the wake. -/
namespace Sys2Proof.Machine
open Sys2Proof Reg

section
variable {s t u : State} {i d : Nat} {b : Bool} {r : Nat → Rg}

/-! ## What a power die tells -/

theorem DieHeard.congr (hp : t.pwr = s.pwr) (hw : t.psw = s.psw) (hl : t.lnk = s.lnk) (hr : t.rd SYS_LINK_STATUS = s.rd SYS_LINK_STATUS) :
    DieHeard t d = DieHeard s d := by
  have hlink (k : Nat) : linkState t k = linkState s k := linkState_congr hr
  have hdie : t.die d = s.die d := by rw [State.die, hw, State.die]
  have hdir : t.dir d true = s.dir d true := by rw [State.dir, hl, State.dir]
  unfold DieHeard dieReached dieSettled dieLinked
  rw [hdie, hdir, hlink, hlink, hp]

theorem dieTells_of_heard (h : DieHeard s d = true) (x : FrameBody) (f : State → State) : dieTells s d x f = f s := by
  simp only [DieHeard, Bool.and_eq_true, bne_iff_ne] at h
  obtain ⟨⟨⟨⟨hr, hs⟩, hoff⟩, hreset⟩, hstart⟩ := h
  unfold dieTells
  split
  next h => exact (hoff h).elim
  next h => exact (hreset h).elim
  next h => exact (hstart h).elim
  next => rw [hr, hs]; rfl

theorem dieTells_of_unheard (h : DieHeard s d = false) (x : FrameBody) (f : State → State) : ∃ l, dieTells s d x f = { s with lnk := l } := by
  unfold dieTells
  split
  · exact ⟨_, rfl⟩
  · exact ⟨_, rfl⟩
  · exact ⟨_, rfl⟩
  next hoff hreset hstart =>
    rw [if_neg]
    · exact ⟨_, rfl⟩
    · intro hg
      simp only [DieHeard, hg, Bool.true_and, Bool.and_eq_false_iff, bne_eq_false_iff_eq] at h
      exact h.elim (fun h => h.elim hoff hreset) hstart

/-! ## Mirrors -/

/-- The bit of an input in its mirror register. -/
noncomputable def mirrored (r : Nat → Rg) (i : Nat) : Fd := ⟨r (i / 32), i % 32, i % 32⟩

theorem bitOf_mirrored (s : State) (r : Nat → Rg) (i : Nat) : bitOf (s.rd (r (i / 32))) (i % 32) = s.bit (mirrored r i) := by
  have h := testBit_getBits (s.rd (r (i / 32))) (i % 32) (i % 32) 0 (Nat.mod_lt _ (by decide))
  have hlt := getBits_lt (s.rd (r (i / 32))) (i % 32) (i % 32)
  rw [Nat.sub_self] at h hlt
  change bitOf _ _ = (getBits (s.rd (r (i / 32))) (i % 32) (i % 32) == 1)
  generalize getBits (s.rd (r (i / 32))) (i % 32) (i % 32) = k at h hlt
  exact h.symm.trans (match k, hlt with | 0, _ => rfl | 1, _ => rfl)

/-- What the control die shows of an input is what its die tells, where that is heard at once. -/
noncomputable def toldNow (s : State) (i : Nat) : Bool := s.bit (mirrorFlag (dinDie i)) && DieHeard s (dinDie i)

/-- The mirror of an input written, once its die's mirrors have been refreshed. -/
noncomputable def marked (r : Nat → Rg) (s : State) (i : Nat) (b : Bool) : State :=
  if s.bit (mirrorFlag (dinDie i)) then s.putB (mirrored r i) b else s

/-- What its die has told of an input. -/
structure Told (r : Nat → Rg) (s t : State) (i : Nat) (b : Bool) : Prop where
  bit : t.bit (mirrored r i) = if toldNow s i = true then b else s.bit (mirrored r i)
  regs : RegsBut [r (i / 32)] s t
  lnk : DieHeard s (dinDie i) = true → t.lnk = s.lnk

theorem mirrored_ok (r : Nat → Rg) (i : Nat) : (mirrored r i).ok = true := by
  simp [mirrored, Fd.ok, Nat.mod_lt]

theorem Told.of_heard (hd : DieHeard s (dinDie i) = true) (hr : t.regs = (marked r s i b).regs) (hl : t.lnk = s.lnk) : Told r s t i b where
  bit := by
    rw [State.bit_congr (s := marked r s i b) (by rw [State.rd, hr, State.rd]), toldNow, hd, Bool.and_true, marked]
    split
    · exact State.bit_putB _ (mirrored_ok r i)
    · rfl
  regs := by
    refine .trans ?_ (.of_regs hr)
    unfold marked
    split
    · exact .putB .refl List.mem_cons_self
    · exact .refl
  lnk _ := hl

theorem Told.of_unheard (hd : DieHeard s (dinDie i) = false) (hr : t.regs = s.regs) : Told r s t i b where
  bit := by
    rw [toldNow, hd, Bool.and_false, if_neg Bool.false_ne_true]
    exact State.bit_congr (by rw [State.rd, hr, State.rd])
  regs := .of_regs hr
  lnk h := absurd (hd.symm.trans h) Bool.false_ne_true

theorem toldNow_congr (h1 : t.rd DIN_STATUS = s.rd DIN_STATUS) (h2 : t.rd SYS_LINK_STATUS = s.rd SYS_LINK_STATUS) (hp : t.pwr = s.pwr) (hw : t.psw = s.psw)
    (hl : t.lnk = s.lnk) : toldNow t i = toldNow s i := by
  have hflag : (mirrorFlag (dinDie i)).r = DIN_STATUS := by
    unfold mirrorFlag
    split <;> rfl
  rw [toldNow, DieHeard.congr hp hw hl h2, State.bit_congr (s := s) (by rw [hflag, h1]), toldNow]

theorem status_apart {r : Rg} (h : r.addr < 0x40150100) : r.addr ∉ [DIN_IN_STATUS i].map Rg.addr := fun hm => by
  rw [List.mem_singleton.1 hm] at h
  exact absurd h (Nat.not_lt.2 (Nat.le_add_right_of_le (by decide)))

theorem fault_addr (h : i < 96) : (DIN_FAULT (i / 32)).addr < 0x40150018 := by
  simp only [DIN_FAULT]
  omega

theorem dinEvent_lnk (s : State) (i code : Nat) : dinEvent s i code = { s with lnk := (dinEvent s i code).lnk, evq := (dinEvent s i code).evq } := by
  unfold dinEvent
  split
  · exact dieEvent_lnk _ _
  · rfl

theorem dinEvent_keeps (s : State) (i code : Nat) : (dinEvent s i code).regs = s.regs ∧ (dinEvent s i code).din = s.din ∧
    (dinEvent s i code).raiseQ = s.raiseQ := by
  rw [dinEvent_lnk]
  exact ⟨rfl, rfl, rfl⟩

theorem State.rd_of_regs (h : t.regs = s.regs) (q : Rg) : t.rd q = s.rd q := by rw [State.rd, h, State.rd]

theorem sourcesLost_only (s : State) (p : State → Nat → Bool) : ∃ x l, sourcesLost s p = { s with tln := x, raiseQ := s.raiseQ ++ l } := by
  refine List.foldlRecOn _ _ (motive := fun t => ∃ x l, t = { s with tln := x, raiseQ := s.raiseQ ++ l }) ⟨s.tln, [], by rw [List.append_nil]⟩ ?_
  rintro _ ⟨x, l, rfl⟩ n -
  split
  · unfold axisLost
    dsimp only
    split
    · exact ⟨_, _, rfl⟩
    · exact ⟨_, l ++ [⟨57, false, stays 57, BitVec.ofNat 32 n⟩], by rw [← List.append_assoc]; rfl⟩
  · exact ⟨_, _, rfl⟩

theorem sourcesBack_onlyTln (s : State) (p : State → Nat → Bool) : OnlyTln s (sourcesBack s p) := by
  refine List.foldlRecOn _ _ (motive := OnlyTln s) .refl fun t h n _ => ?_
  split
  · unfold axisReturn
    dsimp only
    split
    · exact h.trans rfl
    · exact h
  · exact h

theorem tellFault_told (s : State) (i : Nat) (b : Bool) : Told DIN_FAULT s (tellFault s i b) i b ∧
    tellFault s i b = { s with regs := (tellFault s i b).regs, lnk := (tellFault s i b).lnk } := by
  unfold tellFault
  cases hd : DieHeard s (dinDie i) with
  | false =>
    obtain ⟨l, h⟩ := dieTells_of_unheard hd (.mirror true i b false) fun s => landFault s i b
    rw [h]
    exact ⟨.of_unheard hd rfl, rfl⟩
  | true =>
    rw [dieTells_of_heard hd]
    have hland : landFault s i b = marked DIN_FAULT s i b := rfl
    rw [hland]
    refine ⟨.of_heard hd rfl ?_, ?_⟩ <;> unfold marked <;> split <;> rfl

/-! ## Line faults (R314) -/

theorem stays_din : ∀ {i : Nat}, i < 96 → stays (82 + dinDie i) = false := by decide

/-- An input is due for a level change. -/
noncomputable def due (s : State) (i : Nat) : Bool := ! inPark s && (s.din1 i).started && decide (debounceCount s i ≤ (s.din1 i).count)

theorem levelChange_of_not_due (h : due s i = false) : levelChange s i = s := by
  rw [due, Bool.and_assoc] at h
  unfold levelChange
  dsimp only
  rw [if_neg]
  rw [Bool.and_assoc, Bool.and_assoc, h, Bool.and_false]
  exact Bool.false_ne_true

/-- The first writes of a line fault. -/
noncomputable def faulted (s : State) (i kind : Nat) : State := (s.put (DIN_IN_STATUS_line i) kind).putB (DIN_IN_STATUS_s_fault i) true

theorem faulted_regs (s : State) (i kind : Nat) : RegsBut [DIN_IN_STATUS i] s (faulted s i kind) := .putB (.put .refl List.mem_cons_self) List.mem_cons_self

theorem lineFault_eq {kind : Nat} (h : due s i = false) : lineFault s i kind =
    if (sampled s i && ! inPark s && lineJudged s i && ! lineFrozen s i && s.get (DIN_IN_STATUS_line i) != kind) = true then
      sourcesLost ((dinEvent (tellFault (faulted s i kind) i true) i 3).raise (82 + dinDie i) (BitVec.ofNat 32 i)) (usesInput i)
    else s := by
  rw [lineFault, levelChange_of_not_due h]
  rfl

theorem lineClear_eq (h : due s i = false) : lineClear s i =
    if (sampled s i && ! inPark s && lineJudged s i && ! lineFrozen s i && s.get (DIN_IN_STATUS_line i) != 0) = true then dinEvent (lineOk s i) i 4 else s := by
  rw [lineClear, levelChange_of_not_due h]

/-- The mirror of a fault told after writes of the input's status alone. -/
theorem tellFault_after (hi : i < 96) (hr : RegsBut [DIN_IN_STATUS i] s u) (hp : u.pwr = s.pwr) (hw : u.psw = s.psw) (hl : u.lnk = s.lnk) :
    (tellFault u i b).bit (mirrored DIN_FAULT i) = (if toldNow s i = true then b else s.bit (mirrored DIN_FAULT i)) ∧
      RegsBut [DIN_IN_STATUS i, DIN_FAULT (i / 32)] s (tellFault u i b) ∧ (tellFault u i b).rd (DIN_IN_STATUS i) = u.rd (DIN_IN_STATUS i) := by
  have hf := fault_addr hi
  obtain ⟨⟨hbit, hregs, -⟩, -⟩ := tellFault_told u i b
  refine ⟨?_, fun q hq => ?_, hregs _ fun hm => ?_⟩
  · rw [hbit, toldNow_congr (hr _ (status_apart (by decide))) (hr _ (status_apart (by decide))) hp hw hl]
    rw [State.bit_congr (f := mirrored DIN_FAULT i) (hr _ (status_apart (Nat.lt_trans hf (by decide))))]
  · simp only [List.map_cons, List.map_nil, List.mem_cons, List.not_mem_nil, or_false, not_or] at hq
    exact (hregs q (by simpa using hq.2)).trans (hr q (by simpa using hq.1))
  · have := List.mem_singleton.1 hm
    simp only [DIN_FAULT, DIN_IN_STATUS] at this hf
    omega

/-- Beside what is told of it, a declared fault raises the source of its die. -/
theorem lineFault_raises (s : State) (i kind : Nat) (p : State → Nat → Bool) :
    (sourcesLost ((dinEvent (tellFault (faulted s i kind) i true) i 3).raise (82 + dinDie i) (BitVec.ofNat 32 i)) p).regs = (tellFault (faulted s i kind) i true).regs ∧
      ∃ l, (sourcesLost ((dinEvent (tellFault (faulted s i kind) i true) i 3).raise (82 + dinDie i) (BitVec.ofNat 32 i)) p).raiseQ =
        s.raiseQ ++ [⟨82 + dinDie i, false, stays (82 + dinDie i), BitVec.ofNat 32 i⟩] ++ l := by
  obtain ⟨hregs, -, hraise⟩ := dinEvent_keeps (tellFault (faulted s i kind) i true) i 3
  have hq : (tellFault (faulted s i kind) i true).raiseQ = s.raiseQ := by rw [(tellFault_told (faulted s i kind) i true).2]; rfl
  obtain ⟨x, l, h⟩ := sourcesLost_only ((dinEvent (tellFault (faulted s i kind) i true) i 3).raise (82 + dinDie i) (BitVec.ofNat 32 i)) p
  rw [h]
  exact ⟨hregs, l, by rw [← hq, ← hraise]; rfl⟩

/-- A cleared fault: what is told of it, and nothing raised. -/
theorem lineClear_keeps (s : State) (i : Nat) : (dinEvent (lineOk s i) i 4).regs = (tellFault (s.put (DIN_IN_STATUS_line i) 0) i false).regs ∧
    (dinEvent (lineOk s i) i 4).raiseQ = s.raiseQ := by
  obtain ⟨hregs, -, hraise⟩ := dinEvent_keeps (lineOk s i) i 4
  have hback : OnlyTln (tellFault (s.put (DIN_IN_STATUS_line i) 0) i false) (lineOk s i) := sourcesBack_onlyTln ..
  have hq : (lineOk s i).raiseQ = (tellFault (s.put (DIN_IN_STATUS_line i) 0) i false).raiseQ := by
    unfold OnlyTln at hback
    rw [hback]
  exact ⟨hregs.trans hback.regs, hraise.trans (hq.trans (by rw [(tellFault_told (s.put (DIN_IN_STATUS_line i) 0) i false).2]; rfl))⟩

/-! ## Levels (R311, R175, R403) -/

theorem axisLevel_onlyTln (s : State) (i : Nat) (v : Bool) : OnlyTln s (axisLevel s i v) := by
  refine List.foldlRecOn _ _ (motive := OnlyTln s) .refl fun t h n _ => ?_
  dsimp only
  split
  · exact h
  · split
    · exact h.trans rfl
    · split
      · exact h.trans rfl
      · exact h

theorem doorChange_rest (s : State) (i : Nat) (b : Bool) : RegsBut [ACC_SESS 0] s (doorChange s i b) ∧
    doorChange s i b = { s with regs := (doorChange s i b).regs, evq := (doorChange s i b).evq } := by
  unfold doorChange endSession accEvent
  split
  · split
    · dsimp only
      split <;> exact ⟨.put (.put (.putB .refl List.mem_cons_self) List.mem_cons_self) List.mem_cons_self, rfl⟩
    · exact ⟨.refl, rfl⟩
  · exact ⟨.refl, rfl⟩

/-- A level told that is no change of level (R312). -/
theorem tellLevel_told (s : State) (i : Nat) (b : Bool) : Told DIN_LEVEL s (tellLevel s i b false) i b ∧
    tellLevel s i b false = { s with regs := (tellLevel s i b false).regs, lnk := (tellLevel s i b false).lnk, tln := (tellLevel s i b false).tln } := by
  unfold tellLevel
  cases hd : DieHeard s (dinDie i) with
  | false =>
    obtain ⟨l, h⟩ := dieTells_of_unheard hd (.mirror false i b false) fun s => landLevel s i b false
    rw [h]
    exact ⟨.of_unheard hd rfl, rfl⟩
  | true =>
    rw [dieTells_of_heard hd]
    have hland : OnlyTln (marked DIN_LEVEL s i b) (landLevel s i b false) := by
      change OnlyTln _ (if dinLevel s i == dinLevel (marked DIN_LEVEL s i b) i then marked DIN_LEVEL s i b else axisLevel (marked DIN_LEVEL s i b) i b)
      split
      · exact .refl
      · exact axisLevel_onlyTln ..
    obtain ⟨r, hr⟩ : ∃ r, marked DIN_LEVEL s i b = { s with regs := r } := by
      unfold marked
      split <;> exact ⟨_, rfl⟩
    have hregs := hland.regs
    have hrest : landLevel s i b false = { s with regs := r, tln := (landLevel s i b false).tln } := by
      rw [hr] at hland
      exact hland
    exact ⟨.of_heard hd hregs (by rw [hrest]), by rw [hrest]⟩

/-- A change of level told: as one that is none, and the door may end the entry session. -/
theorem tellLevel_change (s : State) (i : Nat) (b : Bool) :
    tellLevel s i b true = tellLevel s i b false ∨ tellLevel s i b true = doorChange (tellLevel s i b false) i b ∨
      DieHeard s (dinDie i) = false ∧ ∃ l, tellLevel s i b true = { s with lnk := l } := by
  unfold tellLevel
  cases hd : DieHeard s (dinDie i) with
  | false => exact .inr (.inr ⟨rfl, dieTells_of_unheard hd _ _⟩)
  | true =>
    rw [dieTells_of_heard hd, dieTells_of_heard hd]
    exact .inr (.inl rfl)

/-- Telling changes registers, the die links, the axes and the events alone. -/
def TellsOnly (s t : State) : Prop := t = { s with regs := t.regs, lnk := t.lnk, tln := t.tln, evq := t.evq }

theorem TellsOnly.trans (h : TellsOnly s t) (h' : TellsOnly t u) : TellsOnly s u := by
  unfold TellsOnly at h h' ⊢
  rw [h', h]

theorem TellsOnly.rest (h : TellsOnly s t) : t.din = s.din ∧ t.psw = s.psw ∧ t.wm = s.wm ∧ t.pwr = s.pwr ∧ t.raiseQ = s.raiseQ := by
  unfold TellsOnly at h
  rw [h]
  exact ⟨rfl, rfl, rfl, rfl, rfl⟩

theorem tellLevel_only (s : State) (i : Nat) (b c : Bool) : TellsOnly s (tellLevel s i b c) := by
  have h : TellsOnly s (tellLevel s i b false) := by
    rw [(tellLevel_told s i b).2]
    exact rfl
  cases c with
  | false => exact h
  | true =>
    rcases tellLevel_change s i b with hc | hc | ⟨-, l, hc⟩
    · exact hc ▸ h
    · refine hc ▸ h.trans ?_
      rw [(doorChange_rest _ i b).2]
      exact rfl
    · exact hc ▸ rfl

/-- The writes of a level change before it is told. -/
noncomputable def counted (s : State) (i : Nat) : State := (s.wrap (DIN_IN_STATUS_chg i)).modDin i fun x => { x with count := 0 }

/-- A level set and told (R311). -/
noncomputable def changed (s : State) (i : Nat) : State := setLevel (counted s i) i (! s.bit (DIN_IN_STATUS_level i)) true

theorem levelChange_of_due (hs : sampled s i = true) (hd : due s i = true) :
    levelChange s i = dinEvent (changed s i) i (if s.bit (DIN_IN_STATUS_level i) then 2 else 1) := by
  unfold levelChange
  dsimp only
  rw [due] at hd
  rw [hs, Bool.true_and, hd, if_pos rfl]
  rfl

theorem levelChange_of_not_sampled (hs : sampled s i = false) : levelChange s i = s := by
  unfold levelChange
  dsimp only
  rw [hs]
  rfl

theorem changed_only (s : State) (i code : Nat) : TellsOnly (counted s i) (dinEvent (changed s i) i code) := by
  have h : TellsOnly (counted s i) (changed s i) := TellsOnly.trans (t := (counted s i).putB (DIN_IN_STATUS_level i) _) rfl (tellLevel_only ..)
  refine h.trans ?_
  rw [dinEvent_lnk]
  exact rfl

theorem debounceCount_pos (s : State) (i : Nat) : 0 < debounceCount s i := by
  unfold debounceCount
  dsimp only
  split
  · exact Nat.lt_of_lt_of_le Nat.one_pos (Nat.le_max_left ..)
  · exact Nat.lt_of_lt_of_le Nat.two_pos (Nat.le_max_left ..)

/-- A level change that has come is not due again. -/
theorem levelChange_twice (s : State) (i : Nat) : levelChange (levelChange s i) i = levelChange s i := by
  cases hs : sampled s i with
  | false => rw [levelChange_of_not_sampled hs, levelChange_of_not_sampled hs]
  | true =>
    cases hd : due s i with
    | false => rw [levelChange_of_not_due hd, levelChange_of_not_due hd]
    | true =>
      refine levelChange_of_not_due ?_
      have hcount : ((levelChange s i).din1 i).count = 0 := by
        rw [levelChange_of_due hs hd, State.din1, (changed_only ..).rest.1]
        exact congrArg DinIn.count (SMap.get_set_same _ _ _ _)
      rw [due, hcount, decide_eq_false (Nat.not_le.2 (debounceCount_pos _ i)), Bool.and_false]

/-! ## Readings (R319) -/

theorem adcQueue_setAdcQueue (s : State) (d : Nat) (q : List Nat) : adcQueue (setAdcQueue s d q) d = q := by
  unfold adcQueue setAdcQueue
  split <;> rfl

/-- The writes of a reading that completes. -/
noncomputable def readDone (s : State) (i code : Nat) (wet : Bool) : State :=
  (((s.putB (DIN_IN_ADC_valid i) true).putB (DIN_IN_ADC_wet i) wet).wrap (DIN_IN_ADC_seq i)).put (DIN_IN_ADC_code i) code

theorem readDone_spec (s : State) (i : Nat) {code : Nat} (h : code < 4096) (wet : Bool) : (readDone s i code wet).get (DIN_IN_ADC_code i) = code ∧
    (readDone s i code wet).bit (DIN_IN_ADC_valid i) = true ∧ (readDone s i code wet).get (DIN_IN_ADC_seq i) = (s.get (DIN_IN_ADC_seq i) + 1) % 256 ∧
    RegsBut [DIN_IN_ADC i] s (readDone s i code wet) := by
  have hv : (s.putB (DIN_IN_ADC_valid i) true).bit (DIN_IN_ADC_valid i) = true := State.bit_putB s rfl
  have h1 (g : Fd) (hr : g.r = DIN_IN_ADC i) (hg : g.ok = true) (ha : (DIN_IN_ADC_valid i).apart g = true) :
      (s.putB (DIN_IN_ADC_valid i) true).get g = s.get g := State.get_put_apart s (DIN_IN_ADC_valid i) g hr rfl hg ha
  refine ⟨State.get_put_of_lt _ rfl h, ?_, ?_, .put (.put (.putB (.putB .refl List.mem_cons_self) List.mem_cons_self) List.mem_cons_self) List.mem_cons_self⟩
  · exact (State.bit_put_apart _ (DIN_IN_ADC_code i) (DIN_IN_ADC_valid i) rfl rfl rfl rfl).trans
      ((State.bit_put_apart _ (DIN_IN_ADC_seq i) (DIN_IN_ADC_valid i) rfl rfl rfl rfl).trans
        ((State.bit_put_apart _ (DIN_IN_ADC_wet i) (DIN_IN_ADC_valid i) rfl rfl rfl rfl).trans hv))
  · refine (State.get_put_apart _ (DIN_IN_ADC_code i) (DIN_IN_ADC_seq i) rfl rfl rfl rfl).trans ((State.get_put _ rfl).trans ?_)
    rw [show ((s.putB (DIN_IN_ADC_valid i) true).putB (DIN_IN_ADC_wet i) wet).get (DIN_IN_ADC_seq i) = s.get (DIN_IN_ADC_seq i) from
      (State.get_put_apart _ (DIN_IN_ADC_wet i) (DIN_IN_ADC_seq i) rfl rfl rfl rfl).trans (h1 _ rfl rfl rfl)]
    rfl

theorem adcDone_eq {q : List Nat} (hq : adcQueue s d = i :: q) (code : BitVec 12) :
    ∃ wet, adcDone s d code = dinEvent (readDone (setAdcQueue s d q) i code.toNat wet) i 5 := by
  unfold adcDone
  rw [hq]
  exact ⟨_, rfl⟩

end

/-- Settles O36: faults by what is told of them (`tellFault_after`), readings by `readDone_spec`. -/
theorem lineFaultsAndReadings : Obligations.LineFaultsAndReadings := by
  unfold Obligations.LineFaultsAndReadings
  refine fun s => ⟨fun i => ?_, fun hr w v => ?_, fun d code hon => ⟨fun hq => ?_, fun i q hq => ?_⟩⟩
  · have hi := i.isLt
    have hjudged (k : Nat) (hne : s.get (DIN_IN_STATUS_line i) ≠ k) (hj : (sampled s i && ! inPark s && lineJudged s i && ! lineFrozen s i) = true) :
        (sampled s i && ! inPark s && lineJudged s i && ! lineFrozen s i && s.get (DIN_IN_STATUS_line i) != k) = true := by rw [hj, bne_iff_ne.2 hne]; rfl
    have hidle (k : Nat) (h : (sampled s i && ! inPark s && lineJudged s i && ! lineFrozen s i) = false ∨ s.get (DIN_IN_STATUS_line i) = k) :
        ¬ (sampled s i && ! inPark s && lineJudged s i && ! lineFrozen s i && s.get (DIN_IN_STATUS_line i) != k) = true := by
      rcases h with h | h <;> rw [h]
      · exact Bool.false_ne_true
      · rw [bne_self_eq_false, Bool.and_false]; exact Bool.false_ne_true
    refine ⟨fun c hc => ?same, fun high hd => ⟨fun hj hne => ?fault, fun h => ?_⟩, fun hd hj hne => ?clear, fun hd h => ?_, fun ha hp hon hq => ?_⟩
    case same =>
      have h2 := levelChange_twice s i
      simp only [List.mem_cons, List.not_mem_nil, or_false] at hc
      obtain rfl | rfl | rfl := hc
      · exact congrArg Host.Outcome.next (by rw [lineFault, lineFault, h2])
      · exact congrArg Host.Outcome.next (by rw [lineFault, lineFault, h2])
      · exact congrArg Host.Outcome.next (by rw [lineClear, lineClear, h2])
    case fault =>
      refine ⟨_, congrArg Host.Outcome.next ((lineFault_eq hd).trans (if_pos (hjudged _ hne hj))), ?_⟩
      have hk : (if high then 1 else 2) < 4 := by split <;> decide
      generalize (if high then 1 else 2) = k at hk
      obtain ⟨hbit, hregs, hstat⟩ := tellFault_after (b := true) hi (faulted_regs s i k) rfl rfl rfl
      obtain ⟨ht, l, hl⟩ := lineFault_raises s i k (usesInput i)
      have hrd := State.rd_of_regs ht
      refine ⟨(State.get_congr ((hrd _).trans hstat)).trans ?_, ?_, (State.bit_congr ((hrd _).trans hstat)).trans (State.bit_putB _ rfl), ⟨l, hl.trans ?_⟩,
        (State.bit_congr ((hrd _).trans hstat)).trans ?_, hregs.trans (.of_regs ht)⟩
      · exact (State.get_put_apart _ (DIN_IN_STATUS_s_fault i) (DIN_IN_STATUS_line i) rfl rfl rfl rfl).trans (State.get_put_of_lt _ rfl hk)
      · dsimp only
        rw [bitOf_mirrored, bitOf_mirrored, State.bit_congr (hrd _), hbit, ← toldNow]
        cases toldNow s i <;> rfl
      · rw [stays_din hi]
      · exact (State.bit_put_apart _ (DIN_IN_STATUS_s_fault i) (DIN_IN_STATUS_level i) rfl rfl rfl rfl).trans
          (State.bit_put_apart _ (DIN_IN_STATUS_line i) (DIN_IN_STATUS_level i) rfl rfl rfl rfl)
    case clear =>
      refine ⟨_, congrArg Host.Outcome.next ((lineClear_eq hd).trans (if_pos (hjudged _ hne hj))), ?_⟩
      obtain ⟨hbit, hregs, hstat⟩ := tellFault_after (u := s.put (DIN_IN_STATUS_line i) 0) (b := false) hi (.put .refl List.mem_cons_self) rfl rfl rfl
      obtain ⟨ht, hq⟩ := lineClear_keeps s i
      have hrd := State.rd_of_regs ht
      refine ⟨(State.get_congr ((hrd _).trans hstat)).trans (State.get_put _ rfl), ?_, hq, hregs.trans (.of_regs ht)⟩
      dsimp only
      rw [bitOf_mirrored, bitOf_mirrored, State.bit_congr (hrd _), hbit, ← toldNow]
      cases toldNow s i <;> simp
    · exact congrArg Host.Outcome.next ((lineFault_eq hd).trans (if_neg (hidle _ h)))
    · exact congrArg Host.Outcome.next ((lineClear_eq hd).trans (if_neg (hidle _ h)))
    · refine congrArg Host.Outcome.next ((if_pos ⟨ha, ne_true_of_eq_false hp⟩).trans ?_)
      rw [adcTrigger, hon, hq]
      rfl
  · have hgo (hb : s.blockOk w 12 = true) : exec (.adcGo w v) s = .next (if v.toNat < 96 then
        viaDie s (dinDie v.toNat) (.write w DIN_ADCGO.addr (BitVec.ofNat 32 v.toNat)) fun s => adcTrigger s v.toNat else s) := by
      refine congrArg Host.Outcome.next ?_
      rw [adcGo, hb]
      exact State.granted_ok s w DIN_ADCGO _ hr (gatedOff_of_leafless rfl)
    refine ⟨fun hb => ?_, fun hb => ⟨fun h => ?_, fun hlt hre => ?_⟩⟩
    · refine congrArg Host.Outcome.next ?_
      rw [adcGo, hb]
      exact State.granted_refused s w DIN_ADCGO _ hr
    · rw [hgo hb, viaDie]
      rcases h with h | h
      · rw [if_neg (Nat.not_lt.2 h)]
      · rw [h]; exact congrArg Host.Outcome.next (ite_self _)
    · have hon : (s.die (dinDie v.toNat)).on = true := (Bool.and_eq_true_iff.1 hre).1
      rw [hgo hb, if_pos hlt, viaDie, hre]
      refine ⟨fun hl => by rw [hl]; rfl, fun hl hq => ?_, fun hl hq => ?_⟩
      · rw [hl, adcTrigger, hon, List.contains_iff_mem.2 hq]; rfl
      · rw [hl, adcTrigger, hon, Bool.eq_false_iff.2 fun h => hq (List.contains_iff_mem.1 h)]; rfl
  · refine congrArg Host.Outcome.next ((if_pos hon).trans ?_)
    unfold adcDone
    rw [hq]
  · obtain ⟨wet, h⟩ := adcDone_eq hq code
    obtain ⟨h1, h2, h3, h4⟩ := readDone_spec (setAdcQueue s d q) i code.isLt wet
    obtain ⟨hregs, hdin, -⟩ := dinEvent_keeps (readDone (setAdcQueue s d q) i code.toNat wet) i 5
    have hrd := State.rd_of_regs hregs
    refine ⟨_, congrArg Host.Outcome.next ((if_pos hon).trans h), ?_, (State.get_congr (hrd _)).trans h1, (State.bit_congr (hrd _)).trans h2, (State.get_congr (hrd _)).trans h3,
      h4.trans (.of_regs hregs)⟩
    rw [adcQueue, hdin]
    exact adcQueue_setAdcQueue s d q

end Sys2Proof.Machine
end

section
/-! Switch inputs (R306 to R321): samples, debounce and the wake. -/
namespace Sys2Proof.Machine
open Sys2Proof Reg

section
variable {s t u : State} {i d : Nat} {b v : Bool}

theorem State.din1_modDin (f : DinIn → DinIn) : (s.modDin i f).din1 i = f (s.din1 i) := SMap.get_set_same _ _ _ _

theorem State.din1_modDin_other (f : DinIn → DinIn) {j : Nat} (h : j ≠ i) : (s.modDin i f).din1 j = s.din1 j := SMap.get_set_other _ _ _ _ _ _ h

theorem level_addr (h : i < 96) : (DIN_LEVEL (i / 32)).addr < 0x40150018 := by
  simp only [DIN_LEVEL]
  omega

theorem cfg_apart (i : Nat) : (DIN_IN_CFG i).addr ∉ [DIN_IN_STATUS i].map Rg.addr := fun hm =>
  absurd (Nat.add_right_cancel (List.mem_singleton.1 hm)) (by decide)

theorem status_ne {r : Rg} (h : r.addr < 0x40150100) : (DIN_IN_STATUS i).addr ∉ [r].map Rg.addr := fun hm => by
  rw [← List.mem_singleton.1 hm] at h
  exact absurd h (Nat.not_lt.2 (Nat.le_add_right_of_le (by decide)))

/-! ## Samples (R309, R311, R312, R320) -/

/-- The raw level taken, and a pulse that has been used. -/
noncomputable def rawTaken (s : State) (i : Nat) (v : Bool) : State := (s.putB (DIN_IN_STATUS_raw i) v).modDin i fun x => { x with pulse := false }

theorem rawTaken_bits (s : State) (i : Nat) (v : Bool) : (rawTaken s i v).bit (DIN_IN_STATUS_raw i) = v ∧
    (rawTaken s i v).bit (DIN_IN_STATUS_level i) = s.bit (DIN_IN_STATUS_level i) ∧ (rawTaken s i v).get (DIN_IN_STATUS_chg i) = s.get (DIN_IN_STATUS_chg i) ∧
    RegsBut [DIN_IN_STATUS i] s (rawTaken s i v) :=
  ⟨State.bit_putB s rfl, State.bit_put_apart s (DIN_IN_STATUS_raw i) (DIN_IN_STATUS_level i) rfl rfl rfl rfl,
    State.get_put_apart s (DIN_IN_STATUS_raw i) (DIN_IN_STATUS_chg i) rfl rfl rfl rfl, .putB .refl List.mem_cons_self⟩

/-- Whether a Park sample counts (R320). -/
noncomputable def wanted (s : State) (i : Nat) (v : Bool) : Bool :=
  v != s.bit (DIN_IN_STATUS_level i) && (s.get (DIN_IN_CFG_wedge i) == 0 || s.get (DIN_IN_CFG_wedge i) == 3 || (s.get (DIN_IN_CFG_wedge i) == 1 && v) ||
    (s.get (DIN_IN_CFG_wedge i) == 2 && ! v))

theorem inputSample_eq (hs : sampled s i = true) : inputSample s i v =
    if inPark s = true then (rawTaken s i v).modDin i fun x => { x with parkCnt := if wanted (rawTaken s i v) i v = true then x.parkCnt + 1 else 0 }
    else if (s.din1 i).started = true then
      (rawTaken s i v).modDin i fun x => { x with count := if v = (rawTaken s i v).bit (DIN_IN_STATUS_level i) then 0 else x.count + 1 }
    else setLevel ((rawTaken s i v).modDin i fun x => { x with started := true, count := 0 }) i v false := by
  have hstart : ((rawTaken s i v).din1 i).started = (s.din1 i).started := by
    rw [rawTaken, State.din1_modDin]
    rfl
  unfold inputSample
  rw [hs, if_neg (by decide)]
  change (if inPark s = true then _ else if (! ((rawTaken s i v).din1 i).started) = true then _ else _) = _
  rw [hstart]
  cases (s.din1 i).started <;> rfl

/-- The first level of an input, told (R312). -/
theorem firstLevel_spec (hi : i < 96) (hr : RegsBut [DIN_IN_STATUS i] s u) (hp : u.pwr = s.pwr) (hw : u.psw = s.psw) (hl : u.lnk = s.lnk) :
    (setLevel u i v false).bit (mirrored DIN_LEVEL i) = (if toldNow s i = true then v else s.bit (mirrored DIN_LEVEL i)) ∧
      RegsBut [DIN_IN_STATUS i, DIN_LEVEL (i / 32)] s (setLevel u i v false) ∧
      (setLevel u i v false).rd (DIN_IN_STATUS i) = (u.putB (DIN_IN_STATUS_level i) v).rd (DIN_IN_STATUS i) ∧ (setLevel u i v false).evq = u.evq := by
  have hf := level_addr hi
  obtain ⟨⟨hbit, hregs, -⟩, hrest⟩ := tellLevel_told (u.putB (DIN_IN_STATUS_level i) v) i v
  have hput : RegsBut [DIN_IN_STATUS i] s (u.putB (DIN_IN_STATUS_level i) v) := .putB hr List.mem_cons_self
  change (tellLevel (u.putB (DIN_IN_STATUS_level i) v) i v false).bit _ = _ ∧ RegsBut _ s (tellLevel (u.putB (DIN_IN_STATUS_level i) v) i v false) ∧
    (tellLevel (u.putB (DIN_IN_STATUS_level i) v) i v false).rd _ = _ ∧ (tellLevel (u.putB (DIN_IN_STATUS_level i) v) i v false).evq = _
  refine ⟨?_, fun q hq => ?_, hregs _ (status_ne (Nat.lt_trans hf (by decide))), by rw [hrest]; rfl⟩
  · rw [hbit, toldNow_congr (hput _ (status_apart (by decide))) (hput _ (status_apart (by decide))) hp hw hl,
      State.bit_congr (f := mirrored DIN_LEVEL i) (hput _ (status_apart (Nat.lt_trans hf (by decide))))]
  · simp only [List.map_cons, List.map_nil, List.mem_cons, List.not_mem_nil, or_false, not_or] at hq
    exact (hregs q (by simpa using hq.2)).trans (hput q (by simpa using hq.1))

/-- A change of level, told (R311). -/
theorem levelTold_spec (hi : i < 96) (u : State) : (tellLevel u i b true).bit (mirrored DIN_LEVEL i) = (if toldNow u i = true then b else u.bit (mirrored DIN_LEVEL i)) ∧
    (tellLevel u i b true).rd (DIN_IN_STATUS i) = u.rd (DIN_IN_STATUS i) := by
  have hf := level_addr hi
  obtain ⟨⟨hbit, hregs, -⟩, -⟩ := tellLevel_told u i b
  have hstat := hregs _ (status_ne (i := i) (Nat.lt_trans hf (by decide)))
  have hdoor {q : Rg} (h : q.addr < 0x40160000) : (doorChange (tellLevel u i b false) i b).rd q = (tellLevel u i b false).rd q :=
    (doorChange_rest _ i b).1 q fun hm => absurd h (by rw [List.mem_singleton.1 hm]; decide)
  rcases tellLevel_change u i b with hc | hc | ⟨hd, l, hc⟩ <;> rw [hc]
  · exact ⟨hbit, hstat⟩
  · refine ⟨(State.bit_congr (hdoor (Nat.lt_trans hf (by decide)))).trans hbit, (hdoor ?_).trans hstat⟩
    simp only [DIN_IN_STATUS]
    omega
  · rw [toldNow, hd, Bool.and_false]
    exact ⟨rfl, rfl⟩

/-! ## Debounce (R311) -/

theorem lineJudged_congr (h : RegsBut [DIN_IN_STATUS i, DIN_FAULT (i / 32)] s t) (hi : i < 96) : lineJudged t i = lineJudged s i := by
  have hf := fault_addr hi
  have hcfg : t.rd (DIN_IN_CFG i) = s.rd (DIN_IN_CFG i) := h _ fun hm => by
    simp only [List.map_cons, List.map_nil, List.mem_cons, List.not_mem_nil, or_false, DIN_IN_CFG, DIN_IN_STATUS] at hm
    omega
  have hwet : t.rd (DIN_IN_WET i) = s.rd (DIN_IN_WET i) := h _ fun hm => by
    simp only [List.map_cons, List.map_nil, List.mem_cons, List.not_mem_nil, or_false, DIN_IN_WET, DIN_IN_STATUS] at hm
    omega
  unfold lineJudged
  rw [State.bit_congr (f := DIN_IN_CFG_en i) hcfg, State.bit_congr (f := DIN_IN_CFG_diag i) hcfg, State.bit_congr (f := DIN_IN_CFG_pol i) hcfg,
    State.bit_congr (f := DIN_IN_WET_mode i) hwet, State.get_congr (f := DIN_IN_WET_cur i) hwet]

/-- A line that is no longer judged is ok (R314). -/
theorem lineOk_spec (hi : i < 96) (u : State) : (lineOk u i).get (DIN_IN_STATUS_line i) = 0 ∧ (lineOk u i).bit (DIN_IN_STATUS_level i) = u.bit (DIN_IN_STATUS_level i) ∧
    RegsBut [DIN_IN_STATUS i, DIN_FAULT (i / 32)] u (lineOk u i) ∧ (lineOk u i).din = u.din ∧ (lineOk u i).evq = u.evq ∧ (lineOk u i).psw = u.psw ∧
    (DieHeard u (dinDie i) = true → (lineOk u i).lnk = u.lnk) := by
  obtain ⟨-, hregs, hstat⟩ := tellFault_after (u := u.put (DIN_IN_STATUS_line i) 0) (b := false) hi (.put .refl List.mem_cons_self) rfl rfl rfl
  obtain ⟨⟨-, -, hlnk⟩, hrest⟩ := tellFault_told (u.put (DIN_IN_STATUS_line i) 0) i false
  have hheard : DieHeard (u.put (DIN_IN_STATUS_line i) 0) (dinDie i) = DieHeard u (dinDie i) :=
    DieHeard.congr rfl rfl rfl (RegsBut.put (rs := [DIN_IN_STATUS i]) .refl List.mem_cons_self _ (status_apart (by decide)))
  have hback : OnlyTln (tellFault (u.put (DIN_IN_STATUS_line i) 0) i false) (lineOk u i) := sourcesBack_onlyTln ..
  have hrd := State.rd_of_regs hback.regs
  have hkeep : (lineOk u i).din = u.din ∧ (lineOk u i).evq = u.evq ∧ (lineOk u i).psw = u.psw ∧ (lineOk u i).lnk = (tellFault (u.put (DIN_IN_STATUS_line i) 0) i false).lnk := by
    unfold OnlyTln at hback
    rw [hback, hrest]
    exact ⟨rfl, rfl, rfl, rfl⟩
  obtain ⟨h1, h2, h3, h4⟩ := hkeep
  exact ⟨(State.get_congr ((hrd _).trans hstat)).trans (State.get_put _ rfl),
    (State.bit_congr ((hrd _).trans hstat)).trans (State.bit_put_apart _ (DIN_IN_STATUS_line i) (DIN_IN_STATUS_level i) rfl rfl rfl rfl),
    hregs.trans (.of_regs hback.regs), h1, h2, h3, fun hd => h4.trans (hlnk (hheard.trans hd))⟩

/-- The register of a write that restarts the debounce. -/
noncomputable def debounceReg (i : Nat) (wet : Bool) : Rg := if wet then DIN_IN_WET i else DIN_IN_DB i

/-- The first effects of a write of DIN_INi_WET or DIN_INi_DB. -/
noncomputable def debounced (s : State) (i : Nat) (wet : Bool) (v : Word) : State :=
  (s.wr (debounceReg i wet) (v &&& (if wet then 0x8F0F00FF else 0x0000FFFF))).modDin i fun x => { x with count := 0, pulse := x.pulse && ! wet }

theorem debounceReg_apart (wet : Bool) (hi : i < 96) : leafOf (debounceReg i wet).addr = none ∧ 0x40150100 ≤ (debounceReg i wet).addr ∧
    (debounceReg i wet).addr ≠ (DIN_IN_STATUS i).addr := by
  have hleaf : ∀ i < 96, leafOf (DIN_IN_WET i).addr = none ∧ leafOf (DIN_IN_DB i).addr = none := by decide
  cases wet
  · refine ⟨(hleaf i hi).2, Nat.le_add_right_of_le (by decide), fun h => absurd (Nat.add_right_cancel h) (by decide)⟩
  · refine ⟨(hleaf i hi).1, Nat.le_add_right_of_le (by decide), fun h => absurd (Nat.add_right_cancel h) (by decide)⟩

theorem debounceWrite_zero (hr : ctlReached s = true) (hi : i < 96) (wet : Bool) (v : Word) : debounceWrite s 0 i wet v =
    viaDie s (dinDie i) (.write 0 (debounceReg i wet).addr v) fun s => lineRejudged (debounced s i wet v) i := by
  unfold debounceWrite
  exact granted_zero hr (debounceReg_apart wet hi).1

/-- What a write that restarts the debounce leaves, whether or not the line is judged from then on. -/
theorem debounced_spec (hi : i < 96) (wet : Bool) (v : Word) (t : State) (ht : t = lineRejudged (debounced s i wet v) i) :
    (t.din1 i).count = 0 ∧ (t.din1 i).started = (s.din1 i).started ∧ (t.din1 i).pulse = ((s.din1 i).pulse && ! wet) ∧
      t.bit (DIN_IN_STATUS_level i) = s.bit (DIN_IN_STATUS_level i) ∧ t.rd (debounceReg i wet) = v &&& (if wet then 0x8F0F00FF else 0x0000FFFF) ∧
      (lineJudged t i = true → t.get (DIN_IN_STATUS_line i) = s.get (DIN_IN_STATUS_line i) ∧ RegsBut [debounceReg i wet] s t ∧ t.tln = s.tln) ∧
      (lineJudged t i = false → t.get (DIN_IN_STATUS_line i) = 0) ∧ RegsBut [debounceReg i wet, DIN_IN_STATUS i, DIN_FAULT (i / 32)] s t ∧ t.evq = s.evq ∧
      t.psw = s.psw ∧ (lineJudged t i = true ∨ DieHeard s (dinDie i) = true → t.lnk = s.lnk) := by
  obtain ⟨-, hlow, hne⟩ := debounceReg_apart wet hi
  have hregs : RegsBut [debounceReg i wet] s (debounced s i wet v) := .wr .refl List.mem_cons_self
  have hsame : (debounced s i wet v).rd (DIN_IN_STATUS i) = s.rd (DIN_IN_STATUS i) := hregs _ fun hm => hne (List.mem_singleton.1 hm).symm
  have hrd : (debounced s i wet v).rd (debounceReg i wet) = v &&& (if wet then 0x8F0F00FF else 0x0000FFFF) := State.rd_wr_same ..
  have hdin : (debounced s i wet v).din1 i = { s.din1 i with count := 0, pulse := (s.din1 i).pulse && ! wet } := State.din1_modDin _
  have hrest : (debounced s i wet v).tln = s.tln ∧ (debounced s i wet v).evq = s.evq ∧ (debounced s i wet v).psw = s.psw ∧ (debounced s i wet v).lnk = s.lnk :=
    ⟨rfl, rfl, rfl, rfl⟩
  have hheard : DieHeard (debounced s i wet v) (dinDie i) = DieHeard s (dinDie i) :=
    DieHeard.congr rfl rfl rfl (hregs _ fun hm => absurd hlow (by rw [← List.mem_singleton.1 hm]; decide))
  generalize debounced s i wet v = u at ht hregs hsame hrd hdin hrest hheard
  obtain ⟨htln, hevq, hpsw, hlnk⟩ := hrest
  have hwide : RegsBut [debounceReg i wet, DIN_IN_STATUS i, DIN_FAULT (i / 32)] s u := fun q hq => hregs q fun hm =>
    hq (List.mem_cons.2 (.inl (List.mem_singleton.1 hm)))
  unfold lineRejudged at ht
  split at ht
  next hj =>
    subst ht
    rw [hdin]
    refine ⟨rfl, rfl, rfl, State.bit_congr hsame, hrd, fun _ => ⟨State.get_congr hsame, hregs, htln⟩, fun hn => ?_, hwide, hevq, hpsw, fun _ => hlnk⟩
    exact hj.elim (fun h => absurd (hn.symm.trans h) Bool.false_ne_true) id
  next hj =>
    obtain ⟨h1, h2, h3, h4, h5, h6, h7⟩ := lineOk_spec hi u
    rw [← ht] at h1 h2 h3 h4 h5 h6 h7
    have hn : ¬ lineJudged t i = true := fun h => hj (.inl ((lineJudged_congr h3 hi).symm.trans h))
    have hf := fault_addr hi
    have hreg : (debounceReg i wet).addr ∉ [DIN_IN_STATUS i, DIN_FAULT (i / 32)].map Rg.addr := fun hm => by
      rcases List.mem_cons.1 hm with hm | hm
      · exact hne hm
      · rw [List.mem_singleton.1 hm] at hlow
        omega
    rw [State.din1, h4]
    change (u.din1 i).count = 0 ∧ (u.din1 i).started = _ ∧ (u.din1 i).pulse = _ ∧ _
    rw [hdin]
    refine ⟨rfl, rfl, rfl, h2.trans (State.bit_congr hsame), (h3 _ hreg).trans hrd, fun h => (hn h).elim, fun _ => h1, hwide.trans fun q hq => h3 q fun hm =>
      hq (List.mem_cons_of_mem _ hm), h5.trans hevq, h6.trans hpsw, fun h => h.elim (fun h => (hn h).elim) fun h => (h7 (hheard.trans h)).trans hlnk⟩

/-! ## The wake (R320) -/

/-- The source of a wake latched in PWR_WAKEMASK. -/
noncomputable def wakeMasked (s : State) (code : Nat) : State := s.wr PWR_WAKEMASK (s.rd PWR_WAKEMASK ||| (1#32 <<< code))

/-- The first wake request recorded. -/
noncomputable def wakeRecorded (s : State) (code detail : Nat) : State :=
  ((((((s.putB PWR_WAKESRC_more false).put PWR_WAKESRC_code code).put PWR_WAKESRC_detail detail).put PWR_WAKETS_LO_pos ((s.axis 0).pos % 2 ^ 32)).put
    PWR_WAKETS_HI_pos ((s.axis 0).pos / 2 ^ 32 % 65536)).put PWR_WAKETS_HI_qual (s.axis 0).qual).modPwr fun p => { p with wake := true }

theorem wakeRequest_eq (hw : wakeable s = true) (code detail : Nat) :
    wakeRequest s code detail = if s.pwr.wake = true then wakeMasked s code else wakeRecorded (wakeMasked s code) code detail := by
  unfold wakeRequest
  rw [hw, if_neg (by decide)]
  change (if (! s.pwr.wake) = true then _ else if false = true then _ else _) = _
  cases s.pwr.wake <;> rfl

theorem wakeRecorded_spec (u : State) {code detail : Nat} (hc : code < 16) (hd : detail < 128) : (wakeRecorded u code detail).rd PWR_WAKEMASK = u.rd PWR_WAKEMASK ∧
    (wakeRecorded u code detail).get PWR_WAKESRC_code = code ∧ (wakeRecorded u code detail).get PWR_WAKESRC_detail = detail := by
  have htail {q : Rg} (h1 : q.addr ≠ 0x4002001C) (h2 : q.addr ≠ 0x40020020) : (wakeRecorded u code detail).rd q =
      (((u.putB PWR_WAKESRC_more false).put PWR_WAKESRC_code code).put PWR_WAKESRC_detail detail).rd q :=
    (State.rd_put_other _ PWR_WAKETS_HI_qual _ q h2).trans ((State.rd_put_other _ PWR_WAKETS_HI_pos _ q h2).trans (State.rd_put_other _ PWR_WAKETS_LO_pos _ q h1))
  refine ⟨(htail (by decide) (by decide)).trans ?_, (State.get_congr (htail (by decide) (by decide))).trans ?_,
    (State.get_congr (htail (by decide) (by decide))).trans (State.get_put_of_lt _ rfl hd)⟩
  · exact (State.rd_put_other _ PWR_WAKESRC_detail _ _ (by decide)).trans ((State.rd_put_other _ PWR_WAKESRC_code _ _ (by decide)).trans
      (State.rd_putB_other _ PWR_WAKESRC_more _ _ (by decide)))
  · exact (State.get_put_apart _ PWR_WAKESRC_detail PWR_WAKESRC_code rfl rfl rfl rfl).trans (State.get_put_of_lt _ rfl hc)

theorem wakeRequest_wakes (hw : wakeable s = true) {code detail : Nat} (hc : code < 16) (hd : detail < 128) :
    bitOf ((wakeRequest s code detail).rd PWR_WAKEMASK) code = true ∧ (wakeRequest s code detail).pwr.wake = true ∧
      (s.pwr.wake = false → (wakeRequest s code detail).get PWR_WAKESRC_code = code ∧ (wakeRequest s code detail).get PWR_WAKESRC_detail = detail) := by
  have hbit : bitOf ((wakeMasked s code).rd PWR_WAKEMASK) code = true := by
    have hk : code < 32 := Nat.lt_trans hc (by decide)
    rw [wakeMasked, State.rd_wr_same, bitOf, BitVec.getLsbD_or, BitVec.getLsbD_shiftLeft, decide_eq_true hk, decide_eq_false (Nat.lt_irrefl code), Nat.sub_self]
    exact Bool.or_true _
  rw [wakeRequest_eq hw]
  cases hk : s.pwr.wake with
  | true => exact ⟨hbit, hk, fun h => nomatch h⟩
  | false =>
    obtain ⟨h1, h2, h3⟩ := wakeRecorded_spec (wakeMasked s code) hc hd
    exact ⟨(congrArg (bitOf · code) h1).trans hbit, rfl, fun _ => ⟨h2, h3⟩⟩

end

/-- Settles O35: samples by `inputSample_eq`, changes by what is told of them (`levelTold_spec`), the restart of the debounce by `debounced_spec`. -/
theorem inputsDebounceAndWake : Obligations.InputsDebounceAndWake := by
  unfold Obligations.InputsDebounceAndWake
  intro s i
  have hi := i.isLt
  dsimp only
  refine ⟨fun v hs => ⟨fun hp hx => ?first, fun hp hx => ?later, fun hp => ?park⟩, fun v hs => ?_, fun hs hp hx hc => ?change, fun hc => ?_, fun hm => ?_,
    fun hr wet v => ⟨fun w hw => ?_, fun hf => ?_, fun hf hl => ?_, fun hf hl => ?restart⟩, fun hs hp hm hc => ?_, fun hs hp hn => ?_, fun h => ?_⟩
  case first =>
    obtain ⟨h1, h2, h3, h4⟩ := rawTaken_bits s i v
    refine ⟨_, congrArg Host.Outcome.next ((inputSample_eq hs).trans ((if_neg (ne_true_of_eq_false hp)).trans (if_neg (ne_true_of_eq_false hx)))), ?_⟩
    obtain ⟨k1, k2, k3, k4⟩ := firstLevel_spec (v := v) (u := (rawTaken s i v).modDin i fun x => { x with started := true, count := 0 }) hi h4 rfl rfl rfl
    refine ⟨?_, ?_, ?_, ?_, k4, k2⟩
    · exact (State.bit_congr k3).trans (State.bit_putB _ rfl)
    · exact (State.bit_congr k3).trans ((State.bit_put_apart _ (DIN_IN_STATUS_level i) (DIN_IN_STATUS_raw i) rfl rfl rfl rfl).trans h1)
    · rw [bitOf_mirrored, bitOf_mirrored, k1]
      rfl
    · exact (State.get_congr k3).trans ((State.get_put_apart _ (DIN_IN_STATUS_level i) (DIN_IN_STATUS_chg i) rfl rfl rfl rfl).trans h3)
  case later =>
    obtain ⟨h1, h2, h3, h4⟩ := rawTaken_bits s i v
    refine ⟨_, congrArg Host.Outcome.next ((inputSample_eq hs).trans ((if_neg (ne_true_of_eq_false hp)).trans (if_pos hx))), ?_, h2, h1, h4⟩
    rw [State.din1_modDin, h2, rawTaken, State.din1_modDin]
    rfl
  case park =>
    obtain ⟨h1, h2, h3, h4⟩ := rawTaken_bits s i v
    refine ⟨_, congrArg Host.Outcome.next ((inputSample_eq hs).trans (if_pos hp)), h2, fun hv => ?_, fun hv he => ?_⟩
    · rw [State.din1_modDin, wanted, h2, hv, bne_self_eq_false]
      rfl
    · have hcfg : (rawTaken s i v).get (DIN_IN_CFG_wedge i) = 3 := (State.get_congr (h4 _ (cfg_apart i))).trans he
      rw [State.din1_modDin, wanted, h2, hcfg, bne_iff_ne.2 hv, rawTaken, State.din1_modDin]
      rfl
  case change =>
    have hdue : due s i = true := by rw [due, hp, hx, decide_eq_true hc]; rfl
    refine ⟨_, congrArg Host.Outcome.next (levelChange_of_due hs hdue), ?_⟩
    have hrest := (changed_only s i (if s.bit (DIN_IN_STATUS_level i) = true then 2 else 1)).rest
    obtain ⟨hregs, -, -⟩ := dinEvent_keeps (changed s i) i (if s.bit (DIN_IN_STATUS_level i) = true then 2 else 1)
    generalize dinEvent (changed s i) i _ = t at hrest hregs
    obtain ⟨hdin, hpsw, hwm, -, -⟩ := hrest
    obtain ⟨hmark, hstat⟩ := levelTold_spec (b := ! s.bit (DIN_IN_STATUS_level i)) hi ((counted s i).putB (DIN_IN_STATUS_level i) (! s.bit (DIN_IN_STATUS_level i)))
    have hrd (q : Rg) : t.rd q = (tellLevel ((counted s i).putB (DIN_IN_STATUS_level i) (! s.bit (DIN_IN_STATUS_level i))) i (! s.bit (DIN_IN_STATUS_level i)) true).rd q :=
      State.rd_of_regs hregs q
    have hput : RegsBut [DIN_IN_STATUS i] s ((counted s i).putB (DIN_IN_STATUS_level i) (! s.bit (DIN_IN_STATUS_level i))) :=
      .putB (.put .refl List.mem_cons_self) List.mem_cons_self
    have hf := level_addr hi
    refine ⟨(State.bit_congr ((hrd _).trans hstat)).trans (State.bit_putB _ rfl), ?_, ?_, ?_, fun j hj => ?_, hwm, hpsw⟩
    · exact (State.get_congr ((hrd _).trans hstat)).trans ((State.get_put_apart _ (DIN_IN_STATUS_level i) (DIN_IN_STATUS_chg i) rfl rfl rfl rfl).trans
        (State.get_put s (f := DIN_IN_STATUS_chg i) rfl))
    · rw [State.din1, hdin]
      exact congrArg DinIn.count (State.din1_modDin _)
    · rw [bitOf_mirrored, bitOf_mirrored]
      refine (State.bit_congr (hrd _)).trans (hmark.trans ?_)
      rw [toldNow_congr (hput _ (status_apart (by decide))) (hput _ (status_apart (by decide))) rfl rfl rfl,
        State.bit_congr (f := mirrored DIN_LEVEL i) (hput _ (status_apart (Nat.lt_trans hf (by decide))))]
      rfl
    · rw [State.din1, hdin]
      exact State.din1_modDin_other _ hj
  case restart =>
    refine ⟨_, congrArg Host.Outcome.next ((debounceWrite_zero hr hi wet v).trans ?_), debounced_spec hi wet v _ rfl⟩
    rw [viaDie, hf, hl]
    rfl
  · refine congrArg Host.Outcome.next ?_
    unfold inputSample
    rw [hs]
    rfl
  · refine congrArg Host.Outcome.next (levelChange_of_not_due ?_)
    rw [due, decide_eq_false (Nat.not_le.2 hc), Bool.and_false]
  · unfold debounceCount
    dsimp only
    rw [hm]
    rfl
  · refine congrArg Host.Outcome.next ?_
    unfold debounceWrite
    exact granted_other hr hw
  · refine congrArg Host.Outcome.next ((debounceWrite_zero hr hi wet v).trans ?_)
    rw [viaDie, hf]
    rfl
  · refine congrArg Host.Outcome.next ((debounceWrite_zero hr hi wet v).trans ?_)
    rw [viaDie, hf, hl]
    rfl
  · refine ⟨_, congrArg Host.Outcome.next (if_pos ?_), congrArg DinIn.pulse (State.din1_modDin _), (congrArg DinIn.count (State.din1_modDin _)).trans rfl, rfl⟩
    rw [hs, hp, hm, if_neg Bool.false_ne_true, bne_iff_ne.2 hc]
    rfl
  · have hasks : inputAsks s i = true := by
      unfold inputAsks
      rw [hs, hp, decide_eq_true hn]
      rfl
    exact ⟨_, congrArg Host.Outcome.next (if_pos hasks), wakeRequest_wakes hp (by decide) (Nat.lt_trans hi (by decide))⟩
  · have hasks : inputAsks s i = false := by
      unfold inputAsks
      rcases h with h | h
      · rw [h]; rfl
      · rw [decide_eq_false (Nat.not_le.2 h), Bool.and_false]
    exact congrArg Host.Outcome.next (if_neg (ne_true_of_eq_false hasks))

end Sys2Proof.Machine
end

section
/-! SUPPORT. Each helper definition of the proofs, run on a state of the model's tests: what the definition says can be met, and is not the state it starts from. -/
namespace Sys2Proof.Machine
open Sys2Proof Reg Tests

theorem run_fd_size : Fd.size TSK_CMD_op = 16 := by decide +kernel
theorem run_fd_apart : Fd.apart TSK_CMD_op TSK_CMD_target = true := by decide +kernel
theorem run_violRegs : violRegs 1 = [(TSK_CTX_VIOL_count 1).r, TSK_CTX_VADDR 1] ∧ TSK_CTX_VADDR 1 ≠ TSK_CTX_VADDR 0 := by decide +kernel
theorem run_memImm : memImm none = 0 := by decide +kernel
theorem run_retrained : (retrained base 0 true).bit (SYS_LINK_STATUS_busy) = false := by decide +kernel
theorem run_ctx_restarted : resident.restarted.mode = .waiting := by decide +kernel
theorem run_readied : (resident.readied 2 5).readySince = 5 := by decide +kernel
theorem run_emptied : ({ resident with serving := some 1 } : Ctx).emptied.serving = none := by decide +kernel
theorem run_leaving : ((leaving base 0).ctx 0).regs.lands = [] := by decide +kernel
theorem run_leftLane : (leftLane base 0).frame 0 0x1A = 1 := by decide +kernel
theorem run_swapped : ((swapped base 0 3).ctx 0).swapping = false := by decide +kernel
theorem run_activated : (resident.activated 1 7).serving = some 1 := by decide +kernel
theorem run_retired : (({ resident with serving := some 1 } : Ctx).retired 1).serving = none := by decide +kernel
theorem run_done : (({ resident with ended := true } : Ctx).done 1).ended = false := by decide +kernel
theorem run_freed : ((base.item 3).freed .fired).st = .fired := by decide +kernel
theorem run_applied : ({ base.item 3 with stagedCancel := true } : Item).applied.leaving = true := by decide +kernel
theorem run_unqueued : (unqueued base []).tln.due = [] := by decide +kernel
theorem run_capped : ((capped base 4 9).chan 4).cap = 9 := by decide +kernel
theorem run_capShown : (capShown base 4 9).bit (PSW_CH_STATUS_s_cap 4) = true := by decide +kernel
theorem run_capShown_full : (capShown base 4 16).bit (PSW_CH_STATUS_s_cap 4) = false := by decide +kernel
theorem run_moved : ((moved base 3 17 1).axis 3).pos = 17 := by decide +kernel
theorem run_moved_wraps : ((moved base 3 (2 ^ 62 + 1) 1).axis 3).pos = 1 := by decide +kernel
theorem run_a0Taken : ((a0Taken base 99).axis 0).pos = 99 := by decide +kernel
theorem run_judged : (base.tln.judged 5 0 1 2).outCnt = 2 := by decide +kernel
theorem run_heard : (heard base 1).get TLN_A0_STATUS_port = 2 := by decide +kernel
theorem run_relocked : ((relocked { base with tln := { base.tln with inCnt := 8 } }).axis 0).qual = 0 := by decide +kernel
theorem run_numbered : ((numbered base 2).sess 2).send = (base.sess 2).send + 1 := by decide +kernel
theorem run_withReq : (withReq base base.ldg.sessions 6).ldg.reqId = 6 := by decide +kernel
theorem run_noteLag : (noteLag base ⟨3, 5, 0, 0, 0, false, .single 3⟩).tln.fired = false := by decide +kernel
theorem run_firing : (firing base ⟨3, 5, 0, 0, 0, false, .single 3⟩).tln.fired = true := by decide +kernel
theorem run_beyondRange : (beyondRange.axis 0).pos = 2 ^ 62 := by decide +kernel

end Sys2Proof.Machine
end
